-- ==== Sys2Proof/Word.lean ====
section
/-! DEFINITION. Word types of the KX9600 and the plainest arithmetic on them. -/

namespace Sys2Proof

/-- One byte of a packet, a frame or a memory. -/
abbrev Byte := BitVec 8

/-- One 32-bit register (R402). -/
abbrev Word := BitVec 32

/-- The number of a line port, P0 to P95 (R1). -/
abbrev Port := Fin 96

end Sys2Proof
end

