-- ==== Sys2Proof/Config.lean ====
section
/-! DEFINITION. What the manual leaves to the implementation or leaves open: constants without a body. -/

namespace Sys2Proof.Config

/-- A free value: the n-th value the manual leaves open. State holds the counter that feeds it
(`Dev.freeCtr`). No proof can see what it is. Notes: assumption 2. -/
opaque free : Nat → Nat

/-- The weighted packets the command processor takes in a tick beyond the guaranteed eight (R369);
the use clamps it to 8 to 32. Notes: assumption 3. -/
opaque takeWeight : Nat → Nat

end Sys2Proof.Config
end

