-- ==== Sys2Proof/Syntax.lean ====
section
/-! DEFINITION. The commands of the block: one constructor per row of spec/opcode_table.json, with
what each row takes from outside. A host command carries its whole packet (Table 14-1); a line, pin
or ring event carries what is received or measured. -/

namespace Sys2Proof

/-- A command packet, Table 14-1: the 24-byte header, the payload and CHECK. -/
structure Packet where
  ver : Byte
  flags : Byte
  opcode : Byte
  source : Byte
  dest : BitVec 16
  seq : BitVec 16
  eff : BitVec 48
  length : BitVec 16
  timeout : BitVec 16
  frag : BitVec 16
  rsv : BitVec 32
  payload : List Byte
  check : BitVec 32
  deriving DecidableEq, Repr

/-- Who makes a direct access to the register space (R412). -/
inductive Origin where
  /-- The host port engine, PCIe function 0 or 1. -/
  | pcie (fn : Fin 2)
  /-- The SPI slave, with the rights of function 0. -/
  | spi
  deriving DecidableEq, Repr

/-- A defect or lasting condition, named as an event word names it (Table 16-4): the source, the
ENTITY of Table 16-5 and the CODE of R392. -/
structure Cond where
  source : Nat
  entity : Nat
  code : Nat
  deriving DecidableEq, Repr

/-- A unit that a spare can replace: the KIND and INDEX of a unit descriptor (18_health). -/
inductive UnitRef where
  | lane (n : Nat)
  | framer (n : Nat)
  | mapper (n : Nat)
  | bank (n : Nat)
  deriving DecidableEq, Repr

/-- A received high-order pointer word and path overhead of one head in one frame (R110 to R119). -/
structure PathRx where
  head : Nat
  /-- H1 and H2 of the head. -/
  pointer : BitVec 16
  /-- H1 and H2 of each member of a concatenated container after the head (R112). -/
  members : List (BitVec 16)
  j1 : Byte
  /-- B3 bit violations found in this frame (R116). -/
  b3 : Nat
  c2 : Byte
  g1 : Byte
  h4 : Byte
  deriving DecidableEq, Repr

/-- A received SDH or SONET frame, as its overhead and the outcome of its parity checks (R93 to R107). -/
structure SdhRx where
  /-- All 48 bits of the alignment pattern match (R93). -/
  patternOk : Bool
  j0 : Byte
  /-- Bit violations of B1 and of B2 (R102). -/
  b1 : Nat
  b2 : Nat
  k1 : Byte
  k2 : Byte
  s1 : Byte
  /-- The REI-L count of M0 and M1 as read (R103). -/
  m1 : Nat
  rsDcc : List Byte
  msDcc : List Byte
  paths : List PathRx
  deriving DecidableEq, Repr

/-- What one monitored layer of an OTU frame carries (R133 to R135). -/
structure OtnLayerRx where
  index : Nat
  /-- 0 PM, 1 to 6 TCMi, 7 SM. -/
  layer : Nat
  bip : Nat
  /-- The status byte: BEI or BIAE, BDI, and STAT or IAE. -/
  status : Byte
  ttiByte : Byte
  dm : Bool
  deriving DecidableEq, Repr

/-- A received OTU frame: alignment, overhead, FEC outcome (R127 to R140). -/
structure OtuRx where
  fasOk : Bool
  mfas : Byte
  /-- Logical lanes in LOFLANE or LOR, OTU4 only (R129). -/
  lanesDown : BitVec 20
  corrBits : Nat
  corrZeros : Nat
  corrOnes : Nat
  uncorr : Nat
  layers : List OtnLayerRx
  /-- The payload structure identifier byte of this frame (R139, R140). -/
  psi : Byte
  omfi : Nat
  deriving DecidableEq, Repr

/-- Names a low-order tributary or container: port, head and position word (R198). -/
structure TribKey where
  port : Port
  head : Byte
  pos : BitVec 16
  deriving DecidableEq, Repr

/-- A received TU multiframe (R204 to R216). -/
structure TuRx where
  pointer : BitVec 16
  v5 : Byte
  /-- The BIP-2 of the previous multiframe is violated (Table 08-5). -/
  bipBad : Bool
  j2 : Byte
  k4bit : Bool
  /-- Errored E1 or T1 blocks, E-bits at 0, and the absence of CRC-4, found by the payload monitor. -/
  blkErr : Nat
  ebit : Nat
  crc4Absent : Bool
  deriving DecidableEq, Repr

/-- A frame marker of the ALF lane code, Table 06-3. -/
structure Marker where
  lane : Nat
  profile : Nat
  pfn : BitVec 32
  checkOk : Bool
  deriving DecidableEq, Repr

/-- A received ALF frame after its marker (R158, R171). -/
structure AlfRx where
  /-- A frame followed the marker at all (R172). -/
  present : Bool
  hecOk : Bool
  /-- The frame check passes with the expected PFN as its prefix, and with SEQ as its prefix. -/
  okExpected : Bool
  okSeq : Bool
  seq : BitVec 32
  profile : Nat
  ohc : BitVec 16
  bsn : BitVec 16
  flags : BitVec 16
  listGen : Byte
  invalidBlocks : Nat
  deriving DecidableEq, Repr

/-- A member frame's bundle control block and lag, Table 07-2. -/
structure BcbRx where
  member : Fin 8
  checkOk : Bool
  onTime : Bool
  /-- Lag behind the reference member, in microseconds (R184). -/
  lagUs : Nat
  frameOk : Bool
  act : Byte
  profiles : BitVec 32
  rxOk : Byte
  listGen : Byte
  deriving DecidableEq, Repr

/-- An Ethernet frame as the packet engine sees it (R225, R230). -/
structure EthFrame where
  /-- VID and PCP of the outer tag whose TPID is read; `none` when untagged. -/
  tag : Option (BitVec 16 × BitVec 16)
  bytes : Nat
  fcsOk : Bool
  deriving DecidableEq, Repr

/-- A received GFP-F frame on a channel (R226). -/
structure GfpRx where
  /-- 0 correct, 1 single-bit corrected, 2 uncorrectable. -/
  chec : Fin 3
  theOk : Bool
  /-- A client signal fail management frame rather than client data (R227). -/
  csf : Bool
  cid : Option Byte
  pfcsOk : Bool
  fcsOk : Bool
  bytes : Nat
  priority : Fin 8
  /-- The frame overlaps an errored ALF packet region (R172). -/
  errored : Bool
  deriving DecidableEq, Repr

/-- The overhead of a received chimney frame, Table 12-6. -/
structure ChimRx where
  /-- A valid marker came, and CRC-16 of the overhead passes. -/
  markerOk : Bool
  checkOk : Bool
  mirrorOk : Bool
  ver : Byte
  flags : Byte
  epoch : Byte
  sfn : BitVec 48
  claim : BitVec 16
  nextClaim : BitVec 16
  nextSfn : BitVec 48
  addr : BitVec 10
  mirrorSeq : BitVec 32
  ident : Option (BitVec 128)
  deriving DecidableEq, Repr

/-- A received flue ring frame header, Table 15-1, with the measured delay. -/
structure RingHdr where
  checkOk : Bool
  flags : Byte
  epoch : Byte
  ring : BitVec 4
  sfn : BitVec 48
  hop : Byte
  cumDelay : BitVec 32
  rootFuse : BitVec 64
  /-- The link delay measured from ECHO, TS_OUT and HOLD over 256 frames, in ns (R378). -/
  linkDelayNs : Nat
  deriving DecidableEq, Repr

/-- An identity block, Table 15-3. -/
structure Ident where
  fuse : BitVec 64
  variant : Byte
  stepping : Byte
  fwVersion : BitVec 16
  addrValid : Bool
  addr : BitVec 10
  port : Byte
  flags : Byte
  deriving DecidableEq, Repr

/-- The outcome of a smoke test of one unit, Table 18-1. -/
structure TestOutcome where
  bitErrors : Nat
  eye : Nat
  correctedWords : Nat
  uncorrectable : Bool
  pass : Bool
  deriving DecidableEq, Repr

/-- Units the smoke test grades (Table 18-1). -/
inductive TestUnit where
  | spareMacro (g : Fin 8)
  | framer (n : Fin 28)
  | mapper (n : Fin 20)
  | engine (n : Fin 8)
  | bank (n : Fin 400)
  | slice (n : Fin 4)
  | cp
  deriving DecidableEq, Repr

/-- A detection window: which detector, and for whom (R109, R119, R211). -/
inductive BerWindow where
  | lineSf (p : Port)
  | lineSd (p : Port)
  | path (p : Port) (head : Nat)
  | trib (k : TribKey)
  deriving DecidableEq, Repr

/-- The outcomes of the key and signature checks of Table 20-3 (causes 7 and 8). -/
structure ImageOutcome where
  keyHashOk : Bool
  sigOk : Bool
  deriving DecidableEq, Repr

/-- A block of Table 01-2 by kind. -/
inductive BlockRef where
  | framer (n : Fin 28)
  | mapper (n : Fin 20)
  | engine (n : Fin 8)
  | slice (n : Fin 4)
  deriving DecidableEq, Repr

/-- The commands, in the order of spec/opcode_table.json. -/
inductive Instr where
  | nop (p : Packet)
  | identifySelf (p : Packet)
  | identifyPartner (p : Packet)
  | identifyRingTable (p : Packet)
  | setLevel (p : Packet)
  | setMasterClaim (p : Packet)
  | setSfn (p : Packet)
  | setSfnAtMarker (p : Packet)
  | epochRestart (p : Packet)
  | setTodLabel (p : Packet)
  | commitStaged (p : Packet)
  | commitStagedDiscard (p : Packet)
  | calCancel (p : Packet)
  | queueRead (p : Packet)
  | leaseRelease (p : Packet)
  | leaseRead (p : Packet)
  | setAddress (p : Packet)
  | portMode (p : Packet)
  | sdhSectionCfg (p : Packet)
  | sdhPathCfg (p : Packet)
  | sdhPathStatus (p : Packet)
  | sdhTraceRead (p : Packet)
  | sdhDccSend (p : Packet)
  | otnOtuCfg (p : Packet)
  | otnOduCfg (p : Packet)
  | otnOduStatus (p : Packet)
  | otnTtiRead (p : Packet)
  | otnDmStart (p : Packet)
  | alfPortCfg (p : Packet)
  | alfTribCfgReplace (p : Packet)
  | alfTribCfgAppend (p : Packet)
  | alfTribCfgRemove (p : Packet)
  | alfTribCfgChange (p : Packet)
  | alfStatusRead (p : Packet)
  | alfMapRead (p : Packet)
  | alfMapResync (p : Packet)
  | bndGroupCfg (p : Packet)
  | bndTribCfgReplace (p : Packet)
  | bndTribCfgAppend (p : Packet)
  | bndTribCfgRemove (p : Packet)
  | bndTribCfgChange (p : Packet)
  | bndStatusRead (p : Packet)
  | hrpGroupCfg (p : Packet)
  | hrpSelectAuto (p : Packet)
  | hrpSelectForceMain (p : Packet)
  | hrpSelectForceOther (p : Packet)
  | hrpStatusRead (p : Packet)
  | lomContainerCfg (p : Packet)
  | lomTribCfg (p : Packet)
  | lomTribStatus (p : Packet)
  | pktFlowCfg (p : Packet)
  | pktVlanCfg (p : Packet)
  | pktVcatCfg (p : Packet)
  | pktFlowStatus (p : Packet)
  | ethPortCfg (p : Packet)
  | prtDamperCfg (p : Packet)
  | stkQuery (p : Packet)
  | connect (p : Packet)
  | connectUnidir (p : Packet)
  | connectAddSink (p : Packet)
  | disconnect (p : Packet)
  | connRead (p : Packet)
  | grtDefrag (p : Packet)
  | grtRunSet (p : Packet)
  | grtRunFree (p : Packet)
  | grtMapSet (p : Packet)
  | grtMove (p : Packet)
  | stkPoolCfg (p : Packet)
  | protGroupCfg (p : Packet)
  | protGroupRemove (p : Packet)
  | protClear (p : Packet)
  | protLockout (p : Packet)
  | protForced (p : Packet)
  | protManual (p : Packet)
  | protManualW (p : Packet)
  | protExercise (p : Packet)
  | protStatus (p : Packet)
  | pairCfg (p : Packet)
  | pairClear (p : Packet)
  | pairSwitchover (p : Packet)
  | pairChannelOverride (p : Packet)
  | pairStatus (p : Packet)
  | dplRefCfg (p : Packet)
  | dplSelect (p : Packet)
  | dplCfg (p : Packet)
  | dplStatusRead (p : Packet)
  | alignFrameOutputs (p : Packet)
  | clkoutCfg (p : Packet)
  | synCfg (p : Packet)
  | snapSetCfgReplace (p : Packet)
  | snapSetCfgAppend (p : Packet)
  | snapshot (p : Packet)
  | snapRead (p : Packet)
  | cntClear (p : Packet)
  | pmEnable (p : Packet)
  | pmDisable (p : Packet)
  | pmRead (p : Packet)
  | regRead (p : Packet)
  | regWrite (p : Packet)
  | regModify (p : Packet)
  | ctxRead (p : Packet)
  | ctxWrite (p : Packet)
  | hltStatusGrades (p : Packet)
  | hltStatusPending (p : Packet)
  | hltStatusPoisonList (p : Packet)
  | spareApprove (p : Packet)
  | spareDecline (p : Packet)
  | spareRequest (p : Packet)
  | repairMapRead (p : Packet)
  | repairMapApply (p : Packet)
  | smokeCfg (p : Packet)
  | powerDomainUp (p : Packet)
  | powerDomainDown (p : Packet)
  | obsTraceCfg (p : Packet)
  | obsCntCfg (p : Packet)
  | obsSampleCfg (p : Packet)
  | obsStatus (p : Packet)
  | legNop (p : Packet)
  | legQueueRead (p : Packet)
  | legQueueLevel (p : Packet)
  | legQueueReset (p : Packet)
  | legStatus (p : Packet)
  | fwLoadBegin (p : Packet)
  | fwLoadData (p : Packet)
  | fwLoadEnd (p : Packet)
  | fwActivate (p : Packet)
  | fwStatus (p : Packet)
  | registerWrite (o : Origin) (addr : BitVec 24) (v : Word) (byteEn : BitVec 4)
  | qdataHiRead (q : Fin 8)
  | sfnLoRead
  | todLoRead
  | prtCntLoRead (p : Port) (k : Fin 4)
  | prtCntLoWrite (p : Port) (k : Fin 4) (v : Word) (inc : Nat)
  | obsCycleLoRead
  | obsCntLoRead (n : Fin 8)
  | obsCntLoWrite (n : Fin 8) (v : Word) (inc : Nat)
  | obsFreeze
  | obsUnfreeze
  | queueLevelWrite (q : Fin 8) (level : BitVec 14)
  | queueLegacyChange (q : Fin 8) (on : Bool)
  | queueReset (q : Fin 8)
  | peakClr
  | cmdTxGo (m : Fin 2) (len : BitVec 13)
  | evtRearm (m : Fin 2)
  | evtMaskWrite (m : Fin 2) (k : Fin 12) (v : Word)
  | cvuStart (u : Fin 16)
  | cvuDataWrite (u : Fin 16) (v : Word)
  | pinRetryNow (p : Fin 21)
  | windowAccess (fn : Fin 2) (off : BitVec 28) (wr : Option Word)
  | resetNAssert
  | resetNRelease (bootSel : BitVec 2)
  | pciePerst
  | spiRead (addr : BitVec 24) (words : Nat)
  | spiWrite (addr : BitVec 24) (words : List Word) (cut : Bool)
  | spiQuadRead (addr : BitVec 24) (words : Nat)
  | spiQuadWrite (addr : BitVec 24) (words : List Word) (cut : Bool)
  | tapBypass
  | tapIdcode
  | tapSample (pins : List Bool)
  | tapExtest (drive : List Bool)
  | tapReset
  | fpInPulse (highNs : Nat) (offsetNs : Int)
  | fpInMissing
  | claimInPulse (riseErrNs : Int) (widthNs : Nat)
  | pinChannelLoss
  | pinContention (p : Fin 21) (level : Bool)
  | pinBackoffExpiry (p : Fin 21)
  | pinRetryClean (p : Fin 21)
  | dieTempHigh (temp : Byte)
  | sfnTick
  | immediateExecute
  | scheduledEntryExecute
  | portEntryApply (p : Port)
  | setSfnMarkerApply
  | secondClose
  | snapshotExecute
  | defectDecided (c : Cond) (set : Bool)
  | defectArrival
  | holdoffExpiry (pg : BitVec 32)
  | protWtrExpiry (pg : BitVec 32)
  | apsKArrival (p : Port) (k1 k2 : Byte)
  | berWindowEnd (w : BerWindow)
  | squelchProbe (p : Port)
  | laneFaultRetry (p : Port) (held : Bool)
  | spareCdrLock (g : Fin 8)
  | spareLockDeadline (g : Fin 8)
  | sdhFrameReceive (p : Port) (f : SdhRx)
  | sdhFrameTransmit (p : Port)
  | otuFrameReceive (p : Port) (f : OtuRx)
  | otuFrameTransmit (p : Port)
  | dmTimeout (p : Port) (index : Nat) (layer : Fin 7)
  | tuMultiframeReceive (k : TribKey) (f : TuRx)
  | alfMarkerReceive (p : Port) (m : Marker)
  | alfFrameReceive (p : Port) (f : AlfRx)
  | alfAnnounce (p : Port) (profile annId : Fin 16) (effPfn framePfn : BitVec 32)
  | alfQuality (p : Port) (content : BitVec 40)
  | alfIdent (p : Port) (part : Fin 4) (word : Word)
  | alfFrameTransmit (p : Port)
  | alfResizeApply (p : Port)
  | alfRestoreAisEnd (p : Port)
  | bundlePlayout (g : Fin 12) (shares : List BcbRx)
  | rejoinWtrExpiry (g : Fin 12) (m : Fin 8)
  | hrpPlayout (g : Fin 24) (mainOk otherOk : Option Bool) (lagUs : Int)
  | ethFrameReceive (p : Port) (f : EthFrame)
  | pauseFrameReceive (p : Port) (pfc : Bool) (enable : Byte) (quanta : List (BitVec 16))
  | gfpFrameReceive (engine : Fin 8) (channel : Fin 64) (f : GfpRx)
  | gfpFrameTransmit (engine : Fin 8) (channel : Fin 64)
  | ethEgressTransmit (p : Port)
  | drainEval (engine : Fin 8)
  | flowControlSend (p : Port)
  | pauseRefresh (p : Port)
  | csfSend (engine : Fin 8) (flow : Fin 64)
  | lcasHoldoffExpiry (engine : Fin 8) (group : Fin 64) (member : Fin 256)
  | lcasWtrExpiry (engine : Fin 8) (group : Fin 64) (member : Fin 256)
  | slotParityError (slot : Fin 49152)
  | sliceFailure (slice : Fin 4)
  | moveStart (slice : Fin 4)
  | moveBridge (id : Nat)
  | moveRoll (id : Nat)
  | moveRelease (id : Nat)
  | poolPageSwitch (page : Nat)
  | poisonedContextRead (c : Cond) (retryGood recordGood : Bool)
  | blockIsolation (b : BlockRef)
  | substitutionTrigger (u : UnitRef)
  | pendingSpareCommit
  | framerSpareResume (p : Port)
  | mapperSpareResume (pos : Fin 16)
  | bankCopyDone (b : Fin 400) (affected : List (Fin 32))
  | eyeHourClose (lane : Fin 96) (mean : BitVec 7)
  | smokeRoundStart
  | smokeTestDone (u : TestUnit) (r : TestOutcome)
  | smokeRoundDone
  | domainUp (d : Fin 137)
  | domainRejoined (d : Fin 137)
  | chimneyFrameReceive (link : Fin 2) (f : ChimRx)
  | chimneyFrameTransmit
  | mirrorCommandTake (p : Packet) (creation : Nat) (result : List Byte)
  | mirrorSweepDone
  | mateHoldExpiry
  | pairWtrExpiry
  | handover
  | refCheckChange (n : Fin 12) (check : Fin 6) (feed : Fin 2) (phaseNs : Nat) (failing : Bool)
  | refWtrExpiry (n : Fin 12)
  | dpllLockFound
  | dpllBwStep
  | dpllLocked
  | dpllLockLost
  | dpllHistValid
  | dpllTakeover
  | synLockLoss (i : Fin 6) (refLost : Bool)
  | synRelock (i : Fin 6)
  | clkoutRestart (n : Fin 8)
  | ringFrameReceive (east : Bool) (h : RingHdr)
  | ringFrameTransmit
  | ringLinkDown (east : Bool)
  | ringLinkUp (east : Bool)
  | ringLinkReport (addr : BitVec 10) (east good : Bool)
  | unwrapHoldExpiry (east : Bool)
  | ringUnwrap
  | ringAnnounce (i : Ident) (hop : Byte)
  | ringBeacon (i : Ident) (hop : Byte)
  | beaconMissing (pos : Fin 64)
  | memberAssign (fuse : BitVec 64) (addr : BitVec 10) (valid : Bool)
  | setAddressTimeout
  | ringEventPacket (record : List (BitVec 64))
  | gatewayReplyReceive (m : Fin 2) (seq : BitVec 16) (bytes : List Byte)
  | gatewayReplyTimeout (m : Fin 2) (seq : BitVec 16)
  | ringSfnLoss
  | ringSfnReturn (sfn : BitVec 48) (epoch : Byte)
  | commandPacketBuffer (p : Packet)
  | pendingOperationStart (cls sub : Byte) (index : BitVec 16)
  | pendingSlotTimeout (cls sub : Byte) (index : BitVec 16)
  | masterAbsence (m : Fin 2)
  | msiGapExpiry (m : Fin 2)
  | queuePtrMismatch (q : Fin 8)
  | traceReadout
  | preciseSample (priv : Bool) (seq : BitVec 16) (pc insn latency : Word)
  | fwVerifyDone (o : ImageOutcome)
  | fwImageStart
  | fwFallback
  | rxPauseExpiry (p : Port) (prio : Fin 8)
  | pfnFlywheelBoundary (p : Port)
  | dpllDiverged
  | dpllMirrorCheckFail
  | traceRecordStore
  deriving DecidableEq, Repr

end Sys2Proof
end

