-- ==== Sys2Proof/Machine/Bits.lean ====
section
/-! DEFINITION. Bit fields, byte order (R10) and two's complement. -/

namespace Sys2Proof.Machine

/-- A bit field [lo + width - 1 : lo] of a register (R10). -/
structure Fld where
  lo : Nat
  width : Nat
  deriving DecidableEq, Repr

/-- The value of a field of a natural number taken as bits. -/
def bitsOf (n lo width : Nat) : Nat := (n >>> lo) % 2 ^ width

/-- `n` with bits [lo + width - 1 : lo] replaced by the low `width` bits of `v`. -/
def putBits (n lo width v : Nat) : Nat :=
  (n >>> (lo + width)) <<< (lo + width) + (v % 2 ^ width) <<< lo + n % 2 ^ lo

def Fld.get (f : Fld) (w : Word) : Nat := bitsOf w.toNat f.lo f.width

def Fld.set (f : Fld) (w : Word) (v : Nat) : Word := BitVec.ofNat 32 (putBits w.toNat f.lo f.width v)

/-- A Bool as the bit it is. -/
def bit (b : Bool) : Nat := if b then 1 else 0

/-- The big-endian value of a byte list, first byte most significant (R10). -/
def beVal : List Byte → Nat
  | bs => bs.foldl (fun a b => a * 256 + b.toNat) 0

/-- `n` as `k` bytes, most significant first (R10). -/
def beBytes : Nat → Nat → List Byte
  | 0, _ => []
  | k + 1, n => BitVec.ofNat 8 (n >>> (8 * k)) :: beBytes k n

/-- `k` bytes of a payload from offset `off` (absent bytes read 0). -/
def bytesAt (bs : List Byte) (off k : Nat) : List Byte :=
  (List.range k).map fun i => bs.getD (off + i) 0

/-- The `k`-byte field of a payload at offset `off` (R10). -/
def fieldAt (bs : List Byte) (off k : Nat) : Nat := beVal (bytesAt bs off k)

/-- `bs` with the byte at `off` replaced. -/
def putByte (bs : List Byte) (off : Nat) (v : Byte) : List Byte := bs.set off v

/-- An integer as `w`-bit two's complement. -/
def twos (w : Nat) (i : Int) : Nat := (i % (2 ^ w : Int)).toNat

/-- The integer a `w`-bit two's complement value stands for. -/
def untwos (w n : Nat) : Int := if n < 2 ^ (w - 1) then (n : Int) else (n : Int) - (2 ^ w : Int)

/-- One PFN is at or beyond another (R47). -/
def atOrBeyond (pfn target : Nat) : Bool := (pfn + 2 ^ 32 - target % 2 ^ 32) % 2 ^ 32 < 2 ^ 31

/-- A count that saturates at `top`. -/
def satAdd (top a b : Nat) : Nat := min top (a + b)

/-- ceil(a / b). -/
def ceilDiv (a b : Nat) : Nat := (a + b - 1) / b

end Sys2Proof.Machine
end

