-- ==== Sys2Proof/Machine/Table.lean ====
section
/-! DEFINITION. Sparse data by number in one canonical form: keys strictly rising, and for a store with
a default, no entry equal to the default. Registers, memories and the per-entity tables use it. -/

namespace Sys2Proof.Machine

/-- A sparse table keyed by a number. -/
abbrev Tbl (α : Type) := List (Nat × α)

/-- The entry of key `k`. -/
def Tbl.find {α : Type} : Tbl α → Nat → Option α
  | [], _ => none
  | (j, v) :: t, k => if j = k then some v else Tbl.find t k

/-- The entry of key `k`, or the value an unlisted key has. -/
def Tbl.getD {α : Type} (t : Tbl α) (k : Nat) (d : α) : α := (t.find k).getD d

/-- `t` with key `k` holding `v`. -/
def Tbl.put {α : Type} : Tbl α → Nat → α → Tbl α
  | [], k, v => [(k, v)]
  | (j, w) :: t, k, v =>
    if k < j then (k, v) :: (j, w) :: t
    else if j = k then (k, v) :: t
    else (j, w) :: Tbl.put t k v

/-- `t` without key `k`. -/
def Tbl.drop {α : Type} : Tbl α → Nat → Tbl α
  | [], _ => []
  | (j, w) :: t, k => if j = k then Tbl.drop t k else (j, w) :: Tbl.drop t k

/-- Write with a default: a value equal to what an unlisted key reads as removes the entry. -/
def Tbl.store {α : Type} [DecidableEq α] (t : Tbl α) (k : Nat) (v d : α) : Tbl α :=
  if v = d then t.drop k else t.put k v

/-- Keys strictly rising. -/
def Tbl.sorted {α : Type} : Tbl α → Bool
  | [] => true
  | [_] => true
  | (j, _) :: (k, v) :: t => decide (j < k) && Tbl.sorted ((k, v) :: t)

/-- The canonical form of a store whose unlisted key `k` reads as `d k`. -/
def Tbl.wf {α : Type} [DecidableEq α] (t : Tbl α) (d : Nat → α) : Bool :=
  t.sorted && t.all fun e => e.2 ≠ d e.1

/-- The lowest number below `n` that is no key. -/
def Tbl.lowestFree {α : Type} (t : Tbl α) (n : Nat) : Option Nat :=
  (List.range n).find? fun i => (t.find i).isNone

end Sys2Proof.Machine
end

