-- ==== Sys2Proof/Machine/Crc.lean ====
section
/-! DEFINITION. The CRC procedures of R421, in the forms the manual calls for by name. -/

namespace Sys2Proof.Machine

/-- The low `w` bits of `n` in reverse order. -/
def reflect : Nat → Nat → Nat
  | 0, _ => 0
  | w + 1, n => (n % 2) * 2 ^ w + reflect w (n / 2)

/-- The settings of a check-value unit (Table 17-17). -/
structure CrcCfg where
  width : Nat
  poly : Nat
  init : Nat
  refin : Bool
  refout : Bool
  xorout : Bool
  deriving DecidableEq, Repr

/-- One bit of division. -/
def CrcCfg.stepBit (c : CrcCfg) (r : Nat) : Nat :=
  if r.testBit (c.width - 1) then ((r * 2) % 2 ^ c.width) ^^^ c.poly else (r * 2) % 2 ^ c.width

/-- Eight bits of division. -/
def CrcCfg.step8 (c : CrcCfg) : Nat → Nat → Nat
  | 0, r => r
  | n + 1, r => c.step8 n (c.stepBit r)

/-- One byte enters the register, most significant bit first after REFIN. -/
def CrcCfg.byte (c : CrcCfg) (r : Nat) (b : Byte) : Nat :=
  let v := if c.refin then reflect 8 b.toNat else b.toNat
  c.step8 8 (r ^^^ ((v <<< (c.width - 8)) % 2 ^ c.width))

/-- A byte string enters the register. -/
def CrcCfg.bytes (c : CrcCfg) (r : Nat) (bs : List Byte) : Nat := bs.foldl c.byte r

/-- The result of the register, with REFOUT and XOROUT applied. -/
def CrcCfg.result (c : CrcCfg) (r : Nat) : Nat :=
  let v := if c.refout then reflect c.width r else r
  if c.xorout then v ^^^ (2 ^ c.width - 1) else v

/-- The CRC of a byte string. -/
def CrcCfg.of (c : CrcCfg) (bs : List Byte) : Nat := c.result (c.bytes c.init bs)

/-- CRC-32C of R347. -/
def crc32c : CrcCfg := ⟨32, 0x1EDC6F41, 0xFFFFFFFF, true, true, true⟩

/-- CRC-32 of R158. -/
def crc32 : CrcCfg := ⟨32, 0x04C11DB7, 0xFFFFFFFF, true, true, true⟩

/-- The digest CRC-16 of R166. -/
def crc16 : CrcCfg := ⟨16, 0x1021, 0xFFFF, false, false, false⟩

/-- CRC-8 of markers and control words (R155). -/
def crc8 : CrcCfg := ⟨8, 0x07, 0, false, false, false⟩

end Sys2Proof.Machine
end

