-- ==== Sys2Proof/Machine/Regs.lean ====
section
/-! DEFINITION. The register map of the device address space (R402 to R407): every register the chapters'
register tables name, with its address, its fields, their access types and Reset values (R12).
A register's key is its address; the family windows of a port bank (R405), which share addresses, have
keys of their own: the address plus FAMILY times 0x100_0000. -/

namespace Sys2Proof.Machine

/-- Access types of Table 17-5. -/
inductive Access where
  | rw | ro | rwh | w1c | cnt | sc | wo
  deriving DecidableEq, Repr

/-- One field of a register table: its bits, its access type and its Reset value. -/
structure FldDesc where
  fld : Fld
  acc : Access
  reset : Nat
  deriving DecidableEq, Repr

/-- A register or an array of them: `n1` copies `s1` apart, each of `n2` copies `s2` apart. -/
structure RegDesc where
  base : Nat
  n1 : Nat
  s1 : Nat
  n2 : Nat
  s2 : Nat
  flds : List FldDesc
  deriving DecidableEq, Repr

/-- A field of a register table: lowest bit, width, access, reset. -/
def fd (lo width : Nat) (acc : Access) (reset : Nat) : FldDesc := ⟨⟨lo, width⟩, acc, reset⟩

namespace STK_BANK

/-- STK_BANK, Table 01-6 of 01_architecture.md. -/
def key (i : Nat) : Nat := 0x2000 + i * 0x4
def POOL : Fld := ⟨0, 3⟩
def SPARE : Fld := ⟨3, 1⟩
def RETIRED : Fld := ⟨4, 1⟩
def POISONED : Fld := ⟨5, 1⟩
def CE_LAST : Fld := ⟨8, 8⟩
def HEALTH : Fld := ⟨16, 4⟩
def desc : RegDesc := ⟨0x2000, 400, 0x4, 1, 0x0,
  [fd 0 3 .ro 0, fd 3 1 .ro 0, fd 4 1 .ro 0, fd 5 1 .w1c 0, fd 8 8 .ro 0, fd 16 4 .ro 0]⟩

end STK_BANK

namespace SYS_BLOCK_MAP

/-- SYS_BLOCK_MAP, Table 01-7 of 01_architecture.md. -/
def key (i : Nat) : Nat := 0x400 + i * 0x4
def PHYS : Fld := ⟨0, 5⟩
def STATE : Fld := ⟨8, 2⟩
def HEALTH : Fld := ⟨12, 4⟩
def desc : RegDesc := ⟨0x400, 40, 0x4, 1, 0x0,
  [fd 0 5 .ro 0, fd 8 2 .ro 0, fd 12 4 .ro 0]⟩

end SYS_BLOCK_MAP

namespace SYS_TIME_STATUS

/-- SYS_TIME_STATUS, Table 02-9 of 02_frame_time_and_calendar.md. -/
def key : Nat := 0x3008
def EPOCH : Fld := ⟨0, 8⟩
def LABEL_GEN : Fld := ⟨8, 8⟩
def RING_ROOT : Fld := ⟨16, 1⟩
def FP_IN_VALID : Fld := ⟨17, 1⟩
def FP_IN_LOST : Fld := ⟨18, 1⟩
def SET_ARMED : Fld := ⟨19, 1⟩
def FLYWHEEL : Fld := ⟨20, 1⟩
def SFN_CONFLICT : Fld := ⟨21, 1⟩
def desc : RegDesc := ⟨0x3008, 1, 0x0, 1, 0x0,
  [fd 0 8 .ro 0, fd 8 8 .ro 0, fd 16 1 .ro 0, fd 17 1 .ro 0, fd 18 1 .w1c 0, fd 19 1 .ro 0, fd 20 1 .ro 0, fd 21 1 .ro 0]⟩

end SYS_TIME_STATUS

namespace CAL_STATUS

/-- CAL_STATUS, Table 02-10 of 02_frame_time_and_calendar.md. -/
def key : Nat := 0x3020
def IN_USE : Fld := ⟨0, 13⟩
def PEAK : Fld := ⟨16, 13⟩
def CARRIED : Fld := ⟨29, 1⟩
def SKIPPED : Fld := ⟨30, 1⟩
def desc : RegDesc := ⟨0x3020, 1, 0x0, 1, 0x0,
  [fd 0 13 .ro 0, fd 16 13 .ro 0, fd 29 1 .w1c 0, fd 30 1 .w1c 0]⟩

end CAL_STATUS

namespace CAL_CTRL

/-- CAL_CTRL, Table 02-11 of 02_frame_time_and_calendar.md. -/
def key : Nat := 0x3024
def QUOTA_M0 : Fld := ⟨0, 12⟩
def QUOTA_M1 : Fld := ⟨16, 12⟩
def PEAK_CLR : Fld := ⟨31, 1⟩
def desc : RegDesc := ⟨0x3024, 1, 0x0, 1, 0x0,
  [fd 0 12 .rw 1792, fd 16 12 .rw 1792, fd 31 1 .sc 0]⟩

end CAL_CTRL

namespace PRT_CFG

/-- PRT_CFG, Table 03-4 of 03_lanes_and_ports.md. -/
def key (i : Nat) : Nat := 0x200000 + i * 0x1000
def FAMILY : Fld := ⟨0, 4⟩
def RATE_CODE : Fld := ⟨4, 4⟩
def QUAD : Fld := ⟨8, 1⟩
def QUAD_MEMBER : Fld := ⟨9, 1⟩
def TX_TIMING : Fld := ⟨10, 1⟩
def desc : RegDesc := ⟨0x200000, 96, 0x1000, 1, 0x0,
  [fd 0 4 .rw 0, fd 4 4 .rw 0, fd 8 1 .rw 0, fd 9 1 .ro 0, fd 10 1 .rw 0]⟩

end PRT_CFG

namespace LAN_CFG

/-- LAN_CFG, Table 03-5 of 03_lanes_and_ports.md. -/
def key (i : Nat) : Nat := 0x200010 + i * 0x1000
def TX_EN : Fld := ⟨0, 1⟩
def RX_EN : Fld := ⟨1, 1⟩
def TX_INV : Fld := ⟨2, 1⟩
def RX_INV : Fld := ⟨3, 1⟩
def LOOPBACK : Fld := ⟨4, 2⟩
def PRBS_SEL : Fld := ⟨6, 3⟩
def PRBS_CHK : Fld := ⟨9, 1⟩
def CTLE_PEAK : Fld := ⟨10, 4⟩
def CTLE_ADAPT : Fld := ⟨14, 1⟩
def DFE_ADAPT : Fld := ⟨15, 1⟩
def TX_PRE : Fld := ⟨16, 4⟩
def TX_POST : Fld := ⟨20, 5⟩
def TX_AMP : Fld := ⟨25, 4⟩
def desc : RegDesc := ⟨0x200010, 96, 0x1000, 1, 0x0,
  [fd 0 1 .rw 0, fd 1 1 .rw 0, fd 2 1 .rw 0, fd 3 1 .rw 0, fd 4 2 .rw 0, fd 6 3 .rw 0, fd 9 1 .rw 0, fd 10 4 .rw 8, fd 14 1 .rw 1, fd 15 1 .rw 1, fd 16 4 .rw 0, fd 20 5 .rw 0, fd 25 4 .rw 12]⟩

end LAN_CFG

namespace LAN_STATUS

/-- LAN_STATUS, Table 03-6 of 03_lanes_and_ports.md. -/
def key (i : Nat) : Nat := 0x200018 + i * 0x1000
def LOS : Fld := ⟨0, 1⟩
def CDR_LOCK : Fld := ⟨1, 1⟩
def LOS_HIST : Fld := ⟨2, 1⟩
def CDR_LOL_HIST : Fld := ⟨3, 1⟩
def LANE_FAULT : Fld := ⟨4, 1⟩
def LANE_FAULT_HIST : Fld := ⟨5, 1⟩
def SUBSTITUTING : Fld := ⟨6, 1⟩
def ON_SPARE : Fld := ⟨7, 1⟩
def EYE_H : Fld := ⟨8, 7⟩
def RETRIES : Fld := ⟨16, 4⟩
def PRBS_ERR : Fld := ⟨20, 12⟩
def desc : RegDesc := ⟨0x200018, 96, 0x1000, 1, 0x0,
  [fd 0 1 .ro 1, fd 1 1 .ro 0, fd 2 1 .w1c 0, fd 3 1 .w1c 0, fd 4 1 .ro 0, fd 5 1 .w1c 0, fd 6 1 .ro 0, fd 7 1 .ro 0, fd 8 7 .ro 0, fd 16 4 .ro 0, fd 20 12 .cnt 0]⟩

end LAN_STATUS

namespace LAN_SPARE

/-- LAN_SPARE, Table 03-7 of 03_lanes_and_ports.md. -/
def key (i : Nat) : Nat := 0x4000 + i * 0x4
def TARGET : Fld := ⟨0, 4⟩
def STATE : Fld := ⟨4, 2⟩
def HEALTH : Fld := ⟨8, 4⟩
def desc : RegDesc := ⟨0x4000, 8, 0x4, 1, 0x0,
  [fd 0 4 .ro 15, fd 4 2 .ro 0, fd 8 4 .ro 0]⟩

end LAN_SPARE

namespace SDH_CFG

/-- SDH_CFG, Table 04-10 of 04_sdh_sonet_framing.md. -/
def key (i : Nat) : Nat := 0x1200040 + i * 0x1000
def SCRAMBLE_DIS : Fld := ⟨0, 1⟩
def J0_MODE : Fld := ⟨1, 1⟩
def TIM_S_AIS : Fld := ⟨2, 1⟩
def B_MODE : Fld := ⟨3, 1⟩
def MS_REI_EXT : Fld := ⟨4, 1⟩
def EXC_L_AIS : Fld := ⟨5, 1⟩
def DCC_RS_EN : Fld := ⟨6, 1⟩
def DCC_MS_EN : Fld := ⟨7, 1⟩
def DCC_MASTER : Fld := ⟨8, 1⟩
def FORCE_AIS_L : Fld := ⟨9, 1⟩
def FORCE_RDI_L : Fld := ⟨10, 1⟩
def desc : RegDesc := ⟨0x1200040, 96, 0x1000, 1, 0x0,
  [fd 0 1 .rw 0, fd 1 1 .rw 0, fd 2 1 .rw 0, fd 3 1 .rw 0, fd 4 1 .rw 0, fd 5 1 .rw 0, fd 6 1 .rw 0, fd 7 1 .rw 0, fd 8 1 .rw 0, fd 9 1 .rw 0, fd 10 1 .rw 0]⟩

end SDH_CFG

namespace SDH_STATUS

/-- SDH_STATUS, Table 04-11 of 04_sdh_sonet_framing.md. -/
def key (i : Nat) : Nat := 0x1200044 + i * 0x1000
def OOF : Fld := ⟨0, 1⟩
def LOF : Fld := ⟨1, 1⟩
def TIM_S : Fld := ⟨2, 1⟩
def AIS_L : Fld := ⟨3, 1⟩
def RDI_L : Fld := ⟨4, 1⟩
def EXC_L : Fld := ⟨5, 1⟩
def DEG_L : Fld := ⟨6, 1⟩
def HIST : Fld := ⟨8, 7⟩
def OOF_RUN : Fld := ⟨16, 5⟩
def desc : RegDesc := ⟨0x1200044, 96, 0x1000, 1, 0x0,
  [fd 0 1 .ro 1, fd 1 1 .ro 0, fd 2 1 .ro 0, fd 3 1 .ro 0, fd 4 1 .ro 0, fd 5 1 .ro 0, fd 6 1 .ro 0, fd 8 7 .w1c 0, fd 16 5 .ro 0]⟩

end SDH_STATUS

namespace SDH_RX_OH

/-- SDH_RX_OH, Table 04-12 of 04_sdh_sonet_framing.md. -/
def key (i : Nat) : Nat := 0x1200048 + i * 0x1000
def K1 : Fld := ⟨0, 8⟩
def K2 : Fld := ⟨8, 8⟩
def S1 : Fld := ⟨16, 8⟩
def J0 : Fld := ⟨24, 8⟩
def desc : RegDesc := ⟨0x1200048, 96, 0x1000, 1, 0x0,
  [fd 0 8 .ro 0, fd 8 8 .ro 0, fd 16 8 .ro 0, fd 24 8 .ro 0]⟩

end SDH_RX_OH

namespace SDH_TX_OH

/-- SDH_TX_OH, Table 04-13 of 04_sdh_sonet_framing.md. -/
def key (i : Nat) : Nat := 0x120004C + i * 0x1000
def K1_TX : Fld := ⟨0, 8⟩
def K2_TX : Fld := ⟨8, 8⟩
def S1_TX : Fld := ⟨16, 8⟩
def K_SRC : Fld := ⟨24, 1⟩
def S1_SRC : Fld := ⟨25, 1⟩
def desc : RegDesc := ⟨0x120004C, 96, 0x1000, 1, 0x0,
  [fd 0 8 .rw 0, fd 8 8 .rw 0, fd 16 8 .rw 15, fd 24 1 .rw 1, fd 25 1 .rw 0]⟩

end SDH_TX_OH

namespace SDH_SF_CFG

/-- SDH_SF_CFG, Table 04-14 of 04_sdh_sonet_framing.md. -/
def key (i : Nat) : Nat := 0x1200050 + i * 0x1000
def WINDOW : Fld := ⟨0, 12⟩
def THRESH : Fld := ⟨12, 20⟩
def desc : RegDesc := ⟨0x1200050, 96, 0x1000, 1, 0x0,
  [fd 0 12 .rw 0, fd 12 20 .rw 0]⟩

end SDH_SF_CFG

namespace SDH_SD_CFG

/-- SDH_SD_CFG, Table 04-14 of 04_sdh_sonet_framing.md. -/
def key (i : Nat) : Nat := 0x1200054 + i * 0x1000
def WINDOW : Fld := ⟨0, 12⟩
def THRESH : Fld := ⟨12, 20⟩
def desc : RegDesc := ⟨0x1200054, 96, 0x1000, 1, 0x0,
  [fd 0 12 .rw 0, fd 12 20 .rw 0]⟩

end SDH_SD_CFG

namespace SDH_PATH_BER

/-- SDH_PATH_BER, Table 04-15 of 04_sdh_sonet_framing.md. -/
def key (i : Nat) : Nat := 0x1200058 + i * 0x1000
def WINDOW8 : Fld := ⟨0, 10⟩
def SF_THRESH : Fld := ⟨10, 11⟩
def SD_THRESH : Fld := ⟨21, 11⟩
def desc : RegDesc := ⟨0x1200058, 96, 0x1000, 1, 0x0,
  [fd 0 10 .rw 0, fd 10 11 .rw 0, fd 21 11 .rw 0]⟩

end SDH_PATH_BER

namespace SDH_DCC_DROP

/-- SDH_DCC_DROP, Table 04-16 of 04_sdh_sonet_framing.md. -/
def key (i : Nat) : Nat := 0x120005C + i * 0x1000
def DROPS : Fld := ⟨0, 32⟩
def desc : RegDesc := ⟨0x120005C, 96, 0x1000, 1, 0x0,
  [fd 0 32 .cnt 0]⟩

end SDH_DCC_DROP

namespace SDH_J0_EXP

/-- SDH_J0_EXP, Table 04-16 of 04_sdh_sonet_framing.md. -/
def key (i j : Nat) : Nat := 0x1200060 + i * 0x1000 + j * 0x4
def BYTES : Fld := ⟨0, 32⟩
def desc : RegDesc := ⟨0x1200060, 96, 0x1000, 4, 0x4,
  [fd 0 32 .rw 0]⟩

end SDH_J0_EXP

namespace SDH_J0_TX

/-- SDH_J0_TX, Table 04-16 of 04_sdh_sonet_framing.md. -/
def key (i j : Nat) : Nat := 0x1200070 + i * 0x1000 + j * 0x4
def BYTES : Fld := ⟨0, 32⟩
def desc : RegDesc := ⟨0x1200070, 96, 0x1000, 4, 0x4,
  [fd 0 32 .rw 0]⟩

end SDH_J0_TX

namespace OTN_CFG

/-- OTN_CFG, Table 05-7 of 05_otn_framing.md. -/
def key (i : Nat) : Nat := 0x3200040 + i * 0x1000
def FEC_DEC_DIS : Fld := ⟨0, 1⟩
def FEC_ENC_DIS : Fld := ⟨1, 1⟩
def SCRAMBLE_DIS : Fld := ⟨2, 1⟩
def SM_TIM_MODE : Fld := ⟨3, 2⟩
def SM_TIM_ACT : Fld := ⟨5, 1⟩
def FORCE_ODU_AIS : Fld := ⟨6, 1⟩
def FORCE_SM_BDI : Fld := ⟨7, 1⟩
def desc : RegDesc := ⟨0x3200040, 96, 0x1000, 1, 0x0,
  [fd 0 1 .rw 0, fd 1 1 .rw 0, fd 2 1 .rw 0, fd 3 2 .rw 0, fd 5 1 .rw 0, fd 6 1 .rw 0, fd 7 1 .rw 0]⟩

end OTN_CFG

namespace OTN_STATUS

/-- OTN_STATUS, Table 05-8 of 05_otn_framing.md. -/
def key (i : Nat) : Nat := 0x3200044 + i * 0x1000
def OOF : Fld := ⟨0, 1⟩
def LOF : Fld := ⟨1, 1⟩
def OOM : Fld := ⟨2, 1⟩
def LOM : Fld := ⟨3, 1⟩
def LOL : Fld := ⟨4, 1⟩
def SM_TIM : Fld := ⟨5, 1⟩
def SM_BDI : Fld := ⟨6, 1⟩
def SM_IAE : Fld := ⟨7, 1⟩
def SM_BIAE : Fld := ⟨8, 1⟩
def SM_DEG : Fld := ⟨9, 1⟩
def C_LOF : Fld := ⟨10, 1⟩
def C_AIS_L : Fld := ⟨11, 1⟩
def HIST : Fld := ⟨16, 12⟩
def desc : RegDesc := ⟨0x3200044, 96, 0x1000, 1, 0x0,
  [fd 0 1 .ro 1, fd 1 1 .ro 0, fd 2 1 .ro 1, fd 3 1 .ro 0, fd 4 1 .ro 0, fd 5 1 .ro 0, fd 6 1 .ro 0, fd 7 1 .ro 0, fd 8 1 .ro 0, fd 9 1 .ro 0, fd 10 1 .ro 0, fd 11 1 .ro 0, fd 16 12 .w1c 0]⟩

end OTN_STATUS

namespace OTN_LANE_STATUS

/-- OTN_LANE_STATUS, Table 05-9 of 05_otn_framing.md. -/
def key (i : Nat) : Nat := 0x3200048 + i * 0x1000
def LANE_DOWN : Fld := ⟨0, 20⟩
def SKEW : Fld := ⟨20, 8⟩
def LOL_HIST : Fld := ⟨28, 1⟩
def desc : RegDesc := ⟨0x3200048, 96, 0x1000, 1, 0x0,
  [fd 0 20 .ro 0, fd 20 8 .ro 0, fd 28 1 .w1c 0]⟩

end OTN_LANE_STATUS

namespace OTN_SM_DEG

/-- OTN_SM_DEG, Table 05-10 of 05_otn_framing.md. -/
def key (i : Nat) : Nat := 0x320004C + i * 0x1000
def DEG_THR : Fld := ⟨0, 20⟩
def DEG_M : Fld := ⟨20, 4⟩
def desc : RegDesc := ⟨0x320004C, 96, 0x1000, 1, 0x0,
  [fd 0 20 .rw 0, fd 20 4 .rw 7]⟩

end OTN_SM_DEG

namespace ALF_CFG

/-- ALF_CFG, Table 06-12 of 06_adaptive_link_frame.md. -/
def key (i : Nat) : Nat := 0x5200040 + i * 0x1000
def LANE_RATE : Fld := ⟨0, 3⟩
def FORCE_RDI : Fld := ⟨3, 1⟩
def LINK_ID : Fld := ⟨16, 16⟩
def desc : RegDesc := ⟨0x5200040, 96, 0x1000, 1, 0x0,
  [fd 0 3 .rw 0, fd 3 1 .rw 0, fd 16 16 .rw 0]⟩

end ALF_CFG

namespace ALF_STATUS

/-- ALF_STATUS, Table 06-13 of 06_adaptive_link_frame.md. -/
def key (i : Nat) : Nat := 0x5200044 + i * 0x1000
def LOAF : Fld := ⟨0, 1⟩
def AFE : Fld := ⟨1, 1⟩
def MAP_MISMATCH : Fld := ⟨2, 1⟩
def FROZEN : Fld := ⟨3, 1⟩
def RDI_A : Fld := ⟨4, 1⟩
def RESIZING : Fld := ⟨5, 1⟩
def CAUSE : Fld := ⟨6, 1⟩
def PROF_DIFF_HIST : Fld := ⟨7, 1⟩
def HIST : Fld := ⟨8, 6⟩
def PROFILE : Fld := ⟨16, 4⟩
def PENDING : Fld := ⟨20, 3⟩
def ERR_RUN : Fld := ⟨24, 5⟩
def desc : RegDesc := ⟨0x5200044, 96, 0x1000, 1, 0x0,
  [fd 0 1 .ro 0, fd 1 1 .ro 0, fd 2 1 .ro 0, fd 3 1 .ro 0, fd 4 1 .ro 0, fd 5 1 .ro 0, fd 6 1 .ro 0, fd 7 1 .w1c 0, fd 8 6 .w1c 0, fd 16 4 .ro 0, fd 20 3 .ro 0, fd 24 5 .ro 0]⟩

end ALF_STATUS

namespace ALF_DIGEST

/-- ALF_DIGEST, Table 06-14 of 06_adaptive_link_frame.md. -/
def key (i : Nat) : Nat := 0x5200048 + i * 0x1000
def D_USE : Fld := ⟨0, 16⟩
def D_CAND : Fld := ⟨16, 16⟩
def desc : RegDesc := ⟨0x5200048, 96, 0x1000, 1, 0x0,
  [fd 0 16 .ro 0, fd 16 16 .ro 0]⟩

end ALF_DIGEST

namespace ALF_DIGEST_RX

/-- ALF_DIGEST_RX, Table 06-14 of 06_adaptive_link_frame.md. -/
def key (i : Nat) : Nat := 0x520004C + i * 0x1000
def D_USE : Fld := ⟨0, 16⟩
def D_CAND : Fld := ⟨16, 16⟩
def desc : RegDesc := ⟨0x520004C, 96, 0x1000, 1, 0x0,
  [fd 0 16 .ro 0, fd 16 16 .ro 0]⟩

end ALF_DIGEST_RX

namespace ALF_ANN

/-- ALF_ANN, Table 06-15 of 06_adaptive_link_frame.md. -/
def key (i : Nat) : Nat := 0x5200050 + i * 0x1000
def PROFILE : Fld := ⟨0, 4⟩
def ANN_ID : Fld := ⟨4, 4⟩
def OUTCOME : Fld := ⟨8, 3⟩
def desc : RegDesc := ⟨0x5200050, 96, 0x1000, 1, 0x0,
  [fd 0 4 .ro 0, fd 4 4 .ro 0, fd 8 3 .ro 0]⟩

end ALF_ANN

namespace ALF_ANN_PFN

/-- ALF_ANN_PFN, Table 06-15 of 06_adaptive_link_frame.md. -/
def key (i : Nat) : Nat := 0x5200054 + i * 0x1000
def EFF_PFN : Fld := ⟨0, 32⟩
def desc : RegDesc := ⟨0x5200054, 96, 0x1000, 1, 0x0,
  [fd 0 32 .ro 0]⟩

end ALF_ANN_PFN

namespace ALF_PKT_MIN

/-- ALF_PKT_MIN, Table 06-16 of 06_adaptive_link_frame.md. -/
def key (i : Nat) : Nat := 0x5200058 + i * 0x1000
def PKT_MIN : Fld := ⟨0, 18⟩
def desc : RegDesc := ⟨0x5200058, 96, 0x1000, 1, 0x0,
  [fd 0 18 .rw 0]⟩

end ALF_PKT_MIN

namespace ALF_QUALITY

/-- ALF_QUALITY, Table 06-16 of 06_adaptive_link_frame.md. -/
def key (i : Nat) : Nat := 0x520005C + i * 0x1000
def SNR : Fld := ⟨0, 8⟩
def MOD : Fld := ⟨8, 8⟩
def RSL : Fld := ⟨16, 8⟩
def desc : RegDesc := ⟨0x520005C, 96, 0x1000, 1, 0x0,
  [fd 0 8 .ro 0, fd 8 8 .ro 0, fd 16 8 .ro 0]⟩

end ALF_QUALITY

namespace ALF_PROF

/-- ALF_PROF, Table 06-17 of 06_adaptive_link_frame.md. -/
def key (i j : Nat) : Nat := 0x5200080 + i * 0x1000 + j * 0x4
def BLOCKS : Fld := ⟨0, 18⟩
def VALID : Fld := ⟨31, 1⟩
def desc : RegDesc := ⟨0x5200080, 96, 0x1000, 16, 0x4,
  [fd 0 18 .rw 0, fd 31 1 .rw 0]⟩

end ALF_PROF

namespace BND_CFG

/-- BND_CFG, Table 07-5 of 07_bonding_and_radio_protection.md. -/
def key (i : Nat) : Nat := 0x5000 + i * 0x20
def MEMBERS : Fld := ⟨0, 8⟩
def MAX_DIFF : Fld := ⟨8, 13⟩
def REJOIN_WTR : Fld := ⟨21, 8⟩
def desc : RegDesc := ⟨0x5000, 12, 0x20, 1, 0x0,
  [fd 0 8 .rw 0, fd 8 13 .rw 0, fd 21 8 .rw 10]⟩

end BND_CFG

namespace BND_STATUS

/-- BND_STATUS, Table 07-6 of 07_bonding_and_radio_protection.md. -/
def key (i : Nat) : Nat := 0x5004 + i * 0x20
def ACT_TX : Fld := ⟨0, 8⟩
def ACT_RX : Fld := ⟨8, 8⟩
def FAR_RX_OK : Fld := ⟨16, 8⟩
def MAP_MISMATCH : Fld := ⟨24, 1⟩
def FROZEN : Fld := ⟨25, 1⟩
def BUNDLE_DOWN : Fld := ⟨26, 1⟩
def HIST : Fld := ⟨27, 3⟩
def SLIP_HIST : Fld := ⟨30, 1⟩
def DELAY_HIST : Fld := ⟨31, 1⟩
def desc : RegDesc := ⟨0x5004, 12, 0x20, 1, 0x0,
  [fd 0 8 .ro 0, fd 8 8 .ro 0, fd 16 8 .ro 0, fd 24 1 .ro 0, fd 25 1 .ro 0, fd 26 1 .ro 1, fd 27 3 .w1c 0, fd 30 1 .w1c 0, fd 31 1 .w1c 0]⟩

end BND_STATUS

namespace BND_CAP

/-- BND_CAP, Table 07-7 of 07_bonding_and_radio_protection.md. -/
def key (i : Nat) : Nat := 0x5008 + i * 0x20
def BLOCKS : Fld := ⟨0, 21⟩
def desc : RegDesc := ⟨0x5008, 12, 0x20, 1, 0x0,
  [fd 0 21 .ro 0]⟩

end BND_CAP

namespace BND_LAG

/-- BND_LAG, Table 07-7 of 07_bonding_and_radio_protection.md. -/
def key (i : Nat) : Nat := 0x500C + i * 0x20
def LAG : Fld := ⟨0, 13⟩
def MEMBER : Fld := ⟨13, 3⟩
def REF : Fld := ⟨16, 3⟩
def desc : RegDesc := ⟨0x500C, 12, 0x20, 1, 0x0,
  [fd 0 13 .ro 0, fd 13 3 .ro 0, fd 16 3 .ro 0]⟩

end BND_LAG

namespace HRP_CFG

/-- HRP_CFG, Table 07-8 of 07_bonding_and_radio_protection.md. -/
def key (i : Nat) : Nat := 0x5200 + i * 0x10
def MAIN : Fld := ⟨0, 7⟩
def OTHER : Fld := ⟨8, 7⟩
def HRP_DELAY : Fld := ⟨16, 8⟩
def desc : RegDesc := ⟨0x5200, 24, 0x10, 1, 0x0,
  [fd 0 7 .rw 127, fd 8 7 .rw 127, fd 16 8 .rw 0]⟩

end HRP_CFG

namespace HRP_STATUS

/-- HRP_STATUS, Table 07-9 of 07_bonding_and_radio_protection.md. -/
def key (i : Nat) : Nat := 0x5204 + i * 0x10
def SEL_OTHER : Fld := ⟨0, 1⟩
def MAIN_DOWN : Fld := ⟨1, 1⟩
def OTHER_DOWN : Fld := ⟨2, 1⟩
def MODE : Fld := ⟨3, 2⟩
def ANN_OTHER : Fld := ⟨5, 1⟩
def HIST : Fld := ⟨6, 3⟩
def HRP_LAG : Fld := ⟨16, 9⟩
def desc : RegDesc := ⟨0x5204, 24, 0x10, 1, 0x0,
  [fd 0 1 .ro 0, fd 1 1 .ro 1, fd 2 1 .ro 1, fd 3 2 .ro 0, fd 5 1 .ro 0, fd 6 3 .w1c 0, fd 16 9 .ro 0]⟩

end HRP_STATUS

namespace LOM_MB_LOAD

/-- LOM_MB_LOAD, Table 08-10 of 08_low_order_tributaries.md. -/
def key (i j : Nat) : Nat := 0x100100 + i * 0x40000 + j * 0x4
def TRIBS : Fld := ⟨0, 11⟩
def CONTAINERS : Fld := ⟨11, 7⟩
def CARRIERS : Fld := ⟨18, 7⟩
def desc : RegDesc := ⟨0x100100, 4, 0x40000, 5, 0x4,
  [fd 0 11 .ro 0, fd 11 7 .ro 0, fd 18 7 .ro 0]⟩

end LOM_MB_LOAD

namespace SYS_QCFG

/-- SYS_QCFG, Table 09-9 of 09_packet_mapping_and_queues.md. -/
def key (i : Nat) : Nat := 0x6000 + i * 0x10
def LEVEL : Fld := ⟨0, 14⟩
def LEGACY : Fld := ⟨14, 1⟩
def RESET : Fld := ⟨15, 1⟩
def desc : RegDesc := ⟨0x6000, 8, 0x10, 1, 0x0,
  [fd 0 14 .rw 0, fd 14 1 .rw 0, fd 15 1 .sc 0]⟩

end SYS_QCFG

namespace SYS_QSTAT

/-- SYS_QSTAT, Table 09-10 of 09_packet_mapping_and_queues.md. -/
def key (i : Nat) : Nat := 0x6004 + i * 0x10
def FILL : Fld := ⟨0, 14⟩
def LEVEL_HIST : Fld := ⟨14, 1⟩
def OVERFLOW_HIST : Fld := ⟨15, 1⟩
def POISON_HIST : Fld := ⟨16, 1⟩
def MISMATCH_HIST : Fld := ⟨17, 1⟩
def LOST : Fld := ⟨18, 14⟩
def desc : RegDesc := ⟨0x6004, 8, 0x10, 1, 0x0,
  [fd 0 14 .ro 0, fd 14 1 .w1c 0, fd 15 1 .w1c 0, fd 16 1 .w1c 0, fd 17 1 .w1c 0, fd 18 14 .cnt 0]⟩

end SYS_QSTAT

namespace ETH_CFG

/-- ETH_CFG, Table 09-11 of 09_packet_mapping_and_queues.md. -/
def key (i : Nat) : Nat := 0x4200040 + i * 0x1000
def FC_MODE : Fld := ⟨0, 2⟩
def RX_FC_EN : Fld := ⟨2, 1⟩
def FAULT_PROP : Fld := ⟨3, 1⟩
def TPID_SEL : Fld := ⟨4, 2⟩
def DEFAULT_PCP : Fld := ⟨6, 3⟩
def MTU : Fld := ⟨10, 14⟩
def desc : RegDesc := ⟨0x4200040, 96, 0x1000, 1, 0x0,
  [fd 0 2 .rw 0, fd 2 1 .rw 1, fd 3 1 .rw 0, fd 4 2 .rw 0, fd 6 3 .rw 0, fd 10 14 .rw 1522]⟩

end ETH_CFG

namespace ETH_STATUS

/-- ETH_STATUS, Table 09-12 of 09_packet_mapping_and_queues.md. -/
def key (i : Nat) : Nat := 0x4200044 + i * 0x1000
def BLOCK_LOCK : Fld := ⟨0, 1⟩
def HI_BER : Fld := ⟨1, 1⟩
def LOCAL_FAULT : Fld := ⟨2, 1⟩
def REMOTE_FAULT : Fld := ⟨3, 1⟩
def HIST : Fld := ⟨4, 4⟩
def TX_PAUSED : Fld := ⟨16, 8⟩
def RX_PAUSED : Fld := ⟨24, 8⟩
def desc : RegDesc := ⟨0x4200044, 96, 0x1000, 1, 0x0,
  [fd 0 1 .ro 0, fd 1 1 .ro 0, fd 2 1 .ro 0, fd 3 1 .ro 0, fd 4 4 .w1c 0, fd 16 8 .ro 0, fd 24 8 .ro 0]⟩

end ETH_STATUS

namespace ETH_FC

/-- ETH_FC, Table 09-12 of 09_packet_mapping_and_queues.md. -/
def key (i : Nat) : Nat := 0x4200048 + i * 0x1000
def PAUSE_QUANTA : Fld := ⟨0, 16⟩
def desc : RegDesc := ⟨0x4200048, 96, 0x1000, 1, 0x0,
  [fd 0 16 .rw 65535]⟩

end ETH_FC

namespace PKT_PFC

/-- PKT_PFC_e_p of engine PE2m, Table 09-13 of 09_packet_mapping_and_queues.md. -/
def key (i j : Nat) : Nat := 0x100200 + i * 0x40000 + j * 0x4
def XOFF_US : Fld := ⟨0, 12⟩
def XON_US : Fld := ⟨12, 12⟩
def desc : RegDesc := ⟨0x100200, 4, 0x40000, 8, 0x4,
  [fd 0 12 .rw 400, fd 12 12 .rw 200]⟩

end PKT_PFC

namespace PKT_PFC1

/-- PKT_PFC_e_p of engine PE2m+1, Table 09-13 of 09_packet_mapping_and_queues.md. -/
def key (i j : Nat) : Nat := 0x100240 + i * 0x40000 + j * 0x4
def desc : RegDesc := ⟨0x100240, 4, 0x40000, 8, 0x4,
  [fd 0 12 .rw 400, fd 12 12 .rw 200]⟩

end PKT_PFC1

namespace GRT_SLICE_STATUS

/-- GRT_SLICE_STATUS, Table 10-12 of 10_grate_and_stoker.md. -/
def key (i : Nat) : Nat := 0x7000 + i * 0x10
def FREE : Fld := ⟨0, 14⟩
def LARGEST_RUN : Fld := ⟨14, 14⟩
def ISOLATED : Fld := ⟨28, 1⟩
def DEFRAG : Fld := ⟨29, 1⟩
def PARITY_HIST : Fld := ⟨30, 1⟩
def desc : RegDesc := ⟨0x7000, 4, 0x10, 1, 0x0,
  [fd 0 14 .ro 12288, fd 14 14 .ro 12288, fd 28 1 .ro 0, fd 29 1 .ro 0, fd 30 1 .w1c 0]⟩

end GRT_SLICE_STATUS

namespace GRT_SLICE_CFG

/-- GRT_SLICE_CFG, Table 10-13 of 10_grate_and_stoker.md. -/
def key (i : Nat) : Nat := 0x7004 + i * 0x10
def RESERVE : Fld := ⟨0, 14⟩
def AUTO_DEFRAG : Fld := ⟨14, 1⟩
def MOVES : Fld := ⟨16, 4⟩
def desc : RegDesc := ⟨0x7004, 4, 0x10, 1, 0x0,
  [fd 0 14 .rw 64, fd 14 1 .rw 1, fd 16 4 .rw 4]⟩

end GRT_SLICE_CFG

namespace GRT_SLICE_RETIRED

/-- GRT_SLICE_RETIRED, Table 10-14 of 10_grate_and_stoker.md. -/
def key (i : Nat) : Nat := 0x7008 + i * 0x10
def RETIRED : Fld := ⟨0, 14⟩
def HOST_OWNED : Fld := ⟨14, 14⟩
def desc : RegDesc := ⟨0x7008, 4, 0x10, 1, 0x0,
  [fd 0 14 .ro 0, fd 14 14 .ro 0]⟩

end GRT_SLICE_RETIRED

namespace STK_POOL

/-- STK_POOL, Table 10-15 of 10_grate_and_stoker.md. -/
def key (i : Nat) : Nat := 0x7100 + i * 0x4
def BANKS : Fld := ⟨0, 9⟩
def ALLOCATED : Fld := ⟨9, 13⟩
def RESIZING : Fld := ⟨22, 1⟩
def desc : RegDesc := ⟨0x7100, 8, 0x4, 1, 0x0,
  [fd 0 9 .ro 0, fd 9 13 .ro 0, fd 22 1 .ro 0]⟩

end STK_POOL

namespace STK_STATUS

/-- STK_STATUS, Table 10-16 of 10_grate_and_stoker.md. -/
def key : Nat := 0x7120
def LAST_SCARCE : Fld := ⟨0, 8⟩
def MOVES_ACTIVE : Fld := ⟨8, 6⟩
def CONNS : Fld := ⟨16, 16⟩
def desc : RegDesc := ⟨0x7120, 1, 0x0, 1, 0x0,
  [fd 0 8 .ro 0, fd 8 6 .ro 0, fd 16 16 .ro 0]⟩

end STK_STATUS

namespace STK_HIST

/-- STK_HIST, Table 10-17 of 10_grate_and_stoker.md. -/
def key : Nat := 0x7124
def NO_RES_HIST : Fld := ⟨0, 1⟩
def MOVE_SUPERSEDED_HIST : Fld := ⟨1, 1⟩
def MOVE_WAIT_HIST : Fld := ⟨2, 1⟩
def desc : RegDesc := ⟨0x7124, 1, 0x0, 1, 0x0,
  [fd 0 1 .w1c 0, fd 1 1 .w1c 0, fd 2 1 .w1c 0]⟩

end STK_HIST

namespace PRT_DAMPER

/-- PRT_DAMPER, Table 11-12 of 11_defects_and_performance.md. -/
def key (i : Nat) : Nat := 0x200004 + i * 0x1000
def RDI_DIS : Fld := ⟨0, 1⟩
def REI_DIS : Fld := ⟨1, 1⟩
def SQUELCH_ON_FAIL : Fld := ⟨2, 1⟩
def desc : RegDesc := ⟨0x200004, 96, 0x1000, 1, 0x0,
  [fd 0 1 .rw 0, fd 1 1 .rw 0, fd 2 1 .rw 0]⟩

end PRT_DAMPER

namespace PRT_CNT_CFG

/-- PRT_CNT_CFG, Table 11-13 of 11_defects_and_performance.md. -/
def key (i : Nat) : Nat := 0x20001C + i * 0x1000
def WRAP_MODE : Fld := ⟨0, 4⟩
def desc : RegDesc := ⟨0x20001C, 96, 0x1000, 1, 0x0,
  [fd 0 4 .rw 0]⟩

end PRT_CNT_CFG

namespace PRT_CNT_LO

/-- PRT_CNT_LO, Table 11-14 of 11_defects_and_performance.md. -/
def key (i j : Nat) : Nat := 0x200020 + i * 0x1000 + j * 0x8
def VALUE_LO : Fld := ⟨0, 32⟩
def desc : RegDesc := ⟨0x200020, 96, 0x1000, 4, 0x8,
  [fd 0 32 .cnt 0]⟩

end PRT_CNT_LO

namespace PRT_CNT_HI

/-- PRT_CNT_HI, Table 11-14 of 11_defects_and_performance.md. -/
def key (i j : Nat) : Nat := 0x200024 + i * 0x1000 + j * 0x8
def VALUE_HI : Fld := ⟨0, 16⟩
def OVF : Fld := ⟨16, 1⟩
def WRAP : Fld := ⟨17, 4⟩
def desc : RegDesc := ⟨0x200024, 96, 0x1000, 4, 0x8,
  [fd 0 16 .ro 0, fd 16 1 .w1c 0, fd 17 4 .ro 0]⟩

end PRT_CNT_HI

namespace SYS_CNT_MODE

/-- SYS_CNT_MODE, Table 11-15 of 11_defects_and_performance.md. -/
def key : Nat := 0x8000
def WRAP_KIND : Fld := ⟨1, 8⟩
def desc : RegDesc := ⟨0x8000, 1, 0x0, 1, 0x0,
  [fd 1 8 .rw 0]⟩

end SYS_CNT_MODE

namespace SYS_PM_STATUS

/-- SYS_PM_STATUS, Table 11-15 of 11_defects_and_performance.md. -/
def key : Nat := 0x8004
def SECOND : Fld := ⟨0, 10⟩
def QUARTER : Fld := ⟨10, 7⟩
def desc : RegDesc := ⟨0x8004, 1, 0x0, 1, 0x0,
  [fd 0 10 .ro 0, fd 10 7 .ro 0]⟩

end SYS_PM_STATUS

namespace SYS_SNAP_STATUS

/-- SYS_SNAP_STATUS, Table 11-15 of 11_defects_and_performance.md. -/
def key : Nat := 0x8008
def SET_VALID : Fld := ⟨0, 16⟩
def CARRIED_HIST : Fld := ⟨16, 1⟩
def desc : RegDesc := ⟨0x8008, 1, 0x0, 1, 0x0,
  [fd 0 16 .ro 0, fd 16 1 .w1c 0]⟩

end SYS_SNAP_STATUS

namespace CLM_CFG

/-- CLM_CFG, Table 12-12 of 12_protection_and_claims.md. -/
def key : Nat := 0x9000
def RANK : Fld := ⟨0, 4⟩
def PAIR_EN : Fld := ⟨4, 1⟩
def PINS_EN : Fld := ⟨5, 1⟩
def CHANNEL_OVERRIDE : Fld := ⟨6, 2⟩
def DISC : Fld := ⟨8, 8⟩
def MATE_HOLD : Fld := ⟨16, 7⟩
def MIN_GRADE : Fld := ⟨23, 3⟩
def DROP_ON_ISOLATE : Fld := ⟨26, 1⟩
def desc : RegDesc := ⟨0x9000, 1, 0x0, 1, 0x0,
  [fd 0 4 .rw 0, fd 4 1 .rw 0, fd 5 1 .rw 1, fd 6 2 .rw 0, fd 8 8 .rw 16, fd 16 7 .rw 10, fd 23 3 .rw 1, fd 26 1 .rw 1]⟩

end CLM_CFG

namespace CLM_CFG2

/-- CLM_CFG2, Table 12-13 of 12_protection_and_claims.md. -/
def key : Nat := 0x9004
def WTR : Fld := ⟨0, 10⟩
def HANDOVER_LEAD : Fld := ⟨16, 8⟩
def desc : RegDesc := ⟨0x9004, 1, 0x0, 1, 0x0,
  [fd 0 10 .rw 300, fd 16 8 .rw 64]⟩

end CLM_CFG2

namespace CLM_CHIMNEY

/-- CLM_CHIMNEY, Table 12-13 of 12_protection_and_claims.md. -/
def key : Nat := 0x9008
def CHIM0 : Fld := ⟨0, 7⟩
def CHIM0_EN : Fld := ⟨7, 1⟩
def CHIM1 : Fld := ⟨8, 7⟩
def CHIM1_EN : Fld := ⟨15, 1⟩
def ROLE_GPIO : Fld := ⟨16, 3⟩
def ROLE_EN : Fld := ⟨19, 1⟩
def MATE_ADDR : Fld := ⟨20, 10⟩
def desc : RegDesc := ⟨0x9008, 1, 0x0, 1, 0x0,
  [fd 0 7 .rw 0, fd 7 1 .rw 0, fd 8 7 .rw 0, fd 15 1 .rw 0, fd 16 3 .rw 0, fd 19 1 .rw 0, fd 20 10 .rw 0]⟩

end CLM_CHIMNEY

namespace CLM_STATUS

/-- CLM_STATUS, Table 12-15 of 12_protection_and_claims.md. -/
def key : Nat := 0x900C
def OWN_CLAIM : Fld := ⟨0, 16⟩
def ROLE : Fld := ⟨16, 2⟩
def ELIGIBLE : Fld := ⟨18, 1⟩
def MIRROR_SYNCED : Fld := ⟨19, 1⟩
def CHIMNEY_DOWN : Fld := ⟨20, 1⟩
def PINS_LOST : Fld := ⟨21, 1⟩
def DISCREPANCY : Fld := ⟨22, 1⟩
def HANDOVER_PENDING : Fld := ⟨23, 1⟩
def HIST : Fld := ⟨24, 6⟩
def desc : RegDesc := ⟨0x900C, 1, 0x0, 1, 0x0,
  [fd 0 16 .ro 0, fd 16 2 .ro 0, fd 18 1 .ro 0, fd 19 1 .ro 0, fd 20 1 .ro 1, fd 21 1 .ro 1, fd 22 1 .ro 0, fd 23 1 .ro 0, fd 24 6 .w1c 0]⟩

end CLM_STATUS

namespace CLM_MATE

/-- CLM_MATE, Table 12-16 of 12_protection_and_claims.md. -/
def key : Nat := 0x9010
def CHIMNEY_CLAIM : Fld := ⟨0, 16⟩
def PIN_CLAIM : Fld := ⟨16, 16⟩
def desc : RegDesc := ⟨0x9010, 1, 0x0, 1, 0x0,
  [fd 0 16 .ro 0, fd 16 16 .ro 0]⟩

end CLM_MATE

namespace CLM_MATE_IN_FORCE

/-- CLM_MATE_IN_FORCE, Table 12-16 of 12_protection_and_claims.md. -/
def key : Nat := 0x9014
def MATE_CLAIM : Fld := ⟨0, 16⟩
def MATE_ADDR_RX : Fld := ⟨16, 10⟩
def desc : RegDesc := ⟨0x9014, 1, 0x0, 1, 0x0,
  [fd 0 16 .ro 0, fd 16 10 .ro 0]⟩

end CLM_MATE_IN_FORCE

namespace DPL_CFG

/-- DPL_CFG, Table 13-11 of 13_timing_and_clocks.md. -/
def key : Nat := 0xA000
def SELECTED : Fld := ⟨0, 4⟩
def OSC_TYPE : Fld := ⟨4, 2⟩
def QL_EN : Fld := ⟨6, 1⟩
def HIST_WIN : Fld := ⟨8, 6⟩
def ALIGN_TOL : Fld := ⟨16, 8⟩
def desc : RegDesc := ⟨0xA000, 1, 0x0, 1, 0x0,
  [fd 0 4 .rw 12, fd 4 2 .rw 0, fd 6 1 .rw 0, fd 8 6 .rw 10, fd 16 8 .rw 10]⟩

end DPL_CFG

namespace DPL_STATUS

/-- DPL_STATUS, Table 13-12 of 13_timing_and_clocks.md. -/
def key : Nat := 0xA004
def STATE : Fld := ⟨0, 2⟩
def IN_USE : Fld := ⟨2, 4⟩
def B_IN_SERVICE : Fld := ⟨6, 1⟩
def HIST_VALID : Fld := ⟨7, 1⟩
def STATE_HIST : Fld := ⟨8, 4⟩
def DIVERGED_HIST : Fld := ⟨12, 1⟩
def TAKEOVER_HIST : Fld := ⟨13, 1⟩
def FRAME_MISALIGNED : Fld := ⟨14, 1⟩
def ALIGNING : Fld := ⟨15, 1⟩
def RANK_OUT : Fld := ⟨16, 4⟩
def BW_STEP : Fld := ⟨20, 3⟩
def desc : RegDesc := ⟨0xA004, 1, 0x0, 1, 0x0,
  [fd 0 2 .ro 0, fd 2 4 .ro 12, fd 6 1 .ro 0, fd 7 1 .ro 0, fd 8 4 .w1c 1, fd 12 1 .w1c 0, fd 13 1 .w1c 0, fd 14 1 .ro 0, fd 15 1 .ro 0, fd 16 4 .ro 8, fd 20 3 .ro 0]⟩

end DPL_STATUS

namespace DPL_FRAME_OFFSET

/-- DPL_FRAME_OFFSET, Table 13-13 of 13_timing_and_clocks.md. -/
def key : Nat := 0xA008
def OFFSET : Fld := ⟨0, 32⟩
def desc : RegDesc := ⟨0xA008, 1, 0x0, 1, 0x0,
  [fd 0 32 .ro 0]⟩

end DPL_FRAME_OFFSET

namespace DPL_REF_CFG

/-- DPL_REF_CFG, Table 13-14 of 13_timing_and_clocks.md. -/
def key (i : Nat) : Nat := 0xA040 + i * 0x4
def PRIORITY : Fld := ⟨0, 4⟩
def QL : Fld := ⟨4, 4⟩
def QL_OVR : Fld := ⟨8, 1⟩
def WTR : Fld := ⟨9, 10⟩
def SOURCE : Fld := ⟨19, 7⟩
def FREQ_LIM : Fld := ⟨26, 6⟩
def desc : RegDesc := ⟨0xA040, 12, 0x4, 1, 0x0,
  [fd 0 4 .rw 0, fd 4 4 .rw 8, fd 8 1 .rw 0, fd 9 10 .rw 300, fd 19 7 .rw 0, fd 26 6 .rw 12]⟩

end DPL_REF_CFG

namespace DPL_PAIR_CFG

/-- DPL_PAIR_CFG, Table 13-15 of 13_timing_and_clocks.md. -/
def key (i : Nat) : Nat := 0xA0C0 + i * 0x4
def DISC : Fld := ⟨0, 8⟩
def PAIR_WIN : Fld := ⟨8, 8⟩
def FEED_OVERRIDE : Fld := ⟨16, 2⟩
def desc : RegDesc := ⟨0xA0C0, 4, 0x4, 1, 0x0,
  [fd 0 8 .rw 16, fd 8 8 .rw 20, fd 16 2 .rw 0]⟩

end DPL_PAIR_CFG

namespace DPL_REF_STATUS

/-- DPL_REF_STATUS, Table 13-16 of 13_timing_and_clocks.md. -/
def key (i : Nat) : Nat := 0xA080 + i * 0x4
def FAILED : Fld := ⟨0, 1⟩
def QUALIFIED : Fld := ⟨1, 1⟩
def WTR_RUNNING : Fld := ⟨2, 1⟩
def FEED_B : Fld := ⟨3, 1⟩
def DISCREPANCY : Fld := ⟨4, 1⟩
def FAIL_CAUSE : Fld := ⟨5, 3⟩
def RANK : Fld := ⟨8, 4⟩
def HIST : Fld := ⟨12, 2⟩
def WTR_LEFT : Fld := ⟨16, 10⟩
def desc : RegDesc := ⟨0xA080, 12, 0x4, 1, 0x0,
  [fd 0 1 .ro 1, fd 1 1 .ro 0, fd 2 1 .ro 0, fd 3 1 .ro 0, fd 4 1 .ro 0, fd 5 3 .ro 0, fd 8 4 .ro 8, fd 12 2 .w1c 0, fd 16 10 .ro 0]⟩

end DPL_REF_STATUS

namespace DPL_CLKOUT

/-- DPL_CLKOUT, Table 13-17 of 13_timing_and_clocks.md. -/
def key (i : Nat) : Nat := 0xA100 + i * 0x4
def FREQ_KHZ : Fld := ⟨0, 18⟩
def FORMAT : Fld := ⟨18, 2⟩
def ENABLE : Fld := ⟨20, 1⟩
def SRC : Fld := ⟨21, 1⟩
def SQUELCH_FREE : Fld := ⟨22, 1⟩
def desc : RegDesc := ⟨0xA100, 8, 0x4, 1, 0x0,
  [fd 0 18 .rw 0, fd 18 2 .rw 0, fd 20 1 .rw 0, fd 21 1 .rw 0, fd 22 1 .rw 1]⟩

end DPL_CLKOUT

namespace DPL_FPOUT

/-- DPL_FPOUT, Table 13-17 of 13_timing_and_clocks.md. -/
def key (i : Nat) : Nat := 0xA140 + i * 0x4
def OFFSET : Fld := ⟨0, 17⟩
def ENABLE : Fld := ⟨17, 1⟩
def OPEN_DRAIN : Fld := ⟨18, 1⟩
def SECOND_MARK : Fld := ⟨19, 1⟩
def desc : RegDesc := ⟨0xA140, 4, 0x4, 1, 0x0,
  [fd 0 17 .rw 0, fd 17 1 .rw 0, fd 18 1 .rw 0, fd 19 1 .rw 1]⟩

end DPL_FPOUT

namespace SYN_STATUS

/-- SYN_STATUS, Table 13-18 of 13_timing_and_clocks.md. -/
def key : Nat := 0xA200
def LOCK : Fld := ⟨0, 6⟩
def BYPASS : Fld := ⟨6, 6⟩
def LOL_HIST : Fld := ⟨12, 6⟩
def REF_LOSS_HIST : Fld := ⟨18, 6⟩
def desc : RegDesc := ⟨0xA200, 1, 0x0, 1, 0x0,
  [fd 0 6 .ro 0, fd 6 6 .ro 63, fd 12 6 .w1c 0, fd 18 6 .w1c 0]⟩

end SYN_STATUS

namespace SYN_SS_CFG

/-- SYN_SS_CFG, Table 13-18 of 13_timing_and_clocks.md. -/
def key : Nat := 0xA204
def SS_MODE : Fld := ⟨0, 2⟩
def SS_DEPTH : Fld := ⟨2, 4⟩
def desc : RegDesc := ⟨0xA204, 1, 0x0, 1, 0x0,
  [fd 0 2 .rw 0, fd 2 4 .rw 0]⟩

end SYN_SS_CFG

namespace CMD_CFG

/-- CMD_CFG, Table 14-11 of 14_command_protocol.md. -/
def key : Nat := 0xB000
def CLAIM_M0 : Fld := ⟨0, 4⟩
def CLAIM_M1 : Fld := ⟨4, 4⟩
def MASTER_TIMEOUT : Fld := ⟨8, 8⟩
def DEF_TIMEOUT : Fld := ⟨16, 16⟩
def desc : RegDesc := ⟨0xB000, 1, 0x0, 1, 0x0,
  [fd 0 4 .ro 2, fd 4 4 .ro 1, fd 8 8 .rw 10, fd 16 16 .rw 8000]⟩

end CMD_CFG

namespace CMD_STATUS

/-- CMD_STATUS, Table 14-12 of 14_command_protocol.md. -/
def key : Nat := 0xB004
def EXPERT_M0 : Fld := ⟨0, 1⟩
def EXPERT_M1 : Fld := ⟨1, 1⟩
def EXPERT_MODE : Fld := ⟨2, 1⟩
def ABSENT_M0 : Fld := ⟨3, 1⟩
def ABSENT_M1 : Fld := ⟨4, 1⟩
def RESTARTING : Fld := ⟨5, 1⟩
def INBUF_M0 : Fld := ⟨6, 6⟩
def INBUF_M1 : Fld := ⟨12, 6⟩
def BAD_CHECK_HIST : Fld := ⟨18, 1⟩
def REPLAY_HIST : Fld := ⟨19, 1⟩
def TIMEOUT_HIST : Fld := ⟨20, 1⟩
def REPLY_LOST_HIST : Fld := ⟨21, 1⟩
def desc : RegDesc := ⟨0xB004, 1, 0x0, 1, 0x0,
  [fd 0 1 .ro 0, fd 1 1 .ro 0, fd 2 1 .ro 0, fd 3 1 .ro 1, fd 4 1 .ro 1, fd 5 1 .ro 0, fd 6 6 .ro 0, fd 12 6 .ro 0, fd 18 1 .w1c 0, fd 19 1 .w1c 0, fd 20 1 .w1c 0, fd 21 1 .w1c 0]⟩

end CMD_STATUS

namespace CMD_SEQ

/-- CMD_SEQ, Table 14-13 of 14_command_protocol.md. -/
def key (i : Nat) : Nat := 0xB008 + i * 0x4
def HIGH : Fld := ⟨0, 16⟩
def VALID : Fld := ⟨16, 1⟩
def desc : RegDesc := ⟨0xB008, 2, 0x4, 1, 0x0,
  [fd 0 16 .ro 0, fd 16 1 .ro 0]⟩

end CMD_SEQ

namespace CMD_ERR_CNT

/-- CMD_ERR_CNT, Table 14-13 of 14_command_protocol.md. -/
def key : Nat := 0xB010
def BAD_CHECKS : Fld := ⟨0, 16⟩
def REPLAYS : Fld := ⟨16, 16⟩
def desc : RegDesc := ⟨0xB010, 1, 0x0, 1, 0x0,
  [fd 0 16 .cnt 0, fd 16 16 .cnt 0]⟩

end CMD_ERR_CNT

namespace CMD_TX

/-- CMD_TX, Table 14-14 of 14_command_protocol.md. -/
def key (i : Nat) : Nat := 0xB020 + i * 0x4
def LENGTH : Fld := ⟨0, 13⟩
def GO : Fld := ⟨13, 1⟩
def FULL : Fld := ⟨14, 1⟩
def desc : RegDesc := ⟨0xB020, 2, 0x4, 1, 0x0,
  [fd 0 13 .rw 0, fd 13 1 .sc 0, fd 14 1 .ro 0]⟩

end CMD_TX

namespace FLU_STATUS

/-- FLU_STATUS, Table 15-6 of 15_flue_ring_and_discovery.md. -/
def key : Nat := 0xE000
def ADDR : Fld := ⟨0, 10⟩
def ADDR_VALID : Fld := ⟨10, 1⟩
def ROOT : Fld := ⟨11, 1⟩
def GATEWAY : Fld := ⟨12, 1⟩
def WEST_UP : Fld := ⟨13, 1⟩
def EAST_UP : Fld := ⟨14, 1⟩
def WRAP_W : Fld := ⟨15, 1⟩
def WRAP_E : Fld := ⟨16, 1⟩
def HOP : Fld := ⟨17, 6⟩
def HIST : Fld := ⟨24, 5⟩
def desc : RegDesc := ⟨0xE000, 1, 0x0, 1, 0x0,
  [fd 0 10 .ro 0, fd 10 1 .ro 0, fd 11 1 .ro 0, fd 12 1 .ro 0, fd 13 1 .ro 0, fd 14 1 .ro 0, fd 15 1 .ro 0, fd 16 1 .ro 0, fd 17 6 .ro 0, fd 24 5 .w1c 0]⟩

end FLU_STATUS

namespace FLU_CFG

/-- FLU_CFG, Table 15-7 of 15_flue_ring_and_discovery.md. -/
def key : Nat := 0xE004
def UNWRAP_HOLD : Fld := ⟨0, 8⟩
def desc : RegDesc := ⟨0xE004, 1, 0x0, 1, 0x0,
  [fd 0 8 .rw 10]⟩

end FLU_CFG

namespace FLU_DELAY

/-- FLU_DELAY, Table 15-7 of 15_flue_ring_and_discovery.md. -/
def key : Nat := 0xE008
def LINK_W : Fld := ⟨0, 16⟩
def LINK_E : Fld := ⟨16, 16⟩
def desc : RegDesc := ⟨0xE008, 1, 0x0, 1, 0x0,
  [fd 0 16 .ro 0, fd 16 16 .ro 0]⟩

end FLU_DELAY

namespace FLU_CUM_DELAY

/-- FLU_CUM_DELAY, Table 15-7 of 15_flue_ring_and_discovery.md. -/
def key : Nat := 0xE00C
def CUM_DELAY : Fld := ⟨0, 32⟩
def desc : RegDesc := ⟨0xE00C, 1, 0x0, 1, 0x0,
  [fd 0 32 .ro 0]⟩

end FLU_CUM_DELAY

namespace FLU_ERR_CNT

/-- FLU_ERR_CNT, Table 15-8 of 15_flue_ring_and_discovery.md. -/
def key : Nat := 0xE010
def HDR_ERR : Fld := ⟨0, 16⟩
def PKT_ERR : Fld := ⟨16, 16⟩
def desc : RegDesc := ⟨0xE010, 1, 0x0, 1, 0x0,
  [fd 0 16 .cnt 0, fd 16 16 .cnt 0]⟩

end FLU_ERR_CNT

namespace FLU_MEMBERS

/-- FLU_MEMBERS, Table 15-8 of 15_flue_ring_and_discovery.md. -/
def key (i : Nat) : Nat := 0xE018 + i * 0x4
def PRESENT : Fld := ⟨0, 32⟩
def desc : RegDesc := ⟨0xE018, 2, 0x4, 1, 0x0,
  [fd 0 32 .ro 0]⟩

end FLU_MEMBERS

namespace EVT_LIVE

/-- EVT_LIVE, Table 16-7 of 16_events_and_interrupts.md. -/
def key (i : Nat) : Nat := 0xF000 + i * 0x4
def LIVE : Fld := ⟨0, 32⟩
def desc : RegDesc := ⟨0xF000, 12, 0x4, 1, 0x0,
  [fd 0 32 .ro 0]⟩

end EVT_LIVE

namespace EVT_STICKY

/-- EVT_STICKY, Table 16-8 of 16_events_and_interrupts.md. -/
def key (i j : Nat) : Nat := 0xF040 + i * 0x40 + j * 0x4
def STICKY : Fld := ⟨0, 32⟩
def desc : RegDesc := ⟨0xF040, 2, 0x40, 12, 0x4,
  [fd 0 32 .w1c 0]⟩

end EVT_STICKY

namespace EVT_MASK

/-- EVT_MASK, Table 16-8 of 16_events_and_interrupts.md. -/
def key (i j : Nat) : Nat := 0xF100 + i * 0x40 + j * 0x4
def MASK : Fld := ⟨0, 32⟩
def desc : RegDesc := ⟨0xF100, 2, 0x40, 12, 0x4,
  [fd 0 32 .rw 0]⟩

end EVT_MASK

namespace EVT_CTRL

/-- EVT_CTRL, Table 16-9 of 16_events_and_interrupts.md. -/
def key (i : Nat) : Nat := 0xF180 + i * 0x4
def INT_EN : Fld := ⟨0, 1⟩
def MSI_EN : Fld := ⟨1, 1⟩
def QUEUE_EN : Fld := ⟨2, 1⟩
def CLEARS : Fld := ⟨3, 1⟩
def BURST : Fld := ⟨4, 5⟩
def REARM : Fld := ⟨15, 1⟩
def MSI_GAP : Fld := ⟨16, 8⟩
def desc : RegDesc := ⟨0xF180, 2, 0x4, 1, 0x0,
  [fd 0 1 .rw 0, fd 1 1 .rw 0, fd 2 1 .rw 1, fd 3 1 .rw 1, fd 4 5 .rw 16, fd 15 1 .sc 0, fd 16 8 .rw 8]⟩

end EVT_CTRL

namespace EVT_STATUS

/-- EVT_STATUS, Table 16-10 of 16_events_and_interrupts.md. -/
def key (i : Nat) : Nat := 0xF190 + i * 0x4
def PENDING : Fld := ⟨0, 1⟩
def INT_ASSERTED : Fld := ⟨1, 1⟩
def LOWEST : Fld := ⟨2, 9⟩
def COALESCED_HIST : Fld := ⟨11, 1⟩
def RING_HIST : Fld := ⟨12, 1⟩
def desc : RegDesc := ⟨0xF190, 2, 0x4, 1, 0x0,
  [fd 0 1 .ro 0, fd 1 1 .ro 0, fd 2 9 .ro 511, fd 11 1 .w1c 0, fd 12 1 .w1c 0]⟩

end EVT_STATUS

namespace EVT_RING_STATUS

/-- EVT_RING_STATUS, Table 16-11 of 16_events_and_interrupts.md. -/
def key : Nat := 0xF1A0
def FILL : Fld := ⟨0, 11⟩
def LOST : Fld := ⟨16, 16⟩
def desc : RegDesc := ⟨0xF1A0, 1, 0x0, 1, 0x0,
  [fd 0 11 .ro 0, fd 16 16 .cnt 0]⟩

end EVT_RING_STATUS

namespace BUS_STATUS

/-- BUS_STATUS, Table 17-13 of 17_registers_bus_and_check_units.md. -/
def key : Nat := 0x10004
def FAULT_HIST : Fld := ⟨0, 1⟩
def WRITE_COLLIDED : Fld := ⟨1, 1⟩
def DOMAIN_DOWN_HIST : Fld := ⟨2, 1⟩
def desc : RegDesc := ⟨0x10004, 1, 0x0, 1, 0x0,
  [fd 0 1 .w1c 0, fd 1 1 .w1c 0, fd 2 1 .w1c 0]⟩

end BUS_STATUS

namespace BUS_FAULT_INFO

/-- BUS_FAULT_INFO, Table 17-14 of 17_registers_bus_and_check_units.md. -/
def key : Nat := 0x1000C
def CAUSE : Fld := ⟨0, 3⟩
def MASTER : Fld := ⟨3, 3⟩
def TARGET : Fld := ⟨6, 4⟩
def WRITE : Fld := ⟨10, 1⟩
def FUNCTION : Fld := ⟨11, 1⟩
def desc : RegDesc := ⟨0x1000C, 1, 0x0, 1, 0x0,
  [fd 0 3 .ro 0, fd 3 3 .ro 0, fd 6 4 .ro 0, fd 10 1 .ro 0, fd 11 1 .ro 0]⟩

end BUS_FAULT_INFO

namespace BUS_WIN_CTRL

/-- BUS_WIN_CTRL, Table 17-15 of 17_registers_bus_and_check_units.md. -/
def key (i : Nat) : Nat := 0x1010C + i * 0x10
def TARGET : Fld := ⟨0, 4⟩
def RD_F0 : Fld := ⟨4, 1⟩
def WR_F0 : Fld := ⟨5, 1⟩
def RD_F1 : Fld := ⟨6, 1⟩
def WR_F1 : Fld := ⟨7, 1⟩
def desc : RegDesc := ⟨0x1010C, 16, 0x10, 1, 0x0,
  [fd 0 4 .rw 0, fd 4 1 .rw 0, fd 5 1 .rw 0, fd 6 1 .rw 0, fd 7 1 .rw 0]⟩

end BUS_WIN_CTRL

namespace CVU_P

/-- CVU_P, Table 17-16 of 17_registers_bus_and_check_units.md. -/
def key (i : Nat) : Nat := 0x11000 + i * 0x4
def USE : Fld := ⟨0, 2⟩
def PORT : Fld := ⟨2, 7⟩
def FAIL_HIST : Fld := ⟨9, 1⟩
def FAILS : Fld := ⟨16, 16⟩
def desc : RegDesc := ⟨0x11000, 112, 0x4, 1, 0x0,
  [fd 0 2 .ro 0, fd 2 7 .ro 127, fd 9 1 .w1c 0, fd 16 16 .cnt 0]⟩

end CVU_P

namespace CVU_S_CFG

/-- CVU_S_CFG, Table 17-17 of 17_registers_bus_and_check_units.md. -/
def key (i : Nat) : Nat := 0x11200 + i * 0x20
def WIDTH : Fld := ⟨0, 6⟩
def REFIN : Fld := ⟨6, 1⟩
def REFOUT : Fld := ⟨7, 1⟩
def XOROUT : Fld := ⟨8, 1⟩
def FOLD_MODE : Fld := ⟨9, 2⟩
def SEQ_OFFSET : Fld := ⟨11, 12⟩
def START : Fld := ⟨23, 1⟩
def LAST_BYTES : Fld := ⟨24, 2⟩
def desc : RegDesc := ⟨0x11200, 16, 0x20, 1, 0x0,
  [fd 0 6 .rw 32, fd 6 1 .rw 0, fd 7 1 .rw 0, fd 8 1 .rw 0, fd 9 2 .rw 0, fd 11 12 .rw 0, fd 23 1 .sc 0, fd 24 2 .rwh 0]⟩

end CVU_S_CFG

namespace PRT_BANK_STATUS

/-- PRT_BANK_STATUS, Table 17-7 of 17_registers_bus_and_check_units.md. -/
def key (i : Nat) : Nat := 0x20000C + i * 0x1000
def WRITE_COLLIDED : Fld := ⟨0, 1⟩
def DOMAIN_DOWN : Fld := ⟨1, 1⟩
def desc : RegDesc := ⟨0x20000C, 96, 0x1000, 1, 0x0,
  [fd 0 1 .w1c 0, fd 1 1 .ro 0]⟩

end PRT_BANK_STATUS

namespace SYS_RG_STATUS

/-- SYS_RG_STATUS, Table 17-7 of 17_registers_bus_and_check_units.md. -/
def key (i : Nat) : Nat := 0x100000 + i * 0x40000
def WRITE_COLLIDED : Fld := ⟨0, 1⟩
def DOMAIN_DOWN : Fld := ⟨1, 1⟩
def desc : RegDesc := ⟨0x100000, 4, 0x40000, 1, 0x0,
  [fd 0 1 .w1c 0, fd 1 1 .ro 0]⟩

end SYS_RG_STATUS

namespace HLT_CFG

/-- HLT_CFG, Table 18-9 of 18_health_spares_and_power.md. -/
def key : Nat := 0x1000
def SMOKE_EN : Fld := ⟨0, 1⟩
def ROUND_GAP : Fld := ⟨1, 7⟩
def SPARE_MIN_GRADE : Fld := ⟨8, 3⟩
def CE_THR : Fld := ⟨12, 8⟩
def EYE_THR : Fld := ⟨20, 7⟩
def desc : RegDesc := ⟨0x1000, 1, 0x0, 1, 0x0,
  [fd 0 1 .rw 1, fd 1 7 .rw 0, fd 8 3 .rw 1, fd 12 8 .rw 16, fd 20 7 .rw 16]⟩

end HLT_CFG

namespace HLT_STATUS

/-- HLT_STATUS, Table 18-10 of 18_health_spares_and_power.md. -/
def key : Nat := 0x1004
def ROUND : Fld := ⟨0, 16⟩
def RUNNING : Fld := ⟨16, 1⟩
def FAILED_HIST : Fld := ⟨17, 1⟩
def POISON_HIST : Fld := ⟨18, 1⟩
def PENDING : Fld := ⟨19, 1⟩
def DEVICE_GRADE : Fld := ⟨20, 4⟩
def CP_GRADE : Fld := ⟨24, 4⟩
def desc : RegDesc := ⟨0x1004, 1, 0x0, 1, 0x0,
  [fd 0 16 .ro 0, fd 16 1 .ro 0, fd 17 1 .w1c 0, fd 18 1 .w1c 0, fd 19 1 .ro 0, fd 20 4 .ro 0, fd 24 4 .ro 0]⟩

end HLT_STATUS

namespace HLT_GRADE_PE

/-- HLT_GRADE_PE, Table 18-11 of 18_health_spares_and_power.md. -/
def key : Nat := 0x1008
def PE : Fld := ⟨0, 32⟩
def desc : RegDesc := ⟨0x1008, 1, 0x0, 1, 0x0,
  [fd 0 32 .ro 0]⟩

end HLT_GRADE_PE

namespace HLT_GRADE_FS

/-- HLT_GRADE_FS, Table 18-11 of 18_health_spares_and_power.md. -/
def key : Nat := 0x100C
def FS : Fld := ⟨0, 16⟩
def desc : RegDesc := ⟨0x100C, 1, 0x0, 1, 0x0,
  [fd 0 16 .ro 0]⟩

end HLT_GRADE_FS

namespace HLT_REPAIR

/-- HLT_REPAIR, Table 18-11 of 18_health_spares_and_power.md. -/
def key : Nat := 0x1010
def REPAIR_GEN : Fld := ⟨0, 16⟩
def ENTRIES : Fld := ⟨16, 16⟩
def desc : RegDesc := ⟨0x1010, 1, 0x0, 1, 0x0,
  [fd 0 16 .ro 0, fd 16 16 .ro 0]⟩

end HLT_REPAIR

namespace HLT_DOMAIN_UP

/-- HLT_DOMAIN_UP, Table 18-12 of 18_health_spares_and_power.md. -/
def key (i : Nat) : Nat := 0x1100 + i * 0x4
def UP : Fld := ⟨0, 32⟩
def desc : RegDesc := ⟨0x1100, 5, 0x4, 1, 0x0,
  [fd 0 32 .ro 0]⟩

end HLT_DOMAIN_UP

namespace HLT_DOMAIN_REJ

/-- HLT_DOMAIN_REJ, Table 18-12 of 18_health_spares_and_power.md. -/
def key (i : Nat) : Nat := 0x1120 + i * 0x4
def REJOINED : Fld := ⟨0, 32⟩
def desc : RegDesc := ⟨0x1120, 5, 0x4, 1, 0x0,
  [fd 0 32 .ro 0]⟩

end HLT_DOMAIN_REJ

namespace OBS_TRACE_CFG

/-- OBS_TRACE_CFG, Table 19-5 of 19_observation.md. -/
def key : Nat := 0x12000
def TRACE_EN : Fld := ⟨0, 1⟩
def CLASS_EN : Fld := ⟨1, 6⟩
def MASTER_EN : Fld := ⟨7, 2⟩
def MODE : Fld := ⟨9, 1⟩
def READOUT_EN : Fld := ⟨10, 1⟩
def RESTART : Fld := ⟨11, 1⟩
def CAP_BYTES : Fld := ⟨12, 9⟩
def desc : RegDesc := ⟨0x12000, 1, 0x0, 1, 0x0,
  [fd 0 1 .rw 0, fd 1 6 .rw 0, fd 7 2 .rw 3, fd 9 1 .rw 0, fd 10 1 .rw 0, fd 11 1 .rw 0, fd 12 9 .rw 64]⟩

end OBS_TRACE_CFG

namespace OBS_TRACE_STATUS

/-- OBS_TRACE_STATUS, Table 19-5 of 19_observation.md. -/
def key : Nat := 0x12004
def FILL : Fld := ⟨0, 21⟩
def FULL_HIST : Fld := ⟨21, 1⟩
def DROP_HIST : Fld := ⟨22, 1⟩
def desc : RegDesc := ⟨0x12004, 1, 0x0, 1, 0x0,
  [fd 0 21 .ro 0, fd 21 1 .w1c 0, fd 22 1 .w1c 0]⟩

end OBS_TRACE_STATUS

namespace OBS_FILT

/-- OBS_FILT, Table 19-6 of 19_observation.md. -/
def key (i : Nat) : Nat := 0x12020 + i * 0x10
def CLASS : Fld := ⟨0, 3⟩
def PRIV : Fld := ⟨3, 2⟩
def BUS_MASTERS : Fld := ⟨5, 6⟩
def CMD_MASTERS : Fld := ⟨11, 2⟩
def ADDR_EN : Fld := ⟨13, 1⟩
def desc : RegDesc := ⟨0x12020, 8, 0x10, 1, 0x0,
  [fd 0 3 .rw 0, fd 3 2 .rw 0, fd 5 6 .rw 63, fd 11 2 .rw 3, fd 13 1 .rw 0]⟩

end OBS_FILT

namespace OBS_ADDR_LO

/-- OBS_ADDR_LO, Table 19-6 of 19_observation.md. -/
def key (i : Nat) : Nat := 0x12024 + i * 0x10
def ADDR : Fld := ⟨0, 32⟩
def desc : RegDesc := ⟨0x12024, 8, 0x10, 1, 0x0,
  [fd 0 32 .rw 0]⟩

end OBS_ADDR_LO

namespace OBS_ADDR_HI

/-- OBS_ADDR_HI, Table 19-6 of 19_observation.md. -/
def key (i : Nat) : Nat := 0x12028 + i * 0x10
def ADDR : Fld := ⟨0, 32⟩
def desc : RegDesc := ⟨0x12028, 8, 0x10, 1, 0x0,
  [fd 0 32 .rw 0]⟩

end OBS_ADDR_HI

namespace OBS_CYCLE_LO

/-- OBS_CYCLE_LO, Table 19-7 of 19_observation.md. -/
def key : Nat := 0x12010
def VALUE_LO : Fld := ⟨0, 32⟩
def desc : RegDesc := ⟨0x12010, 1, 0x0, 1, 0x0,
  [fd 0 32 .ro 0]⟩

end OBS_CYCLE_LO

namespace OBS_CYCLE_HI

/-- OBS_CYCLE_HI, Table 19-7 of 19_observation.md. -/
def key : Nat := 0x12014
def VALUE_HI : Fld := ⟨0, 32⟩
def desc : RegDesc := ⟨0x12014, 1, 0x0, 1, 0x0,
  [fd 0 32 .ro 0]⟩

end OBS_CYCLE_HI

namespace OBS_CNT_CTRL

/-- OBS_CNT_CTRL, Table 19-7 of 19_observation.md. -/
def key : Nat := 0x12018
def FREEZE : Fld := ⟨0, 1⟩
def desc : RegDesc := ⟨0x12018, 1, 0x0, 1, 0x0,
  [fd 0 1 .rw 0]⟩

end OBS_CNT_CTRL

namespace OBS_CNT_LO

/-- OBS_CNT_LO, Table 19-7 of 19_observation.md. -/
def key (i : Nat) : Nat := 0x120A0 + i * 0x8
def VALUE_LO : Fld := ⟨0, 32⟩
def desc : RegDesc := ⟨0x120A0, 8, 0x8, 1, 0x0,
  [fd 0 32 .cnt 0]⟩

end OBS_CNT_LO

namespace OBS_CNT_HI

/-- OBS_CNT_HI, Table 19-7 of 19_observation.md. -/
def key (i : Nat) : Nat := 0x120A4 + i * 0x8
def VALUE_HI : Fld := ⟨0, 16⟩
def OVF : Fld := ⟨16, 1⟩
def desc : RegDesc := ⟨0x120A4, 8, 0x8, 1, 0x0,
  [fd 0 16 .ro 0, fd 16 1 .w1c 0]⟩

end OBS_CNT_HI

namespace OBS_SAMPLE_CFG

/-- OBS_SAMPLE_CFG, Table 19-7 of 19_observation.md. -/
def key : Nat := 0x120E0
def SAMPLE_EN : Fld := ⟨0, 1⟩
def ENGINE : Fld := ⟨1, 1⟩
def PERIOD : Fld := ⟨16, 16⟩
def desc : RegDesc := ⟨0x120E0, 1, 0x0, 1, 0x0,
  [fd 0 1 .rw 0, fd 1 1 .rw 0, fd 16 16 .rw 4096]⟩

end OBS_SAMPLE_CFG

namespace OBS_DROP_CNT

/-- OBS_DROP_CNT, Table 19-7 of 19_observation.md. -/
def key : Nat := 0x120E4
def DROPS : Fld := ⟨0, 16⟩
def SAMPLE_DROPS : Fld := ⟨16, 16⟩
def desc : RegDesc := ⟨0x120E4, 1, 0x0, 1, 0x0,
  [fd 0 16 .cnt 0, fd 16 16 .cnt 0]⟩

end OBS_DROP_CNT

namespace SYS_FUSE_ID_LO

/-- SYS_FUSE_ID_LO, Table 20-7 of 20_startup_and_upgrade.md. -/
def key : Nat := 0x0
def FUSE_ID : Fld := ⟨0, 32⟩
def desc : RegDesc := ⟨0x0, 1, 0x0, 1, 0x0,
  [fd 0 32 .ro 0]⟩

end SYS_FUSE_ID_LO

namespace SYS_FUSE_ID_HI

/-- SYS_FUSE_ID_HI, Table 20-7 of 20_startup_and_upgrade.md. -/
def key : Nat := 0x4
def FUSE_ID : Fld := ⟨0, 32⟩
def desc : RegDesc := ⟨0x4, 1, 0x0, 1, 0x0,
  [fd 0 32 .ro 0]⟩

end SYS_FUSE_ID_HI

namespace SYS_IDENT

/-- SYS_IDENT, Table 20-7 of 20_startup_and_upgrade.md. -/
def key : Nat := 0x8
def VARIANT : Fld := ⟨0, 8⟩
def STEPPING : Fld := ⟨8, 8⟩
def FW_VERSION : Fld := ⟨16, 16⟩
def desc : RegDesc := ⟨0x8, 1, 0x0, 1, 0x0,
  [fd 0 8 .ro 0, fd 8 8 .ro 0, fd 16 16 .ro 0]⟩

end SYS_IDENT

namespace SYS_BOOT_STATUS

/-- SYS_BOOT_STATUS, Table 20-8 of 20_startup_and_upgrade.md. -/
def key : Nat := 0xC
def BOOT_SEL : Fld := ⟨0, 2⟩
def GATEWAY : Fld := ⟨2, 1⟩
def BAD_BOOT_SEL : Fld := ⟨3, 1⟩
def TAP_LOCKED : Fld := ⟨4, 1⟩
def FUSE_REPAIRS : Fld := ⟨8, 8⟩
def desc : RegDesc := ⟨0xC, 1, 0x0, 1, 0x0,
  [fd 0 2 .ro 0, fd 2 1 .ro 0, fd 3 1 .ro 0, fd 4 1 .ro 0, fd 8 8 .ro 0]⟩

end SYS_BOOT_STATUS

namespace SYS_FW_STATUS

/-- SYS_FW_STATUS, Table 20-9 of 20_startup_and_upgrade.md. -/
def key : Nat := 0x10
def RUNNING : Fld := ⟨0, 1⟩
def LOAD_STATE : Fld := ⟨1, 3⟩
def REJECT_CAUSE : Fld := ⟨4, 4⟩
def REJECT_HIST : Fld := ⟨8, 1⟩
def FALLBACK_HIST : Fld := ⟨9, 1⟩
def STATE_VER : Fld := ⟨16, 16⟩
def desc : RegDesc := ⟨0x10, 1, 0x0, 1, 0x0,
  [fd 0 1 .ro 0, fd 1 3 .ro 0, fd 4 4 .ro 0, fd 8 1 .w1c 0, fd 9 1 .w1c 0, fd 16 16 .ro 0]⟩

end SYS_FW_STATUS

namespace PIN_MON

/-- PIN_MON, Table 21-13 of 21_pins_electrical_package.md. -/
def key (i : Nat) : Nat := 0x13000 + i * 0x4
def CONTENTION : Fld := ⟨0, 1⟩
def HIGHZ : Fld := ⟨1, 1⟩
def HIST : Fld := ⟨2, 1⟩
def LEVEL : Fld := ⟨3, 1⟩
def RETRIES : Fld := ⟨4, 4⟩
def BACKOFF : Fld := ⟨8, 7⟩
def RETRY_NOW : Fld := ⟨15, 1⟩
def desc : RegDesc := ⟨0x13000, 21, 0x4, 1, 0x0,
  [fd 0 1 .ro 0, fd 1 1 .ro 0, fd 2 1 .w1c 0, fd 3 1 .ro 0, fd 4 4 .ro 0, fd 8 7 .ro 1, fd 15 1 .sc 0]⟩

end PIN_MON

namespace PIN_GPIO_CFG

/-- PIN_GPIO_CFG, Table 21-14 of 21_pins_electrical_package.md. -/
def key (i : Nat) : Nat := 0x13080 + i * 0x4
def DIR : Fld := ⟨0, 1⟩
def OUT : Fld := ⟨1, 1⟩
def OPEN_DRAIN : Fld := ⟨2, 1⟩
def IN : Fld := ⟨3, 1⟩
def ROLE : Fld := ⟨4, 1⟩
def desc : RegDesc := ⟨0x13080, 8, 0x4, 1, 0x0,
  [fd 0 1 .rw 0, fd 1 1 .rw 0, fd 2 1 .rw 0, fd 3 1 .ro 0, fd 4 1 .ro 0]⟩

end PIN_GPIO_CFG

namespace PIN_TEMP

/-- PIN_TEMP, Table 21-15 of 21_pins_electrical_package.md. -/
def key : Nat := 0x13100
def TEMP : Fld := ⟨0, 8⟩
def TJ_HIGH : Fld := ⟨8, 1⟩
def desc : RegDesc := ⟨0x13100, 1, 0x0, 1, 0x0,
  [fd 0 8 .ro 0, fd 8 1 .w1c 0]⟩

end PIN_TEMP

namespace SYS_SFN_LO

/-- SYS_SFN_LO, Table 02-8 of 02_frame_time_and_calendar.md. -/
def key : Nat := 0x3000
def SFN_LO : Fld := ⟨0, 32⟩
def desc : RegDesc := ⟨0x3000, 1, 0x0, 1, 0x0,
  [fd 0 32 .ro 0]⟩

end SYS_SFN_LO

namespace SYS_SFN_HI

/-- SYS_SFN_HI, Table 02-8 of 02_frame_time_and_calendar.md. -/
def key : Nat := 0x3004
def SFN_HI : Fld := ⟨0, 16⟩
def desc : RegDesc := ⟨0x3004, 1, 0x0, 1, 0x0,
  [fd 0 16 .ro 0]⟩

end SYS_SFN_HI

namespace SYS_FP_OFFSET

/-- SYS_FP_OFFSET, Table 02-8 of 02_frame_time_and_calendar.md. -/
def key : Nat := 0x300C
def OFFSET : Fld := ⟨0, 16⟩
def desc : RegDesc := ⟨0x300C, 1, 0x0, 1, 0x0,
  [fd 0 16 .rw 0]⟩

end SYS_FP_OFFSET

namespace SYS_TOD_LO

/-- SYS_TOD_LO, Table 02-8 of 02_frame_time_and_calendar.md. -/
def key : Nat := 0x3010
def TOD_LO : Fld := ⟨0, 32⟩
def desc : RegDesc := ⟨0x3010, 1, 0x0, 1, 0x0,
  [fd 0 32 .ro 0]⟩

end SYS_TOD_LO

namespace SYS_TOD_HI

/-- SYS_TOD_HI, Table 02-8 of 02_frame_time_and_calendar.md. -/
def key : Nat := 0x3014
def TOD_HI : Fld := ⟨0, 32⟩
def desc : RegDesc := ⟨0x3014, 1, 0x0, 1, 0x0,
  [fd 0 32 .ro 0]⟩

end SYS_TOD_HI

namespace PRT_PFN

/-- PRT_PFN, R70 of 02_frame_time_and_calendar.md. -/
def key (i : Nat) : Nat := 0x200008 + i * 0x1000
def PFN : Fld := ⟨0, 32⟩
def desc : RegDesc := ⟨0x200008, 96, 0x1000, 1, 0x0,
  [fd 0 32 .ro 0]⟩

end PRT_PFN

namespace SYS_RG_WEIGHT

/-- SYS_RG_WEIGHT, R406 of 17_registers_bus_and_check_units.md. -/
def key (i j : Nat) : Nat := 0x100010 + i * 0x40000 + j * 0x4
def WEIGHT : Fld := ⟨0, 6⟩
def desc : RegDesc := ⟨0x100010, 4, 0x40000, 14, 0x4,
  [fd 0 6 .ro 0]⟩

end SYS_RG_WEIGHT

namespace SYS_QDATA_HI

/-- SYS_QDATA_HI, Table 09-10 of 09_packet_mapping_and_queues.md. -/
def key (i : Nat) : Nat := 0x6008 + i * 0x10
def DATA_HI : Fld := ⟨0, 32⟩
def desc : RegDesc := ⟨0x6008, 8, 0x10, 1, 0x0,
  [fd 0 32 .ro 0]⟩

end SYS_QDATA_HI

namespace SYS_QDATA_LO

/-- SYS_QDATA_LO, Table 09-10 of 09_packet_mapping_and_queues.md. -/
def key (i : Nat) : Nat := 0x600C + i * 0x10
def DATA_LO : Fld := ⟨0, 32⟩
def desc : RegDesc := ⟨0x600C, 8, 0x10, 1, 0x0,
  [fd 0 32 .ro 0]⟩

end SYS_QDATA_LO

namespace BUS_CFG

/-- BUS_CFG, Table 17-3 of 17_registers_bus_and_check_units.md. -/
def key : Nat := 0x10000
def PARK_DIS : Fld := ⟨0, 1⟩
def desc : RegDesc := ⟨0x10000, 1, 0x0, 1, 0x0,
  [fd 0 1 .rw 0]⟩

end BUS_CFG

namespace BUS_FAULT_ADDR

/-- BUS_FAULT_ADDR, Table 17-3 of 17_registers_bus_and_check_units.md. -/
def key : Nat := 0x10008
def ADDR : Fld := ⟨0, 32⟩
def desc : RegDesc := ⟨0x10008, 1, 0x0, 1, 0x0,
  [fd 0 32 .ro 0]⟩

end BUS_FAULT_ADDR

namespace BUS_COLLIDE_ADDR

/-- BUS_COLLIDE_ADDR, Table 17-3 of 17_registers_bus_and_check_units.md. -/
def key : Nat := 0x10010
def ADDR : Fld := ⟨0, 32⟩
def desc : RegDesc := ⟨0x10010, 1, 0x0, 1, 0x0,
  [fd 0 32 .ro 0]⟩

end BUS_COLLIDE_ADDR

namespace BUS_MASTER

/-- BUS_MASTER, Table 17-3 of 17_registers_bus_and_check_units.md. -/
def key (i : Nat) : Nat := 0x10020 + i * 0x4
def OUTSTANDING : Fld := ⟨0, 4⟩
def STALLS : Fld := ⟨16, 16⟩
def desc : RegDesc := ⟨0x10020, 6, 0x4, 1, 0x0,
  [fd 0 4 .ro 0, fd 16 16 .cnt 0]⟩

end BUS_MASTER

namespace BUS_SPLIT_CNT

/-- BUS_SPLIT_CNT, Table 17-3 of 17_registers_bus_and_check_units.md. -/
def key : Nat := 0x10040
def COUNT : Fld := ⟨0, 32⟩
def desc : RegDesc := ⟨0x10040, 1, 0x0, 1, 0x0,
  [fd 0 32 .cnt 0]⟩

end BUS_SPLIT_CNT

namespace BUS_FAULT_CNT

/-- BUS_FAULT_CNT, Table 17-3 of 17_registers_bus_and_check_units.md. -/
def key : Nat := 0x10044
def COUNT : Fld := ⟨0, 32⟩
def desc : RegDesc := ⟨0x10044, 1, 0x0, 1, 0x0,
  [fd 0 32 .cnt 0]⟩

end BUS_FAULT_CNT

namespace BUS_WIN_BASE

/-- BUS_WIN_BASE, Table 17-3 of 17_registers_bus_and_check_units.md. -/
def key (i : Nat) : Nat := 0x10100 + i * 0x10
def BASE : Fld := ⟨0, 12⟩
def desc : RegDesc := ⟨0x10100, 16, 0x10, 1, 0x0,
  [fd 0 12 .rw 0]⟩

end BUS_WIN_BASE

namespace BUS_WIN_SIZE

/-- BUS_WIN_SIZE, Table 17-3 of 17_registers_bus_and_check_units.md. -/
def key (i : Nat) : Nat := 0x10104 + i * 0x10
def SIZE : Fld := ⟨0, 13⟩
def desc : RegDesc := ⟨0x10104, 16, 0x10, 1, 0x0,
  [fd 0 13 .rw 0]⟩

end BUS_WIN_SIZE

namespace BUS_WIN_TOFF

/-- BUS_WIN_TOFF, Table 17-3 of 17_registers_bus_and_check_units.md. -/
def key (i : Nat) : Nat := 0x10108 + i * 0x10
def TOFF : Fld := ⟨0, 12⟩
def desc : RegDesc := ⟨0x10108, 16, 0x10, 1, 0x0,
  [fd 0 12 .rw 0]⟩

end BUS_WIN_TOFF

namespace CVU_S_POLY

/-- CVU_S_POLY, Table 17-3 of 17_registers_bus_and_check_units.md. -/
def key (i : Nat) : Nat := 0x11204 + i * 0x20
def POLY : Fld := ⟨0, 32⟩
def desc : RegDesc := ⟨0x11204, 16, 0x20, 1, 0x0,
  [fd 0 32 .rw 0]⟩

end CVU_S_POLY

namespace CVU_S_INIT

/-- CVU_S_INIT, Table 17-3 of 17_registers_bus_and_check_units.md. -/
def key (i : Nat) : Nat := 0x11208 + i * 0x20
def INIT : Fld := ⟨0, 32⟩
def desc : RegDesc := ⟨0x11208, 16, 0x20, 1, 0x0,
  [fd 0 32 .rw 0]⟩

end CVU_S_INIT

namespace CVU_S_FOLD

/-- CVU_S_FOLD, Table 17-3 of 17_registers_bus_and_check_units.md. -/
def key (i : Nat) : Nat := 0x1120C + i * 0x20
def FOLD : Fld := ⟨0, 16⟩
def desc : RegDesc := ⟨0x1120C, 16, 0x20, 1, 0x0,
  [fd 0 16 .rw 0]⟩

end CVU_S_FOLD

namespace CVU_S_DATA

/-- CVU_S_DATA, Table 17-3 of 17_registers_bus_and_check_units.md. -/
def key (i : Nat) : Nat := 0x11210 + i * 0x20
def DATA : Fld := ⟨0, 32⟩
def desc : RegDesc := ⟨0x11210, 16, 0x20, 1, 0x0,
  [fd 0 32 .wo 0]⟩

end CVU_S_DATA

namespace CVU_S_RESULT

/-- CVU_S_RESULT, Table 17-3 of 17_registers_bus_and_check_units.md. -/
def key (i : Nat) : Nat := 0x11214 + i * 0x20
def RESULT : Fld := ⟨0, 32⟩
def desc : RegDesc := ⟨0x11214, 16, 0x20, 1, 0x0,
  [fd 0 32 .ro 0]⟩

end CVU_S_RESULT

def chip0Regs : List RegDesc :=
  [STK_BANK.desc, SYS_BLOCK_MAP.desc, SYS_TIME_STATUS.desc, CAL_STATUS.desc, CAL_CTRL.desc, LAN_SPARE.desc, HLT_CFG.desc, HLT_STATUS.desc, HLT_GRADE_PE.desc, HLT_GRADE_FS.desc, HLT_REPAIR.desc, HLT_DOMAIN_UP.desc, HLT_DOMAIN_REJ.desc, SYS_FUSE_ID_LO.desc, SYS_FUSE_ID_HI.desc, SYS_IDENT.desc, SYS_BOOT_STATUS.desc, SYS_FW_STATUS.desc, SYS_SFN_LO.desc, SYS_SFN_HI.desc, SYS_FP_OFFSET.desc, SYS_TOD_LO.desc, SYS_TOD_HI.desc]

def portRegs : List RegDesc :=
  [PRT_CFG.desc, LAN_CFG.desc, LAN_STATUS.desc, PRT_DAMPER.desc, PRT_CNT_CFG.desc, PRT_CNT_LO.desc, PRT_CNT_HI.desc, PRT_BANK_STATUS.desc, PRT_PFN.desc]

def sdhWindowRegs : List RegDesc :=
  [SDH_CFG.desc, SDH_STATUS.desc, SDH_RX_OH.desc, SDH_TX_OH.desc, SDH_SF_CFG.desc, SDH_SD_CFG.desc, SDH_PATH_BER.desc, SDH_DCC_DROP.desc, SDH_J0_EXP.desc, SDH_J0_TX.desc]

def otnWindowRegs : List RegDesc :=
  [OTN_CFG.desc, OTN_STATUS.desc, OTN_LANE_STATUS.desc, OTN_SM_DEG.desc]

def alfWindowRegs : List RegDesc :=
  [ALF_CFG.desc, ALF_STATUS.desc, ALF_DIGEST.desc, ALF_DIGEST_RX.desc, ALF_ANN.desc, ALF_ANN_PFN.desc, ALF_PKT_MIN.desc, ALF_QUALITY.desc, ALF_PROF.desc]

def chip1Regs : List RegDesc :=
  [BND_CFG.desc, BND_STATUS.desc, BND_CAP.desc, BND_LAG.desc, HRP_CFG.desc, HRP_STATUS.desc, SYS_QCFG.desc, SYS_QSTAT.desc, GRT_SLICE_STATUS.desc, GRT_SLICE_CFG.desc, GRT_SLICE_RETIRED.desc, STK_POOL.desc, STK_STATUS.desc, STK_HIST.desc, SYS_CNT_MODE.desc, SYS_PM_STATUS.desc, SYS_SNAP_STATUS.desc, SYS_QDATA_HI.desc, SYS_QDATA_LO.desc]

def regionRegs : List RegDesc :=
  [LOM_MB_LOAD.desc, PKT_PFC.desc, PKT_PFC1.desc, SYS_RG_STATUS.desc, SYS_RG_WEIGHT.desc]

def ethWindowRegs : List RegDesc :=
  [ETH_CFG.desc, ETH_STATUS.desc, ETH_FC.desc]

def chip2Regs : List RegDesc :=
  [CLM_CFG.desc, CLM_CFG2.desc, CLM_CHIMNEY.desc, CLM_STATUS.desc, CLM_MATE.desc, CLM_MATE_IN_FORCE.desc, DPL_CFG.desc, DPL_STATUS.desc, DPL_FRAME_OFFSET.desc, DPL_REF_CFG.desc, DPL_PAIR_CFG.desc, DPL_REF_STATUS.desc, DPL_CLKOUT.desc, DPL_FPOUT.desc, SYN_STATUS.desc, SYN_SS_CFG.desc, CMD_CFG.desc, CMD_STATUS.desc, CMD_SEQ.desc, CMD_ERR_CNT.desc, CMD_TX.desc]

def chip3Regs : List RegDesc :=
  [FLU_STATUS.desc, FLU_CFG.desc, FLU_DELAY.desc, FLU_CUM_DELAY.desc, FLU_ERR_CNT.desc, FLU_MEMBERS.desc, EVT_LIVE.desc, EVT_STICKY.desc, EVT_MASK.desc, EVT_CTRL.desc, EVT_STATUS.desc, EVT_RING_STATUS.desc, BUS_STATUS.desc, BUS_FAULT_INFO.desc, BUS_WIN_CTRL.desc, CVU_P.desc, CVU_S_CFG.desc, OBS_TRACE_CFG.desc, OBS_TRACE_STATUS.desc, OBS_FILT.desc, OBS_ADDR_LO.desc, OBS_ADDR_HI.desc, OBS_CYCLE_LO.desc, OBS_CYCLE_HI.desc, OBS_CNT_CTRL.desc, OBS_CNT_LO.desc, OBS_CNT_HI.desc, OBS_SAMPLE_CFG.desc, OBS_DROP_CNT.desc, PIN_MON.desc, PIN_GPIO_CFG.desc, PIN_TEMP.desc, BUS_CFG.desc, BUS_FAULT_ADDR.desc, BUS_COLLIDE_ADDR.desc, BUS_MASTER.desc, BUS_SPLIT_CNT.desc, BUS_FAULT_CNT.desc, BUS_WIN_BASE.desc, BUS_WIN_SIZE.desc, BUS_WIN_TOFF.desc, CVU_S_POLY.desc, CVU_S_INIT.desc, CVU_S_FOLD.desc, CVU_S_DATA.desc, CVU_S_RESULT.desc]

/-- Every register of the map. -/
def allRegs : List RegDesc :=
  chip0Regs ++ portRegs ++ sdhWindowRegs ++ otnWindowRegs ++ alfWindowRegs ++ chip1Regs ++ regionRegs ++ ethWindowRegs ++ chip2Regs ++ chip3Regs

/-- The place of `key` in the array of `d`, when it is one of its registers. -/
def RegDesc.index (d : RegDesc) (key : Nat) : Option (Nat × Nat) :=
  if key < d.base then none else
    let o := key - d.base
    let i := if d.s1 = 0 then 0 else o / d.s1
    let r := if d.s1 = 0 then o else o % d.s1
    let j := if d.s2 = 0 then 0 else r / d.s2
    let z := if d.s2 = 0 then r else r % d.s2
    if i < d.n1 ∧ j < d.n2 ∧ z = 0 then some (i, j) else none

/-- The register of `key`. -/
def regOf (key : Nat) : Option RegDesc := allRegs.find? fun d => (d.index key).isSome

/-- The Reset column of a register, field by field (R12). -/
def RegDesc.resetWord (d : RegDesc) : Word :=
  d.flds.foldl (fun w f => f.fld.set w f.reset) 0

/-- The banks of the default pools, Table 01-5. -/
def defaultPoolBanks : List Nat := [96, 128, 80, 32, 16, 16, 8, 8]

/-- The default pool of a bank, Table 01-5; 0 for a spare. -/
def defaultPool (n : Nat) : Nat :=
  if n < 96 then 0 else if n < 224 then 1 else if n < 304 then 2 else if n < 336 then 3
  else if n < 352 then 4 else if n < 368 then 5 else if n < 376 then 6 else if n < 384 then 7 else 0

/-- The Reset value of the register of `key`; the registers whose Reset column gives a formula are
computed by it (Tables 01-6, 01-7, 04-16, 10-15). An address with no register reads 0. -/
def regReset (key : Nat) : Word :=
  match STK_BANK.desc.index key, SYS_BLOCK_MAP.desc.index key, STK_POOL.desc.index key with
  | some (n, _), _, _ => BitVec.ofNat 32 (defaultPool n + (if n < 384 then 0 else 8))
  | _, some (n, _), _ =>
    BitVec.ofNat 32 (if n < 24 then 7 * (n / 6) + n % 6 else 5 * ((n - 24) / 4) + (n - 24) % 4)
  | _, _, some (p, _) => BitVec.ofNat 32 (defaultPoolBanks.getD p 0)
  | _, _, _ =>
    match SDH_J0_TX.desc.index key with
    | some (_, 0) => 0x01000000
    | _ => match regOf key with
      | some d => d.resetWord
      | none => 0

end Sys2Proof.Machine
end

