-- ==== Sys2Proof/Machine/State.lean ====
section
/-! DEFINITION. The state of the KX9600 as plain data, the reasons a step can stop, and the state at reset.
Registers live in `regs` and `staged` (R55), keyed as Machine/Regs.lean keys them; everything the manual
gives the device beside its registers is a field of its own. Times are counted in ticks since reset
(`Dev.ticks`), which run on when the SFN is set (R65). -/

namespace Sys2Proof.Machine

/-- Why a step stops with a fault. No meaning of this model raises one: the manual answers every
command by a reply, a bus fault record (R419) or no effect. -/
inductive Fault where
  /-- Raised by nobody; kept so that the type is inhabited. Safe. -/
  | none
  deriving DecidableEq, Repr

/-- Why a step is refused. -/
inductive Refusal where
  /-- The row has no meaning yet: raised by an arm of exec only. Safe. -/
  | notModelled (mnemonic : String)
  deriving DecidableEq, Repr

/-- What the ROM loader and the firmware are doing (R453, R454, R459). -/
inductive Boot where
  /-- RESET_N is low (R452). -/
  | held
  /-- The ROM responder answers; no firmware runs (R454). -/
  | rom
  /-- BOOT_SEL read 0b11: the loader stopped (Table 20-1). -/
  | stopped
  /-- Firmware runs. -/
  | running
  /-- A restart under traffic is in progress (R459). -/
  | restarting
  deriving DecidableEq, Repr

/-- An entry of the repair map (Table 18-7). -/
structure Repair where
  kind : Nat
  fused : Bool
  failed : Nat
  replacement : Nat
  deriving DecidableEq, Repr

/-- The device itself: fuses, boot, and the model's own counters. -/
structure Dev where
  fuseId : BitVec 64 := 0
  variant48 : Bool := false
  stepping : Byte := 0
  /-- Repairs set in the factory fuses (R439). -/
  fuseRepairs : List Repair := []
  boot : Boot := .rom
  /-- Ticks since reset: the time base of every timer (R59). -/
  ticks : Nat := 0
  /-- Feeds `Config.free`: the model's own field, not the manual's. -/
  freeCtr : Nat := 0
  /-- The core synthesis loop is on its bypass clock (R42). -/
  coreBypass : Bool := true
  deriving DecidableEq, Repr

/-- System time (R43, R67) and what is pending on it. -/
structure TimeSt where
  sfn : Nat := 0
  epoch : Nat := 0
  tod : Nat := 0
  labelGen : Nat := 0
  /-- The next tick lies on a second marker of FP_IN (R44, R495). -/
  marker : Bool := false
  /-- FP_IN has aligned the divider since RESET_N (R335). -/
  fpAligned : Bool := false
  /-- The live measurement of R335 in ns. -/
  fpOffsetNs : Int := 0
  /-- The armed mode 1 SET_SFN (R495): its packet, and its creation number unless it was immediate. -/
  armed : Option (Packet × Option Nat) := none
  /-- EPOCH_RESTART gives the SFN of the next tick (R65). -/
  nextSfn : Option Nat := none
  /-- That value is one adopted from the ring, ahead of the device's own (R45). -/
  jump : Bool := false
  /-- Ticks still suppressed after a ring return behind by at most 64 (R45). -/
  suppress : Nat := 0
  deriving DecidableEq, Repr

/-- What a calendar entry does when it executes. -/
inductive Action where
  /-- A scheduled host command, kept whole. -/
  | host (p : Packet)
  /-- An ALF resize from a modem announcement (R161). -/
  | alfResize (port profile annId : Nat)
  /-- The steps of a bridge-and-roll (R260). -/
  | bridge (id : Nat)
  | roll (id : Nat)
  | release (id : Nat)
  /-- A claim handover (R317). -/
  | handover
  /-- A spare commit (R52, R432). -/
  | spare (u : UnitRef)
  deriving DecidableEq, Repr

/-- The key of a calendar entry (Table 02-2). -/
inductive CalKey where
  | sfn (n : Nat)
  | port (p pfn : Nat)
  deriving DecidableEq, Repr

/-- A calendar entry. -/
structure Entry where
  creation : Nat
  key : CalKey
  action : Action
  /-- Armed against the port's frame counter (R54). -/
  armed : Bool := false
  /-- Arming is late under LATE_OK: the entry completes with SKIPPED unless its frame is met (R50). -/
  late : Bool := false
  skipped : Bool := false
  carried : Bool := false
  /-- Ticks between repeats of a SNAPSHOT with INTERVAL (R280). -/
  interval : Nat := 0
  /-- First tick, counted from reset, at which the entry may run. -/
  notBefore : Nat := 0
  deriving DecidableEq, Repr

/-- The event calendar (R49 to R62). -/
structure CalSt where
  entries : List Entry := []
  nextCreation : Nat := 0
  deriving DecidableEq, Repr

/-- A reply packet's content (Tables 14-1, 14-2). -/
structure Reply where
  master : Nat
  flags : Nat
  opcode : Nat
  source : Nat
  seq : Nat
  eff : Nat
  status : Nat
  phase : Nat
  detail : Nat
  creation : Nat
  cflags : Nat := 0
  lease : Nat := 0
  highSeq : Nat := 0
  result : List Byte := []
  /-- The destination the gateway answers for (R368); none in the device's own replies. -/
  proxied : Option Nat := none
  deriving DecidableEq, Repr

/-- A command taken in a step 1 and not yet executed (R494). -/
structure Taken where
  packet : Packet
  tick : Nat
  deriving DecidableEq, Repr

/-- A reply a gateway awaits (R368). -/
structure Await where
  packet : Packet
  due : Nat
  /-- The timeout has passed: a later reply is STALE. -/
  timedOut : Bool := false
  /-- The first reply has come, and a completion is awaited. -/
  answered : Bool := false
  deriving DecidableEq, Repr

/-- What the device keeps per master (R348, R355, R359, R367 to R369). -/
structure Master where
  expert : Bool := false
  /-- SEQ values accepted, HIGH itself included, down to 1,023 below it (R348). -/
  seen : List Nat := []
  lastPacket : Nat := 0
  inbuf : List Packet := []
  awaiting : List Await := []
  /-- CMD_TX_WIN_m (R367). -/
  window : Tbl Byte := []
  /-- Tick of the last message-signalled interrupt, and how many were sent (R400). -/
  msiLast : Option Nat := none
  msiSent : Nat := 0
  /-- A rise or rearm waits for the end of the gap (R400). -/
  msiWaiting : Bool := false
  /-- PENDING_m as last evaluated, to see it rise. -/
  wasPending : Bool := false
  deriving DecidableEq, Repr

/-- A leased resource (Table 14-7). -/
structure Lease where
  cls : Nat
  sub : Nat
  index : Nat
  master : Nat
  /-- Taken in the step 1 of this tick: the other master's DETAIL is 0x000D (R362). -/
  tick : Nat
  deriving DecidableEq, Repr

/-- A long operation that runs, or one that waits in the pending slot (R365, R366). -/
structure LongOp where
  cls : Nat
  sub : Nat
  index : Nat
  packet : Packet
  /-- Ticks of the start, and of the pending-slot timeout. -/
  since : Nat
  due : Nat
  /-- Tick at which its start fell due while another ran. -/
  creation : Nat
  deriving DecidableEq, Repr

/-- The command processor (14_command_protocol). -/
structure CmdSt where
  m0 : Master := {}
  m1 : Master := {}
  immediates : List Taken := []
  leases : List Lease := []
  running : List LongOp := []
  slots : List LongOp := []
  /-- Completions held during a firmware restart (R460). -/
  held : List Reply := []
  /-- Replies sent to a master elsewhere on the ring (members answer through the gateway). -/
  sent : List Reply := []
  /-- The gateway has lost its role to another root (R373). -/
  demoted : Bool := false
  deriving DecidableEq, Repr

/-- A host-visible queue (R239 to R243). -/
structure Queue where
  words : List (BitVec 64) := []
  /-- Words lost since the last overflow marker, and whether a run of losses is open (R241). -/
  lostRun : Nat := 0
  inRun : Bool := false
  /-- Words discarded by a reset not yet marked (R243). -/
  resetOwed : Option Nat := none
  /-- QUEUE_LEVEL may fire (R242). -/
  levelArmed : Bool := true
  deriving DecidableEq, Repr

/-- An event recorded in the tick (Table 16-4). -/
structure EventRec where
  source : Nat
  code : Nat
  set : Bool
  level : Nat
  entity : Nat
  ext : List (BitVec 58)
  deriving DecidableEq, Repr

/-- The event system (16_events). -/
structure EvtSt where
  /-- Lasting conditions declared now (R393). -/
  conds : List Cond := []
  /-- Events recorded in the tick so far, in order (R395). -/
  tick : List EventRec := []
  /-- Ring event buffer of a member (R399): words, records lost, words owed to the overflow marker. -/
  ringBuf : List (BitVec 64) := []
  ringOwed : Nat := 0
  deriving DecidableEq, Repr

/-- Something decided between ticks that arrives in step 1 of the next tick (R84, R97, R269). -/
inductive Arrival where
  | defect (c : Cond) (set : Bool)
  | kBytes (port k1 k2 : Nat)
  /-- An event reported at the next step 1. -/
  | event (source code : Nat) (set : Bool) (entity : Nat) (ext : List Nat)
  /-- A substitution trigger (Table 18-3). -/
  | trigger (u : UnitRef)
  | spareIn (u : UnitRef)
  | pinContention (p : Nat)
  | pinClean (p : Nat)
  /-- A check of reference `n`: for a sync pair the feed (0 A, 1 B) and the phase between the feeds in ns. -/
  | refFail (n check feed phaseNs : Nat) (failing : Bool)
  | chimney (down : Bool)
  /-- NEXT_SFN of a mate that announces a handover (R317). -/
  | mateHandover (h : Nat)
  /-- A destination declared absent, or an address given up (R368, R376). -/
  | notPresent (addr : Nat)
  /-- Ring packets the root takes (R382, R384, R385, R399). -/
  | linkReport (addr : Nat) (east good : Bool)
  | announce (i : Ident) (hop : Nat)
  | beacon (i : Ident) (hop : Nat)
  | ringEvents (record : List (BitVec 64))
  /-- A slot retirement that both pair units apply (R306). -/
  | retire (slot : Nat)
  deriving DecidableEq, Repr

/-- What a running timer is for (R59). -/
inductive TimerKind where
  | holdoff (pg channel : Nat) (sd : Bool)
  | protWtr (pg : Nat)
  | refWtr (n : Nat)
  | mateHold
  | pairWtr
  | pinBackoff (p : Nat)
  | rejoin (g m : Nat)
  | unwrap (east : Bool)
  | lcasHoldoff (e g m : Nat)
  | lcasWtr (e g m : Nat)
  | setAddress
  | spareLock (g : Nat)
  | laneRetry (p : Nat)
  deriving DecidableEq, Repr

/-- A running timer, due at step 3 of tick `due` counted from reset. -/
structure Timer where
  kind : TimerKind
  due : Nat
  deriving DecidableEq, Repr

/-- A 48-bit raw counter and its flags (R275). -/
structure Ctr where
  value : Nat := 0
  ovf : Bool := false
  wrap : Nat := 0
  deriving DecidableEq, Repr

/-- A trace accepted after three identical receptions (R104, R117, R134, R210). -/
structure TraceSt where
  /-- Bytes of the trace being received. -/
  part : List Byte := []
  last : List Byte := []
  run : Nat := 0
  accepted : Option (List Byte) := none
  deriving DecidableEq, Repr

/-- A value accepted after a number of identical receptions. -/
structure AcceptSt where
  last : Nat := 0
  run : Nat := 0
  accepted : Option Nat := none
  deriving DecidableEq, Repr

/-- A pair of run counts: consecutive frames with and without a condition. -/
structure RunSt where
  on : Nat := 0
  off : Nat := 0
  deriving DecidableEq, Repr

/-- A detection window (R109, R119, R211): units and violations so far. -/
structure WinSt where
  len : Nat := 0
  count : Nat := 0
  deriving DecidableEq, Repr

/-- Frame alignment by pattern (R94, R127). -/
structure AlignSt where
  inFrame : Bool := false
  bad : Nat := 0
  /-- The last frame out-of-frame carried a correct pattern. -/
  found : Bool := false
  oofRun : Nat := 0
  /-- Consecutive frames in-frame. -/
  inRun : Nat := 0
  deriving DecidableEq, Repr

/-- An SDH or SONET framer of a port (04_sdh_sonet_framing). -/
structure SdhSt where
  align : AlignSt := {}
  k : AcceptSt := {}
  s1 : AcceptSt := {}
  ais : RunSt := {}
  rdi : RunSt := {}
  j0 : TraceSt := {}
  sf : WinSt := {}
  sd : WinSt := {}
  /-- B2 violations of the last evaluated frame (R103). -/
  lastB2 : Nat := 0
  rsTx : List Byte := []
  msTx : List Byte := []
  /-- Place in the trace of the next frame sent, and the overhead of the last one: J0, K1, K2, S1, the REI-L
  count, RS and MS DCC bytes; all ones after the section overhead, or nothing sent. -/
  txCount : Nat := 0
  txJ0 : Nat := 0
  txK1 : Nat := 0
  txK2 : Nat := 0
  txS1 : Nat := 0
  txM : Nat := 0
  txRs : List Byte := []
  txMs : List Byte := []
  txAis : Bool := false
  txSquelched : Bool := false
  deriving DecidableEq, Repr

/-- States of a pointer interpreter (Table 04-6). -/
inductive PtrState where
  | norm | lop | ais
  deriving DecidableEq, Repr

/-- A pointer interpreter (R110 to R113, R204). -/
structure PtrSt where
  state : PtrState := .lop
  value : Nat := 0
  /-- Consecutive invalid or NDF-enabled words, AIS words, concatenation indicators. -/
  invalid : Nat := 0
  aisRun : Nat := 0
  ci : Nat := 0
  /-- The new value last seen and in how many consecutive normal words. -/
  newVal : Nat := 0
  newRun : Nat := 0
  /-- Frames since the last pointer change. -/
  since : Nat := 3
  /-- Frames since configuration, while neither NORM nor AIS has been reached (R113). -/
  fresh : Nat := 0
  settled : Bool := false
  deriving DecidableEq, Repr

/-- A pointer generator (R114, R206). -/
structure GenSt where
  value : Nat := 0
  /-- Frames since the last justification, and the fill offset from centre it answers. -/
  since : Nat := 4
  fill : Int := 0
  ndf : Bool := true
  lastWord : Nat := 0
  deriving DecidableEq, Repr

/-- The configuration of a high-order path (Table 04-17). -/
structure PathCfg where
  ptype : Nat := 0
  mode : Nat := 0
  c2Exp : Nat := 0
  c2Tx : Nat := 0
  trace : Nat := 0
  actions : Nat := 0
  j1Exp : List Byte := []
  j1Tx : List Byte := []
  deriving DecidableEq, Repr

/-- A high-order path (R115 to R123). -/
structure PathSt where
  cfg : PathCfg := {}
  staged : PathCfg := {}
  ptr : PtrSt := {}
  /-- Runs of words neither CI nor AIS, of AIS and of CI per member, and each member's state. -/
  members : List PtrSt := []
  j1 : TraceSt := {}
  c2 : AcceptSt := {}
  rdi : RunSt := {}
  win : WinSt := {}
  gen : GenSt := {}
  inPj : Nat := 0
  inNj : Nat := 0
  outPj : Nat := 0
  outNj : Nat := 0
  /-- Sticky bit of each defect of Table 04-9, in its order from AIS-P. -/
  hist : Nat := 0
  lastB3 : Nat := 0
  /-- H4 multiframe of a mapped container (R202). -/
  h4 : Nat := 0
  h4Bad : Nat := 0
  h4Good : Nat := 0
  inMf : Bool := false
  oomRun : Nat := 0
  mfRun : Nat := 0
  /-- J1, C2, G1, F2, H4, F3, K3 and N1 as last sent; empty where the path passes in transit. -/
  txOver : List Byte := []
  deriving DecidableEq, Repr

/-- One monitored OTN layer: SM, PM or a TCM (R133 to R136). -/
structure LayerSt where
  tti : TraceSt := {}
  stat : AcceptSt := {}
  bdi : RunSt := {}
  iae : RunSt := {}
  biae : RunSt := {}
  badSec : Nat := 0
  goodSec : Nat := 0
  secErr : Nat := 0
  secSf : Bool := false
  hist : Nat := 0
  /-- The DM bit last received, and the DM bit sent (R138). -/
  dmRx : Bool := false
  dmTx : Bool := false
  bei : Nat := 0
  /-- TTI byte and status byte last sent, where the device sources them. -/
  txTti : Nat := 0
  txStatus : Nat := 0
  deriving DecidableEq, Repr

/-- An OTU framer of a port (05_otn_framing). -/
structure OtnSt where
  align : AlignSt := {}
  mf : AlignSt := {}
  mfas : Nat := 0
  sm : LayerSt := {}
  smExp : List Byte := []
  smTx : List Byte := []
  smExpStaged : List Byte := []
  smTxStaged : List Byte := []
  /-- PSI received in the multiframe of 256, PT and MSI acceptance (R139, R140). -/
  psi : Tbl Nat := []
  pt : AcceptSt := {}
  msiRuns : Tbl AcceptSt := []
  omfi : AlignSt := {}
  omfiVal : Nat := 0
  /-- The last transmitted frame: MFAS, PSI, ODU-AIS forced into it, or nothing sent. -/
  txMfas : Nat := 0
  txPsi : Nat := 0
  txAis : Bool := false
  txSquelched : Bool := false
  deriving DecidableEq, Repr

/-- The configuration of an ODU (Table 05-13). -/
structure OduCfg where
  otype : Nat := 0
  mode : Nat := 0
  ptExp : Nat := 0
  ptTx : Nat := 0
  flags : Nat := 0
  pmDegM : Nat := 0
  flexRate : Nat := 0
  /-- Tributary slots in force, by number from 1. -/
  ts : List Nat := []
  /-- MODE, FLAGS, DEG_M of TCM1 to TCM6. -/
  tcm : List (Nat × Nat × Nat) := []
  degThr : Nat := 0
  pmExp : List Byte := []
  pmTx : List Byte := []
  tcmExp : List (List Byte) := []
  tcmTx : List (List Byte) := []
  deriving DecidableEq, Repr

/-- A delay measurement of R138. -/
structure DmSt where
  running : Bool := false
  frames : Nat := 0
  sent : Bool := false
  confirm : Nat := 0
  /-- The count at the first frame that carried the new value. -/
  found : Nat := 0
  result : Nat := 0
  timedOut : Bool := false
  deriving DecidableEq, Repr

/-- An ODU at a port index (05_otn_framing). -/
structure OduSt where
  cfg : OduCfg := {}
  staged : OduCfg := {}
  /-- Layers PM (0) and TCM1 to TCM6. -/
  layers : Tbl LayerSt := []
  dm : Tbl DmSt := []
  /-- The layer last measured (R153). -/
  dmLayer : Nat := 0
  hist : Nat := 0
  justPos : Nat := 0
  justNeg : Nat := 0
  cmTx : Nat := 0
  cmRx : Nat := 0
  pt : AcceptSt := {}
  deriving DecidableEq, Repr

/-- An entry of a tributary list (Table 06-19). -/
structure AlfTrib where
  id : Nat
  ttype : Nat
  cls : Nat
  rank : Nat
  count : Nat
  deriving DecidableEq, Repr

/-- One entry of a map, in keep order (R165). -/
structure MapEntry where
  id : Nat
  carried : Bool
  start : Nat
  blocks : Nat
  deriving DecidableEq, Repr

/-- A map (R165): profile (or the ACT byte for a bundle), block count, packet region, entries. -/
structure AlfMap where
  profile : Nat := 0
  n : Nat := 0
  pktStart : Nat := 0
  pktBlocks : Nat := 0
  entries : List MapEntry := []
  deriving DecidableEq, Repr

/-- A pending announcement (R161). -/
structure Ann where
  profile : Nat
  annId : Nat
  eff : Nat
  creation : Nat
  deriving DecidableEq, Repr

/-- A control word to send: code and content (Table 06-6). -/
structure CtlWord where
  code : Nat
  content : Nat
  deriving DecidableEq, Repr

/-- An ALF port (06_adaptive_link_frame). -/
structure AlfSt where
  /-- A marker with another PFN waits to be confirmed by the next (R173). -/
  candidate : Option Nat := none
  goodMarkers : Nat := 0
  missed : Nat := 0
  modemProfile : Nat := 0
  /-- Frame sequence (R171). -/
  lastSeq : Nat := 0
  accRun : Nat := 0
  rdi : RunSt := {}
  framesLost : Nat := 0
  list : List AlfTrib := []
  staged : List AlfTrib := []
  /-- The last agreed map (R169), and the map that frames before `resizeAt` use (R171). -/
  agreed : Option AlfMap := none
  oldMap : AlfMap := {}
  listGen : Nat := 0
  /-- A frame has been accepted since the port started (R79, R171). -/
  started : Bool := false
  anns : List Ann := []
  /-- Announcements acted on, so that repeats are recognised (R161): PROFILE × 16 + ANN_ID, EFF_PFN, the
  reply's code and EFF_PFN. -/
  answered : List (Nat × Nat × Nat × Nat) := []
  firstReplies : List CtlWord := []
  repeats : List CtlWord := []
  heldWords : List CtlWord := []
  sentWords : List CtlWord := []
  /-- Frame N of the last resize, and entries still in AIS until N + 2 (R163, R167). -/
  resizeAt : Option Nat := none
  restoring : List Nat := []
  restoreUntil : Nat := 0
  identParts : Tbl Nat := []
  identLast : Option Nat := none
  partner : Option Nat := none
  farWords : Tbl Nat := []
  /-- Frames with group fields that match or differ (R178). -/
  group : RunSt := {}
  lastTxPfn : Nat := 0
  lastTxProfile : Nat := 0
  lastTxBlocks : Nat := 0
  /-- OHC word, BSN, FLAGS and LIST_GEN of the last frame sent (Table 06-4). -/
  lastTxOhc : Nat := 0
  lastTxBsn : Nat := 0
  lastTxFlags : Nat := 0
  lastTxGen : Nat := 0
  lastTxSilent : Bool := false
  deriving DecidableEq, Repr

/-- A frame in a packet buffer: bytes, priority, tick of arrival. -/
structure BufFrame where
  bytes : Nat
  prio : Nat
  tick : Nat
  fcsOk : Bool := true
  deriving DecidableEq, Repr

/-- The Ethernet side of a port (09_packet_mapping). -/
structure EthSt where
  egressQuota : Nat := 0
  egressQuotaStaged : Nat := 0
  egress : List BufFrame := []
  /-- Quanta of the pause that holds each priority (R236). -/
  held : Tbl Nat := []
  /-- Pause state last sent to the peer, and frames of flow control sent (R234). -/
  sentPause : Nat := 0
  fcSent : Nat := 0
  lastFc : Nat := 0
  deriving DecidableEq, Repr

/-- A line port. -/
structure PortSt where
  pfn : Nat := 0
  /-- A mode change holds the port in the damper (R79). -/
  modeHold : Bool := false
  /-- Transmitters squelched by LANE_FAULT (R84), and by SQUELCH_ON_FAIL since this tick (R273). -/
  squelchSince : Option Nat := none
  probing : Bool := false
  squelched : Bool := false
  /-- A spare framer block has not resumed the port yet (R434). -/
  awaitResume : Bool := false
  /-- The lanes of a quad have been aligned since they last were not. -/
  aligned : Bool := false
  /-- SUBSTITUTED in the current second. -/
  substituted : Bool := false
  cnts : Tbl Ctr := []
  sdh : SdhSt := {}
  otn : OtnSt := {}
  alf : AlfSt := {}
  eth : EthSt := {}
  /-- Hours of eye margin recorded for the lane (R431), newest first. -/
  eyeHours : List Nat := []
  /-- Physical servedBy serving the lane. -/
  servedBy : Option Nat := none
  deriving DecidableEq, Repr

/-- A high-order container given to a mapper (R199, R219). -/
structure Container where
  types : List Nat := []
  staged : List Nat := []
  mapper : Nat := 0
  deriving DecidableEq, Repr

/-- The configuration of a low-order tributary (Table 08-12). -/
structure TribCfg where
  ttype : Nat := 0
  actions : Nat := 0
  labelExp : Nat := 0
  flags : Nat := 0
  ber : Nat := 0
  j2Exp : List Byte := []
  deriving DecidableEq, Repr

/-- A low-order tributary (Table 08-9). -/
structure TribSt where
  cfg : TribCfg := {}
  staged : TribCfg := {}
  mapper : Nat := 0
  /-- CARRIER of Table 08-9, and the selector of a LO SNCP group (R299). -/
  carrier : Nat := 0
  carrier2 : Nat := 0
  sel : Bool := false
  retime : Nat := 0
  ptr : PtrSt := {}
  gen : GenSt := {}
  label : AcceptSt := {}
  k4 : AcceptSt := {}
  k4Bits : List Nat := []
  j2 : TraceSt := {}
  rdi : RunSt := {}
  rfi : RunSt := {}
  win : WinSt := {}
  inPj : Nat := 0
  inNj : Nat := 0
  outPj : Nat := 0
  outNj : Nat := 0
  hist : Nat := 0
  crc4Absent : Bool := false
  deriving DecidableEq, Repr

/-- A packet flow (Table 09-15). -/
structure FlowCfg where
  ethPort : Nat := 0
  chKind : Nat := 0
  chRef : Nat := 0
  chIndex : Nat := 0
  cid : Nat := 0
  weight : Nat := 1
  quota : Nat := 0
  maxAge : Nat := 0
  flags : Nat := 0
  deriving DecidableEq, Repr

structure FlowSt where
  cfg : FlowCfg := {}
  staged : FlowCfg := {}
  queue : List BufFrame := []
  /-- Bytes the flow may still send in its turn, by priority (R232). -/
  deficit : Tbl Nat := []
  /-- Ticks of the last CSF received and sent, and CSFs sent (R227). -/
  csfRx : Option Nat := none
  csfTx : Option Nat := none
  csfSent : Nat := 0
  deriving DecidableEq, Repr

/-- A GFP-F channel of an engine (R226, R232, R233): CH_KIND (0 unused), CH_REF, CH_INDEX. -/
structure ChanSt where
  kind : Nat := 0
  ref : Nat := 0
  index : Nat := 0
  /-- 0 HUNT, 1 PRESYNC, 2 SYNC. -/
  sync : Nat := 0
  /-- Bit p: priority p is paused. -/
  paused : Nat := 0xFF
  /-- The flow whose turn it is, by priority (R232). -/
  turn : Tbl Nat := []
  idles : Nat := 0
  /-- Frames delivered toward the line. -/
  sent : Nat := 0
  deriving DecidableEq, Repr

/-- A VCAT group (R228, R229). -/
structure VcatCfg where
  vtype : Nat := 0
  lcas : Bool := false
  maxDiff : Nat := 0
  holdoff : Nat := 0
  wtr : Nat := 0
  /-- Member paths in sequence order, as port × 256 + head. -/
  members : List Nat := []
  deriving DecidableEq, Repr

structure VcatSt where
  cfg : VcatCfg := {}
  staged : VcatCfg := {}
  /-- Members in use and members in signal fail, by place in the sequence. -/
  inUse : List Nat := []
  failed : List Nat := []
  deriving DecidableEq, Repr

/-- A bonding group (07_bonding). -/
structure BndSt where
  ports : List Nat := []
  portsStaged : List Nat := []
  pktMin : Nat := 0
  pktMinStaged : Nat := 0
  list : List AlfTrib := []
  stagedList : List AlfTrib := []
  txList : List AlfTrib := []
  genTx : Nat := 0
  genRx : Nat := 0
  down : Nat := 0xFF
  farLast : Nat := 0
  actTx : Nat := 0
  profilesRx : Nat := 0
  actRx : Nat := 0
  late : Tbl RunSt := []
  agreed : Option AlfMap := none
  /-- Frames each member started since the last tick (R180). -/
  starts : Tbl Nat := []
  lastBsn : Nat := 0
  /-- PROFILES sent, and the member of each bundle block as sent and as received (R182). -/
  profilesTx : Nat := 0
  dealTx : List Nat := []
  dealRx : List Nat := []
  /-- The control block sent with this bundle frame (Table 07-2). -/
  bcbTx : List Byte := []
  deriving DecidableEq, Repr

/-- An HRP group beyond its registers (R189 to R193): frames played out. -/
structure HrpSt where
  played : Nat := 0
  deriving DecidableEq, Repr

/-- An egress map entry (Table 10-1). -/
structure Egress where
  src : Nat := 0xFFFF
  src2 : Nat := 0xFFFF
  sel : Bool := false
  valid : Bool := false
  hostOwned : Bool := false
  moving : Bool := false
  connId : Nat := 0xFFFF
  deriving DecidableEq, Repr

/-- An allocated run of grate slots (R247): global start, length, the endpoint it serves. -/
structure Run where
  start : Nat
  len : Nat
  owner : BitVec 64
  hostOwned : Bool := false
  moving : Bool := false
  /-- First tick at which it is free again, once its release is scheduled (R251). -/
  freeAt : Option Nat := none
  /-- Master and SEQ of the command that reserved it, until its flip (R251). -/
  tag : Option (Nat × Nat) := none
  deriving DecidableEq, Repr

/-- A further sink added to a connection with DIR 2 (Table 10-4). -/
structure Sink where
  ep : BitVec 64
  on : Bool := false
  pair : Option (Nat × Nat) := none
  tag : Option (Nat × Nat) := none
  deriving DecidableEq, Repr

/-- A connection record (R253, Table 10-5). -/
structure Conn where
  a : BitVec 64
  b : BitVec 64
  b2 : BitVec 64
  dir : Nat
  prot : Nat
  pgroup : Nat
  /-- The flip has executed (STATE 1). -/
  inForce : Bool := false
  /-- Tick of the flip, and whether it was put off (R263). -/
  eff : Nat
  /-- SFN of that tick, once it has come (EFF_SFN). -/
  effSfn : Option Nat := none
  deferred : Bool := false
  /-- Carrier pair and TU (L × 4 + M - 1) towards B and B2, for KIND 3. -/
  pair : Option (Nat × Nat) := none
  pair2 : Option (Nat × Nat) := none
  sinks : List Sink := []
  /-- Tick of an accepted DISCONNECT's flip, with its master and SEQ. -/
  ends : Option (Nat × Nat × Nat) := none
  /-- First tick at which the record is free again (R251). -/
  freeAt : Option Nat := none
  tag : Option (Nat × Nat) := none
  deriving DecidableEq, Repr

/-- A move (R260): phase 0 planned, 1 bridged, 2 rolled. `old` and `new` are global starts. -/
structure Move where
  slice : Nat
  old : Nat
  new : Nat
  len : Nat
  phase : Nat := 0
  /-- Tick T of its bridge, once its entries are made. -/
  start : Option Nat := none
  /-- A retirement move (R261). -/
  retire : Bool := false
  deriving DecidableEq, Repr

/-- A carrier pair (R200, R256): mapper positions, slots, and the TUG-2 types and TUs held. -/
structure CarrierPair where
  id : Nat
  posA : Nat
  posB : Nat
  slotA : Nat
  slotB : Nat
  types : List Nat
  /-- TUs held, as L × 4 + (M − 1). -/
  tus : List Nat
  deriving DecidableEq, Repr

/-- Units of a stoker resource held by an owner (Table 10-2). -/
structure Alloc where
  code : Nat
  scope : Nat
  units : Nat
  /-- The owner, as a number that names an entity. -/
  owner : Nat
  freeAt : Option Nat := none
  tag : Option (Nat × Nat) := none
  deriving DecidableEq, Repr

/-- The grate and the stoker (10_grate_and_stoker). -/
structure GrateSt where
  egress : Tbl Egress := []
  staged : Tbl Egress := []
  runs : List Run := []
  retired : List Nat := []
  conns : Tbl Conn := []
  moves : Tbl Move := []
  nextMove : Nat := 0
  carriers : List CarrierPair := []
  nextPair : Nat := 0
  allocs : List Alloc := []
  /-- STK_POOL_CFG in progress: banks wanted per pool, pages still to switch. -/
  poolWant : List Nat := []
  pagesLeft : Nat := 0
  /-- Moves made by the running plan of each slice. -/
  planMoves : Tbl Nat := []
  /-- Slices isolated (R35). -/
  isolated : List Nat := []
  deriving DecidableEq, Repr

/-- A performance bin (Table 11-10). -/
structure Bin where
  es : Nat := 0
  ses : Nat := 0
  uas : Nat := 0
  bbe : Nat := 0
  flags : Nat := 0
  deriving DecidableEq, Repr

/-- A second counted at an end (R285): its primitives, the availability it was counted by, whether the near
end was available, and whether its bins have become previous. -/
structure PmSec where
  es : Bool := false
  ses : Bool := false
  bbe : Nat := 0
  avail : Bool := true
  counted : Bool := true
  old15 : Bool := false
  old24 : Bool := false
  deriving DecidableEq, Repr

/-- One end's seconds: errored blocks on their way to the next step 1, what the second so far holds, the second
that closes at step 5 of this tick, availability, the last 10 seconds newest first, the bins. -/
structure EndSt where
  errs : Nat := 0
  secErrs : Nat := 0
  defect : Bool := false
  closing : Option (Nat × Bool) := none
  available : Bool := true
  /-- Consecutive SES while available, and seconds that are not SES while unavailable. -/
  run : Nat := 0
  last : List PmSec := []
  cur15 : Bin := {}
  prev15 : Bin := {}
  cur24 : Bin := {}
  prev24 : Bin := {}
  deriving DecidableEq, Repr

/-- The performance record of a layer, near and far end (R284 to R288). -/
structure PmRec where
  near : EndSt := {}
  far : EndSt := {}
  frozen : Bool := false
  /-- Seconds since the current 15-minute and 24-hour bins became previous (SETTLED, R285). -/
  age15 : Nat := 0
  age24 : Nat := 0
  deriving DecidableEq, Repr

/-- A completed snapshot (R281). -/
structure SnapBuf where
  seq : Nat := 0
  time : Nat := 0
  label : Nat := 0
  words : List (BitVec 64) := []
  deriving DecidableEq, Repr

/-- A snapshot set (R279): references as 64-bit numbers. -/
structure SnapSet where
  refs : List (BitVec 64) := []
  staged : List (BitVec 64) := []
  newer : Option SnapBuf := none
  older : Option SnapBuf := none
  seq : Nat := 0
  deriving DecidableEq, Repr

/-- Counters, performance records and snapshots (11_defects). -/
structure PmSt where
  /-- Context counters, keyed by the counter reference of Table 11-6 read as a number. -/
  ctrs : Tbl Ctr := []
  recs : Tbl PmRec := []
  sets : Tbl SnapSet := []
  /-- Snapshots due at step 5 of this tick, by set, with the packet that asked and its creation number. -/
  due : List (Nat × Packet × Nat) := []
  /-- A second has ended and closes at step 5 (R283). -/
  closing : Bool := false
  deriving DecidableEq, Repr

/-- Parameters of a protection group (Tables 12-14, 12-18). -/
structure GroupCfg where
  arch : Nat := 0
  flags : Nat := 5
  n : Nat := 1
  holdoff : Nat := 0
  wtr : Nat := 300
  protPort : Nat := 0xFF
  work : List Nat := []
  highPri : Nat := 0
  deriving DecidableEq, Repr

/-- A protection group (R289 to R300). -/
structure GroupSt where
  cfg : GroupCfg := {}
  staged : GroupCfg := {}
  /-- Channels in SF and in SD, 0 for protection. -/
  sf : List Nat := []
  sd : List Nat := []
  /-- Channels whose SF or SD has served its hold-off and is raised. -/
  sfUp : List Nat := []
  sdUp : List Nat := []
  /-- The stored external request: rank and channel, with the packet that placed it. -/
  ext : Option (Nat × Nat × Packet) := none
  /-- Request in force: rank, channel; and the local one, which a far request can outrank. -/
  rank : Nat := 0
  chan : Nat := 0
  lrank : Nat := 0
  lchan : Nat := 0
  /-- DNR holds until a request ends it (R293). -/
  dnr : Bool := false
  /-- The channel selected onto working 0 or protection, and the channel bridged. -/
  selProt : Bool := false
  selChan : Nat := 0
  bridge : Nat := 0
  /-- Accepted far K1 and K2, sent K1 and K2. -/
  farK1 : Nat := 0
  farK2 : Nat := 0
  txK1 : Nat := 0
  txK2 : Nat := 0
  farInForce : Bool := false
  mode : Bool := false
  fop : Bool := false
  fopRun : Nat := 0
  fopOk : Nat := 0
  invalid : Bool := false
  /-- Endpoints and connection of an SNCP group. -/
  conn : Option Nat := none
  deriving DecidableEq, Repr

/-- Protection and the equipment pair (12_protection). -/
structure ProtSt where
  groups : Tbl GroupSt := []
  deriving DecidableEq, Repr

/-- A chimney link of the pair (R303, R386): intervals without an accepted frame, accepted frames in a row, the
partner's identity. -/
structure ChimSt where
  miss : Nat := 8
  good : Nat := 0
  identLast : Option (BitVec 128) := none
  partner : Option (BitVec 128) := none
  deriving DecidableEq, Repr

/-- The equipment protection pair (R301 to R318). -/
structure PairSt where
  /-- The pair lanes named by PAIR_CFG. -/
  lanes : List Nat := []
  lanesStaged : List Nat := []
  links : Tbl ChimSt := []
  lastAgreed : Nat := 0
  /-- Halves of the pin word being received, and the CLAIM of the chimney frame of its even tick. -/
  pinHigh : Option Nat := none
  pinLow : Option Nat := none
  chimClaim : Option Nat := none
  pinBad : Nat := 0
  pinGood : Nat := 0
  /-- Frames of disagreement and of agreement; the last comparison agreed (R312). -/
  disagree : Nat := 0
  agree : Nat := 0
  agrees : Bool := false
  /-- The mate hold has expired with both channels lost (R314). -/
  mateZero : Bool := false
  tie : Bool := false
  /-- NEXT_CLAIM of the mate as last accepted. -/
  mateNext : Nat := 0
  /-- Ticks until the sweep in progress has filled the mirror (R307); 0 when none runs. -/
  sweep : Nat := 0
  mirrorSeq : Nat := 0
  /-- Commands to forward in the mirror (R305), with their creation numbers and results. -/
  forward : List (Packet × Nat × List Byte) := []
  /-- Progress of R316: 0 in service, 1 waits for the mirror, 2 for the smoke test, 3 in WTR, 4 for a handover. -/
  returnStep : Nat := 1
  /-- A SWITCHOVER holds the unit ineligible (R318). -/
  heldOut : Bool := false
  /-- Handover tick, own next claim, mate's next claim, a SWITCHOVER of this unit (R317). -/
  handover : Option (Nat × Nat × Nat × Bool) := none
  /-- The handover executed in this tick: a SWITCHOVER completes at step 4 (Table 14-8). -/
  handed : Bool := false
  /-- Overhead of the last chimney frame sent. -/
  txClaim : Nat := 0
  txNext : Nat := 0
  txNextSfn : Nat := 0
  txFlags : Nat := 0
  txSfn : Nat := 0
  deriving DecidableEq, Repr

/-- References, the DPLLs and clock outputs (13_timing). -/
structure SyncSt where
  /-- Bit c of entry n: check c of Table 13-2 fails for reference n; after reset activity and frequency do. -/
  checks : Tbl Nat := []
  /-- References that have failed since they were enabled (R328). -/
  failedOnce : List Nat := []
  /-- Bits 0, 1: feed A of pair n fails activity, frequency; bits 2, 3: feed B. -/
  feedBad : Tbl Nat := []
  /-- Phase between the feeds in ns; frames of disagreement and of agreement in a row (R324). -/
  feedPhase : Tbl Nat := []
  feedDis : Tbl Nat := []
  feedAgree : Tbl Nat := []
  /-- Pairs with no feed in use. -/
  feedNone : List Nat := []
  /-- Tick at which lock was found and since which the DPLL is locked (R331, R332). -/
  lockFound : Option Nat := none
  lockedSince : Option Nat := none
  /-- Rank of the last reference in use, for banked quality (R326). -/
  lastRank : Nat := 8
  /-- The mirror DPLL serves; tick of its last re-synchronising; the DPLL in service has failed without one (R337). -/
  mirror : Bool := true
  resynced : Option Nat := none
  failed : Bool := false
  /-- Outputs held low until the next tick after a flip (R339). -/
  clkHold : List Nat := []
  /-- Ticks lengthened minus ticks shortened by 2.5 ns so far (R336). -/
  slewed : Int := 0
  deriving DecidableEq, Repr

/-- A device in the ring table (R384). -/
structure RingEntry where
  ident : Ident
  hop : Nat
  present : Bool
  missing : Nat := 0
  beacon : Bool := false
  deriving DecidableEq, Repr

/-- A SET_ADDRESS whose assign packet has been sent (R376). -/
structure Assign where
  packet : Packet
  creation : Option Nat
  fuse : BitVec 64
  addr : Nat
  due : Nat
  deriving DecidableEq, Repr

/-- A flue ring packet to send: TYPE, DEST and body length (Table 15-2). -/
structure RingPkt where
  type : Nat
  dest : Nat
  len : Nat
  deriving DecidableEq, Repr

/-- A ring port (R381): accepted headers without FAR_FAIL in a row, intervals without an accepted header in a
row, accepted headers with FAR_FAIL in a row. -/
structure RingPort where
  good : Nat := 0
  miss : Nat := 0
  far : Nat := 0
  deriving DecidableEq, Repr

/-- The flue ring (15_flue_ring). -/
structure RingSt where
  table : List RingEntry := []
  west : RingPort := {}
  east : RingPort := {}
  /-- The root's picture: wrapped ports, and those of them that have reported good. -/
  wrapped : List (Nat × Bool) := []
  goodReports : List (Nat × Bool) := []
  /-- U of R383, once known. -/
  unwrapAt : Option Nat := none
  /-- The ring SFN has been adopted (R384). -/
  adopted : Bool := false
  assigns : List Assign := []
  ringNo : Nat := 0
  rootFuse : BitVec 64 := 0
  /-- Packets waiting, and those that left in the last frame sent. -/
  tx : List RingPkt := []
  sent : List RingPkt := []
  /-- FLAGS of the last frame sent. -/
  sentFlags : Nat := 0
  deriving DecidableEq, Repr

/-- Health, spares and power (18_health). -/
structure HealthSt where
  /-- Grades by unit: spare block g, framer 100 + n, mapper 200 + n, engine 300 + n, bank 400 + n,
  slice 900 + n, command processor 1000. -/
  grades : Tbl Nat := []
  pendingSubs : List UnitRef := []
  repairs : List Repair := []
  poisonList : List (BitVec 64) := []
  /-- Units that failed in the round in progress. -/
  failedUnits : List Nat := []
  /-- Banks under copy: bank, spare, affected pages. -/
  copies : List (Nat × Nat × List Nat) := []
  /-- Banks whose copy has completed and whose switch comes at step 2 of the next tick (R436). -/
  copiesDone : List Nat := []
  isolated : List BlockRef := []
  /-- Spare commits that wait for a calendar entry (R52). -/
  waiting : List UnitRef := []
  /-- Pages withdrawn from their pool: bank and page (R437). -/
  withdrawn : List (Nat × Nat) := []
  /-- Tick of the end of the last round. -/
  roundEnd : Option Nat := none
  everRound : Bool := false
  /-- Contexts rebuilt (R29): the entities whose records were lost. -/
  contextLost : List Cond := []
  /-- Mapper positions whose block was replaced in the current second (R222), and the tick at which a
  spare mapper resumes. -/
  mapperSubst : List Nat := []
  mapperResume : Tbl Nat := []
  deriving DecidableEq, Repr

/-- A trace record (Table 19-2): class, flags, sequence, time word, label, body. -/
structure TraceRec where
  cls : Nat
  flags : Nat
  seq : Nat
  time : Nat
  label : Nat
  cycle : Nat
  body : List Byte
  deriving DecidableEq, Repr

/-- The observation unit (19_observation). -/
structure ObsSt where
  /-- The capture FIFO and the trace buffer, oldest record first. -/
  fifo : List TraceRec := []
  buffer : List TraceRec := []
  /-- Number of the next record since the last trace start. -/
  seq : Nat := 0
  /-- The next record stored, and the next one moved, carry DROP_BEFORE. -/
  dropBefore : Bool := false
  moveDrop : Bool := false
  fullRaised : Bool := false
  /-- Core cycles counted up to the last tick or freeze (R449). -/
  cycles : Nat := 0
  cnts : Tbl Ctr := []
  /-- A precise sample that waits for the capture FIFO (R450). -/
  waiting : Option TraceRec := none
  deriving DecidableEq, Repr

/-- The image slots and the loader (20_startup). -/
structure FwSt where
  /-- Slot that runs; the other is free. -/
  running : Nat := 0
  slot0 : Tbl Byte := []
  slot1 : Tbl Byte := []
  /-- Bytes written to the free slot, as ranges (start, length). -/
  written : List (Nat × Nat) := []
  imageLen : Nat := 0
  /-- An activation falls due at the end of this step 2; one is under way; the new image has started (R459). -/
  activate : Bool := false
  starting : Bool := false
  up : Bool := false
  /-- Tick T of the restart or of the first start. -/
  startTick : Nat := 0
  /-- Firmware has been started since RESET_N. -/
  started : Bool := false
  deriving DecidableEq, Repr

/-- Pins and the TAP (20_startup, 21_pins). -/
structure PinSt where
  extest : Bool := false
  sample : List Bool := []
  boundary : List Bool := []
  tapInstr : Nat := 1
  /-- Tick at which a re-driven output was driven again: monitor and tick. -/
  redriven : Tbl Nat := []
  /-- What the last SPI or host read returned, and the last TAP output. -/
  lastRead : List Word := []
  tdo : Nat := 0
  /-- The ROLE output (R302). -/
  role : Bool := false
  /-- The pulse width of CLAIM_OUT in ns (R311). -/
  claimOutNs : Nat := 0
  /-- Pulse width in ns that each FP_OUT sends in the tick (R472). -/
  fpOut : Tbl Nat := []
  deriving DecidableEq, Repr

/-- The check-value units' running registers (R421) and the memory targets (R415). -/
structure BusSt where
  cvu : Tbl Nat := []
  /-- FOLD_MODE 2: bytes received since START, until the stream field is known (R424). -/
  cvuHeld : Tbl Nat := []
  cvuBytes : Tbl (List Byte) := []
  /-- Memory targets 1 to 5 of Table 17-10 as cells: target × 2^28 + byte offset. -/
  mem : List Host.Cell := []
  deriving DecidableEq, Repr

/-- What a damper output carries (Table 11-2). -/
inductive DamperOut where
  | squelch | forced | hold | defect | unconnected | traffic
  deriving DecidableEq, Repr

/-- The KX9600. -/
structure State where
  /-- Commands waiting, first in, first out: the block's interface, not the manual's state. -/
  pending : List Instr := []
  dev : Dev := {}
  regs : Tbl Word := []
  staged : Tbl Word := []
  time : TimeSt := {}
  cal : CalSt := {}
  cmd : CmdSt := {}
  queues : Tbl Queue := []
  evt : EvtSt := {}
  arrivals : List Arrival := []
  timers : List Timer := []
  ports : Tbl PortSt := []
  paths : Tbl PathSt := []
  odus : Tbl OduSt := []
  containers : Tbl Container := []
  tribs : Tbl TribSt := []
  flows : Tbl FlowSt := []
  chans : Tbl ChanSt := []
  vlans : Tbl Nat := []
  vlansStaged : Tbl Nat := []
  vcats : Tbl VcatSt := []
  bonds : Tbl BndSt := []
  hrps : Tbl HrpSt := []
  grate : GrateSt := {}
  pm : PmSt := {}
  prot : ProtSt := {}
  pair : PairSt := {}
  sync : SyncSt := {}
  ring : RingSt := {}
  health : HealthSt := {}
  obs : ObsSt := {}
  fw : FwSt := {}
  pins : PinSt := {}
  bus : BusSt := {}
  dampers : Tbl DamperOut := []
  deriving DecidableEq, Repr

/-- The machine at the release of RESET_N (R12, R452, R453): every register at its Reset column, the ROM
responder answering, no firmware, BOOT_SEL pins open (0b00, R470), nothing configured. Notes:
assumptions 4 and 5. -/
def State.reset : State := {}

end Sys2Proof.Machine
end

