-- ==== Sys2Proof/Machine/Ops.lean ====
section
/-! DEFINITION. The named operations every chapter uses: registers in their active and staged banks
(R55), per-entity tables, free values, timers (R59), arrivals (R97), events and lasting conditions
(R391 to R393, R493). -/

namespace Sys2Proof.Machine

/-! ### Registers -/

/-- The active bank's word of the register `k`. -/
def State.rd (s : State) (k : Nat) : Word := s.regs.getD k (regReset k)

/-- The active bank with the register `k` holding `v`. -/
def State.wr (s : State) (k : Nat) (v : Word) : State :=
  { s with regs := s.regs.store k v (regReset k) }

/-- A field of a register. -/
def State.get (s : State) (k : Nat) (f : Fld) : Nat := f.get (s.rd k)

/-- A one-bit field. -/
def State.on (s : State) (k : Nat) (f : Fld) : Bool := decide (s.get k f = 1)

/-- A field set by the device. -/
def State.put (s : State) (k : Nat) (f : Fld) (v : Nat) : State := s.wr k (f.set (s.rd k) v)

/-- A count in a register field, saturating at the field's top. -/
def State.bump (s : State) (k : Nat) (f : Fld) (n : Nat) : State :=
  s.put k f (satAdd (2 ^ f.width - 1) (s.get k f) n)

/-- The staged bank's word of the register `k` (R55). -/
def State.rdStaged (s : State) (k : Nat) : Word := s.staged.getD k (regReset k)

/-- A write to the staged bank. -/
def State.wrStaged (s : State) (k : Nat) (v : Word) : State :=
  { s with staged := s.staged.store k v (regReset k) }

/-- The flip of a list of registers: the staged words become the active ones (R55). -/
def State.flipRegs (s : State) : List Nat → State
  | [] => s
  | k :: ks => (s.wr k (s.rdStaged k)).flipRegs ks

/-- The discard of staged changes (R56): the active words become the staged ones. -/
def State.discardRegs (s : State) : List Nat → State
  | [] => s
  | k :: ks => (s.wrStaged k (s.rd k)).discardRegs ks

/-! ### Per-entity tables -/

def State.port (s : State) (p : Nat) : PortSt := s.ports.getD p {}
def State.setPort (s : State) (p : Nat) (v : PortSt) : State :=
  { s with ports := s.ports.store p v {} }
def State.updPort (s : State) (p : Nat) (f : PortSt → PortSt) : State := s.setPort p (f (s.port p))

/-- The number of a path: port × 256 + head. -/
def pathKey (p head : Nat) : Nat := p * 256 + head
def State.path (s : State) (k : Nat) : PathSt := s.paths.getD k {}
def State.updPath (s : State) (k : Nat) (f : PathSt → PathSt) : State :=
  { s with paths := s.paths.store k (f (s.path k)) {} }

/-- The number of an ODU: port × 256 + index. -/
def oduKey (p index : Nat) : Nat := p * 256 + index
def State.odu (s : State) (k : Nat) : OduSt := s.odus.getD k {}
def State.updOdu (s : State) (k : Nat) (f : OduSt → OduSt) : State :=
  { s with odus := s.odus.store k (f (s.odu k)) {} }

/-- The number of a container: port × 256 + head. -/
def State.container (s : State) (k : Nat) : Container := s.containers.getD k {}
def State.updContainer (s : State) (k : Nat) (f : Container → Container) : State :=
  { s with containers := s.containers.store k (f (s.container k)) {} }

/-- The number of a low-order tributary: (port × 256 + head) × 65,536 + position word (R198). -/
def tribNum (p head pos : Nat) : Nat := (p * 256 + head) * 65536 + pos
def tribKeyNum (k : TribKey) : Nat := tribNum k.port.val k.head.toNat k.pos.toNat
def State.trib (s : State) (k : Nat) : TribSt := s.tribs.getD k {}
def State.updTrib (s : State) (k : Nat) (f : TribSt → TribSt) : State :=
  { s with tribs := s.tribs.store k (f (s.trib k)) {} }

/-- The number of a flow, a channel or a VCAT group: engine × 64 + number. -/
def engKey (e n : Nat) : Nat := e * 64 + n
def State.flow (s : State) (k : Nat) : FlowSt := s.flows.getD k {}
def State.updFlow (s : State) (k : Nat) (f : FlowSt → FlowSt) : State :=
  { s with flows := s.flows.store k (f (s.flow k)) {} }
def State.chan (s : State) (k : Nat) : ChanSt := s.chans.getD k {}
def State.updChan (s : State) (k : Nat) (f : ChanSt → ChanSt) : State :=
  { s with chans := s.chans.store k (f (s.chan k)) {} }
def State.vcat (s : State) (k : Nat) : VcatSt := s.vcats.getD k {}
def State.updVcat (s : State) (k : Nat) (f : VcatSt → VcatSt) : State :=
  { s with vcats := s.vcats.store k (f (s.vcat k)) {} }
def State.bond (s : State) (g : Nat) : BndSt := s.bonds.getD g {}
def State.updBond (s : State) (g : Nat) (f : BndSt → BndSt) : State :=
  { s with bonds := s.bonds.store g (f (s.bond g)) {} }
def State.hrp (s : State) (g : Nat) : HrpSt := s.hrps.getD g {}
def State.updHrp (s : State) (g : Nat) (f : HrpSt → HrpSt) : State :=
  { s with hrps := s.hrps.store g (f (s.hrp g)) {} }
def State.pgroup (s : State) (g : Nat) : GroupSt := s.prot.groups.getD g {}
def State.updGroup (s : State) (g : Nat) (f : GroupSt → GroupSt) : State :=
  { s with prot := { s.prot with groups := s.prot.groups.store g (f (s.pgroup g)) {} } }
def State.queue (s : State) (q : Nat) : Queue := s.queues.getD q {}
def State.setQueue (s : State) (q : Nat) (v : Queue) : State :=
  { s with queues := s.queues.store q v {} }

def State.updAlf (s : State) (p : Nat) (f : AlfSt → AlfSt) : State :=
  s.updPort p fun x => { x with alf := f x.alf }
def State.updSdh (s : State) (p : Nat) (f : SdhSt → SdhSt) : State :=
  s.updPort p fun x => { x with sdh := f x.sdh }
def State.updOtn (s : State) (p : Nat) (f : OtnSt → OtnSt) : State :=
  s.updPort p fun x => { x with otn := f x.otn }
def State.updEth (s : State) (p : Nat) (f : EthSt → EthSt) : State :=
  s.updPort p fun x => { x with eth := f x.eth }

def State.alf (s : State) (p : Nat) : AlfSt := (s.port p).alf
def State.sdh (s : State) (p : Nat) : SdhSt := (s.port p).sdh
def State.otn (s : State) (p : Nat) : OtnSt := (s.port p).otn
def State.eth (s : State) (p : Nat) : EthSt := (s.port p).eth

/-- Fold an operation over a list. -/
def State.each {α : Type} (s : State) (xs : List α) (f : State → α → State) : State := xs.foldl f s

/-- An operation under a condition. -/
def State.when (s : State) (c : Bool) (f : State → State) : State := if c then f s else s

/-! ### Free values, time and timers -/

/-- A value the manual leaves open, and the state that has used it. Notes: assumption 2. -/
def State.fresh (s : State) : Nat × State :=
  (Config.free s.dev.freeCtr, { s with dev := { s.dev with freeCtr := s.dev.freeCtr + 1 } })

def State.now (s : State) : Nat := s.dev.ticks

/-- Ticks per second (R43). -/
def ticksPerSecond : Nat := 8000

/-- Start a timer of `d` ticks; one kind runs at most once (R59). -/
def State.startTimer (s : State) (k : TimerKind) (d : Nat) : State :=
  { s with timers := (s.timers.filter fun t => decide (t.kind ≠ k)) ++ [⟨k, s.dev.ticks + d⟩] }

def State.stopTimer (s : State) (k : TimerKind) : State :=
  { s with timers := s.timers.filter fun t => decide (t.kind ≠ k) }

def State.hasTimer (s : State) (k : TimerKind) : Bool := s.timers.any fun t => decide (t.kind = k)

/-- Ticks left on a timer, 0 when it does not run. -/
def State.timerLeft (s : State) (k : TimerKind) : Nat :=
  match s.timers.find? fun t => decide (t.kind = k) with
  | some t => t.due - s.dev.ticks
  | none => 0

/-- The timer's expiry has fallen due (R59). -/
def State.timerDue (s : State) (k : TimerKind) : Bool :=
  s.timers.any fun t => decide (t.kind = k) && decide (t.due ≤ s.dev.ticks)

/-- Something decided between ticks, for step 1 of the next tick (R97). -/
def State.arrive (s : State) (a : Arrival) : State := { s with arrivals := s.arrivals ++ [a] }

/-! ### Role, address and level -/

/-- The device is a gateway: it booted from PCIe or SPI and has not given way to another root (R373). -/
def State.isGateway (s : State) : Bool :=
  (decide (s.get SYS_BOOT_STATUS.key SYS_BOOT_STATUS.BOOT_SEL = 0) ||
   decide (s.get SYS_BOOT_STATUS.key SYS_BOOT_STATUS.BOOT_SEL = 2)) && !s.cmd.demoted

/-- The device address (R375). -/
def State.address (s : State) : Nat := s.get FLU_STATUS.key FLU_STATUS.ADDR

def State.master (s : State) (m : Nat) : Master := if m = 0 then s.cmd.m0 else s.cmd.m1

def State.updMaster (s : State) (m : Nat) (f : Master → Master) : State :=
  if m = 0 then { s with cmd := { s.cmd with m0 := f s.cmd.m0 } }
  else { s with cmd := { s.cmd with m1 := f s.cmd.m1 } }

/-- R357. -/
def State.expertMode (s : State) : Bool := s.cmd.m0.expert || s.cmd.m1.expert

/-- The master is absent (R359). -/
def State.absent (s : State) (m : Nat) : Bool :=
  s.on CMD_STATUS.key (if m = 0 then CMD_STATUS.ABSENT_M0 else CMD_STATUS.ABSENT_M1)

/-- The master claim, 0 while the master is absent (R358, R359). -/
def State.masterClaim (s : State) (m : Nat) : Nat :=
  if s.absent m then 0
  else s.get CMD_CFG.key (if m = 0 then CMD_CFG.CLAIM_M0 else CMD_CFG.CLAIM_M1)

/-- The master of higher claim; M0 where absence makes both 0. -/
def State.highMaster (s : State) : Nat := if s.masterClaim 0 < s.masterClaim 1 then 1 else 0

/-- The time word of Table 02-7. -/
def State.timeWord (s : State) : Nat :=
  s.time.epoch * 2 ^ 56 + s.time.labelGen * 2 ^ 48 + s.time.sfn

/-- The host has reissued an entity's configuration: a lost record is whole again (R29). -/
def State.reissued (s : State) (source entity : Nat) : State :=
  let left := s.health.contextLost.filter fun c => !decide (c.source = source ∧ c.entity = entity)
  { s with health := { s.health with contextLost := left } }

/-! ### Trace capture (R445, R446) -/

/-- Records the capture FIFO holds. -/
def fifoCap : Nat := 256

/-- A happening of a class passes CLASS_EN, and for a master's happening MASTER_EN. -/
def State.captures (s : State) (cls : Nat) (who : Option Nat) : Bool :=
  let k := OBS_TRACE_CFG.key
  s.on k OBS_TRACE_CFG.TRACE_EN && (s.get k OBS_TRACE_CFG.CLASS_EN).testBit (cls - 1) &&
  match who with
  | some m => (s.get k OBS_TRACE_CFG.MASTER_EN).testBit m
  | none => true

/-- The observation unit's own state. -/
def State.updObs (s : State) (f : ObsSt → ObsSt) : State := { s with obs := f s.obs }

/-- A record is dropped: counted, and the next record stored says so. -/
def State.dropRecord (s : State) : State :=
  ((s.bump OBS_DROP_CNT.key OBS_DROP_CNT.DROPS 1).put OBS_TRACE_STATUS.key OBS_TRACE_STATUS.DROP_HIST 1).updObs
    fun o => { o with dropBefore := true }

/-- A record enters the capture FIFO. -/
def State.pushRecord (s : State) (r : TraceRec) : State :=
  if s.obs.fifo.length < fifoCap then s.updObs fun o => { o with fifo := o.fifo ++ [r] } else s.dropRecord

/-- The record of a happening; the core cycle within the tick is open. -/
def State.makeRecord (s : State) (cls : Nat) (trunc : Bool) (body : List Byte) : TraceRec × State :=
  let f := s.fresh
  (⟨cls, 2 * bit trunc, s.obs.seq, s.timeWord, s.time.tod, f.1 % 100000, body⟩,
   f.2.updObs fun o => { o with seq := (o.seq + 1) % 2 ^ 32 })

def State.capture (s : State) (cls : Nat) (who : Option Nat) (trunc : Bool) (body : List Byte) : State :=
  if s.captures cls who then
    let r := s.makeRecord cls trunc body
    r.2.pushRecord r.1
  else s

/-- Class 1: a command taken (DIR 0) or a reply (DIR 1), header and payload up to CAP_BYTES. -/
def State.tracePacket (s : State) (dir m status : Nat) (bs : List Byte) : State :=
  let cap := min 256 (s.get OBS_TRACE_CFG.key OBS_TRACE_CFG.CAP_BYTES)
  let payload := (bs.drop 24).take (bs.length - 28)
  s.capture 1 (some m) (decide (cap < payload.length))
    (beBytes 1 dir ++ beBytes 1 m ++ beBytes 1 status ++ [0] ++ bs.take 24 ++ payload.take cap)

/-- Class 2: a calendar entry executed or removed. -/
def State.traceCalendar (s : State) (creation : Nat) (who : Option (Nat × Nat)) (res : Nat × Nat × Nat)
    (status cflags : Nat) : State :=
  s.capture 2 (who.map Prod.fst) false
    (beBytes 4 creation ++ beBytes 1 ((who.map Prod.fst).getD 0xFF) ++ [0] ++ beBytes 2 ((who.map Prod.snd).getD 0) ++
      beBytes 1 res.1 ++ beBytes 1 res.2.1 ++ beBytes 2 res.2.2 ++ beBytes 1 status ++ beBytes 1 cflags ++ [0, 0])

/-- Class 4: the request in force or the selector of a group changes. -/
def State.traceProtection (s : State) (g r0 r1 c0 c1 : Nat) : State :=
  s.capture 4 none false (beBytes 4 g ++ beBytes 1 r0 ++ beBytes 1 r1 ++ beBytes 1 c0 ++ beBytes 1 c1)

/-- Class 5: units reserved (0), released (1) or refused (2); no connection is named. -/
def State.traceStoker (s : State) (who : Option (Nat × Nat)) (result code scope units : Nat) : State :=
  s.capture 5 (who.map Prod.fst) false
    (beBytes 1 ((who.map Prod.fst).getD 0xFF) ++ beBytes 1 result ++ beBytes 1 code ++ [0] ++
      beBytes 2 ((who.map Prod.snd).getD 0) ++ [0xFF, 0xFF] ++ beBytes 4 scope ++ beBytes 4 units)

/-! ### Words and events -/

/-- A valid word (tag 0b01). -/
def validWord (content : Nat) : BitVec 64 := BitVec.ofNat 64 (2 ^ 62 + content % 2 ^ 62)

/-- The event word of Table 16-4 with its extension words. -/
def eventWords (e : EventRec) : List (BitVec 64) :=
  validWord ((e.source % 512) * 2 ^ 49 + (e.code % 256) * 2 ^ 41 + bit e.set * 2 ^ 40 +
      (e.level % 4) * 2 ^ 38 + (e.ext.length % 16) * 2 ^ 34 + e.entity % 2 ^ 32) ::
    e.ext.map fun x => validWord (4 * 2 ^ 58 + x.toNat)

/-! ### Events and lasting conditions -/

/-- Codes of lane defects, Table 03-2 in the order of Table 11-1: cell level by R493. -/
def laneDefect (code : Nat) : Bool := decide (1 ≤ code ∧ code ≤ 4)

/-- The LEVEL of an event, Table 16-12. -/
def eventLevel (source code : Nat) : Nat :=
  if source < 96 then (if laneDefect code then 0 else 1)
  else if source < 152 then
    (if code = 0x80 ∨ (code = 0x84 ∧ source < 144) then 2 else 1)
  else if source < 156 then 3
  else if source < 192 then 1
  else if source < 249 then 3
  else if source < 252 then 1
  else if source < 328 then 3
  else if source < 332 then 2
  else if source < 357 then (if code = 0x80 ∨ code = 0x81 then 0 else 3)
  else 3

/-- The sticky bit of a source for a master (R393). -/
def State.setSticky (s : State) (m source : Nat) : State :=
  let k := EVT_STICKY.key m (source / 32)
  s.wr k (s.rd k ||| BitVec.ofNat 32 (2 ^ (source % 32)))

def State.sticky (s : State) (m source : Nat) : Bool :=
  (s.rd (EVT_STICKY.key m (source / 32))).getLsbD (source % 32)

def State.masked (s : State) (m source : Nat) : Bool :=
  (s.rd (EVT_MASK.key m (source / 32))).getLsbD (source % 32)

/-- An event is recorded: the sticky bits are set, and the event joins the tick's record (R393, R395). -/
def State.eventX (s : State) (source code : Nat) (set : Bool) (entity : Nat) (ext : List Nat) : State :=
  let s := (s.setSticky 0 source).setSticky 1 source
  let e : EventRec := ⟨source, code, set, eventLevel source code, entity, ext.map (BitVec.ofNat 58)⟩
  ({ s with evt := { s.evt with tick := s.evt.tick ++ [e] } }).capture 3 none false
    ((eventWords e).flatMap fun (w : BitVec 64) => beBytes 8 w.toNat)

def State.event (s : State) (source code : Nat) (set : Bool) (entity : Nat) : State :=
  s.eventX source code set entity []

/-- A lasting condition is declared now. -/
def State.has (s : State) (c : Cond) : Bool := s.evt.conds.contains c

/-- The condition is declared or cleared, without an event. -/
def State.setCond (s : State) (c : Cond) (on : Bool) : State :=
  let cs := if on then (if s.evt.conds.contains c then s.evt.conds else s.evt.conds ++ [c])
    else s.evt.conds.filter fun d => decide (d ≠ c)
  { s with evt := { s.evt with conds := cs } }

/-- A lasting condition changes: the live state changes and the event is recorded; a condition that
already stands so changes nothing. -/
def State.cond (s : State) (c : Cond) (on : Bool) : State :=
  if s.has c = on then s else (s.setCond c on).event c.source c.code on c.entity

/-- The live bit of a source (R393). -/
def State.live (s : State) (source : Nat) : Bool := s.evt.conds.any fun c => decide (c.source = source)

/-- Any lasting condition of the given entity with one of the codes. -/
def State.hasAny (s : State) (source entity : Nat) (codes : List Nat) : Bool :=
  codes.any fun c => s.has ⟨source, entity, c⟩

end Sys2Proof.Machine
end

