-- ==== Sys2Proof/Machine/Operands.lean ====
section
/-! DEFINITION. The operands of host commands: the packet header of Table 14-1, the effective time of
Table 02-2, payload layouts and their first fault (R346, R496), descriptors, and the resources a command
names (Table 14-7). -/

namespace Sys2Proof

open Machine


/-! ### The header -/

def Packet.master (p : Packet) : Nat := p.source.toNat / 128
def Packet.srcRing (p : Packet) : Nat := p.source.toNat / 8 % 16
def Packet.isExpert (p : Packet) : Bool := p.flags.toNat.testBit 7
def Packet.lateOk (p : Packet) : Bool := p.flags.toNat.testBit 6
def Packet.preempt (p : Packet) : Bool := p.flags.toNat.testBit 5
def Packet.noReply (p : Packet) : Bool := p.flags.toNat.testBit 4
def Packet.op (p : Packet) : Nat := p.opcode.toNat

/-- The local commands of R305. -/
def Packet.isLocal (p : Packet) : Bool :=
  decide (0x90 ≤ p.op ∧ p.op ≤ 0x96) || decide (0xA0 ≤ p.op ∧ p.op ≤ 0xA3) || decide (0xF0 ≤ p.op ∧ p.op ≤ 0xF4) ||
  (decide (p.op = 0x54) && (p.payload.headD 0 == 0 || p.payload.headD 0 == 2))

/-- The header bytes 0 to 23 (Table 14-1). -/
def Packet.header (p : Packet) : List Byte :=
  [p.ver, p.flags, p.opcode, p.source] ++ beBytes 2 p.dest.toNat ++ beBytes 2 p.seq.toNat ++
  beBytes 6 p.eff.toNat ++ beBytes 2 p.length.toNat ++ beBytes 2 p.timeout.toNat ++
  beBytes 2 p.frag.toNat ++ beBytes 4 p.rsv.toNat

/-- CHECK as the executing device computes it: CRC-32C over the prefix (its own address and SEQ), the
header and the payload (R347). -/
def Packet.crc (addr : Nat) (p : Packet) : Nat :=
  crc32c.of (beBytes 2 (addr % 1024) ++ beBytes 2 p.seq.toNat ++ p.header ++ p.payload)

/-- The field of the payload at an offset. -/
def Packet.fld (p : Packet) (off size : Nat) : Nat := fieldAt p.payload off size

/-- A packet whose opcode and, where the row names one choice of a command, whose discriminating byte
are the row's. -/
def Packet.forOp (p : Packet) (op : Nat) : Packet := { p with opcode := BitVec.ofNat 8 op }

def Packet.forByte (p : Packet) (op off v : Nat) : Packet :=
  { p with opcode := BitVec.ofNat 8 op, payload := putByte p.payload off (BitVec.ofNat 8 v) }

end Sys2Proof

namespace Sys2Proof.Machine

/-- Most bytes of a payload (R346). -/
def maxPayload : Nat := 4068

/-- The effective time of Table 02-2. -/
inductive EffKey where
  | immediate
  | sfn (n : Nat)
  | port (p pfn : Nat)
  deriving DecidableEq, Repr

def effKey (v : Nat) : EffKey :=
  if v = 0 then .immediate
  else if v < 2 ^ 47 then .sfn v
  else .port (bitsOf v 40 7) (v % 2 ^ 32)

def keyOf (p : Packet) : EffKey := effKey p.eff.toNat

/-- The first header fault of R496 other than VER, as the offset where its field starts. -/
def headerFault (p : Packet) : Option Nat :=
  if p.flags.toNat % 8 ≠ 0 ∨ p.flags.toNat.testBit 3 then some 1
  else if p.source.toNat % 8 ≠ 0 then some 3
  else if 1024 ≤ p.dest.toNat then some 4
  else if p.eff.toNat.testBit 47 ∧
      (95 < bitsOf p.eff.toNat 40 7 ∨ bitsOf p.eff.toNat 32 8 ≠ 0) then some 8
  else if p.frag.toNat ≠ 0 then some 18
  else if p.rsv.toNat ≠ 0 then some 20
  else none

/-! ### Layouts -/

/-- One field of a payload layout and the values it admits. -/
structure LField where
  off : Nat
  size : Nat
  ok : Nat → Bool

/-- A reserved field. -/
def rsv (off size : Nat) : LField := ⟨off, size, fun v => decide (v = 0)⟩
/-- A field below a bound. -/
def below (off size bound : Nat) : LField := ⟨off, size, fun v => decide (v < bound)⟩
/-- A field between bounds. -/
def within (off size lo hi : Nat) : LField := ⟨off, size, fun v => decide (lo ≤ v ∧ v ≤ hi)⟩
/-- A field with a rule of its own. -/
def such (off size : Nat) (ok : Nat → Bool) : LField := ⟨off, size, ok⟩

/-- The first of the offsets given. -/
def firstOf : List (Option Nat) → Option Nat
  | [] => none
  | none :: t => firstOf t
  | some a :: t => match firstOf t with
    | some b => some (min a b)
    | none => some a

/-- The first faulty field of a payload of exact length `len` (R346): a field of wrong value, the end
of a payload too short, or the first byte beyond it. -/
def layoutFault (bs : List Byte) (len : Nat) (fs : List LField) : Option Nat :=
  firstOf ((fs.map fun f =>
      if f.off + f.size ≤ bs.length ∧ f.ok (fieldAt bs f.off f.size) = false then some f.off else none) ++
    [if bs.length < len then some bs.length else if len < bs.length then some len else none])

/-- DETAIL of a payload fault (Table 14-3). -/
def payloadDetail (k : Nat) : Nat := 0x8000 + k

/-- The status codes of Table 14-4. -/
def stOK : Nat := 0x00
def stACCEPTED : Nat := 0x01
def stBUSY : Nat := 0x02
def stSUPERSEDED : Nat := 0x03
def stCONFLICT : Nat := 0x04
def stLATE : Nat := 0x05
def stTOO_FAR : Nat := 0x06
def stBACKWARD : Nat := 0x07
def stFLUSHED : Nat := 0x08
def stREJECTED_LEVEL : Nat := 0x09
def stNO_RESOURCE : Nat := 0x0A
def stBAD_CHECK : Nat := 0x0B
def stBAD_OPCODE : Nat := 0x0C
def stBAD_PARAM : Nat := 0x0D
def stDEFERRED : Nat := 0x0E
def stNOT_PRESENT : Nat := 0x0F

/-- What a command's own chapter answers at acceptance (row 9 of Table 14-5). -/
inductive Verdict where
  /-- Refused: status, DETAIL, result. -/
  | refuse (status detail : Nat) (result : List Byte)
  /-- Executed at once, in step 1: status and result. -/
  | answer (status : Nat) (result : List Byte) (s : State)
  /-- Accepted, with what acceptance itself writes or reserves, and a result of the acceptance reply. -/
  | accept (s : State) (result : List Byte := [])
  deriving DecidableEq, Repr

/-- A field found invalid by a rule of the chapter. -/
def Verdict.bad (k : Nat) : Verdict := .refuse stBAD_PARAM (payloadDetail k) []

/-- What execution at step 2 answers: status, DETAIL, result; `finished` is false where the completion
comes later (a long operation, a DEFERRED flip re-entered, an armed SET_SFN). -/
structure Done where
  s : State
  status : Nat := 0
  detail : Nat := 0
  result : List Byte := []
  finished : Bool := true
  /-- The flip is put off: the command stays where it is and executes at a later step 2 (R263). -/
  again : Bool := false

/-- Execution that ends OK. -/
def okDone (s : State) : Done := { s := s }
def okWith (s : State) (r : List Byte) : Done := { s := s, result := r }
def failDone (s : State) (st d : Nat) : Done := { s := s, status := st, detail := d }
/-- A long operation runs on. -/
def runsOn (s : State) : Done := { s := s, finished := false }

/-! ### Descriptors -/

/-- An endpoint descriptor, Table 10-4: PORT, KIND, HEAD, INDEX, REF as 8 bytes. -/
structure Ep where
  port : Nat
  kind : Nat
  head : Nat
  index : Nat
  ref : Nat
  deriving DecidableEq, Repr

/-- A resource descriptor of Table 14-7. -/
abbrev Res := Nat × Nat × Nat

/-- Opcodes that take leases of a port named in byte 0 of the payload (Table 14-7, row 0x01). -/
def portOps : List Nat :=
  [0x10, 0x11, 0x12, 0x15, 0x16, 0x17, 0x1A, 0x1B, 0x1C, 0x1F, 0x26, 0x27, 0x2D, 0x2E]

/-- The resource a counter reference names for CNT_CLEAR and PM_CFG (Table 14-7). -/
def counterRes (port kind index : Nat) : List Res :=
  if kind = 1 ∨ kind = 2 ∨ kind = 3 ∨ kind = 5 then [(0x01, 0, port)]
  else if kind = 7 then [(0x04, 0, port)]
  else if kind = 8 then [(0x05, 0, port)]
  else if kind = 6 ∧ index < 64 then [(0x07, port, index)]
  else []

/-- The resources a command names (Table 14-7); those the stoker gives at acceptance are added by the
chapter that gives them. `cfg` tells whether the command changes state at all. -/
def resourcesOf (p : Packet) : List Res :=
  let op := p.op
  let b := fun off => p.fld off 1
  if portOps.contains op then [(0x01, 0, b 0)]
  else if op = 0x2A then
    ((List.range (p.payload.length / 4)).map fun i => (0x01, 0, b (4 * i))).eraseDups
  else if op = 0x31 then
    [(0x01, 0, b 0), (0x01, 0, b 8)] ++ (if b 25 = 1 then [(0x01, 0, b 16)] else []) ++
    (if b 25 = 1 ∧ p.fld 28 4 ≠ 0 then [(0x03, b 28, p.fld 30 2)] else [])
  else if op = 0x32 then [(0x02, 0, p.fld 0 2)]
  else if op = 0x50 ∨ op = 0x51 then [(0x03, b 0, p.fld 2 2)]
  else if op = 0x20 ∨ op = 0x21 then [(0x04, 0, b 0)]
  else if op = 0x23 ∨ op = 0x24 then [(0x05, 0, b 0)]
  else if op = 0x2B then [(0x06, b 0, b 1)]
  else if op = 0x29 then
    (if b 0 ≠ 0xFF ∧ b 1 ≠ 0xFF then [(0x07, b 0, b 1)] else []) ++ [(0x01, 0, b 2)]
  else if op = 0x34 ∨ op = 0x36 ∨ op = 0x38 then [(0x08, 0, b 0)]
  else if op = 0x35 then [(0x08, 0, b 0 / 24)]
  else if op = 0x37 then
    ((List.range (p.payload.length / 8)).map fun i => (0x08, 0, p.fld (8 * i) 2 / 12288)).eraseDups
  else if op = 0x61 ∨ op = 0x62 ∨ op = 0x64 then [(0x09, 0, 0)]
  else if op = 0x60 then [(0x0A, 0, b 0)]
  else if op = 0x65 then [(0x0B, 0, b 0)]
  else if op = 0x66 then [(0x0C, 0, 0)]
  else if op = 0x53 ∨ op = 0x54 then [(0x0D, 0, 0)]
  else if op = 0x70 ∨ op = 0x71 then [(0x0E, 0, b 0)]
  else if op = 0x04 ∨ op = 0x05 ∨ op = 0x06 then [(0x0F, 0, 0)]
  else if op = 0x39 then [(0x10, 0, 0)]
  else if op = 0x91 ∨ op = 0x92 ∨ op = 0x94 ∨ op = 0x95 ∨ op = 0x96 then [(0x11, 0, 0)]
  else if op = 0xA0 ∨ op = 0xA1 ∨ op = 0xA2 then [(0x12, 0, 0)]
  else if op = 0xF0 ∨ op = 0xF1 ∨ op = 0xF2 ∨ op = 0xF3 then [(0x13, 0, 0)]
  else if op = 0x73 ∨ op = 0x74 then counterRes (b 0) (b 1) (b 3)
  else if op = 0x07 then
    (List.range (p.fld 2 2)).map fun i => (b (4 + 4 * i), b (5 + 4 * i), p.fld (6 + 4 * i) 2)
  else []

/-- The holder of a resource: 0 none, 1 M0, 2 M1 (R360). -/
def State.holder (s : State) (r : Res) : Nat :=
  match s.cmd.leases.find? fun l => decide (l.cls = r.1 ∧ l.sub = r.2.1 ∧ l.index = r.2.2) with
  | some l => l.master + 1
  | none => 0

/-- LEASE of Table 14-2. -/
def State.leaseByte (s : State) (rs : List Res) : Nat :=
  match rs with
  | [] => 0
  | [r] => s.holder r
  | _ => 3

end Sys2Proof.Machine
end

