-- ==== Sys2Proof/Machine/Queues.lean ====
section
/-! DEFINITION. The host-visible queues (R239 to R243), the reply packets and records of R349 to R351
and R370, the tick records of R395 to R401, and the interrupts of R394 and R400. -/

namespace Sys2Proof.Machine

/-! ### Words and queues -/

/-- Capacity of each queue, Table 09-6. -/
def queueCap (q : Nat) : Nat := [8192, 8192, 4096, 4096, 8192, 8192, 2048, 0].getD q 0

/-- A marker word, Table 09-8. -/
def markerWord (kind count value : Nat) : BitVec 64 :=
  BitVec.ofNat 64 (3 * 2 ^ 62 + (kind % 64) * 2 ^ 56 + (count % 4096) * 2 ^ 44 + value % 2 ^ 32)

/-- The source that a queue's events are reported under (Table 16-1). -/
def queueSource (q : Nat) : Nat := 363 + q

/-- The words a queue holds. -/
def State.fill (s : State) (q : Nat) : Nat := (s.queue q).words.length

/-- QUEUE_LEVEL judged on the fill after the cycle's removal and insertion (R242). -/
def State.judgeLevel (s : State) (q : Nat) : State :=
  let level := s.get (SYS_QCFG.key q) SYS_QCFG.LEVEL
  let qu := s.queue q
  if level = 0 ∨ s.fill q < level then s.setQueue q { qu with levelArmed := true }
  else if qu.levelArmed then
    (((s.setQueue q { qu with levelArmed := false }).put (SYS_QSTAT.key q) SYS_QSTAT.LEVEL_HIST 1).event
      (queueSource q) 0x80 true q)
  else s

/-- The markers owed before the next words: a reset's (R243), then an overflow's (R241). -/
def owedMarkers (qu : Queue) : List (BitVec 64) :=
  (match qu.resetOwed with | some n => [markerWord 0x02 0 n] | none => []) ++
  (if qu.lostRun = 0 then [] else [markerWord 0x01 0 qu.lostRun])

/-- Words that do not fit are lost whole and counted; a new run of losses raises OVERFLOW (R241). -/
def State.loseWords (s : State) (q n : Nat) : State :=
  let qu := s.queue q
  let s1 := (s.setQueue q { qu with lostRun := qu.lostRun + n, inRun := true }).bump
    (SYS_QSTAT.key q) SYS_QSTAT.LOST n
  let s2 := s1.put (SYS_QSTAT.key q) SYS_QSTAT.OVERFLOW_HIST 1
  if qu.inRun then s2 else s2.event (queueSource q) 0x81 true q

/-- A record, or a word, is inserted whole or not at all: the queue takes C - 1 words and keeps its
last slot for a marker (R241). The flag tells whether it was inserted. -/
def State.insertWords (s : State) (q : Nat) (ws : List (BitVec 64)) : Bool × State :=
  let qu := s.queue q
  if s.fill q + ws.length + 1 ≤ queueCap q then
    (true, (s.setQueue q { qu with words := qu.words ++ owedMarkers qu ++ ws, lostRun := 0,
                                    inRun := false, resetOwed := none }).judgeLevel q)
  else (false, s.loseWords q ws.length)

/-- A removal: the word, or 0 (tag 0b00) from an empty queue (R240). A word stored poisoned sets
POISON_HIST and raises POISON. -/
def State.removeWord (s : State) (q : Nat) : BitVec 64 × State :=
  let qu := s.queue q
  match qu.words with
  | [] => (0, s)
  | w :: ws =>
    let s1 := (s.setQueue q { qu with words := ws }).judgeLevel q
    if w.toNat / 2 ^ 62 = 2 then
      (w, (s1.put (SYS_QSTAT.key q) SYS_QSTAT.POISON_HIST 1).event (queueSource q) 0x82 true q)
    else (w, s1)

/-- Up to `n` removals, stopping at the first that finds the queue empty (R240). -/
def State.removeWords (s : State) (q : Nat) : Nat → List (BitVec 64) × State
  | 0 => ([], s)
  | n + 1 =>
    if (s.queue q).words = [] then ([], s)
    else
      let r := s.removeWord q
      let t := r.2.removeWords q n
      (r.1 :: t.1, t.2)

/-- A reset of the queue: every word discarded, a reset marker owed that counts them and the losses not
yet reported, and the run of losses ended (R243). -/
def State.resetQueue (s : State) (q : Nat) : State :=
  let qu := s.queue q
  let owed := qu.words.length + qu.lostRun + qu.resetOwed.getD 0
  (s.setQueue q { qu with words := [], lostRun := 0, inRun := false, resetOwed := some owed }).judgeLevel q

/-! ### Replies -/

/-- The 16-byte fixed part of Table 14-2. -/
def Reply.fixedPart (epoch : Nat) (r : Reply) : List Byte :=
  beBytes 1 r.status ++ beBytes 1 r.phase ++ beBytes 2 r.detail ++ beBytes 4 r.creation ++
  beBytes 1 epoch ++ beBytes 1 r.cflags ++ beBytes 1 r.lease ++ [0] ++ beBytes 2 r.highSeq ++ [0, 0]

/-- One reply packet: header with REPLY set, fixed part, a fragment of the result, CHECK (Table 14-1). -/
def replyBytes (addr epoch : Nat) (r : Reply) (frag : Nat) (part : List Byte) : List Byte :=
  let payload := r.fixedPart epoch ++ part
  let body := [0x10] ++ beBytes 1 r.flags ++ beBytes 1 r.opcode ++ beBytes 1 r.source ++
    beBytes 2 addr ++ beBytes 2 r.seq ++ beBytes 6 r.eff ++ beBytes 2 payload.length ++ beBytes 2 0 ++
    beBytes 2 frag ++ beBytes 4 0 ++ payload
  body ++ beBytes 4 (crc32c.of (beBytes 2 (addr % 1024) ++ beBytes 2 r.seq ++ body))

/-- Most bytes of result in one reply packet (R350). -/
def fragBytes : Nat := 4052

/-- The parts of a result, in order (R350); `fuel` bounds the number of fragments. -/
def fragments (fuel : Nat) (result : List Byte) : List (List Byte) :=
  match fuel with
  | 0 => [result]
  | n + 1 => if result.length ≤ fragBytes then [result]
    else result.take fragBytes :: fragments n (result.drop fragBytes)

/-- The reply packets of a reply. -/
def replyPackets (own epoch : Nat) (r : Reply) : List (List Byte) :=
  let addr := r.proxied.getD own
  let parts := fragments 64 r.result
  if parts.length ≤ 1 then [replyBytes addr epoch r 0 r.result]
  else (parts.zip (List.range parts.length)).map fun e =>
    replyBytes addr epoch r (e.2 + if e.2 + 1 < parts.length then 2 ^ 15 else 0) e.1

/-- The valid words of a record: 7 bytes each, index modulo 64 (R370). -/
def recordWords (fuel idx : Nat) (bs : List Byte) : List (BitVec 64) :=
  match fuel with
  | 0 => []
  | n + 1 => if bs = [] then []
    else validWord ((idx % 64) * 2 ^ 56 + beVal (bytesAt bs 0 7)) :: recordWords n (idx + 1) (bs.drop 7)

/-- A reply packet as a record of the reply queue (R370). -/
def replyRecord (bs : List Byte) : List (BitVec 64) :=
  let ws := recordWords (bs.length + 1) 0 bs
  markerWord 0x03 ws.length bs.length :: ws

/-- Reply packets enter the reply queue of the master; a record lost sets REPLY_LOST_HIST and raises
REPLY_LOST (R370, Table 16-1). -/
def State.deliverPacket (s : State) (m : Nat) (bs : List Byte) : State :=
  let r := s.insertWords (2 + m) (replyRecord bs)
  if r.1 then r.2.tracePacket 1 m (bs.getD 24 0).toNat bs
  else (r.2.put CMD_STATUS.key CMD_STATUS.REPLY_LOST_HIST 1).event (258 + m) 0x84 true 0

/-- A reply leaves: into the reply queue on a gateway, onto the flue ring on a member (R370, R380).
While the firmware restarts, completions are held (R460). -/
def State.emit (s : State) (r : Reply) : State :=
  if s.on CMD_STATUS.key CMD_STATUS.RESTARTING ∧ r.phase = 2 then
    { s with cmd := { s.cmd with held := s.cmd.held ++ [r] } }
  else if s.isGateway then
    (replyPackets s.address s.time.epoch r).foldl (fun s bs => s.deliverPacket r.master bs) s
  else { s with cmd := { s.cmd with sent := s.cmd.sent ++ [r] } }

/-- CREATION of a reply without a calendar entry (Table 14-2). -/
def noCreation : Nat := 0xFFFFFFFF

/-- HIGH of a master (R348). -/
def State.highSeq (s : State) (m : Nat) : Nat := s.get (CMD_SEQ.key m) CMD_SEQ.HIGH

/-- The reply to a packet: header fields echoed, REPLY set, LEASE and HIGH_SEQ as they stand. -/
def State.makeReply (s : State) (p : Packet) (phase status detail creation eff cflags : Nat)
    (result : List Byte) : Reply :=
  { master := p.master, flags := p.flags.toNat ||| 8, opcode := p.op, source := p.source.toNat,
    seq := p.seq.toNat, eff := eff, status := status, phase := phase, detail := detail,
    creation := creation, cflags := cflags, lease := s.leaseByte (resourcesOf p),
    highSeq := s.highSeq p.master, result := result }

/-- NO_REPLY suppresses replies of PHASE 1 and 2, and a PHASE 0 reply of status OK (R351). -/
def suppressed (p : Packet) (phase status : Nat) : Bool :=
  p.noReply && (decide (phase ≠ 0) || decide (status = 0))

/-- Answer a packet. -/
def State.reply (s : State) (p : Packet) (phase status detail creation eff cflags : Nat)
    (result : List Byte) : State :=
  if suppressed p phase status then s
  else s.emit (s.makeReply p phase status detail creation eff cflags result)

/-- A single reply of PHASE 0 to a packet without a calendar entry. -/
def State.reply0 (s : State) (p : Packet) (status detail : Nat) (result : List Byte) : State :=
  s.reply p 0 status detail noCreation p.eff.toNat 0 result

/-- The gateway answers for the packet's destination (R368). -/
def State.replyFor (s : State) (p : Packet) (status detail : Nat) : State :=
  if suppressed p 0 status then s
  else s.emit { s.makeReply p 0 status detail noCreation p.eff.toNat 0 [] with proxied := some (p.dest.toNat % 1024) }

/-- The gateway's answer to master `m` on a packet whose SOURCE is not its window's (R367). -/
def State.replyWindow (s : State) (m : Nat) (p : Packet) : State :=
  let w := { p with source := BitVec.ofNat 8 (m * 128 + p.source.toNat % 128) }
  if suppressed p 0 stBAD_PARAM then s
  else s.emit { s.makeReply w 0 stBAD_PARAM 0x0005 noCreation p.eff.toNat 0 [] with source := p.source.toNat }

/-! ### Interrupts -/

/-- R394. -/
def State.pendingBit (s : State) (m : Nat) : Bool :=
  ((List.range 12).any fun k => s.rd (EVT_STICKY.key m k) &&& s.rd (EVT_MASK.key m k) ≠ 0) ||
  s.on (EVT_STATUS.key m) EVT_STATUS.RING_HIST

/-- LOWEST of EVT_STATUS_m (Table 16-10). -/
def State.lowestSource (s : State) (m : Nat) : Nat :=
  ((List.range 384).find? fun i => s.sticky m i && s.masked m i).getD 511

/-- MSI_GAP ticks have not passed since the last message-signalled interrupt (R400). -/
def State.msiHeld (s : State) (m : Nat) : Bool :=
  match (s.master m).msiLast with
  | some t => decide (s.dev.ticks < t + s.get (EVT_CTRL.key m) EVT_CTRL.MSI_GAP)
  | none => false

/-- One message-signalled interrupt is sent, or waits for the end of the gap (R400). -/
def State.sendMsi (s : State) (m : Nat) : State :=
  if s.msiHeld m then s.updMaster m fun x => { x with msiWaiting := true }
  else s.updMaster m fun x => { x with msiLast := some s.dev.ticks, msiSent := x.msiSent + 1, msiWaiting := false }

/-- PENDING_m is evaluated; a rise with MSI_EN set sends a message, on the root (R400). -/
def State.settle1 (s : State) (m : Nat) : State :=
  let now := s.pendingBit m
  let rose := now && !(s.master m).wasPending
  let s1 := s.updMaster m fun x => { x with wasPending := now }
  if rose && s.isGateway && s.on (EVT_CTRL.key m) EVT_CTRL.MSI_EN then s1.sendMsi m else s1

/-- Both masters' interrupts follow what a command did. -/
def State.settle (s : State) : State := (s.settle1 0).settle1 1

/-! ### Tick records -/

/-- The three time words of Table 16-3. -/
def timeWords (s : State) : List (BitVec 64) :=
  [validWord (1 * 2 ^ 58 + (s.time.epoch % 256) * 2 ^ 48 + s.time.sfn % 2 ^ 48),
   validWord (2 * 2 ^ 58 + (s.time.labelGen % 256) * 2 ^ 50 + s.time.tod / 2 ^ 30),
   validWord (3 * 2 ^ 58 + s.time.tod % 2 ^ 30)]

/-- Events of one source beyond BURST are written as one coalesced word in place of the first
suppressed one (R401). `seen` counts the words written per source so far. -/
def coalesce (burst : Nat) (all : List EventRec) : List EventRec → Tbl Nat → List EventRec
  | [], _ => []
  | e :: es, seen =>
    let n := seen.getD e.source 0
    let seen' := seen.put e.source (n + 1)
    if n < burst then e :: coalesce burst all es seen'
    else if n = burst then
      let total := (all.filter fun x => decide (x.source = e.source)).length
      { e with code := 0xFF, set := true, entity := total - burst, ext := [] } ::
        coalesce burst all es seen'
    else coalesce burst all es seen'

/-- Split event words into records of at most `limit` words after the marker (R396, R399). -/
def splitRecord (limit : Nat) : List (List (BitVec 64)) → List (BitVec 64) → List (List (BitVec 64))
  | [], acc => if acc = [] then [] else [acc]
  | e :: es, acc =>
    if acc ≠ [] ∧ limit < 3 + acc.length + e.length then acc :: splitRecord limit es e
    else splitRecord limit es (acc ++ e)

/-- The records of a tick: marker with COUNT and the device address, time words, event words
(Table 16-3). -/
def tickRecords (s : State) (limit : Nat) (es : List EventRec) : List (List (BitVec 64)) :=
  (splitRecord limit (es.map eventWords) []).map fun body =>
    markerWord 0x03 (3 + body.length)
      (s.address + if s.on FLU_STATUS.key FLU_STATUS.ADDR_VALID then 1024 else 0) ::
    timeWords s ++ body

/-- The events of the tick that master `m` has enabled: mask, CLEARS, and never the event queues' own
(R394, R397, R398). -/
def State.enabledEvents (s : State) (m : Nat) : List EventRec :=
  s.evt.tick.filter fun e =>
    s.masked m e.source && (e.set || s.on (EVT_CTRL.key m) EVT_CTRL.CLEARS) &&
    decide (e.source ≠ 363 ∧ e.source ≠ 364)

/-- BURST of R401; 0 acts as 1. -/
def State.burst (s : State) (m : Nat) : Nat := max 1 (s.get (EVT_CTRL.key m) EVT_CTRL.BURST)

/-- The tick record of master `m` (R395, R396, R401). -/
def State.writeTickRecord (s : State) (m : Nat) : State :=
  let es := s.enabledEvents m
  if es = [] ∨ ¬ s.on (EVT_CTRL.key m) EVT_CTRL.QUEUE_EN then s
  else
    let cs := coalesce (s.burst m) es es []
    let s1 := if cs.any fun e => decide (e.code = 0xFF)
      then s.put (EVT_STATUS.key m) EVT_STATUS.COALESCED_HIST 1 else s
    (tickRecords s 4095 cs).foldl (fun s ws => (s.insertWords m ws).2) s1

/-- Capacity of a member's ring event buffer, and most words of a record for it (R399). -/
def ringBufCap : Nat := 1024
def ringRecordWords : Nat := 512

/-- A record enters the ring event buffer, or is lost (R399). -/
def State.ringBuffer (s : State) (ws : List (BitVec 64)) : State :=
  if s.evt.ringBuf.length + ws.length + 1 ≤ ringBufCap then
    let mark := if s.evt.ringOwed = 0 then [] else [markerWord 0x01 0 s.evt.ringOwed]
    { s with evt := { s.evt with ringBuf := s.evt.ringBuf ++ mark ++ ws, ringOwed := 0 } }
  else
    (({ s with evt := { s.evt with ringOwed := s.evt.ringOwed + ws.length } }).bump
      EVT_RING_STATUS.key EVT_RING_STATUS.LOST 1).event 300 0x80 true 0

/-- A member's record of every event, with no mask and BURST 16 (R399). -/
def State.writeRingRecord (s : State) : State :=
  let es := s.evt.tick.filter fun e => decide (e.source ≠ 363 ∧ e.source ≠ 364)
  if es = [] then s
  else (tickRecords s ringRecordWords (coalesce 16 es es [])).foldl State.ringBuffer s

/-- The end of step 5: the records of the tick are written and the tick's events are done (R395). -/
def State.closeTickEvents (s : State) : State :=
  let s1 := (s.writeTickRecord 0).writeTickRecord 1
  let s2 := if s.isGateway then s1 else s1.writeRingRecord
  { s2 with evt := { s2.evt with tick := s2.evt.tick.drop s.evt.tick.length } }

/-- The root copies a member's record to a master's event queue, keeping enabled sources (R399). -/
def keepEnabled (s : State) (m : Nat) : Nat → List (BitVec 64) → List (BitVec 64)
  | 0, _ => []
  | _, [] => []
  | n + 1, w :: ws =>
    let k := bitsOf w.toNat 58 4
    if k = 0 then
      let e := bitsOf w.toNat 34 4
      (if s.masked m (bitsOf w.toNat 49 9) then w :: ws.take e else []) ++
        keepEnabled s m n (ws.drop e)
    else w :: keepEnabled s m n ws

/-- A forwarded record: time words kept, event words filtered, a record left empty not written. -/
def State.forwardRecord (s : State) (m : Nat) (record : List (BitVec 64)) : State :=
  match record with
  | [] => s
  | mark :: body =>
    let kept := keepEnabled s m (body.length + 1) body
    if (kept.all fun w => decide (1 ≤ bitsOf w.toNat 58 4 ∧ bitsOf w.toNat 58 4 ≤ 3)) ∨
        ¬ s.on (EVT_CTRL.key m) EVT_CTRL.QUEUE_EN then s
    else (s.insertWords m (markerWord 0x03 kept.length (mark.toNat % 2 ^ 32) :: kept)).2.put
      (EVT_STATUS.key m) EVT_STATUS.RING_HIST 1

end Sys2Proof.Machine
end

