-- ==== Sys2Proof/Machine/Flags.lean ====
section
/-! DEFINITION. Flags, defects and counters: the codes of Table 11-1 and the named events of the
chapters, how a defect is decided and its sticky bit set (R267, R269), ports and their modes
(Table 03-1), raw counters (R275 to R278). -/

namespace Sys2Proof.Machine

/-! ### Defect codes, by their place in Table 11-1 (R392) -/

def dLOS : Nat := 1
def dCDR_LOL : Nat := 2
def dLANE_ALIGN : Nat := 3
def dLANE_FAULT : Nat := 4
def dOOF : Nat := 5
def dLOF : Nat := 6
def dTIM_S : Nat := 7
def dAIS_L : Nat := 8
def dRDI_L : Nat := 9
def dEXC_L : Nat := 10
def dDEG_L : Nat := 11
def dAIS_P : Nat := 12
def dLOP_P : Nat := 13
def dUNEQ_P : Nat := 14
def dPLM_P : Nat := 15
def dTIM_P : Nat := 16
def dRDI_P : Nat := 17
def dEXC_P : Nat := 18
def dDEG_P : Nat := 19
def dLOM_P : Nat := 20
def dLOP_V : Nat := 21
def dAIS_V : Nat := 22
def dUNEQ_V : Nat := 23
def dPLM_V : Nat := 24
def dTIM_V : Nat := 25
def dRDI_V : Nat := 26
def dRFI_V : Nat := 27
def dEXC_V : Nat := 28
def dDEG_V : Nat := 29
def dE1_LOF : Nat := 30
def dE1_AIS : Nat := 31
def dE1_RAI : Nat := 32
def dT1_LOF : Nat := 33
def dT1_AIS : Nat := 34
def dT1_RAI : Nat := 35
def dOTU_OOF : Nat := 36
def dOTU_LOF : Nat := 37
def dOOM : Nat := 38
def dLOM : Nat := 39
def dLOL : Nat := 40
def dTIM : Nat := 41
def dBDI : Nat := 42
def dIAE : Nat := 43
def dBIAE : Nat := 44
def dODU_AIS : Nat := 45
def dLCK : Nat := 46
def dOCI : Nat := 47
def dLTC : Nat := 48
def dDEG : Nat := 49
def dPLM : Nat := 50
def dMSIM : Nat := 51
def dLOOMFI : Nat := 52
def dLOFLOM : Nat := 53
def dLOAF : Nat := 54
def dAFE : Nat := 55
def dMAP_MISMATCH : Nat := 56
def dRDI_A : Nat := 57
def dGROUP_MISMATCH : Nat := 58
def dDELAY_EXCEEDED : Nat := 59
def dBUNDLE_DOWN : Nat := 60
def dGFP_LFD : Nat := 61
def dGFP_CSF : Nat := 62
def dLOA : Nat := 63
def dPLCR : Nat := 64
def dTLCR : Nat := 65
def dETH_LOS : Nat := 66
def dETH_LOBL : Nat := 67
def dETH_HIBER : Nat := 68

/-! ### Named events of ports (Table 16-2) -/

def ePFN_DISCONTINUITY : Nat := 0x80
def eLANE_TEST : Nat := 0x81
def eALF_SHED : Nat := 0x82
def eALF_RESTORED : Nat := 0x83
def ePFN_SLIP : Nat := 0x84
def eDM_DONE : Nat := 0x85
def eDM_TIMEOUT : Nat := 0x86
def ePARTNER_CHANGE : Nat := 0x87
def eSUBSTITUTED : Nat := 0x88

/-! ### Entities (Table 16-5) -/

def entLane (l : Nat) : Nat := 0x10000000 + l % 4
def entPath (head : Nat) : Nat := 0x20000000 + head
def entOdu (index layer : Nat) : Nat := 0x30000000 + index * 256 + layer
def entTrib (head pos : Nat) : Nat := 0x40000000 + head * 65536 + pos
def entAlf : Nat := 0x50000000

def srcEngine (e : Nat) : Nat := 144 + e
def srcMapper (n : Nat) : Nat := 96 + n
def srcFramer (n : Nat) : Nat := 116 + n
def srcSlice (n : Nat) : Nat := 152 + n
def srcBond (g : Nat) : Nat := 156 + g
def srcHrp (g : Nat) : Nat := 249 + g / 8

def condPort (p code : Nat) : Cond := ⟨p, 0, code⟩
def condPath (p head code : Nat) : Cond := ⟨p, entPath head, code⟩
def condOdu (p index layer code : Nat) : Cond := ⟨p, entOdu index layer, code⟩
def condTrib (p head pos code : Nat) : Cond := ⟨p, entTrib head pos, code⟩
def condBond (g code : Nat) : Cond := ⟨srcBond g, g, code⟩
def condChan (e n code : Nat) : Cond := ⟨srcEngine e, n, code⟩

/-! ### Ports and lanes -/

/-- Ports of the variant (R1). -/
def State.portCount (s : State) : Nat := if s.dev.variant48 then 48 else 96

def State.family (s : State) (p : Nat) : Nat := s.get (PRT_CFG.key p) PRT_CFG.FAMILY
def State.rate (s : State) (p : Nat) : Nat := s.get (PRT_CFG.key p) PRT_CFG.RATE_CODE
def State.isQuad (s : State) (p : Nat) : Bool := s.on (PRT_CFG.key p) PRT_CFG.QUAD
def State.isMember (s : State) (p : Nat) : Bool := s.on (PRT_CFG.key p) PRT_CFG.QUAD_MEMBER

def State.isSdh (s : State) (p : Nat) : Bool := s.family p == 1 || s.family p == 2
def State.isOtn (s : State) (p : Nat) : Bool := s.family p == 3
def State.isEth (s : State) (p : Nat) : Bool := s.family p == 4
def State.isAlf (s : State) (p : Nat) : Bool := s.family p == 5
def State.isChimney (s : State) (p : Nat) : Bool := s.family p == 6

/-- A port a command may name (R3, R76). -/
def State.portOk (s : State) (p : Nat) : Bool := decide (p < s.portCount) && !s.isMember p

/-- The lanes of a port. -/
def State.lanesOf (s : State) (p : Nat) : List Nat :=
  if s.isQuad p then [p, p + 1, p + 2, p + 3] else [p]

/-- The port a lane reports to (R84, R391). -/
def State.portOfLane (s : State) (l : Nat) : Nat := if s.isMember l then 4 * (l / 4) else l

/-- The ENTITY of a lane's events: the lane within a quad; the port itself on a single-lane port
(Tables 16-5, 16-6). -/
def State.laneEntity (s : State) (l : Nat) : Nat :=
  if s.isQuad (s.portOfLane l) then entLane l else 0

def State.condLane (s : State) (l code : Nat) : Cond := ⟨s.portOfLane l, s.laneEntity l, code⟩

/-- STM level of an SDH or SONET rate (Table 03-1). -/
def stmLevel (rate : Nat) : Nat := [1, 4, 16, 64].getD rate 1

/-- Minimum lead in port frames, Table 02-1. -/
def minLead (family rate : Nat) : Nat := if family = 3 then [6, 21, 22, 215].getD rate 6 else 2

/-- Region of a port (R14). -/
def regionOf (p : Nat) : Nat := p / 24

/-- Framer position and mapper positions (R15, Table 01-7). -/
def framerPos (p : Nat) : Nat := p / 4

/-- The physical block that serves a framer position or mapper position 24 + n (R40). -/
def State.physOf (s : State) (pos : Nat) : Nat := s.get (SYS_BLOCK_MAP.key pos) SYS_BLOCK_MAP.PHYS

/-- A check of the port's per-port check unit fails, where `bad` (R422): the unit is the slot of the block that
serves the port. -/
def State.cvuFail (s : State) (p : Nat) (bad : Bool) : State :=
  if bad then
    let k := CVU_P.key (4 * s.physOf (framerPos p) + p % 4)
    (s.put k CVU_P.FAIL_HIST 1).bump k CVU_P.FAILS 1
  else s

/-- LANE_TEST of a port: a loopback or a PRBS on one of its lanes, or its scrambler off (R83, R100). -/
def State.laneTest (s : State) (p : Nat) : Bool :=
  (s.lanesOf p).any (fun l => s.get (LAN_CFG.key l) LAN_CFG.LOOPBACK ≠ 0 ||
    s.get (LAN_CFG.key l) LAN_CFG.PRBS_SEL ≠ 0) ||
  (s.isSdh p && s.on (SDH_CFG.key p) SDH_CFG.SCRAMBLE_DIS) ||
  (s.isOtn p && s.on (OTN_CFG.key p) OTN_CFG.SCRAMBLE_DIS)

/-! ### Deciding defects -/

/-- The state of a condition as last decided: the last change on its way to step 1, or what has
arrived (R269). -/
def State.decided (s : State) (c : Cond) : Bool :=
  s.arrivals.foldl (fun b a => match a with
    | .defect d set => if d = c then set else b
    | _ => b) (s.has c)

/-- Set a bit of a multi-bit HIST field. -/
def State.histBit (s : State) (k : Nat) (f : Fld) (i : Nat) : State :=
  s.put k f (s.get k f ||| 2 ^ i)

/-- The place of a code in a list. -/
def placeOf (code : Nat) (l : List Nat) : Option Nat := l.findIdx? (· = code)

/-- Codes of SDH_STATUS [6:0] in their order (Table 04-11). -/
def sdhStatusCodes : List Nat := [dOOF, dLOF, dTIM_S, dAIS_L, dRDI_L, dEXC_L, dDEG_L]
/-- Codes of the path defects in the order of Table 04-9. -/
def pathCodes : List Nat :=
  [dAIS_P, dLOP_P, dUNEQ_P, dPLM_P, dTIM_P, dRDI_P, dEXC_P, dDEG_P, dLOM_P, dPLCR, dLOA, dGFP_LFD]
/-- Codes of OTN_STATUS in their order (Table 05-10). -/
def otnStatusCodes : List Nat :=
  [dOTU_OOF, dOTU_LOF, dOOM, dLOM, dLOL, dTIM, dBDI, dIAE, dBIAE, dDEG, dLOF, dAIS_L]
/-- Codes of an ODU's layers and of the ODU. -/
def layerCodes : List Nat := [dTIM, dBDI, dIAE, dBIAE, dODU_AIS, dLCK, dOCI, dLTC, dDEG]
def oduCodes : List Nat := [dPLM, dMSIM, dLOOMFI, dLOFLOM]
/-- Codes of ALF_STATUS [4:0]; FROZEN is no defect. -/
def alfStatusCodes : List Nat := [dLOAF, dAFE, dMAP_MISMATCH, 0x100, dRDI_A]
/-- Codes of a low-order tributary and its E1 or T1. -/
def tribCodes : List Nat :=
  [dAIS_V, dLOP_V, dUNEQ_V, dPLM_V, dTIM_V, dRDI_V, dRFI_V, dEXC_V, dDEG_V,
   dE1_LOF, dE1_AIS, dE1_RAI, dT1_LOF, dT1_AIS, dT1_RAI]

/-- The sticky bit of the unit's own register or context is set in the cycle of declaration (R267). -/
def State.defectHist (s : State) (c : Cond) : State :=
  let p := c.source
  let kind := c.entity / 2 ^ 28
  if p < 96 then
    if kind = 2 then
      match placeOf c.code pathCodes with
      | some i => s.updPath (pathKey p (c.entity % 256)) fun x => { x with hist := x.hist ||| 2 ^ i }
      | none => s
    else if kind = 3 then
      match placeOf c.code layerCodes, placeOf c.code oduCodes with
      | some i, _ => s.updOdu (oduKey p (c.entity / 256 % 256)) fun x =>
          let l := x.layers.getD (c.entity % 8) {}
          { x with layers := x.layers.store (c.entity % 8) { l with hist := l.hist ||| 2 ^ i } {} }
      | none, some i => s.updOdu (oduKey p (c.entity / 256 % 256)) fun x =>
          { x with hist := x.hist ||| 2 ^ i }
      | none, none => s
    else if kind = 4 then
      match placeOf c.code tribCodes with
      | some i => s.updTrib (tribNum p (c.entity / 65536 % 256) (c.entity % 65536)) fun x =>
          { x with hist := x.hist ||| 2 ^ i }
      | none => s
    else if s.isSdh p then
      match placeOf c.code sdhStatusCodes with
      | some i => s.histBit (SDH_STATUS.key p) SDH_STATUS.HIST i
      | none => s
    else if s.isOtn p then
      match placeOf c.code otnStatusCodes with
      | some i => s.histBit (OTN_STATUS.key p) OTN_STATUS.HIST i
      | none => s
    else if s.isAlf p then
      match placeOf c.code alfStatusCodes with
      | some i => s.histBit (ALF_STATUS.key p) ALF_STATUS.HIST i
      | none => s
    else if s.isEth p then
      match placeOf c.code [dETH_LOBL, dETH_HIBER] with
      | some i => s.histBit (ETH_STATUS.key p) ETH_STATUS.HIST i
      | none => s
    else s
  else if 156 ≤ p ∧ p < 168 then
    match placeOf c.code [dMAP_MISMATCH, 0x100, dBUNDLE_DOWN] with
    | some i => s.histBit (BND_STATUS.key (p - 156)) BND_STATUS.HIST i
    | none => if c.code = dDELAY_EXCEEDED
        then s.histBit (BND_STATUS.key (p - 156)) BND_STATUS.DELAY_HIST 0 else s
  else s

/-- A defect change is decided: the sticky bit is set at a declaration, and the change is on its way to
step 1 of the next tick (R97, R267). A decision for the state that stands changes nothing. -/
def State.rule (s : State) (c : Cond) (set : Bool) : State :=
  if s.decided c = set then s
  else (if set then s.defectHist c else s).arrive (.defect c set)

/-! ### Counters -/

def ctrTop : Nat := 2 ^ 48 - 1

/-- An increment of a raw counter in wrap or saturating mode (R275). -/
def addCtr (wrap : Bool) (c : Ctr) (n : Nat) : Ctr :=
  if c.value + n ≤ ctrTop then { c with value := c.value + n }
  else if wrap then { c with value := (c.value + n) % 2 ^ 48, wrap := min 15 (c.wrap + 1) }
  else { c with value := ctrTop, ovf := true }

/-- A counter reference of Table 11-6 as the number its 8 bytes make. -/
def ctrKey (port kind head index ref counter layer : Nat) : Nat :=
  port * 2 ^ 56 + kind * 2 ^ 48 + head * 2 ^ 40 + index * 2 ^ 32 + ref * 2 ^ 16 + counter * 2 ^ 8 + layer

/-- The entity of a counter reference: the same with COUNTER 0xFF. -/
def ctrEntity (k : Nat) : Nat := putBits k 8 8 0xFF

/-- The mode of a context counter of a KIND (R275). -/
def State.wrapKind (s : State) (kind : Nat) : Bool :=
  (s.get SYS_CNT_MODE.key SYS_CNT_MODE.WRAP_KIND).testBit (kind - 1)

/-- An increment of a context counter; WRAP is kept for the whole entity (Table 11-5). -/
def State.countCtx (s : State) (k kind n : Nat) : State :=
  if n = 0 then s else
    let c := s.pm.ctrs.getD k {}
    let c' := addCtr (s.wrapKind kind) { c with wrap := 0 } n
    let e := s.pm.ctrs.getD (ctrEntity k) {}
    let t := s.pm.ctrs.store k { c' with wrap := 0 } {}
    let u := t.store (ctrEntity k) { e with wrap := min 15 (e.wrap + c'.wrap) } {}
    { s with pm := { s.pm with ctrs := u } }

/-- An increment of port counter `k` (Table 11-4): 0 to 3 are register-mapped. -/
def State.countPort (s : State) (p k n : Nat) : State :=
  if n = 0 then s
  else if k < 4 then
    let wrap := (s.get (PRT_CNT_CFG.key p) PRT_CNT_CFG.WRAP_MODE).testBit k
    s.updPort p fun x => { x with cnts := x.cnts.store k (addCtr wrap (x.cnts.getD k {}) n) {} }
  else s.countCtx (ctrKey p 5 0 0 0 k 0) 5 n

def State.countPath (s : State) (p head k n : Nat) : State :=
  s.countCtx (ctrKey p 1 head 0 0 k 0) 1 n
def State.countOdu (s : State) (p index layer k n : Nat) : State :=
  s.countCtx (ctrKey p 2 0 index 0 k layer) 2 n
def State.countTrib (s : State) (p head pos k n : Nat) : State :=
  s.countCtx (ctrKey p 3 head 0 pos k 0) 3 n
def State.countFlow (s : State) (e f k n : Nat) : State := s.countCtx (ctrKey e 6 0 f 0 k 0) 6 n
def State.countBond (s : State) (g k n : Nat) : State := s.countCtx (ctrKey g 7 0 0 0 k 0) 7 n
def State.countHrp (s : State) (g k n : Nat) : State := s.countCtx (ctrKey g 8 0 0 0 k 0) 8 n

/-! ### Errored blocks of the second in progress (R283, R284) -/

/-- A layer's record is named by its counter reference with COUNTER 0. -/
def layKey (port kind head index ref layer : Nat) : Nat := ctrKey port kind head index ref 0 layer

/-- Errored blocks at a layer's near or far end. Only layers with a record hold seconds. -/
def State.errBlocks (s : State) (lay : Nat) (far : Bool) (n : Nat) : State :=
  match s.pm.recs.find lay with
  | none => s
  | some r =>
    let r' := if far then { r with far := { r.far with errs := r.far.errs + n } }
      else { r with near := { r.near with errs := r.near.errs + n } }
    { s with pm := { s.pm with recs := s.pm.recs.put lay r' } }

/-- A second of the layer is flagged IAE (R135). -/
def State.flagIae (s : State) (lay : Nat) : State :=
  match s.pm.recs.find lay with
  | none => s
  | some r =>
    let b := r.near.cur15
    let d := r.near.cur24
    let near := { r.near with cur15 := { b with flags := b.flags ||| 16 },
                              cur24 := { d with flags := d.flags ||| 16 } }
    { s with pm := { s.pm with recs := s.pm.recs.put lay { r with near := near } } }

/-! ### Acceptance by repetition -/

/-- A value accepted after `n` identical receptions in a row. -/
def acceptVal (n : Nat) (a : AcceptSt) (v : Nat) : AcceptSt :=
  let run := if a.run = 0 ∨ a.last ≠ v then 1 else a.run + 1
  { last := v, run := min n run, accepted := if n ≤ run then some v else a.accepted }

/-- Runs of receptions with and without a condition. -/
def runOn (r : RunSt) (b : Bool) : RunSt :=
  if b then { on := r.on + 1, off := 0 } else { on := 0, off := r.off + 1 }

/-- A condition integrated by counts of receptions: declared at `n` in a row, cleared at `m`. -/
def State.integrate (s : State) (c : Cond) (r : RunSt) (n m : Nat) : State :=
  if n ≤ r.on then s.rule c true else if m ≤ r.off then s.rule c false else s

end Sys2Proof.Machine
end

