-- ==== Sys2Proof/Machine/Stoker.lean ====
section
/-! DEFINITION. The stoker's accounts (R247, R251 to R254, R259): runs and free runs of the slices,
units of each resource of Table 10-2 with their owners, reservations and releases, and the
NO_RESOURCE result. -/

namespace Sys2Proof.Machine

/-! ### Sorting -/

def insertBy {α : Type} (key : α → Nat) (x : α) : List α → List α
  | [] => [x]
  | y :: t => if key x < key y then x :: y :: t else y :: insertBy key x t

def sortBy {α : Type} (key : α → Nat) : List α → List α
  | [] => []
  | x :: t => insertBy key x (sortBy key t)

/-! ### Slots and runs -/

/-- Slots of a slice (R245). -/
def sliceSlots : Nat := 12288

/-- The run is free for a request that takes effect at tick `t` (R254). -/
def Run.freeBy (r : Run) (t : Nat) : Bool :=
  match r.freeAt with
  | some f => decide (f ≤ t)
  | none => false

/-- Connections in force, reserved or not yet released. -/
def State.liveConns (s : State) : List (Nat × Conn) := s.grate.conns.filter fun c => c.2.freeAt.isNone

def Conn.endpoints (c : Conn) : List (BitVec 64) :=
  [c.a, c.b] ++ (if c.prot = 1 then [c.b2] else []) ++ c.sinks.map Sink.ep

/-- Connections that an endpoint belongs to. -/
def State.connsAt (s : State) (w : BitVec 64) : List (Nat × Conn) :=
  s.liveConns.filter fun c => c.2.endpoints.contains w

/-- The run's release executes before tick `t`: every connection of its endpoint ends by an accepted
DISCONNECT, whose slots are free from the tick after its flip (R251, R254). -/
def State.endsBy (s : State) (r : Run) (t : Nat) : Bool :=
  !r.hostOwned && r.tag.isNone && !(s.connsAt r.owner).isEmpty &&
  (s.connsAt r.owner).all fun c => match c.2.ends with
    | some (e, _) => decide (e < t)
    | none => false

/-- Intervals of a slice not free at tick `t`: runs and retired slots, by local start. With `after`, a run
under a planned move counts at its new place only (R262). -/
def State.occupied (s : State) (slice t : Nat) (after : Bool) : List (Nat × Nat) :=
  let moved := fun (r : Run) => after && s.grate.moves.any fun m => decide (m.2.old = r.start ∧ m.2.phase < 2)
  let rs := (s.grate.runs.filter fun r =>
    decide (r.start / sliceSlots = slice) && !r.freeBy t && !s.endsBy r t && !moved r &&
    !(after && r.freeAt.isSome)).map fun r => (r.start % sliceSlots, r.len)
  let ds := (s.grate.retired.filter fun x => decide (x / sliceSlots = slice)).map
    fun x => (x % sliceSlots, 1)
  if s.grate.isolated.contains slice then [(0, sliceSlots)] else sortBy Prod.fst (ds ++ rs)

/-- The gaps between sorted intervals, as start and length. -/
def gaps (top : Nat) : Nat → List (Nat × Nat) → List (Nat × Nat)
  | pos, [] => if pos < top then [(pos, top - pos)] else []
  | pos, (a, l) :: t => (if pos < a then [(pos, a - pos)] else []) ++ gaps top (max pos (a + l)) t

/-- Free runs of a slice for a request of tick `t`. -/
def State.freeRuns (s : State) (slice t : Nat) : List (Nat × Nat) :=
  gaps sliceSlots 0 (s.occupied slice t false)

def State.freeSlots (s : State) (slice t : Nat) : Nat := ((s.freeRuns slice t).map Prod.snd).sum

def largestOf (l : List (Nat × Nat)) : Nat := (l.map Prod.snd).foldl max 0

def State.largestRun (s : State) (slice t : Nat) : Nat := largestOf (s.freeRuns slice t)

/-- Best fit: the smallest gap of at least `c`, ties to the lowest start (R254). -/
def bestFit (c : Nat) : List (Nat × Nat) → Option (Nat × Nat)
  | [] => none
  | (a, l) :: t =>
    match bestFit c t with
    | none => if c ≤ l then some (a, l) else none
    | some (b, m) => if c ≤ l ∧ l ≤ m then some (a, l) else some (b, m)

/-- The interval lies wholly in a gap. -/
def fitsIn (gs : List (Nat × Nat)) (start len : Nat) : Bool :=
  gs.any fun g => decide (g.1 ≤ start ∧ start + len ≤ g.1 + g.2)

/-- Slots held by expert runs in a slice (Table 10-14). -/
def State.hostOwnedSlots (s : State) (slice : Nat) : Nat :=
  ((s.grate.runs.filter fun r => decide (r.start / sliceSlots = slice) && r.hostOwned &&
    !r.freeBy s.dev.ticks).map Run.len).sum

def State.retiredSlots (s : State) (slice : Nat) : Nat :=
  (s.grate.retired.filter fun x => decide (x / sliceSlots = slice)).length

def State.addRun (s : State) (r : Run) : State :=
  let rs := s.grate.runs ++ [r]
  ({ s with grate := { s.grate with runs := rs } }).traceStoker r.tag 0 0x01 (r.start / sliceSlots) r.len

/-- The runs of an owner in force or reserved. -/
def State.runsOf (s : State) (owner : BitVec 64) : List Run :=
  s.grate.runs.filter fun r => decide (r.owner = owner) && r.freeAt.isNone

/-- Release of runs from tick `at_` on. -/
def State.freeRunsOf (s : State) (pick : Run → Bool) (at_ : Nat) : State :=
  let rs := s.grate.runs.map fun r => if pick r then { r with freeAt := some at_ } else r
  { s with grate := { s.grate with runs := rs } }

/-! ### Resource codes (Table 10-2) -/

def rGRATE_SLOTS : Nat := 0x01
def rGRATE_RUN : Nat := 0x02
def rGRATE_SINKS : Nat := 0x03
def rTRIB_SLOTS : Nat := 0x04
def rLO_TRIB_POS : Nat := 0x05
def rMAPPER_CONT_POS : Nat := 0x06
def rMAPPER_CARRIERS : Nat := 0x07
def rRETIME_UNITS : Nat := 0x08
def rCONTEXT_PAGES : Nat := 0x09
def rPKT_BUFFER_PAGES : Nat := 0x0A
def rDELAY_PAGES : Nat := 0x0B
def rPKT_ENGINE_BW : Nat := 0x0C
def rALF_BLOCKS : Nat := 0x0D
def rCALENDAR : Nat := 0x0E
def rCHIMNEY_LINKS : Nat := 0x0F
def rCONN_RECORDS : Nat := 0x10
def rVCAT_MEMBERS : Nat := 0x11
def rFLOWS : Nat := 0x12
def rSPARES : Nat := 0x13
def rPM_RECORDS : Nat := 0x14

/-- Banks of a pool in force. -/
def State.poolBanks (s : State) (p : Nat) : Nat := s.get (STK_POOL.key p) STK_POOL.BANKS

def pagesPerBank : Nat := 32

/-- Pages withdrawn from a pool (R437). -/
def State.withdrawnPages (s : State) (p : Nat) : Nat :=
  (s.health.withdrawn.filter fun w => decide (s.get (STK_BANK.key w.1) STK_BANK.POOL = p) &&
    !s.on (STK_BANK.key w.1) STK_BANK.RETIRED).length

def State.poolPages (s : State) (p : Nat) : Nat := pagesPerBank * s.poolBanks p - s.withdrawnPages p

/-- An entry of the repair map (R439). -/
def State.listRepair (s : State) (r : Repair) : State :=
  if s.health.repairs.contains r then s
  else
    let s1 := { s with health := { s.health with repairs := s.health.repairs ++ [r] } }
    s1.put HLT_REPAIR.key HLT_REPAIR.ENTRIES s1.health.repairs.length

/-- A runtime substitution or slot retirement adds an entry and increments REPAIR_GEN (R439). -/
def State.addRepair (s : State) (kind failed replacement : Nat) : State :=
  let s1 := s.listRepair ⟨kind, false, failed, replacement⟩
  s1.put HLT_REPAIR.key HLT_REPAIR.REPAIR_GEN (s1.get HLT_REPAIR.key HLT_REPAIR.REPAIR_GEN + 1)

/-- The allocation counts at tick `t`. -/
def Alloc.holds (a : Alloc) (t : Nat) : Bool :=
  match a.freeAt with
  | some f => decide (t < f)
  | none => true

/-- Units of a code and scope in use or reserved, but for one owner's own. -/
def State.usedBut (s : State) (code scope owner : Nat) : Nat :=
  ((s.grate.allocs.filter fun a => decide (a.code = code ∧ a.scope = scope ∧ a.owner ≠ owner) &&
    a.holds s.dev.ticks).map Alloc.units).sum

def State.used (s : State) (code scope : Nat) : Nat :=
  ((s.grate.allocs.filter fun a => decide (a.code = code ∧ a.scope = scope) &&
    a.holds s.dev.ticks).map Alloc.units).sum

/-- Units of a code and scope in all (Table 10-2). -/
def State.capacity (s : State) (code : Nat) : Nat :=
  if code = rLO_TRIB_POS then 2016
  else if code = rMAPPER_CONT_POS ∨ code = rMAPPER_CARRIERS then 96
  else if code = rRETIME_UNITS then 32 * s.poolPages 3
  else if code = rPKT_BUFFER_PAGES then s.poolPages 1
  else if code = rDELAY_PAGES then s.poolPages 2
  else if code = rCONTEXT_PAGES then s.poolPages 0
  else if code = rPKT_ENGINE_BW then 200
  else if code = rPM_RECORDS then 16384
  else if code = rCONN_RECORDS then 40960
  else if code = rVCAT_MEMBERS then 2048
  else if code = rFLOWS then 64
  else if code = rCHIMNEY_LINKS then 4
  else 0

/-- Reserve units for an owner under a command's tag (R251). -/
def State.reserve (s : State) (code scope units owner : Nat) (tag : Option (Nat × Nat)) : State :=
  if units = 0 then s
  else
    let a : Alloc := ⟨code, scope, units, owner, none, tag⟩
    ({ s with grate := { s.grate with allocs := s.grate.allocs ++ [a] } }).traceStoker tag 0 code scope units

/-- The flip that brings an owner's reservation of a code into force: earlier units of the owner are
free from the next tick (R251). -/
def State.commitUnits (s : State) (code owner : Nat) (tag : Option (Nat × Nat)) : State :=
  let as := s.grate.allocs.map fun a =>
    if a.code = code ∧ a.owner = owner ∧ a.freeAt = none then
      (if a.tag = tag then { a with tag := none }
       else if a.tag = none then { a with freeAt := some (s.dev.ticks + 1) } else a)
    else a
  { s with grate := { s.grate with allocs := as } }

/-- The release of an owner's units of a code at the tick after this flip. -/
def State.releaseUnits (s : State) (code owner : Nat) : State :=
  let as := s.grate.allocs.map fun a =>
    if a.code = code ∧ a.owner = owner ∧ a.freeAt = none ∧ a.tag = none
    then { a with freeAt := some (s.dev.ticks + 1) } else a
  { s with grate := { s.grate with allocs := as } }

/-- A TU of a carrier pair is given back; a pair without TUs ends, its slots free from tick `at_` (R256). -/
def State.dropTu (s : State) (at_ : Nat) (x : Option (Nat × Nat)) : State :=
  match x with
  | none => s
  | some (id, tu) =>
    let g := s.grate
    let cs := g.carriers.map fun c =>
      if c.id = id then
        let left := c.tus.filter fun u => decide (u ≠ tu)
        let kept := left.any fun u => decide (u / 4 = tu / 4)
        { c with tus := left, types := if kept then c.types else c.types.set (tu / 4 - 1) 0 }
      else c
    let gone := (cs.filter fun c => decide (c.id = id ∧ c.tus = [])).flatMap fun c => [c.slotA, c.slotB]
    let rs := g.runs.map fun r => if gone.contains r.start then { r with freeAt := some at_ } else r
    let left := cs.filter fun c => decide (c.tus ≠ [])
    { s with grate := { g with carriers := left, runs := rs } }

/-- Everything reserved under a tag is given back (R252, R361; Table 14-5 row 10). -/
def State.unreserve (s : State) (tag : Nat × Nat) : State :=
  let mine := s.grate.conns.filter fun c => decide (c.2.tag = some tag)
  let sinks := s.grate.conns.flatMap fun c => c.2.sinks.filter fun x => decide (x.tag = some tag)
  let s1 := mine.foldl (fun s c => (s.dropTu s.dev.ticks c.2.pair).dropTu s.dev.ticks c.2.pair2) s
  let s2 := sinks.foldl (fun s x => s.dropTu s.dev.ticks x.pair) s1
  let g := s2.grate
  let cs := (mine.foldl (fun t c => t.drop c.1) g.conns).map fun c =>
    (c.1, { c.2 with
      sinks := c.2.sinks.filter fun x => decide (x.tag ≠ some tag)
      ends := match c.2.ends with
        | some (e, m, q) => if (m, q) = tag then none else some (e, m, q)
        | none => none })
  { s2 with grate := { g with
      runs := g.runs.filter fun r => decide (r.tag ≠ some tag)
      allocs := g.allocs.filter fun a => decide (a.tag ≠ some tag)
      conns := cs } }

/-- Runs and units that are free from now on leave a trace of class 5. -/
def State.traceReleases (s : State) : State :=
  let t := s.dev.ticks
  let s1 := s.each (s.grate.runs.filter fun r => r.freeBy t) fun s r =>
    s.traceStoker none 1 rGRATE_SLOTS (r.start / sliceSlots) r.len
  s1.each (s1.grate.allocs.filter fun a => !a.holds t) fun s a => s.traceStoker none 1 a.code a.scope a.units

/-- Released runs, units and records are forgotten once free. -/
def State.sweepReleased (s0 : State) : State :=
  let s := s0.traceReleases
  let g := s.grate
  let t := s.dev.ticks
  { s with grate := { g with
      runs := g.runs.filter fun r => !r.freeBy t
      allocs := g.allocs.filter fun a => a.holds t
      conns := g.conns.filter fun c => match c.2.freeAt with | some f => decide (t < f) | none => true } }

/-! ### Owners -/

/-- A number for each owner of units: an entity's number with its kind in front. -/
def ownTrib (k : Nat) : Nat := 1 * 2 ^ 40 + k
def ownContainer (k : Nat) : Nat := 2 * 2 ^ 40 + k
def ownFlow (k : Nat) : Nat := 3 * 2 ^ 40 + k
def ownEth (p : Nat) : Nat := 4 * 2 ^ 40 + p
def ownBond (g : Nat) : Nat := 5 * 2 ^ 40 + g
def ownHrp (g : Nat) : Nat := 6 * 2 ^ 40 + g
def ownVcat (k : Nat) : Nat := 7 * 2 ^ 40 + k
def ownPm (k : Nat) : Nat := 8 * 2 ^ 40 + k

/-! ### Context pages (R38, R39, R287) -/

/-- Low-order tributaries configured, in force or staged. -/
def State.tribCount (s : State) : Nat :=
  (s.tribs.filter fun t => t.2.cfg.ttype ≠ 0 || t.2.staged.ttype ≠ 0).length

/-- High-order contexts: a path takes one, an ODU one, or two with a TCM not off (R142). -/
def State.hoContexts (s : State) : Nat :=
  (s.paths.filter fun t => t.2.cfg.ptype ≠ 0 || t.2.staged.ptype ≠ 0).length +
  ((s.odus.filter fun t => t.2.cfg.otype ≠ 0 || t.2.staged.otype ≠ 0).map fun t =>
    if t.2.cfg.tcm.any fun m => m.1 ≠ 0 then 2 else 1).sum

/-- PM records: every layer's but a low-order path's, which keeps its bins in its context (R287). -/
def State.pmRecords (s : State) : Nat :=
  (s.pm.recs.filter fun r => !(decide (bitsOf r.1 48 8 = 3) && decide (r.1 % 256 = 0))).length

/-- Context store pages in use: 16 low-order contexts, 64 high-order contexts, 256 connection records or
32 PM records to a page. -/
def State.contextPages (s : State) : Nat :=
  ceilDiv s.tribCount 16 + ceilDiv s.hoContexts 64 + ceilDiv s.grate.conns.length 256 +
  ceilDiv s.pmRecords 32

/-! ### NO_RESOURCE (R259) -/

/-- A short resource: code, scope, needed, free. -/
structure Short where
  code : Nat
  scope : Nat
  needed : Nat
  free : Nat
  deriving DecidableEq, Repr

/-- The short resource of lowest ratio FREE / NEEDED; ties to the lower code. -/
def scarcest : List Short → Option Short
  | [] => none
  | x :: t => match scarcest t with
    | none => some x
    | some y =>
      if x.free * y.needed < y.free * x.needed ∨
          (x.free * y.needed = y.free * x.needed ∧ x.code ≤ y.code) then some x else some y

/-- The payload of Table 10-6. -/
def noResourceBytes (l : List Short) : List Byte :=
  match scarcest l with
  | none => []
  | some x =>
    beBytes 1 x.code ++ beBytes 1 x.scope ++ [0, 0] ++ beBytes 4 x.needed ++ beBytes 4 x.free ++
    beBytes 4 (l.foldl (fun m y => m ||| 2 ^ (y.code - 1)) 0)

def Verdict.noRes (l : List Short) : Verdict := .refuse stNO_RESOURCE 0 (noResourceBytes l)

/-- A NO_RESOURCE reply is recorded (Tables 10-16, 10-17) and raises NO_RESOURCE in ES261. -/
def State.noteScarce (s : State) (code : Nat) : State :=
  ((s.put STK_STATUS.key STK_STATUS.LAST_SCARCE code).put STK_HIST.key STK_HIST.NO_RES_HIST 1).event
    261 0x80 true 0

/-- The shortage of one resource, when `needed` more units do not fit. -/
def State.shortOf (s : State) (code scope needed owner : Nat) : List Short :=
  let free := s.capacity code - s.usedBut code scope owner
  if needed ≤ free then [] else [⟨code, scope, needed, free⟩]

/-- The context pages one more context or record needs. -/
def State.shortContext (s : State) (more : Nat) : List Short :=
  if s.contextPages + more ≤ s.poolPages 0 then []
  else [⟨rCONTEXT_PAGES, 0, more, s.poolPages 0 - s.contextPages⟩]

/-! ### Endpoints -/

/-- An endpoint descriptor's bytes (Table 10-3). -/
def epBytes (e : Ep) : List Byte :=
  beBytes 1 e.port ++ beBytes 1 e.kind ++ beBytes 1 e.head ++ beBytes 1 e.index ++ beBytes 2 e.ref ++ [0, 0]

def epWord (e : Ep) : BitVec 64 := BitVec.ofNat 64 (beVal (epBytes e))

def epOfWord (w : BitVec 64) : Ep :=
  let n := w.toNat
  ⟨bitsOf n 56 8, bitsOf n 48 8, bitsOf n 40 8, bitsOf n 32 8, bitsOf n 16 16⟩

def epAt (bs : List Byte) (off : Nat) : Ep :=
  ⟨fieldAt bs off 1, fieldAt bs (off + 1) 1, fieldAt bs (off + 2) 1, fieldAt bs (off + 3) 1,
   fieldAt bs (off + 4) 2⟩

/-- Endpoints whose map entries the connection's flip has written. -/
def Conn.carried (c : Conn) : List (BitVec 64) :=
  if c.inForce then [c.a, c.b] ++ (if c.prot = 1 then [c.b2] else []) ++ (c.sinks.filter Sink.on).map Sink.ep
  else []

/-- The endpoint carries a grate connection in force. -/
def State.carries (s : State) (w : BitVec 64) : Bool := s.liveConns.any fun c => c.2.carried.contains w

/-- The endpoint has a connection, in force or reserved. -/
def State.connected (s : State) (w : BitVec 64) : Bool :=
  s.liveConns.any fun c => c.2.endpoints.contains w

/-- The connection of an endpoint in force. -/
def State.connOf (s : State) (w : BitVec 64) : Option (Nat × Conn) :=
  s.liveConns.find? fun c => c.2.inForce && c.2.endpoints.contains w

def epPath (p head : Nat) : Ep := ⟨p, 1, head, 0, 0⟩
def epOdu (p index : Nat) : Ep := ⟨p, 2, 0, index, 0⟩
def epTrib (p head pos : Nat) : Ep := ⟨p, 3, head, 0, pos⟩
def epSlot (p id : Nat) : Ep := ⟨p, 4, 0xFF, 0, id⟩

/-- The port carries any grate connection in force (R79). -/
def State.portCarries (s : State) (p : Nat) : Bool :=
  s.liveConns.any fun c => c.2.carried.any fun w => decide ((epOfWord w).port = p)

/-- A connection names the port, in force or reserved. -/
def State.portConnected (s : State) (p : Nat) : Bool :=
  s.liveConns.any fun c => c.2.endpoints.any fun w => decide ((epOfWord w).port = p)

end Sys2Proof.Machine
end

