-- ==== Sys2Proof/Machine/Calendar.lean ====
section
/-! DEFINITION. The event calendar (R49 to R62): the effective time of a command (R50), room for entries
(R52, R60), creation, removal and completion of entries, leases (R360 to R362) and long operations with
their pending slots (R365, R366). -/

namespace Sys2Proof.Machine

/-! ### Port frame numbers -/

/-- The PFN of a port; Ethernet and chimney ports count the SFN (R48). -/
def State.pfn (s : State) (p : Nat) : Nat :=
  if s.isEth p || s.isChimney p then s.time.sfn % 2 ^ 32 else (s.port p).pfn

/-- Port frames that can start within one tick, Table 02-1 rounded up. -/
def framesPerTick (family rate : Nat) : Nat := if family = 3 then [3, 11, 11, 108].getD rate 3 else 1

/-! ### Effective time (R50, Table 02-3) -/

inductive Effective where
  | immediate
  | refused (status : Nat)
  | scheduled (key : CalKey) (late : Bool)
  deriving DecidableEq, Repr

/-- The SFN rows of Table 02-3 for key `e` at SFN `now`. -/
def effSfn (now e : Nat) (lateOk : Bool) : Effective :=
  if e < now + 2 then (if lateOk then .scheduled (.sfn (now + 1)) false else .refused stLATE)
  else if now + 2 ^ 24 < e then .refused stTOO_FAR
  else .scheduled (.sfn e) false

/-- The port rows of Table 02-3: frame `n` of port `q`, whose PFN is `pfn` and minimum lead `lead`. -/
def effPort (q pfn lead n : Nat) (lateOk : Bool) : Effective :=
  let ahead := (n + 2 ^ 32 - pfn % 2 ^ 32) % 2 ^ 32
  if atOrBeyond pfn n = true ∨ ahead < lead then
    (if lateOk then .scheduled (.port q n) true else .refused stLATE)
  else if 2 ^ 24 < ahead then .refused stTOO_FAR
  else .scheduled (.port q n) false

def State.effective (s : State) (p : Packet) : Effective :=
  match keyOf p with
  | .immediate => .immediate
  | .sfn e => effSfn s.time.sfn e p.lateOk
  | .port q n => effPort q (s.pfn q) (minLead (s.family q) (s.rate q)) n p.lateOk

/-! ### Entries and room (R52, R60) -/

def calCapacity : Nat := 4096
def calReserved : Nat := 512
def calShared : Nat := calCapacity - calReserved
/-- Most SFN-keyed entries of one SFN (R60). -/
def calPerSfn : Nat := 64
/-- Most entries executed in one step 2 (R60). -/
def calPerTick : Nat := 128

/-- Master and SEQ of a host entry. -/
def Entry.originator (e : Entry) : Option (Nat × Nat) :=
  match e.action with
  | .host p => some (p.master, p.seq.toNat)
  | _ => none

def State.heldBy (s : State) (m : Nat) : Nat :=
  (s.cal.entries.filter fun e => e.originator.any fun o => decide (o.1 = m)).length

def State.hostHeld (s : State) : Nat := (s.cal.entries.filter fun e => e.originator.isSome).length

def State.deviceHeld (s : State) : Nat := s.cal.entries.length - s.hostHeld

/-- QUOTA of a master. -/
def State.quota (s : State) (m : Nat) : Nat :=
  s.get CAL_CTRL.key (if m = 0 then CAL_CTRL.QUOTA_M0 else CAL_CTRL.QUOTA_M1)

/-- Shared entries in use: the masters', and device entries beyond the reserved ones. -/
def State.sharedHeld (s : State) : Nat := s.hostHeld + (s.deviceHeld - calReserved)

/-- A master's entry finds room (R52). -/
def State.hostRoom (s : State) (m : Nat) : Bool :=
  decide (s.heldBy m < s.quota m) && decide (s.sharedHeld < calShared)

/-- A device entry finds room (R52). -/
def State.deviceRoom (s : State) : Bool := decide (s.cal.entries.length < calCapacity)

/-- The key has room: fewer than 64 entries of one SFN (R60). -/
def State.sfnRoom (s : State) (k : CalKey) : Bool :=
  match k with
  | .sfn _ => decide ((s.cal.entries.filter fun e => decide (e.key = k)).length < calPerSfn)
  | .port _ _ => true

/-- A new entry with the next creation number; PEAK follows (Table 02-10). -/
def State.addEntry (s : State) (key : CalKey) (action : Action) (late : Bool) (interval notBefore : Nat) :
    State :=
  let e : Entry := { creation := s.cal.nextCreation, key := key, action := action, late := late,
                     interval := interval, notBefore := notBefore }
  let s1 := { s with cal := { entries := s.cal.entries ++ [e], nextCreation := s.cal.nextCreation + 1 } }
  s1.put CAL_STATUS.key CAL_STATUS.PEAK
    (max (s.get CAL_STATUS.key CAL_STATUS.PEAK) s1.cal.entries.length)

/-- A device entry, when there is room (R52). -/
def State.addDevice (s : State) (key : CalKey) (action : Action) : Bool × State :=
  if s.deviceRoom then (true, s.addEntry key action false 0 0) else (false, s)

/-- An entry is held no longer; an armed SET_SFN goes with its entry (R495). -/
def State.removeEntry (s : State) (creation : Nat) : State :=
  { s with
    cal := { s.cal with entries := s.cal.entries.filter fun e => decide (e.creation ≠ creation) }
    time := { s.time with armed := s.time.armed.filter fun a => decide (a.2 ≠ some creation) } }

/-- Scarcest resource CALENDAR (R52, R259). -/
def State.calendarShort (s : State) (m : Nat) : List Short :=
  [⟨rCALENDAR, 0, 1, min (s.quota m - s.heldBy m) (calShared - s.sharedHeld)⟩]

/-! ### Completions -/

/-- CFLAGS of Table 14-2. -/
def cflagsOf (skipped carried : Bool) : Nat := bit skipped + 2 * bit carried

/-- A standby unit of a pair. -/
def State.standby (s : State) : Bool :=
  s.on CLM_CFG.key CLM_CFG.PAIR_EN && decide (s.get CLM_STATUS.key CLM_STATUS.ROLE = 1)

/-- Replies come from the active unit only, but for local commands and a unit's own SWITCHOVER (R305, R318). -/
def State.mutes (s : State) (p : Packet) : Bool := s.standby && !p.isLocal && decide (p.op ≠ 0x54)

/-- The final status of a command: PHASE 2 with its creation number, or PHASE 0 for an immediate one,
with the SFN of the tick in EFF_TIME (Tables 14-1, 14-2). -/
def State.complete (s : State) (p : Packet) (creation : Option Nat) (status detail cflags : Nat)
    (result : List Byte) : State :=
  if s.mutes p then s
  else match creation with
  | some c => s.reply p 2 status detail c s.time.sfn cflags result
  | none => s.reply p 0 status detail noCreation s.time.sfn cflags result

/-- The resource an entry names first. -/
def Entry.res (e : Entry) : Res :=
  match e.action with
  | .host p => (resourcesOf p).headD (0, 0, 0)
  | _ => (0, 0, 0)

/-- The trace of an entry executed or removed. -/
def State.traceEntry (s : State) (e : Entry) (status cflags : Nat) : State :=
  s.traceCalendar e.creation e.originator e.res status cflags

/-! ### Removal -/

def LongOp.res (o : LongOp) : Res := (o.cls, o.sub, o.index)

def State.running (s : State) (r : Res) : Option LongOp := s.cmd.running.find? fun o => decide (o.res = r)
def State.slotOf (s : State) (r : Res) : Option LongOp := s.cmd.slots.find? fun o => decide (o.res = r)

/-- The resource of the firmware commands (class 0x13). -/
def resFw : Res := (0x13, 0, 0)

/-- Load states, Table 20-9. -/
def State.loadState (s : State) : Nat := s.get SYS_FW_STATUS.key SYS_FW_STATUS.LOAD_STATE
def State.setLoad (s : State) (v : Nat) : State := s.put SYS_FW_STATUS.key SYS_FW_STATUS.LOAD_STATE v
def fwIdle : Nat := 0
def fwLoading : Nat := 1
def fwVerifying : Nat := 2
def fwReady : Nat := 3
def fwActivating : Nat := 4

/-- A removed FW_LOAD_END or FW_ACTIVATE leaves the load state it found. -/
def State.unwindFw (s : State) (p : Packet) : State :=
  if p.op = 0xF2 ∧ s.loadState = fwVerifying ∧ (s.running resFw).isNone then s.setLoad fwLoading
  else if p.op = 0xF3 ∧ s.loadState = fwActivating ∧ (s.running resFw).isNone then s.setLoad fwReady
  else s

/-- What a command reserved is given back. -/
def State.unwind (s : State) (p : Packet) : State := (s.unreserve (p.master, p.seq.toNat)).unwindFw p

/-- An entry is removed before execution: what the command reserved is given back, and it completes
FLUSHED (R51, R53, R361). -/
def State.flushEntry (s : State) (e : Entry) (detail : Nat) : State :=
  let s1 := (s.removeEntry e.creation).traceEntry e stFLUSHED 0
  match e.action with
  | .host p => (s1.unwind p).complete p (some e.creation) stFLUSHED detail 0 []
  | _ => s1

/-- Flush of every entry that a test picks. -/
def State.flushWhere (s : State) (pick : Entry → Bool) (detail : Nat) : State :=
  s.each (s.cal.entries.filter pick) fun s e => s.flushEntry e detail

/-! ### Leases (R360 to R362) -/

def leaseRes (l : Lease) : Res := (l.cls, l.sub, l.index)

/-- The resources a master does not hold and takes (R360). -/
def State.takeLeases (s : State) (m : Nat) (rs : List Res) : State :=
  s.each rs fun s r =>
    if s.holder r = 0 then
      { s with cmd := { s.cmd with leases := s.cmd.leases ++ [⟨r.1, r.2.1, r.2.2, m, s.dev.ticks⟩] } }
    else s

def State.dropLeases (s : State) (pick : Lease → Bool) : State :=
  { s with cmd := { s.cmd with leases := s.cmd.leases.filter fun l => !pick l } }

/-- The first of the resources held by the other master: 0x000D where it was won in this step 1,
else 0x000C (R362). -/
def State.leaseConflict (s : State) (m : Nat) (rs : List Res) : Option Nat :=
  match s.cmd.leases.find? fun l => decide (l.master ≠ m) && rs.contains (leaseRes l) with
  | some l => some (if l.tick = s.dev.ticks then 0x000D else 0x000C)
  | none => none

/-! ### Long operations (R365, R366) -/

/-- The creation number of a long operation's command; noCreation for an immediate one. -/
def LongOp.made (o : LongOp) : Option Nat := if o.creation = noCreation then none else some o.creation

/-- TIMEOUT of a packet, or DEF_TIMEOUT, 0 acting as 1 (R368, Table 14-11). -/
def State.timeoutOf (s : State) (p : Packet) : Nat :=
  if p.timeout.toNat ≠ 0 then p.timeout.toNat
  else max 1 (s.get CMD_CFG.key CMD_CFG.DEF_TIMEOUT)

/-- The operation starts to run. -/
def State.beginLong (s : State) (r : Res) (p : Packet) (creation : Option Nat) : State :=
  let o : LongOp := { cls := r.1, sub := r.2.1, index := r.2.2, packet := p, since := s.dev.ticks,
                      due := 0, creation := creation.getD noCreation }
  { s with cmd := { s.cmd with running := s.cmd.running ++ [o] } }

/-- The operation takes the pending slot; the command it replaces completes SUPERSEDED (R366). -/
def State.takeSlot (s : State) (r : Res) (p : Packet) (creation : Option Nat) : State :=
  let o : LongOp := { cls := r.1, sub := r.2.1, index := r.2.2, packet := p, since := s.dev.ticks,
                      due := s.dev.ticks + s.timeoutOf p, creation := creation.getD noCreation }
  let s1 := match s.slotOf r with
    | some old => s.complete old.packet old.made stSUPERSEDED 0 0 []
    | none => s
  { s1 with cmd := { s1.cmd with slots := (s1.cmd.slots.filter fun x => decide (x.res ≠ r)) ++ [o] } }

def State.clearSlot (s : State) (r : Res) : State :=
  { s with cmd := { s.cmd with slots := s.cmd.slots.filter fun x => decide (x.res ≠ r) } }

/-- A long operation falls due: it runs, or waits in the slot while another runs (R366). -/
def State.long (s : State) (r : Res) (p : Packet) (creation : Option Nat) (start : State → Done) : Done :=
  match s.running r with
  | some _ => runsOn (s.takeSlot r p creation)
  | none => start (s.beginLong r p creation)

/-- A running operation completes. -/
def State.finishLong (s : State) (r : Res) (status detail : Nat) (result : List Byte) : State :=
  match s.running r with
  | none => s
  | some o =>
    ({ s with cmd := { s.cmd with running := s.cmd.running.filter fun x => decide (x.res ≠ r) } }).complete
      o.packet o.made status detail 0 result

/-- The operation that began to run ends at once: it leaves the list, and the command completes with
what its start answers. -/
def State.endLong (s : State) (r : Res) : State :=
  { s with cmd := { s.cmd with running := s.cmd.running.filter fun x => decide (x.res ≠ r) } }

/-! ### PREEMPT (R361) -/

/-- Calendar entries and pending commands of the other master on a resource complete FLUSHED with
DETAIL 0x000E, and the lease passes. -/
def State.preempt (s : State) (m : Nat) (rs : List Res) : State :=
  let taken := rs.filter fun r => decide (s.holder r ≠ 0 ∧ s.holder r ≠ m + 1)
  let hits := fun (p : Packet) => decide (p.master ≠ m) && (resourcesOf p).any fun r => taken.contains r
  let s0 := (s.dropLeases fun l => taken.contains (leaseRes l)).takeLeases m taken
  let s1 := s0.flushWhere (fun e => match e.action with | .host p => hits p | _ => false) 0x000E
  let s2 := s1.each (s1.cmd.slots.filter fun o => hits o.packet) fun s o =>
    (s.clearSlot o.res).complete o.packet o.made stFLUSHED 0x000E 0 []
  let imm := s2.cmd.immediates.filter fun t => hits t.packet
  let s3 := s2.each imm fun s t =>
    (s.unwind t.packet).complete t.packet none stFLUSHED 0x000E 0 []
  let s4 := { s3 with cmd := { s3.cmd with
    immediates := s3.cmd.immediates.filter fun t => !hits t.packet } }
  if taken = [] then s4
  else s4.event 260 0x82 true 0

end Sys2Proof.Machine
end

