-- ==== Sys2Proof/Machine/Lanes.lean ====
section
/-! DEFINITION. Lanes and ports (03_lanes_and_ports): port modes (R74 to R79), mode changes, lane test
(R83), lane defects and LANE_FAULT retries (R84, R85). -/

namespace Sys2Proof.Machine

/-! ### Values of registers in payloads -/

/-- Bits of a register that software sets: its RW fields. -/
def rwMask (k : Nat) : Nat :=
  match regOf k with
  | some d => (d.flds.filter fun f => decide (f.acc = .rw)).foldl
      (fun m f => m ||| ((2 ^ f.fld.width - 1) <<< f.fld.lo)) 0
  | none => 0

/-- Reserved and read-only bits of a register value in a payload are 0. -/
def regBitsOk (k v : Nat) : Bool := decide (v ||| rwMask k = rwMask k)

/-- A field of a register value in a payload. -/
def fieldOf (f : Fld) (v : Nat) : Nat := bitsOf v f.lo f.width

/-! ### Modes (Table 03-1) -/

/-- Four-lane modes. -/
def quadMode (family rate : Nat) : Bool :=
  [(3, 3), (4, 2), (5, 1), (6, 0)].contains (family, rate)

/-- The combinations of Table 03-1. -/
def modeOk (family rate : Nat) : Bool :=
  [(0, 0), (1, 0), (1, 1), (1, 2), (1, 3), (2, 0), (2, 1), (2, 2), (2, 3), (3, 0), (3, 1), (3, 2), (3, 3),
   (4, 0), (4, 1), (4, 2), (5, 0), (5, 1), (6, 0)].contains (family, rate)

/-- A PRT_CFG value for port `p` (R74, R76, Table 03-4). -/
def prtCfgOk (p v : Nat) : Bool :=
  let f := fieldOf PRT_CFG.FAMILY v
  let r := fieldOf PRT_CFG.RATE_CODE v
  let q := fieldOf PRT_CFG.QUAD v
  regBitsOk (PRT_CFG.key p) v && modeOk f r && decide (q = bit (quadMode f r)) &&
  decide (q = 1 → p % 4 = 0)

/-- A LAN_CFG value (Table 03-5). -/
def lanCfgOk (v : Nat) : Bool :=
  regBitsOk (LAN_CFG.key 0) v && decide (fieldOf LAN_CFG.LOOPBACK v ≠ 3) &&
  decide (fieldOf LAN_CFG.PRBS_SEL v ≤ 4)

/-- The LAN_CFG entries of a PORT_MODE payload: entry `j` at offset 8 + 4j (R79). -/
def lanEntryOk (bs : List Byte) (j v : Nat) : Bool :=
  let quad := fieldOf PRT_CFG.QUAD (fieldAt bs 4 4) = 1
  let first := fieldAt bs 8 4
  if j = 0 then lanCfgOk v
  else if quad then
    lanCfgOk v && decide (fieldOf LAN_CFG.CTLE_ADAPT v = fieldOf LAN_CFG.CTLE_ADAPT first) &&
    decide (fieldOf LAN_CFG.DFE_ADAPT v = fieldOf LAN_CFG.DFE_ADAPT first)
  else decide (v = 0)

def State.portModeFault (s : State) (bs : List Byte) : Option Nat :=
  layoutFault bs 24 ([such 0 1 s.portOk, rsv 1 3, such 4 4 (prtCfgOk (fieldAt bs 0 1))] ++
    (List.range 4).map fun j => such (8 + 4 * j) 4 (lanEntryOk bs j))

/-! ### Mode changes (R79) -/

/-- A PRT_CFG value makes a mode change at port `p`. -/
def State.changesMode (s : State) (p v : Nat) : Bool :=
  decide (fieldOf PRT_CFG.FAMILY v ≠ s.family p) || decide (fieldOf PRT_CFG.RATE_CODE v ≠ s.rate p) ||
  decide (fieldOf PRT_CFG.QUAD v ≠ bit (s.isQuad p))

/-- A quad is formed or broken. -/
def State.changesQuad (s : State) (p v : Nat) : Bool := decide (fieldOf PRT_CFG.QUAD v ≠ bit (s.isQuad p))

/-- The ports that a mode change of `p` touches: all four when a quad is formed or broken (R76). -/
def State.modePorts (s : State) (p v : Nat) : List Nat :=
  if s.changesQuad p v then [p, p + 1, p + 2, p + 3] else [p]

/-- Protection membership of a port: an MSP group, or an SNCP or ODU group of a connection on it (R76). -/
def State.inProtection (s : State) (p : Nat) : Bool :=
  s.prot.groups.any fun g =>
    decide (g.1 / 2 ^ 24 = 1) && (decide (g.2.cfg.protPort = p) || g.2.cfg.work.contains p)

/-- The port may not change its mode: it carries a grate connection, or, when a quad is formed, an ALF
tributary or protection membership (R76, R79). -/
def State.modeBusy (s : State) (p v : Nat) : Bool :=
  s.changesMode p v && (s.modePorts p v).any fun q =>
    s.portCarries q ||
    (s.changesQuad p v && fieldOf PRT_CFG.QUAD v == 1 &&
      (!(s.alf q).list.isEmpty || !(s.alf q).staged.isEmpty || s.inProtection q))

def ownChim (p : Nat) : Nat := 9 * 2 ^ 40 + p

/-- Row 9 of PORT_MODE: BUSY, the fifth chimney link (R77), or the staged registers written. -/
def State.portModeAdmit (s : State) (p : Packet) : Verdict :=
  let bs := p.payload
  let n := fieldAt bs 0 1
  let v := fieldAt bs 4 4
  let chim := fieldOf PRT_CFG.FAMILY v = 6
  let short := if chim then s.shortOf rCHIMNEY_LINKS 0 1 (ownChim n) else []
  if s.modeBusy n v then .refuse stBUSY 0 []
  else if short ≠ [] then .noRes short
  else
    let s1 := s.wrStaged (PRT_CFG.key n) (BitVec.ofNat 32 v)
    let lanes := if fieldOf PRT_CFG.QUAD v = 1 then [0, 1, 2, 3] else [0]
    let s2 := s1.each lanes fun s j =>
      s.wrStaged (LAN_CFG.key (n + j)) (BitVec.ofNat 32 (fieldAt bs (8 + 4 * j) 4))
    .accept (if chim then s2.reserve rCHIMNEY_LINKS 0 1 (ownChim n) (some (p.master, p.seq.toNat)) else s2)

/-- The running state of a path, an ODU and a tributary starts anew; its configuration stays. -/
def PathSt.restart (x : PathSt) : PathSt := { cfg := x.cfg, staged := x.staged, hist := x.hist }
def OduSt.restart (x : OduSt) : OduSt := { cfg := x.cfg, staged := x.staged, hist := x.hist }
def TribSt.restart (x : TribSt) : TribSt :=
  { cfg := x.cfg, staged := x.staged, mapper := x.mapper, carrier := x.carrier, carrier2 := x.carrier2,
    sel := x.sel, retime := x.retime, hist := x.hist }
def AlfSt.restart (x : AlfSt) : AlfSt := { list := x.list, staged := x.staged, listGen := x.listGen }
def OtnSt.restart (x : OtnSt) : OtnSt :=
  { smExp := x.smExp, smTx := x.smTx, smExpStaged := x.smExpStaged, smTxStaged := x.smTxStaged }

/-- Every condition of a port ends, and what was on its way to it is dropped. -/
def State.clearPortConds (s : State) (q : Nat) : State :=
  let s1 := s.each (s.evt.conds.filter fun c => decide (c.source = q)) fun s c => s.cond c false
  { s1 with arrivals := s1.arrivals.filter fun a => match a with
      | .defect c _ => decide (c.source ≠ q)
      | _ => true }

/-- The five actions of R79 at port `q`. -/
def State.modeChange (s : State) (q : Nat) : State :=
  let s1 := s.flushWhere (fun e => match e.key with | .port n _ => decide (n = q) | _ => false) 0
  let s2 := s1.clearPortConds q
  let st := LAN_STATUS.key q
  let s2 := if s2.on st LAN_STATUS.SUBSTITUTING then s2.startTimer (.spareLock (q / 12)) 32 else s2
  let s3 := ((((s2.put st LAN_STATUS.LOS 0).put st LAN_STATUS.CDR_LOCK (bit (s2.on (LAN_CFG.key q) LAN_CFG.RX_EN))).put st
    LAN_STATUS.LANE_FAULT 0).put st LAN_STATUS.RETRIES 0).stopTimer (.laneRetry q)
  let s4 := s3.updPort q fun x => { x with
    pfn := 0, modeHold := true, squelched := false, aligned := false, eyeHours := [], sdh := {}, otn := x.otn.restart, alf := x.alf.restart }
  let s5 := (s4.put (ETH_STATUS.key q) ETH_STATUS.BLOCK_LOCK 0).put (ETH_STATUS.key q) ETH_STATUS.HI_BER 0
  let links := s5.pair.links.filter fun e =>
    decide (s5.get CLM_CHIMNEY.key (if e.1 = 0 then CLM_CHIMNEY.CHIM0 else CLM_CHIMNEY.CHIM1) ≠ q)
  { s5 with
    pair := { s5.pair with links := links }
    paths := s4.paths.map fun e => if e.1 / 256 = q then (e.1, e.2.restart) else e
    odus := s4.odus.map fun e => if e.1 / 256 = q then (e.1, e.2.restart) else e
    tribs := s4.tribs.map fun e => if e.1 / 2 ^ 24 = q then (e.1, e.2.restart) else e }

/-! ### Lane test (R83) and lane defects (R84) -/

/-- What LAN_STATUS and the fault hold say of a lane's defect. -/
def State.laneHas (s : State) (l code : Nat) : Bool :=
  if code = dLOS then s.on (LAN_STATUS.key l) LAN_STATUS.LOS
  else if code = dLANE_FAULT then s.on (LAN_STATUS.key l) LAN_STATUS.LANE_FAULT
  else s.decided (s.condLane l code)

/-- A lane's defect reaches its port, unless the port is disabled, or in LANE_TEST (R83, R84). -/
def State.reportLane (s : State) (l code : Nat) (set : Bool) : State :=
  let p := s.portOfLane l
  if s.family p = 0 ∨ s.laneTest p = true then s else s.rule (s.condLane l code) set

/-- LANE_TEST begins or ends with the configuration; at its end the lanes' standing defects reach the
port. -/
def State.refreshLaneTest (s : State) (p : Nat) : State :=
  let c := condPort p eLANE_TEST
  let now := s.laneTest p && decide (s.family p ≠ 0)
  if s.has c = now then s
  else
    let s1 := s.cond c now
    if now then s1
    else s1.each (s1.lanesOf p) fun s l =>
      s.each [dLOS, dLANE_FAULT] fun s code => s.reportLane l code (s.laneHas l code)

/-- The flip of a port's PRT_CFG and LAN_CFG (R76, R79). -/
def State.flipMode (s : State) (p : Nat) : State :=
  let w := s.rdStaged (PRT_CFG.key p)
  let v := w.toNat
  let change := s.changesMode p v
  let ports := s.modePorts p v
  let quad := fieldOf PRT_CFG.QUAD v = 1
  let members := if s.changesQuad p v then [p + 1, p + 2, p + 3] else []
  let s1 := s.wr (PRT_CFG.key p) w
  let mw : Word := if quad then 0x200 else 0
  let s2 := s1.each members fun s q => (s.wr (PRT_CFG.key q) mw).wrStaged (PRT_CFG.key q) mw
  let s3 := s2.flipRegs (if quad then [0, 1, 2, 3].map fun j => LAN_CFG.key (p + j) else [LAN_CFG.key p])
  let s4 := if change then s3.each ports State.modeChange else s3
  s4.each ports State.refreshLaneTest

/-- PORT_MODE at step 2. -/
def State.portModeRun (s : State) (p : Packet) : Done :=
  let n := fieldAt p.payload 0 1
  let v := (s.rdStaged (PRT_CFG.key n)).toNat
  if s.modeBusy n v then failDone (s.unreserve (p.master, p.seq.toNat)) stBUSY 0
  else
    let s1 := s.flipMode n
    okDone (if fieldOf PRT_CFG.FAMILY v = 6
      then s1.commitUnits rCHIMNEY_LINKS (ownChim n) (some (p.master, p.seq.toNat))
      else s1.releaseUnits rCHIMNEY_LINKS (ownChim n))

/-- The lane that a condition of a lane defect names. -/
def State.laneOf (s : State) (c : Cond) : Nat :=
  if s.isQuad c.source then c.source + c.entity % 4 else c.source

/-- Ticks before the next retry: 1, 2, 4 to 64 s (R85). -/
def retryGap (retries : Nat) : Nat := min 64 (2 ^ retries) * ticksPerSecond

/-- A lane defect completes its integration (R84, Table 03-2): LAN_STATUS follows, and the change is on
its way to the port. While SUBSTITUTING the lane reports no LOS or CDR_LOL (R87). CDR_LOCK reads set while
neither LOS nor CDR_LOL is declared (DEDUCED, log entry 78). -/
def State.laneDecided (s : State) (l code : Nat) (set : Bool) : State :=
  let k := LAN_STATUS.key l
  if s.on k LAN_STATUS.SUBSTITUTING ∧ (code = dLOS ∨ code = dCDR_LOL) then s
  else if code = dLOS then
    let s1 := (s.put k LAN_STATUS.LOS (bit set)).put k LAN_STATUS.CDR_LOCK
      (bit (!set && !s.decided (s.condLane l dCDR_LOL)))
    (if set then s1.put k LAN_STATUS.LOS_HIST 1 else s1).reportLane l code set
  else if code = dCDR_LOL then
    if s.on k LAN_STATUS.LOS then s
    else
      let s1 := s.put k LAN_STATUS.CDR_LOCK (bit !set)
      (if set then s1.put k LAN_STATUS.CDR_LOL_HIST 1 else s1).reportLane l code set
  else if code = dLANE_FAULT then
    if set then
      if s.on k LAN_STATUS.LANE_FAULT then s
      else
        let s1 := ((s.put k LAN_STATUS.LANE_FAULT 1).put k LAN_STATUS.LANE_FAULT_HIST 1).put k
          LAN_STATUS.RETRIES 0
        (((s1.updPort l fun x => { x with squelched := true }).startTimer (.laneRetry l)
          (retryGap 0))).reportLane l code true
    else s
  else if code = dLANE_ALIGN then
    (s.updPort (s.portOfLane l) fun x => { x with aligned := !set }).reportLane l code set
  else s.reportLane l code set

/-- A retry of a lane in LANE_FAULT when its back-off has run (R85). -/
def State.laneRetry (s : State) (l : Nat) (held : Bool) : State :=
  let k := LAN_STATUS.key l
  if ¬ s.on k LAN_STATUS.LANE_FAULT ∨ ¬ s.timerDue (.laneRetry l) then s
  else
    let s1 := s.bump k LAN_STATUS.RETRIES 1
    if held then
      (((s1.put k LAN_STATUS.LANE_FAULT 0).updPort l fun x => { x with squelched := false }).stopTimer
        (.laneRetry l)).reportLane l dLANE_FAULT false
    else s1.startTimer (.laneRetry l) (retryGap (s1.get k LAN_STATUS.RETRIES))

end Sys2Proof.Machine
end

