-- ==== Sys2Proof/Machine/Sdh.lean ====
section
/-! DEFINITION. SDH and SONET ports (04_sdh_sonet_framing): alignment (R94, R95), overhead (R101 to
R107), the BER windows (R109, R119), pointer interpretation (R110 to R113), path monitoring (R115 to
R119, R202) and the commands 0x11 to 0x15. -/

namespace Sys2Proof.Machine

/-! ### Alignment -/

/-- One frame of Table 04-2 (R127, R128, R140): out after `n` errored frames in a row, in again at the second
correct one; the runs of R95 are counted to `top`. -/
def AlignSt.frame (n top : Nat) (a : AlignSt) (ok : Bool) : AlignSt :=
  if a.inFrame then
    if ok then { a with bad := 0, inRun := min top (a.inRun + 1) }
    else if n ≤ a.bad + 1 then { inFrame := false, bad := 0, found := false, oofRun := 1, inRun := 0 }
    else { a with bad := a.bad + 1, inRun := min top (a.inRun + 1) }
  else if ok && a.found then { inFrame := true, bad := 0, found := false, oofRun := 0, inRun := 1 }
  else { a with found := ok, oofRun := min top (a.oofRun + 1) }

/-! ### The framer's settings: the port's own, or the client framer's of an OTU port (R145) -/

/-- Rate of the client STM-N of an OTU port: its ODU1 or ODU2 terminated with PT 0x02 or 0x03. -/
def State.clientRate (s : State) (p : Nat) : Option Nat :=
  let c := (s.odu (oduKey p 0)).cfg
  if s.isOtn p ∧ c.mode = 1 ∧ (c.ptExp = 2 ∨ c.ptExp = 3) then
    (if c.otype = 2 then some 2 else if c.otype = 3 then some 3 else none)
  else none

/-- The port has an SDH or SONET framer. -/
def State.hasStm (s : State) (p : Nat) : Bool := s.isSdh p || (s.clientRate p).isSome

def State.stmRate (s : State) (p : Nat) : Nat := if s.isSdh p then s.rate p else (s.clientRate p).getD 0

/-- A bit of SDH_CFG; the client framer's settings are fixed at 0 (R145). -/
def State.sdhOn (s : State) (p : Nat) (f : Fld) : Bool := s.isSdh p && s.on (SDH_CFG.key p) f

/-- A field of the window registers; the client framer has no windows. -/
def State.sdhGet (s : State) (p k : Nat) (f : Fld) : Nat := if s.isSdh p then s.get k f else 0

/-! ### Traces (R104, R117) -/

/-- CRC-7 of a 16-byte trace, x^7 + x^3 + 1, over the trace with its first byte taken as 0x80 (G.707).
PRESUMED; Notes: assumption 12. -/
def crc7Bit (r : Nat) (b : Bool) : Nat :=
  if r.testBit 6 != b then ((r * 2) % 128) ^^^ 0x09 else (r * 2) % 128

def crc7 (bs : List Byte) : Nat :=
  bs.foldl (fun r b => (List.range 8).foldl (fun r i => crc7Bit r (b.toNat.testBit (7 - i))) r) 0

/-- The trace's own first byte: 0x80 and the CRC-7. -/
def traceHead (body : List Byte) : Byte := BitVec.ofNat 8 (0x80 + crc7 (0x80 :: body))

/-- A whole trace arrived: three identical ones in a row become the accepted trace. -/
def TraceSt.take (t : TraceSt) (trace : List Byte) : TraceSt :=
  let run := if t.last = trace then t.run + 1 else 1
  { part := [], last := trace, run := min 3 run,
    accepted := if 3 ≤ run then some trace else t.accepted }

/-- A byte of a 16-byte trace, delineated by bit 7 and checked by CRC-7. -/
def TraceSt.byte16 (t : TraceSt) (b : Byte) : TraceSt :=
  let part := if 128 ≤ b.toNat then [b] else if t.part = [] then [] else t.part ++ [b]
  if part.length = 16 then
    if part.headD 0 = traceHead part.tail then t.take part else { t with part := [] }
  else { t with part := part }

/-- A byte of a 64-byte trace, delineated by CR and LF at bytes 62 and 63. -/
def TraceSt.byte64 (t : TraceSt) (b : Byte) : TraceSt :=
  let part := (t.part ++ [b]).drop (t.part.length + 1 - 64)
  if b.toNat = 0x0A ∧ part.dropLast.getLast? = some 0x0D then
    if part.length = 64 then t.take part else { t with part := [] }
  else { t with part := part }

/-- The accepted trace differs from the expected one. -/
def TraceSt.differs (t : TraceSt) (wide : Bool) (expected : List Byte) : Bool :=
  match t.accepted with
  | none => false
  | some a => if wide then decide (a ≠ expected) else decide (a.tail ≠ (expected.take 16).tail)

/-- The 16 trace bytes of four registers. -/
def State.traceRegs (s : State) (k : Nat → Nat) : List Byte :=
  (List.range 4).flatMap fun j => beBytes 4 (s.rd (k j)).toNat

/-! ### BER windows (R109, R119) -/

/-- The decision at the end of a window: declared at the threshold, cleared below an eighth of it. -/
def State.berDecide (s : State) (c : Cond) (thresh count : Nat) : State :=
  if thresh ≤ count then s.rule c true else if 8 * count < thresh then s.rule c false else s

/-- The end of the line windows. -/
def State.lineSfEnd (s : State) (p : Nat) : State :=
  let w := s.sdhGet p (SDH_SF_CFG.key p) SDH_SF_CFG.WINDOW
  if w = 0 ∨ (s.sdh p).sf.len < w then s
  else (s.berDecide (condPort p dEXC_L) (s.sdhGet p (SDH_SF_CFG.key p) SDH_SF_CFG.THRESH) (s.sdh p).sf.count).updSdh
    p fun x => { x with sf := {} }

def State.lineSdEnd (s : State) (p : Nat) : State :=
  let w := s.sdhGet p (SDH_SD_CFG.key p) SDH_SD_CFG.WINDOW
  if w = 0 ∨ (s.sdh p).sd.len < w then s
  else (s.berDecide (condPort p dDEG_L) (s.sdhGet p (SDH_SD_CFG.key p) SDH_SD_CFG.THRESH) (s.sdh p).sd.count).updSdh
    p fun x => { x with sd := {} }

/-- The end of a path window; a threshold of 0 disables its defect (R119). -/
def State.pathBerEnd (s : State) (p head : Nat) : State :=
  let k := SDH_PATH_BER.key p
  let w := 8 * s.sdhGet p k SDH_PATH_BER.WINDOW8
  let win := (s.path (pathKey p head)).win
  if w = 0 ∨ win.len < w then s
  else
    let sf := s.get k SDH_PATH_BER.SF_THRESH
    let sd := s.get k SDH_PATH_BER.SD_THRESH
    let s1 := if sf = 0 then s else s.berDecide (condPath p head dEXC_P) sf win.count
    let s2 := if sd = 0 then s1 else s1.berDecide (condPath p head dDEG_P) sd win.count
    s2.updPath (pathKey p head) fun x => { x with win := {} }

/-! ### Pointers (R110 to R113) -/

/-- The NDF bits lie within one bit of a pattern. -/
def ndfNear (ndf pattern : Nat) : Bool :=
  decide (((List.range 4).filter fun i => (ndf ^^^ pattern).testBit i).length ≤ 1)

def bitCount (n : Nat) : Nat := ((List.range 16).filter fun i => n.testBit i).length

/-- I bits and D bits of a pointer word. -/
def iBits : Nat := 0x2AA
def dBits : Nat := 0x155

/-- Greatest high-order pointer value. -/
def ptrTop : Nat := 782

/-- A received pointer word (R110). -/
inductive PtrWord where
  | normal (v : Nat)
  | inc
  | dec
  | ndf (v : Nat)
  | ais
  | ci
  | invalid
  deriving DecidableEq, Repr

/-- Classification against the current value, which counts only in NORM; `top` is the greatest pointer
value. Three or more inverted I bits (D bits) with no D bit (I bit) differing are an increment (a
decrement); fewer make the word invalid. Notes: assumption 13. -/
def classify (top : Nat) (norm : Bool) (cur word : Nat) : PtrWord :=
  let ndf := word / 4096
  let v := word % 1024
  let diff := v ^^^ cur
  let i := bitCount (diff &&& iBits)
  let d := bitCount (diff &&& dBits)
  if word = 0xFFFF then .ais
  else if ndfNear ndf 9 then
    if v = 0x3FF then .ci else if v ≤ top then .ndf v else .invalid
  else if ndfNear ndf 6 then
    if norm ∧ d = 0 ∧ 3 ≤ i then .inc
    else if norm ∧ i = 0 ∧ 3 ≤ d then .dec
    else if norm ∧ ((d = 0 ∧ i ≠ 0) ∨ (i = 0 ∧ d ≠ 0)) then .invalid
    else if v ≤ top then .normal v else .invalid
  else .invalid

/-- Run of a new value in consecutive normal words. -/
def PtrSt.sameRun (x : PtrSt) (v : Nat) : Nat := if x.newRun ≠ 0 ∧ x.newVal = v then x.newRun + 1 else 1

/-- The runs of consecutive words of each kind. -/
def PtrSt.runs (x : PtrSt) (w : PtrWord) : PtrSt :=
  { x with
    invalid := match w with | .invalid => min 8 (x.invalid + 1) | .ndf _ => min 8 (x.invalid + 1) | _ => 0
    aisRun := if w = .ais then min 3 (x.aisRun + 1) else 0
    ci := if w = .ci then min 8 (x.ci + 1) else 0
    since := min 3 (x.since + 1)
    newRun := match w with | .normal v => x.sameRun v | _ => 0
    newVal := match w with | .normal v => v | _ => x.newVal }

/-- One frame of Table 04-6 for a classified word. -/
def PtrSt.move (top : Nat) (x : PtrSt) (w : PtrWord) : PtrSt :=
  let y := x.runs w
  let z := match x.state, w with
    | .norm, .normal v => if v = x.value then { y with newRun := 0 }
        else if 3 ≤ y.newRun then { y with value := v, since := 0, newRun := 0 } else y
    | .norm, .inc => if 3 ≤ x.since then
        { y with value := if x.value = top then 0 else x.value + 1, since := 0 } else y
    | .norm, .dec => if 3 ≤ x.since then
        { y with value := if x.value = 0 then top else x.value - 1, since := 0 } else y
    | .norm, .ndf v => { y with value := v, since := 0 }
    | .ais, .ndf v => { y with state := .norm, value := v, since := 0 }
    | .ais, .normal v => if 3 ≤ y.newRun then { y with state := .norm, value := v, newRun := 0 } else y
    | .lop, .normal v => if 3 ≤ y.newRun then { y with state := .norm, value := v, newRun := 0 } else y
    | _, _ => y
  if z.state ≠ .lop ∧ (8 ≤ z.invalid ∨ 8 ≤ z.ci) then { z with state := .lop, invalid := 0, ci := 0, newRun := 0 }
  else if z.state ≠ .ais ∧ 3 ≤ z.aisRun then { z with state := .ais, newRun := 0 }
  else z

/-- A frame of a head pointer; the report of LOP-P waits 8 frames after configuration (R113). -/
def PtrSt.frame (top : Nat) (x : PtrSt) (word : Nat) : PtrSt :=
  let w := classify top (decide (x.state = .norm)) x.value word
  let y := x.move top w
  let fresh := min 8 (x.fresh + 1)
  { y with fresh := fresh, settled := x.settled || decide (y.state ≠ .lop) || decide (8 ≤ fresh) }

/-- A word moved the pointer by a justification. -/
def justified (top : Nat) (x : PtrSt) (word : Nat) : Option Bool :=
  match classify top (decide (x.state = .norm)) x.value word with
  | .inc => if x.state = .norm ∧ 3 ≤ x.since then some true else none
  | .dec => if x.state = .norm ∧ 3 ≤ x.since then some false else none
  | _ => none

/-- A frame of a member pointer (R112): LOPC after 8 words neither CI nor AIS, AISC after 3 AIS, normal
after 3 CI. -/
def PtrSt.member (x : PtrSt) (word : Nat) : PtrSt :=
  let w := classify ptrTop false 0 word
  let other := if w = .ci ∨ w = .ais then 0 else min 8 (x.invalid + 1)
  let ais := if w = .ais then min 3 (x.aisRun + 1) else 0
  let ci := if w = .ci then min 3 (x.ci + 1) else 0
  { x with invalid := other, aisRun := ais, ci := ci,
           state := if 8 ≤ other then .lop else if 3 ≤ ais then .ais else if 3 ≤ ci then .norm else x.state }

/-- LOP-P of a container (R112, R113). -/
def PathSt.lop (x : PathSt) : Bool :=
  (decide (x.ptr.state = .lop) && x.ptr.settled) || x.members.any fun m => decide (m.state = .lop)

def PathSt.ais (x : PathSt) : Bool := decide (x.ptr.state = .ais) && !x.lop

/-! ### Paths -/

/-- STS-1 positions of a TYPE, Table 04-7. -/
def pathWidth (t : Nat) : Nat := [0, 1, 3, 12, 48, 192].getD t 0

/-- Head alignment of a TYPE. -/
def headAlign (t : Nat) : Nat := [1, 1, 3, 12, 48, 192].getD t 1

/-- Least rate code of a TYPE. -/
def leastRate (t : Nat) : Nat := [0, 0, 0, 1, 2, 3].getD t 0

/-- Configured heads of a port, in force. -/
def State.heads (s : State) (p : Nat) : List Nat :=
  (s.paths.filter fun e => decide (e.1 / 256 = p) && decide (e.2.cfg.ptype ≠ 0)).map fun e => e.1 % 256

/-- LOS, LOF or AIS-L stands: path monitoring below AIS-P freezes (R121). -/
def State.lineDown (s : State) (p : Nat) : Bool :=
  (s.lanesOf p).any (fun l => s.decided (s.condLane l dLOS)) ||
  ([dLOF, dAIS_L] ++ if s.isOtn p then [dOTU_LOF, dLOL, dLOM] else []).any fun d => s.decided (condPort p d)

/-- H4 of a frame (R202). -/
def PathSt.h4Frame (x : PathSt) (phase : Nat) : PathSt :=
  let ok := decide (phase % 4 = x.h4)
  let y := { x with h4 := (if x.inMf then (x.h4 + 1) else phase + 1) % 4 }
  if x.inMf then
    let bad := if ok then 0 else x.h4Bad + 1
    if 3 ≤ bad then { y with inMf := false, h4Bad := 0, h4Good := 0, oomRun := 1, mfRun := 0 }
    else { y with h4Bad := bad, mfRun := min 8 (x.mfRun + 1) }
  else
    let good := if ok then x.h4Good + 1 else 0
    if 2 ≤ good then { y with inMf := true, h4Bad := 0, h4Good := 0, oomRun := 0, mfRun := 1 }
    else { y with h4Good := good, oomRun := min 8 (x.oomRun + 1) }

/-- LOM-P of a mapped container. -/
def State.lomRule (s : State) (p head : Nat) : State :=
  let x := s.path (pathKey p head)
  let c := condPath p head dLOM_P
  if (s.container (pathKey p head)).types = [] then s
  else if 8 ≤ x.oomRun then s.rule c true else if 8 ≤ x.mfRun then s.rule c false else s

/-- AIS-P and LOP-P after a pointer word. LOP-P holds while the line is down (R121). -/
def State.pointerRules (s : State) (p head : Nat) : State :=
  let x := s.path (pathKey p head)
  let s1 := if s.lineDown p then s else s.rule (condPath p head dLOP_P) x.lop
  s1.rule (condPath p head dAIS_P) x.ais

/-- C2 defects of the accepted label (R118). -/
def State.labelRules (s : State) (p head : Nat) (cfg : PathCfg) (c2 : AcceptSt) : State :=
  match c2.accepted with
  | none => s
  | some v =>
    let on := decide (cfg.c2Exp ≠ 0)
    (s.rule (condPath p head dUNEQ_P) (on && v == 0)).rule (condPath p head dPLM_P)
      (on && v != 0 && v != cfg.c2Exp && v != 1)

/-- Pointer words of a path (R111, R112) with the justification counts. -/
def State.pathPointer (s : State) (p : Nat) (f : PathRx) : State :=
  let k := pathKey p f.head
  let x := s.path k
  let w := f.pointer.toNat
  let ms := (List.range f.members.length).map fun i =>
    (x.members.getD i { state := .norm }).member (f.members.getD i 0).toNat
  let s1 := s.updPath k fun x => { x with ptr := x.ptr.frame ptrTop w, members := ms }
  let s2 := match justified ptrTop x.ptr w with
    | some true => (s1.updPath k fun x => { x with inPj := x.inPj + 1 }).countPath p f.head 2 1
    | some false => (s1.updPath k fun x => { x with inNj := x.inNj + 1 }).countPath p f.head 3 1
    | none => s1
  s2.pointerRules p f.head

/-- REI-P of G1: 9 to 15 count 0 (Table 04-8). -/
def reiOf (g1 : Nat) : Nat := if g1 / 16 ≤ 8 then g1 / 16 else 0

/-- Trace bytes of a path (R117). -/
def PathSt.trace (x : PathSt) (b : Byte) : PathSt :=
  if x.cfg.trace = 1 then { x with j1 := x.j1.byte16 b }
  else if x.cfg.trace = 2 then { x with j1 := x.j1.byte64 b } else x

/-- Path overhead of an in-frame frame (R116 to R119), frozen while the line is down (R121). Counts and
errored blocks go on. -/
def State.pathOverhead (s : State) (p : Nat) (f : PathRx) : State :=
  let k := pathKey p f.head
  let b3 := min 8 f.b3
  let rei := reiOf f.g1.toNat
  let bits := s.sdhOn p SDH_CFG.B_MODE
  let lay := layKey p 1 f.head 0 0 0
  let s1 := ((s.countPath p f.head 0 (if bits then b3 else bit (b3 ≠ 0))).countPath p f.head 1
    (if bits then rei else bit (rei ≠ 0))).updPath k fun x => { x with lastB3 := b3 }
  let s2 := if b3 = 0 then s1 else s1.errBlocks lay false 1
  let s3 := if rei = 0 then s2 else s2.errBlocks lay true 1
  if s3.lineDown p then s3
  else
    let s4 := s3.updPath k fun x =>
      { (x.trace f.j1).h4Frame f.h4.toNat with
        c2 := acceptVal 5 x.c2 f.c2.toNat, rdi := runOn x.rdi (f.g1.toNat.testBit 3),
        win := { len := x.win.len + 1, count := x.win.count + bit (b3 ≠ 0) } }
    let x := s4.path k
    let s5 := (s4.labelRules p f.head x.cfg x.c2).integrate (condPath p f.head dRDI_P) x.rdi 5 5
    let s6 := s5.rule (condPath p f.head dTIM_P)
      (decide (x.cfg.trace ≠ 0) && x.j1.differs (x.cfg.trace == 2) x.cfg.j1Exp)
    (s6.lomRule p f.head).pathBerEnd p f.head

/-! ### A received frame -/

/-- Greatest REI-L count of a rate (R103). -/
def reiLimit (rate : Nat) (ext : Bool) : Nat :=
  if rate = 3 ∧ ext then 1536 else [24, 96, 255, 255].getD rate 255

def State.reiMax (s : State) (p : Nat) : Nat :=
  reiLimit (s.stmRate p) (s.sdhOn p SDH_CFG.MS_REI_EXT)

/-- One word of the DCC receive queue (Table 04-5, R107). -/
def State.dccWord (s : State) (p channel : Nat) (bs : List Byte) : State :=
  let q := 4 + s.get (SDH_CFG.key p) SDH_CFG.DCC_MASTER
  let data := beVal (bs ++ List.replicate (6 - bs.length) 0)
  let r := s.insertWords q [validWord (p * 2 ^ 55 + channel * 2 ^ 54 + bs.length * 2 ^ 51 + data)]
  if r.1 then r.2 else r.2.bump (SDH_DCC_DROP.key p) SDH_DCC_DROP.DROPS 1

/-- DCC bytes of an in-frame frame (R107). -/
def State.dccReceive (s : State) (p : Nat) (f : SdhRx) : State :=
  let s1 := if s.sdhOn p SDH_CFG.DCC_RS_EN then s.dccWord p 0 (bytesAt f.rsDcc 0 3) else s
  if s1.sdhOn p SDH_CFG.DCC_MS_EN then
    (s1.dccWord p 1 (bytesAt f.msDcc 0 6)).dccWord p 1 (bytesAt f.msDcc 6 3)
  else s1

/-- K1 and K2 accepted after 3 frames go to the protection engine in step 1 (R105). -/
def State.kReceive (s : State) (p k1 k2 : Nat) : State :=
  let old := (s.sdh p).k
  let new := acceptVal 3 old (k1 * 256 + k2)
  let s1 := s.updSdh p fun x => { x with k := new }
  if new.accepted = old.accepted ∨ ¬ s.isSdh p then s1
  else match new.accepted with
    | some v => ((s1.put (SDH_RX_OH.key p) SDH_RX_OH.K1 (v / 256)).put (SDH_RX_OH.key p) SDH_RX_OH.K2
        (v % 256)).arrive (.kBytes p (v / 256) (v % 256))
    | none => s1

/-- S1 accepted after 8 frames (R106), and J0 (R104). -/
def State.s1j0 (s : State) (p : Nat) (f : SdhRx) : State :=
  let s1 := s.updSdh p fun x => { x with s1 := acceptVal 8 x.s1 f.s1.toNat }
  let s2 := match (s1.sdh p).s1.accepted with
    | some v => if s1.isSdh p then s1.put (SDH_RX_OH.key p) SDH_RX_OH.S1 v else s1
    | none => s1
  if s2.sdhOn p SDH_CFG.J0_MODE then
    let s3 := s2.updSdh p fun x => { x with j0 := x.j0.byte16 f.j0 }
    s3.rule (condPort p dTIM_S) ((s3.sdh p).j0.differs false (s3.traceRegs fun j => SDH_J0_EXP.key p j))
  else (if s2.isSdh p then s2.put (SDH_RX_OH.key p) SDH_RX_OH.J0 f.j0.toNat else s2).rule
    (condPort p dTIM_S) false

/-- AIS-L and RDI-L from K2[2:0] (Table 04-9). -/
def State.k2Defects (s : State) (p k2 : Nat) : State :=
  let s1 := s.updSdh p fun x =>
    { x with ais := runOn x.ais (decide (k2 % 8 = 7)), rdi := runOn x.rdi (decide (k2 % 8 = 6)) }
  let x := s1.sdh p
  (s1.integrate (condPort p dAIS_L) x.ais 3 3).integrate (condPort p dRDI_L) x.rdi 5 5

/-- B1, B2 and REI-L of a frame that began in-frame (R102, R103). -/
def State.parity (s : State) (p : Nat) (f : SdhRx) : State :=
  let bits := s.sdhOn p SDH_CFG.B_MODE
  let b1 := min 8 f.b1
  let b2 := min (24 * stmLevel (s.stmRate p)) f.b2
  let rei := if f.m1 ≤ s.reiMax p then f.m1 else 0
  let val := fun n => if bits then n else bit (n ≠ 0)
  let s1 := ((s.countPort p 0 (val b1)).countPort p 1 (val b2)).countPort p 2 (val rei)
  let s2 := if b1 = 0 then s1 else s1.errBlocks (layKey p 5 0 0 0 0) false 1
  let s3 := if b2 = 0 then s2 else s2.errBlocks (layKey p 5 0 0 0 1) false 1
  let s4 := if rei = 0 then s3 else s3.errBlocks (layKey p 5 0 0 0 1) true 1
  s4.updSdh p fun x =>
    { x with
      lastB2 := b2
      sf := { x.sf with count := x.sf.count + b2 }
      sd := { x.sd with count := x.sd.count + b2 } }

/-- A frame that began out-of-frame: an errored block at every layer, in OOF_FRAMES (R96). -/
def State.oofFrame (s : State) (p : Nat) : State :=
  let s1 := ((s.countPort p 3 1).errBlocks (layKey p 5 0 0 0 0) false 1).errBlocks (layKey p 5 0 0 0 1) false 1
  (s1.each (s1.heads p) fun s h => (s.errBlocks (layKey p 1 h 0 0 0) false 1).updPath (pathKey p h) fun x =>
    { x with lastB3 := 0 }).updSdh p fun x => { x with lastB2 := 0 }

/-- The section, line and path bytes of a frame that began in-frame. -/
def State.inFrame (s : State) (p : Nat) (f : SdhRx) : State :=
  let s1 := ((((s.parity p f).k2Defects p f.k2.toNat).kReceive p f.k1.toNat f.k2.toNat).s1j0 p f).dccReceive p f
  s1.each (f.paths.filter fun x => (s1.heads p).contains x.head) fun s x =>
    (s.pathPointer p x).pathOverhead p x

/-- A received SDH or SONET frame (R94 to R107). -/
def State.sdhReceive (s : State) (p : Nat) (f : SdhRx) : State :=
  if ¬ s.hasStm p then s
  else
    let began := (s.sdh p).align.inFrame
    let s1 := if began then s.inFrame p f else s.oofFrame p
    let s2 := s1.updSdh p fun x =>
      { x with
        align := x.align.frame 4 24 f.patternOk
        sf := { x.sf with len := x.sf.len + 1 }
        sd := { x.sd with len := x.sd.len + 1 } }
    let a := (s2.sdh p).align
    let s5 := if began && !a.inFrame then s2.rule (condPort p dOOF) true
      else if a.inFrame then s2.rule (condPort p dOOF) false else s2
    let s6 := if !a.inFrame && decide (24 ≤ a.oofRun) then s5.rule (condPort p dLOF) true
      else if a.inFrame && decide (24 ≤ a.inRun) then s5.rule (condPort p dLOF) false else s5
    (s6.lineSfEnd p).lineSdEnd p

/-! ### Commands -/

/-- The payload's port is an SDH or SONET port. -/
def State.sdhPortOk (s : State) (p : Nat) : Bool := s.portOk p && s.isSdh p

def State.sdhSectionFault (s : State) (bs : List Byte) : Option Nat :=
  layoutFault bs 56 [such 0 1 s.sdhPortOk, rsv 1 3, such 4 4 (regBitsOk (SDH_CFG.key 0)),
    such 8 4 (regBitsOk (SDH_TX_OH.key 0)), such 12 4 (regBitsOk (SDH_SF_CFG.key 0)),
    such 16 4 (regBitsOk (SDH_SD_CFG.key 0)), such 20 4 (regBitsOk (SDH_PATH_BER.key 0))]

/-- Registers of SDH_SECTION_CFG in payload order from offset 4. -/
def sdhSectionRegs (p : Nat) : List Nat :=
  [SDH_CFG.key p, SDH_TX_OH.key p, SDH_SF_CFG.key p, SDH_SD_CFG.key p, SDH_PATH_BER.key p] ++
  ((List.range 4).map fun j => SDH_J0_EXP.key p j) ++ (List.range 4).map fun j => SDH_J0_TX.key p j

/-- Payload words written to the staged registers, from an offset. -/
def State.stageWords (s : State) (bs : List Byte) (off : Nat) (ks : List Nat) : State :=
  s.each (ks.zip (List.range ks.length)) fun s e =>
    s.wrStaged e.1 (BitVec.ofNat 32 (fieldAt bs (off + 4 * e.2) 4))

def State.sdhSectionAdmit (s : State) (p : Packet) : Verdict :=
  .accept (s.stageWords p.payload 4 (sdhSectionRegs (fieldAt p.payload 0 1)))

/-- A disabled window clears its defect; every window starts anew at the flip that sets it (R109). -/
def State.restartWindows (s : State) (p : Nat) : State :=
  let s1 := s.updSdh p fun x => { x with sf := {}, sd := {} }
  let s2 := s1.each (s1.heads p) fun s h => s.updPath (pathKey p h) fun x => { x with win := {} }
  let s3 := if s2.sdhGet p (SDH_SF_CFG.key p) SDH_SF_CFG.WINDOW = 0 then s2.rule (condPort p dEXC_L) false else s2
  let s4 := if s3.sdhGet p (SDH_SD_CFG.key p) SDH_SD_CFG.WINDOW = 0 then s3.rule (condPort p dDEG_L) false else s3
  let k := SDH_PATH_BER.key p
  let off := decide (s4.get k SDH_PATH_BER.WINDOW8 = 0)
  s4.each (s4.heads p) fun s h =>
    let t := if off || decide (s.get k SDH_PATH_BER.SF_THRESH = 0) then s.rule (condPath p h dEXC_P) false else s
    if off || decide (t.get k SDH_PATH_BER.SD_THRESH = 0) then t.rule (condPath p h dDEG_P) false else t

/-- The flip of a port's section configuration. -/
def State.flipSection (s : State) (p : Nat) : State :=
  let old := [s.rd (SDH_SF_CFG.key p), s.rd (SDH_SD_CFG.key p), s.rd (SDH_PATH_BER.key p)]
  let s1 := s.flipRegs (sdhSectionRegs p)
  let new := [s1.rd (SDH_SF_CFG.key p), s1.rd (SDH_SD_CFG.key p), s1.rd (SDH_PATH_BER.key p)]
  (if old = new then s1 else s1.restartWindows p).refreshLaneTest p

def State.sdhSectionRun (s : State) (p : Packet) : Done := okDone (s.flipSection (fieldAt p.payload 0 1))

/-- A port whose paths are configured: SDH, SONET, or an OTU port with a client framer (R145). -/
def State.stmPortOk (s : State) (p : Nat) : Bool := s.portOk p && s.hasStm p

/-- SDH_PATH_CFG, Table 04-17: faults of HEAD and TYPE by Table 04-7 (R115); in 16-byte mode bytes 16 to 63
of a trace are 0 (R122). -/
def State.sdhPathFault (s : State) (bs : List Byte) : Option Nat :=
  let port := fieldAt bs 0 1
  let t := fieldAt bs 2 1
  let zeros := fun v => decide (fieldAt bs 6 1 = 1 → v % 2 ^ 384 = 0)
  layoutFault bs 140 [such 0 1 s.stmPortOk,
    such 1 1 (fun h => decide (h < 192 ∧ h % headAlign t = 0 ∧ h + pathWidth t ≤ 3 * stmLevel (s.stmRate port))),
    such 2 1 (fun t => decide (t ≤ 5 ∧ leastRate t ≤ s.stmRate port)), below 3 1 2, below 6 1 3, below 7 1 16,
    such 8 64 zeros, such 72 64 zeros, rsv 136 4]

def pathCfgOf (bs : List Byte) : PathCfg :=
  { ptype := fieldAt bs 2 1, mode := fieldAt bs 3 1, c2Exp := fieldAt bs 4 1, c2Tx := fieldAt bs 5 1,
    trace := fieldAt bs 6 1, actions := fieldAt bs 7 1, j1Exp := bytesAt bs 8 64, j1Tx := bytesAt bs 72 64 }

/-- Another path, in force or staged, overlaps positions h to h + w - 1 (R115). -/
def State.pathOverlap (s : State) (p h w : Nat) : Bool :=
  s.paths.any fun e =>
    decide (e.1 / 256 = p ∧ e.1 % 256 ≠ h) &&
    [e.2.cfg.ptype, e.2.staged.ptype].any fun t =>
      decide (t ≠ 0 ∧ e.1 % 256 < h + w ∧ h < e.1 % 256 + pathWidth t)

/-- A context store page short after a change of the configuration (R39). -/
def contextShort (before after : State) : List Short :=
  if after.contextPages ≤ after.poolPages 0 ∨ after.contextPages ≤ before.contextPages then []
  else [⟨rCONTEXT_PAGES, 0, after.contextPages - before.contextPages,
         before.poolPages 0 - before.contextPages⟩]

/-- The path, or a tributary of the container it carries, has a grate connection. -/
def State.pathBusy (s : State) (p h : Nat) : Bool :=
  s.liveConns.any fun c => c.2.carried.any fun w =>
    decide ((epOfWord w).port = p ∧ (epOfWord w).head = h ∧ ((epOfWord w).kind = 1 ∨ (epOfWord w).kind = 3))

def State.sdhPathAdmit (s : State) (p : Packet) : Verdict :=
  let bs := p.payload
  let port := fieldAt bs 0 1
  let h := fieldAt bs 1 1
  let new := pathCfgOf bs
  let cur := (s.path (pathKey port h)).cfg
  let s1 := s.updPath (pathKey port h) fun x => { x with staged := new }
  if new.ptype ≠ 0 ∧ s.pathOverlap port h (pathWidth new.ptype) = true then .refuse stBUSY 0 []
  else if (new.ptype ≠ cur.ptype ∨ new.mode ≠ cur.mode) ∧ s.pathBusy port h = true then
    .refuse stBUSY 0 []
  else if contextShort s s1 ≠ [] then .noRes (contextShort s s1)
  else .accept s1

/-- Conditions of an entity end. -/
def State.clearEntity (s : State) (source entity : Nat) : State :=
  let s1 := s.each (s.evt.conds.filter fun c => decide (c.source = source ∧ c.entity = entity)) fun s c =>
    s.cond c false
  { s1 with arrivals := s1.arrivals.filter fun a => match a with
      | .defect c _ => decide (¬ (c.source = source ∧ c.entity = entity))
      | _ => true }

/-- The flip of a path: a new TYPE starts in LOP (R113). -/
def State.flipPath (s : State) (k : Nat) : State :=
  let s := s.reissued (k / 256) (entPath (k % 256))
  let x := s.path k
  if x.staged.ptype = x.cfg.ptype then s.updPath k fun x => { x with cfg := x.staged }
  else (s.clearEntity (k / 256) (entPath (k % 256))).updPath k fun x =>
    if x.staged.ptype = 0 then {} else { cfg := x.staged, staged := x.staged }

/-- A path that leaves MODE 1 or TYPE 1 and 2 gives its container and tributaries back (R199). -/
def State.dropContainer (s : State) (k : Nat) : State :=
  let x := s.path k
  if x.cfg.mode = 1 ∧ (x.cfg.ptype = 1 ∨ x.cfg.ptype = 2) then s
  else
    let gone := (s.tribs.filter fun e => decide (e.1 / 65536 = k)).map Prod.fst
    let s1 := s.each gone fun s t =>
      (((s.clearEntity (k / 256) (entTrib (k % 256) (t % 65536))).releaseUnits rLO_TRIB_POS (ownTrib t)).releaseUnits
        rRETIME_UNITS (ownTrib t)).updTrib t fun _ => {}
    (s1.releaseUnits rMAPPER_CONT_POS (ownContainer k)).updContainer k fun _ => {}

def State.sdhPathRun (s : State) (p : Packet) : Done :=
  let k := pathKey (fieldAt p.payload 0 1) (fieldAt p.payload 1 1)
  let x := s.path k
  if (x.staged.ptype ≠ x.cfg.ptype ∨ x.staged.mode ≠ x.cfg.mode) ∧
      s.pathBusy (k / 256) (k % 256) = true then failDone s stBUSY 0
  else okDone ((s.flipPath k).dropContainer k)

/-- The path of a payload is configured. -/
def State.pathOk (s : State) (p h : Nat) : Bool := (s.heads p).contains h

def State.sdhPathStatusFault (s : State) (bs : List Byte) : Option Nat :=
  layoutFault bs 4 [such 0 1 s.stmPortOk, such 1 1 (s.pathOk (fieldAt bs 0 1)), below 2 1 2, rsv 3 1]

def ptrStateCode (x : PtrState) : Nat := match x with | .norm => 0 | .lop => 1 | .ais => 2

/-- Live bits of the path defects of Table 04-9. -/
def State.pathLive (s : State) (p h : Nat) : Nat :=
  ((List.range pathCodes.length).map fun i =>
    bit (s.has (condPath p h (pathCodes.getD i 0))) * 2 ^ i).sum

/-- The items of R123 in their order: live and sticky bits (2 bytes each), pointer state (1), accepted C2
(1), value (2), IN_PJ, IN_NJ, OUT_PJ, OUT_NJ (4 each). Notes: assumption 10. -/
def State.pathStatusBytes (s : State) (p h : Nat) : List Byte :=
  let x := s.path (pathKey p h)
  beBytes 2 (s.pathLive p h) ++ beBytes 2 x.hist ++ beBytes 1 (ptrStateCode x.ptr.state) ++
  beBytes 1 (x.c2.accepted.getD 0) ++ beBytes 2 x.ptr.value ++ beBytes 4 x.inPj ++ beBytes 4 x.inNj ++
  beBytes 4 x.outPj ++ beBytes 4 x.outNj

/-- SDH_PATH_STATUS: CLEAR zeroes the counts and the sticky bits (R123). -/
def State.sdhPathStatus (s : State) (p : Packet) : Verdict :=
  let n := fieldAt p.payload 0 1
  let h := fieldAt p.payload 1 1
  let s1 := if fieldAt p.payload 2 1 % 2 = 1 then
      s.updPath (pathKey n h) fun x => { x with inPj := 0, inNj := 0, outPj := 0, outNj := 0, hist := 0 }
    else s
  .answer stOK (s.pathStatusBytes n h) s1

/-- SDH_TRACE_READ: PORT, HEAD (0xFF for the section trace J0), 2 reserved bytes. The manual gives no
layout. Notes: assumption 11. -/
def State.sdhTraceFault (s : State) (bs : List Byte) : Option Nat :=
  layoutFault bs 4 [such 0 1 s.stmPortOk,
    such 1 1 (fun h => decide (h = 0xFF) || s.pathOk (fieldAt bs 0 1) h), rsv 2 2]

def State.sdhTraceRead (s : State) (p : Packet) : Verdict :=
  let n := fieldAt p.payload 0 1
  let h := fieldAt p.payload 1 1
  let t := if h = 0xFF then (s.sdh n).j0 else (s.path (pathKey n h)).j1
  .answer stOK (t.accepted.getD []) s

/-- SDH_DCC_SEND: PORT, CHANNEL (0 RS, 1 MS), COUNT (1 to 2,048), the bytes (R108). The manual gives no
layout. Notes: assumption 11. -/
def State.sdhDccFault (s : State) (bs : List Byte) : Option Nat :=
  layoutFault bs (4 + fieldAt bs 2 2) [such 0 1 s.sdhPortOk, below 1 1 2, within 2 2 1 2048]

def dccBuffer : Nat := 2048

def State.sdhDccRun (s : State) (p : Packet) : Done :=
  let n := fieldAt p.payload 0 1
  let data := p.payload.drop 4
  let x := s.sdh n
  if fieldAt p.payload 1 1 = 0 then
    if dccBuffer < x.rsTx.length + data.length then failDone s stBUSY 0
    else okDone (s.updSdh n fun x => { x with rsTx := x.rsTx ++ data })
  else if dccBuffer < x.msTx.length + data.length then failDone s stBUSY 0
  else okDone (s.updSdh n fun x => { x with msTx := x.msTx ++ data })

end Sys2Proof.Machine
end

