-- ==== Sys2Proof/Machine/Otn.lean ====
section
/-! DEFINITION. OTU ports and ODUs (05_otn_framing): alignment (R127 to R130), the monitors of SM, PM and
TCM (R133 to R138), payload structure (R139, R140), LO ODUs and tributary slots (R141 to R143), the
received frame, and the commands 0x16 to 0x1A. -/

namespace Sys2Proof.Machine

/-! ### Rates (Tables 05-1, 05-4) -/

/-- F3: frames in 3 ms. -/
def f3Of (rate : Nat) : Nat := [62, 247, 255, 2570].getD rate 62

/-- The ODU TYPE an OTU mode carries at index 0. -/
def hoType (rate : Nat) : Nat := [2, 3, 4, 5].getD rate 2

/-- Grate slots of an ODU TYPE; ODUflex by its rate in kb/s. -/
def oduSlots (t flex : Nat) : Nat :=
  if t = 6 then ceilDiv (flex * 10001) 518400000 else [0, 25, 49, 194, 201, 2022].getD t 0

/-- Tributary slots of a HO ODU: ODU2 with PT 0x20 has 4, with PT 0x21 8; ODU4 80 (R140). -/
def tsCount (ho pt : Nat) : Nat := if ho = 5 then 80 else if pt = 0x20 then 4 else 8

/-- TS of an ODUflex: TS rates 1.249409620 and 1.301709251 Gb/s (R141). -/
def flexTs (ho flex : Nat) : Nat :=
  if ho = 5 then ceilDiv (flex * 10001) 13017092510 else ceilDiv (flex * 10001) 12494096200

/-- TS a LO ODU takes, 0 where Table 05-4 gives none. -/
def tsNeeded (ho pt t flex : Nat) : Nat :=
  if ho = 5 ∧ pt = 0x21 then
    (if t = 6 then flexTs 5 flex else [0, 1, 2, 8, 8, 0].getD t 0)
  else if ho = 3 ∧ pt = 0x21 then
    (if t = 6 then flexTs 3 flex else [0, 1, 2, 0, 0, 0].getD t 0)
  else if ho = 3 ∧ pt = 0x20 then (if t = 2 then 1 else 0)
  else 0

/-! ### Layers -/

/-- The SM layer is kept as layer 7 of the frame's list. -/
def smLayer : Nat := 7

def State.layer (s : State) (p index l : Nat) : LayerSt :=
  if l = smLayer then (s.otn p).sm else (s.odu (oduKey p index)).layers.getD l {}

def State.updLayer (s : State) (p index l : Nat) (f : LayerSt → LayerSt) : State :=
  if l = smLayer then s.updOtn p fun x => { x with sm := f x.sm }
  else s.updOdu (oduKey p index) fun x => { x with layers := x.layers.store l (f (x.layers.getD l {})) {} }

/-- The condition of a layer's defect: SM defects are the port's (Table 16-5). -/
def layerCond (p index l code : Nat) : Cond :=
  if l = smLayer then condPort p code else condOdu p index l code

/-- TIM_MODE, TIM_ACT of a layer. -/
def State.timMode (s : State) (p index l : Nat) : Nat :=
  let c := (s.odu (oduKey p index)).cfg
  if l = smLayer then s.get (OTN_CFG.key p) OTN_CFG.SM_TIM_MODE
  else if l = 0 then c.flags % 4 else (c.tcm.getD (l - 1) (0, 0, 0)).2.1 % 4

def State.timAct (s : State) (p index l : Nat) : Bool :=
  let c := (s.odu (oduKey p index)).cfg
  if l = smLayer then s.on (OTN_CFG.key p) OTN_CFG.SM_TIM_ACT
  else if l = 0 then c.flags.testBit 2 else (c.tcm.getD (l - 1) (0, 0, 0)).2.1.testBit 2

def State.ttiExp (s : State) (p index l : Nat) : List Byte :=
  let c := (s.odu (oduKey p index)).cfg
  if l = smLayer then (s.otn p).smExp else if l = 0 then c.pmExp else c.tcmExp.getD (l - 1) []

/-- TIM compares SAPI, DAPI or both (R134). -/
def ttiDiffers (mode : Nat) (t : TraceSt) (expected : List Byte) : Bool :=
  match t.accepted with
  | none => false
  | some a =>
    (mode.testBit 0 && decide (bytesAt a 0 16 ≠ bytesAt expected 0 16)) ||
    (mode.testBit 1 && decide (bytesAt a 16 16 ≠ bytesAt expected 16 16))

/-- A byte of a TTI at MFAS[5:0] = `i` (R134). -/
def TraceSt.tti (t : TraceSt) (i : Nat) (b : Byte) : TraceSt :=
  if i = 0 then { t with part := [b] }
  else if t.part.length = i then
    if i = 63 then t.take (t.part ++ [b]) else { t with part := t.part ++ [b] }
  else { t with part := [] }

/-- A layer that the port monitors: SM, PM of a configured ODU, a TCM not off. -/
def State.monitored (s : State) (p index l : Nat) : Bool :=
  let c := (s.odu (oduKey p index)).cfg
  l == smLayer || (decide (c.otype ≠ 0) && (l == 0 || decide ((c.tcm.getD (l - 1) (0, 0, 0)).1 ≠ 0)))

/-- Configured ODU indices of a port, in force. -/
def State.oduList (s : State) (p : Nat) : List Nat :=
  (s.odus.filter fun e => decide (e.1 / 256 = p) && decide (e.2.cfg.otype ≠ 0)).map fun e => e.1 % 256

/-- The port's server defects of R148. -/
def State.otuDown (s : State) (p : Nat) : Bool :=
  (s.lanesOf p).any (fun l => s.decided (s.condLane l dLOS)) ||
  [dOTU_LOF, dLOL, dLOM].any fun d => s.decided (condPort p d)

/-- Server defects of an ODU layer (R148). -/
def State.oduDown (s : State) (p index : Nat) : Bool :=
  s.otuDown p || (decide (index ≠ 0) &&
    ([dPLM, dODU_AIS, dLCK, dOCI, dLOOMFI].any (fun d => s.decided (condOdu p 0 0 d)) ||
     [dMSIM, dLOFLOM].any fun d => s.decided (condOdu p index 0 d)))

/-- The record key of a layer. -/
def otnLay (p index l : Nat) : Nat := if l = smLayer then layKey p 5 0 0 0 0 else layKey p 2 0 index 0 l

/-- BIP and BEI of a frame (R133). -/
def State.layerCounts (s : State) (p : Nat) (f : OtnLayerRx) : State :=
  let bip := min 8 f.bip
  let hi := f.status.toNat / 16
  let biae := s.decided (layerCond p f.index f.layer dBIAE)
  let bei := if hi ≤ 8 ∧ ¬ biae then hi else 0
  let lay := otnLay p f.index f.layer
  let cnt := fun (s : State) k n =>
    if f.layer = smLayer then s.countPort p k n else s.countOdu p f.index f.layer k n
  let s1 := cnt (cnt s 0 (bit (bip ≠ 0))) 1 bei
  let s2 := if bip = 0 then s1 else s1.errBlocks lay false 1
  let s3 := if bei = 0 then s2 else s2.errBlocks lay true 1
  let s4 := if s3.decided (layerCond p f.index f.layer dIAE) then s3.flagIae lay else s3
  s4.updLayer p f.index f.layer fun x => { x with bei := bip, secErr := x.secErr + bit (bip ≠ 0) }

/-- Decisions from the accepted STAT (R135). -/
def State.statRules (s : State) (p index l : Nat) (a : AcceptSt) : State :=
  match a.accepted with
  | none => s
  | some v =>
    if l = smLayer then s
    else
      let c := layerCond p index l
      let s1 := ((s.rule (c dODU_AIS) (v == 7)).rule (c dLCK) (v == 5)).rule (c dOCI) (v == 6)
      if l = 0 then s1 else (s1.rule (c dLTC) (v == 0)).rule (c dIAE) (v == 2)

/-- Status, trace and delay bits of a frame (R134, R135); `mfas` is none out of multiframe. -/
def State.layerStatus (s : State) (p : Nat) (mfas : Option Nat) (f : OtnLayerRx) : State :=
  let st := f.status.toNat
  let sm := f.layer = smLayer
  let s1 := s.updLayer p f.index f.layer fun x =>
    { x with
      tti := match mfas with | some m => x.tti.tti (m % 64) f.ttiByte | none => x.tti
      stat := if sm then x.stat else acceptVal 3 x.stat (st % 8)
      bdi := runOn x.bdi (st.testBit 3)
      iae := if sm then runOn x.iae (st.testBit 2) else x.iae
      biae := if f.layer = 0 then x.biae else runOn x.biae (decide (st / 16 = 0xB)) }
  let x := s1.layer p f.index f.layer
  let c := layerCond p f.index f.layer
  let s2 := (s1.statRules p f.index f.layer x.stat).integrate (c dBDI) x.bdi 5 5
  let s3 := if sm then s2.integrate (c dIAE) x.iae 5 5 else s2
  let s4 := if f.layer = 0 then s3 else s3.integrate (c dBIAE) x.biae 3 3
  s4.rule (c dTIM) (ttiDiffers (s4.timMode p f.index f.layer) x.tti (s4.ttiExp p f.index f.layer))

/-! ### Delay measurement (R138) -/

/-- The resource of a delay measurement: a layer of an ODU (Table 14-8). -/
def dmRes (p index l : Nat) : Res := (0x81, l, oduKey p index)

def State.dm (s : State) (p index l : Nat) : DmSt := (s.odu (oduKey p index)).dm.getD l {}

def State.updDm (s : State) (p index l : Nat) (f : DmSt → DmSt) : State :=
  s.updOdu (oduKey p index) fun x => { x with dm := x.dm.store l (f (x.dm.getD l {})) {} }

/-- Frames counted before DM_TIMEOUT. -/
def dmLimit : Nat := 65535

/-- No confirmed return within the limit: DM_TIMEOUT, and the operation ends. -/
def State.dmTimeout (s : State) (p index l : Nat) : State :=
  let d := s.dm p index l
  if d.running ∧ dmLimit ≤ d.frames then
    ((s.updDm p index l fun d => { d with running := false, timedOut := true }).event p eDM_TIMEOUT true
      (entOdu index l)).finishLong (dmRes p index l) stOK 0 []
  else s

/-- A received frame of the layer during a measurement: the new value, confirmed by the next 2 frames. -/
def State.dmFrame (s : State) (p : Nat) (f : OtnLayerRx) : State :=
  let s0 := s.updLayer p f.index f.layer fun x => { x with dmRx := f.dm }
  let d := s0.dm p f.index f.layer
  if ¬ (d.running ∧ d.sent) ∨ f.layer = smLayer then s0
  else
    let good := decide (f.dm = (s0.layer p f.index f.layer).dmTx)
    let conf := if good then d.confirm + 1 else 0
    let first := if conf = 1 then d.frames else d.found
    if 3 ≤ conf then
      ((s0.updDm p f.index f.layer fun d =>
          { d with running := false, confirm := conf, found := first, result := first }).event p eDM_DONE true
        (entOdu f.index f.layer)).finishLong (dmRes p f.index f.layer) stOK 0 []
    else s0.updDm p f.index f.layer fun d => { d with confirm := conf, found := first }

/-- A frame sent while a measurement runs: the first carries the inverted bit, and the others are counted. -/
def State.dmSent (s : State) (p index l : Nat) : State :=
  let d := s.dm p index l
  if ¬ d.running then s
  else if ¬ d.sent then s.updDm p index l fun d => { d with sent := true }
  else (s.updDm p index l fun d => { d with frames := d.frames + 1 }).dmTimeout p index l

/-! ### Payload structure (R139, R140) -/

/-- The expected MSI byte of slot `t`, as G.709 codes it. PRESUMED; Notes: assumption 14. -/
def msiByte (ho pt t : Nat) (los : List (Nat × OduCfg)) : Nat :=
  match los.find? fun e => e.2.ts.contains t with
  | none => if ho = 5 then 0 else if pt = 0x20 then 0 else 0xFF
  | some (i, c) =>
    if ho = 5 then 0x80 + (i - 1) % 128
    else if pt = 0x20 then (i - 1) % 64
    else (if c.otype = 2 then 0 else if c.otype = 1 then 0xC0 else 0x80) + (i - 1) % 64

/-- LO ODUs of a port in force. -/
def State.loCfgs (s : State) (p : Nat) : List (Nat × OduCfg) :=
  ((s.oduList p).filter fun i => decide (i ≠ 0)).map fun i => (i, (s.odu (oduKey p i)).cfg)

/-- MSIM of each LO ODU from the accepted MSI bytes. -/
def State.msiRules (s : State) (p : Nat) : State :=
  let c := (s.odu (oduKey p 0)).cfg
  let los := s.loCfgs p
  let runs := (s.otn p).msiRuns
  let wrong := fun t => match (runs.getD t {}).accepted with
    | some v => decide (v ≠ msiByte c.otype c.ptExp t los)
    | none => false
  let known := fun t => (runs.getD t {}).accepted.isSome
  s.each los fun s e =>
    if s.otuDown p then s
    else if e.2.ts.any wrong then s.rule (condOdu p e.1 0 dMSIM) true
    else if e.2.ts.all known then s.rule (condOdu p e.1 0 dMSIM) false else s

/-- The PSI byte of a frame (R139, R140). -/
def State.psiFrame (s : State) (p mfas psi : Nat) : State :=
  let c := (s.odu (oduKey p 0)).cfg
  let s0 := s.updOtn p fun x => { x with psi := x.psi.store mfas psi 0 }
  if c.otype = 0 ∨ c.mode = 0 then s0
  else if mfas = 0 then
    let s1 := s0.updOtn p fun x => { x with pt := acceptVal 3 x.pt psi }
    match (s1.otn p).pt.accepted with
    | some v => if s1.oduDown p 0 then s1 else s1.rule (condOdu p 0 0 dPLM) (v != c.ptExp)
    | none => s1
  else if 2 ≤ mfas ∧ mfas < 2 + tsCount c.otype c.ptExp ∧ (c.ptExp = 0x20 ∨ c.ptExp = 0x21) then
    (s0.updOtn p fun x =>
      let a := acceptVal 3 (x.msiRuns.getD (mfas - 1) {}) psi
      { x with msiRuns := x.msiRuns.store (mfas - 1) a {} }).msiRules p
  else s0

/-- OMFI of an ODU4 with PT 0x21 (R140). LOOMFI clears with OOMFI. Notes: assumption 15. -/
def State.omfiFrame (s : State) (p omfi : Nat) : State :=
  let c := (s.odu (oduKey p 0)).cfg
  if c.otype ≠ 5 ∨ c.ptExp ≠ 0x21 ∨ c.mode = 0 then s
  else
    let x := s.otn p
    let ok := decide (omfi = (x.omfiVal + 1) % 80)
    let a := x.omfi.frame 5 (f3Of (s.rate p)) ok
    let s1 := s.updOtn p fun x => { x with omfi := a, omfiVal := omfi }
    if s1.otuDown p then s1
    else if !a.inFrame && decide (f3Of (s.rate p) ≤ a.oofRun) then s1.rule (condOdu p 0 0 dLOOMFI) true
    else if a.inFrame then s1.rule (condOdu p 0 0 dLOOMFI) false else s1

/-! ### A received frame -/

/-- Alignment of the frame; LOL holds it out-of-frame (R127, R129). -/
def State.otuAlign (s : State) (p : Nat) (f : OtuRx) (lol : Bool) : State :=
  let f3 := f3Of (s.rate p)
  let began := (s.otn p).align.inFrame
  let s1 := s.updOtn p fun x =>
    let a := x.align.frame 5 f3 (f.fasOk && !lol)
    { x with align := if lol then { a with inFrame := false, found := false, inRun := 0 } else a }
  let a := (s1.otn p).align
  let s2 := if began && !a.inFrame then s1.rule (condPort p dOTU_OOF) true
    else if a.inFrame then s1.rule (condPort p dOTU_OOF) false else s1
  if !a.inFrame && decide (f3 ≤ a.oofRun) then s2.rule (condPort p dOTU_LOF) true
  else if a.inFrame && decide (f3 ≤ a.inRun) then s2.rule (condPort p dOTU_LOF) false else s2

/-- The acquisition of R48: the PFN moves forward so that PFN[7:0] is MFAS; a move raises
PFN_DISCONTINUITY. -/
def State.otuAcquire (s : State) (p mfas : Nat) : State :=
  let n := (s.port p).pfn
  let d := (mfas + 256 - n % 256) % 256
  if d = 0 then s
  else (s.updPort p fun x => { x with pfn := (n + d) % 2 ^ 32 }).event p ePFN_DISCONTINUITY true 0

/-- Multiframe alignment of an in-frame frame (R128). -/
def State.otuMultiframe (s : State) (p mfas : Nat) : State :=
  let f3 := f3Of (s.rate p)
  let x := s.otn p
  let began := x.mf.inFrame
  let m := x.mf.frame 5 f3 (decide (mfas = (x.mfas + 1) % 256))
  let s1 := s.updOtn p fun x => { x with mf := m, mfas := mfas }
  let s2 := if began && !m.inFrame then s1.rule (condPort p dOOM) true
    else if m.inFrame then s1.rule (condPort p dOOM) false else s1
  let s3 := if !m.inFrame && decide (f3 ≤ m.oofRun) then s2.rule (condPort p dLOM) true
    else if m.inFrame && decide (f3 ≤ m.inRun) then s2.rule (condPort p dLOM) false else s2
  if m.inFrame && !began then s3.otuAcquire p mfas else s3

/-- FEC counts (R131, R132). -/
def State.fecCounts (s : State) (p : Nat) (f : OtuRx) : State :=
  if s.on (OTN_CFG.key p) OTN_CFG.FEC_DEC_DIS ∧ s.rate p ≠ 3 then s
  else (((s.countPort p 2 f.corrBits).countPort p 3 f.uncorr).countPort p 4 f.corrZeros).countPort p 5
    f.corrOnes

/-- Each frame that cannot be evaluated is an errored block at SM and every monitored layer (R130). -/
def State.otuOofFrame (s : State) (p : Nat) : State :=
  let bad := fun (s : State) i l =>
    (s.errBlocks (otnLay p i l) false 1).updLayer p i l fun x => { x with bei := 0 }
  (bad s 0 smLayer).each (s.oduList p) fun s i => s.each (List.range 7) fun s l =>
    if s.monitored p i l then bad s i l else s

/-- A monitored layer of the frame. The integration freezes under a server defect (R148). -/
def State.otuLayer (s : State) (p : Nat) (mfas : Option Nat) (f : OtnLayerRx) : State :=
  if ¬ s.monitored p f.index f.layer then s
  else
    let s1 := (s.layerCounts p f).dmFrame p f
    if f.layer ≠ smLayer ∧ s1.oduDown p f.index = true then s1 else s1.layerStatus p mfas f

/-- LOL of an OTU4 (R129). -/
def State.otuLol (s : State) (p : Nat) (f : OtuRx) : State :=
  if s.rate p ≠ 3 then s
  else
    let lol := decide (f.lanesDown ≠ 0) ||
      (s.lanesOf p).any fun l => s.decided (s.condLane l dLANE_ALIGN)
    let s1 := (s.put (OTN_LANE_STATUS.key p) OTN_LANE_STATUS.LANE_DOWN f.lanesDown.toNat).rule
      (condPort p dLOL) lol
    if lol && !s.decided (condPort p dLOL)
    then s1.put (OTN_LANE_STATUS.key p) OTN_LANE_STATUS.LOL_HIST 1 else s1

/-- How an ODU is carried: 1 AMP, 2 GMP, 0 neither (Table 05-4; R145). -/
def State.justifies (s : State) (p i : Nat) : Nat :=
  let t := (s.odu (oduKey p i)).cfg.otype
  if i = 0 then bit (s.clientRate p).isSome else if t = 2 ∧ s.rate p ≠ 3 then 1 else 2

/-- The justification data of an ODU in a received frame: what the far end's clocks order, which the manual does
not fix (R153). Notes: assumption 2. -/
def State.justFrame (s : State) (p i : Nat) : State :=
  let f := s.fresh
  let k := oduKey p i
  if s.justifies p i = 1 then
    f.2.updOdu k fun x => { x with justPos := x.justPos + bit (f.1 % 3 = 1), justNeg := x.justNeg + bit (f.1 % 3 = 2) }
  else if s.justifies p i = 2 then f.2.updOdu k fun x => { x with cmRx := f.1 % 2 ^ 14 }
  else s

/-- A received OTU frame. -/
def State.otuReceive (s : State) (p : Nat) (f : OtuRx) : State :=
  if ¬ s.isOtn p then s
  else
    let s1 := s.otuLol p f
    let lol := s1.decided (condPort p dLOL)
    let began := (s1.otn p).align.inFrame && !lol
    let s2 := s1.otuAlign p f lol
    if ¬ began then s2.otuOofFrame p
    else
      let s3 := s2.otuMultiframe p f.mfas.toNat
      let m := if (s3.otn p).mf.inFrame then some f.mfas.toNat else none
      let s4 := (s3.fecCounts p f).each f.layers fun s x => s.otuLayer p m x
      let s5 := match m with | some v => s4.psiFrame p v f.psi.toNat | none => s4
      (s5.omfiFrame p f.omfi).each (s5.oduList p) fun s i => s.justFrame p i

/-! ### DEG of the OTN layers (R136) -/

/-- Threshold and run length of a layer. -/
def State.degCfg (s : State) (p index l : Nat) : Nat × Nat :=
  let c := (s.odu (oduKey p index)).cfg
  if l = smLayer then (s.get (OTN_SM_DEG.key p) OTN_SM_DEG.DEG_THR, s.get (OTN_SM_DEG.key p) OTN_SM_DEG.DEG_M)
  else (c.degThr, if l = 0 then c.pmDegM else (c.tcm.getD (l - 1) (0, 0, 0)).2.2)

/-- A defect that raises signal fail stands at the layer or a server layer (R149). -/
def State.layerSf (s : State) (p index l : Nat) : Bool :=
  if l = smLayer then s.otuDown p || (s.decided (condPort p dTIM) && s.timAct p 0 smLayer)
  else s.oduDown p index || [dODU_AIS, dLCK, dOCI].any (fun d => s.decided (condOdu p index l d)) ||
    (s.decided (condOdu p index l dTIM) && s.timAct p index l)

/-- The close of a second for a layer's DEG. -/
def State.degClose (s : State) (p index l : Nat) : State :=
  let x := s.layer p index l
  let (thr, m) := s.degCfg p index l
  let c := layerCond p index l dDEG
  let clean := fun (s : State) => s.updLayer p index l fun x => { x with secErr := 0, secSf := s.layerSf p index l }
  if thr = 0 ∨ m < 2 ∨ 10 < m then clean ((s.updLayer p index l fun x =>
    { x with badSec := 0, goodSec := 0 }).rule c false)
  else if x.secSf then clean s
  else if thr ≤ x.secErr then
    let s1 := s.updLayer p index l fun x => { x with badSec := min 10 (x.badSec + 1), goodSec := 0 }
    clean (if m ≤ x.badSec + 1 then s1.rule c true else s1)
  else
    let s1 := s.updLayer p index l fun x => { x with goodSec := min 10 (x.goodSec + 1), badSec := 0 }
    clean (if m ≤ x.goodSec + 1 then s1.rule c false else s1)

/-- A second in which signal fail was declared (R136). -/
def State.markSecSf (s : State) (p : Nat) : State :=
  if ¬ s.isOtn p then s
  else
    let mark := fun (s : State) i l => if s.layerSf p i l
      then s.updLayer p i l fun x => { x with secSf := true } else s
    (mark s 0 smLayer).each (s.oduList p) fun s i => s.each (List.range 7) fun s l =>
      if s.monitored p i l then mark s i l else s

def State.degClosePort (s : State) (p : Nat) : State :=
  (s.degClose p 0 smLayer).each (s.oduList p) fun s i => s.each (List.range 7) fun s l =>
    if s.monitored p i l then s.degClose p i l else s

/-! ### Commands -/

def State.otnPortOk (s : State) (p : Nat) : Bool := s.portOk p && s.isOtn p

/-- OTN_OTU_CFG, Table 05-12. -/
def State.otuCfgFault (s : State) (bs : List Byte) : Option Nat :=
  layoutFault bs 108 [such 0 1 s.otnPortOk, rsv 1 3, such 4 4 (regBitsOk (OTN_CFG.key 0)),
    such 8 4 (regBitsOk (OTN_SM_DEG.key 0))]

def State.otuCfgAdmit (s : State) (p : Packet) : Verdict :=
  let n := fieldAt p.payload 0 1
  .accept ((s.stageWords p.payload 4 [OTN_CFG.key n, OTN_SM_DEG.key n]).updOtn n fun x =>
    { x with smExpStaged := bytesAt p.payload 12 32, smTxStaged := bytesAt p.payload 44 64 })

/-- A defect of a changed expected value clears at step 2, and its acceptance restarts (R146). -/
def State.dropDefect (s : State) (c : Cond) : State :=
  let s1 := s.cond c false
  { s1 with arrivals := s1.arrivals.filter fun a => match a with
      | .defect d _ => decide (d ≠ c)
      | _ => true }

/-- The flip of an OTU port's section configuration (R146, R150). -/
def State.flipOtu (s : State) (n : Nat) : State :=
  let x := s.otn n
  let s1 := s.flipRegs [OTN_CFG.key n, OTN_SM_DEG.key n]
  let s2 := s1.updOtn n fun x => { x with smExp := x.smExpStaged, smTx := x.smTxStaged }
  (if x.smExp = x.smExpStaged then s2
   else (s2.dropDefect (condPort n dTIM)).updLayer n 0 smLayer fun l => { l with tti := {} }).refreshLaneTest n

def State.otuCfgRun (s : State) (p : Packet) : Done := okDone (s.flipOtu (fieldAt p.payload 0 1))

/-- The slots a TS_MAP names, from 1. -/
def tsOfMap (bs : List Byte) : List Nat :=
  (List.range 80).filterMap fun i =>
    if (bs.getD (i / 8) 0).toNat.testBit (7 - i % 8) then some (i + 1) else none

/-- A TS_MAP from a list of slots. -/
def mapOfTs (ts : List Nat) : List Byte :=
  (List.range 10).map fun j => BitVec.ofNat 8
    (((List.range 8).map fun i => bit (ts.contains (8 * j + i + 1)) * 2 ^ (7 - i)).sum)

def oduCfgOf (bs : List Byte) (ts : List Nat) : OduCfg :=
  { otype := fieldAt bs 2 1, mode := fieldAt bs 3 1, ptExp := fieldAt bs 4 1, ptTx := fieldAt bs 5 1,
    flags := fieldAt bs 6 1, pmDegM := fieldAt bs 7 1, flexRate := fieldAt bs 8 4, ts := ts,
    tcm := (List.range 6).map fun i =>
      (fieldAt bs (24 + 4 * i) 1, fieldAt bs (25 + 4 * i) 1, fieldAt bs (26 + 4 * i) 1),
    degThr := fieldAt bs 48 4, pmExp := bytesAt bs 52 32, pmTx := bytesAt bs 84 64,
    tcmExp := (List.range 6).map fun i => bytesAt bs (148 + 32 * i) 32,
    tcmTx := (List.range 6).map fun i => bytesAt bs (340 + 64 * i) 64 }

/-- The HO ODU as last configured. -/
def State.hoCfg (s : State) (p : Nat) : OduCfg := (s.odu (oduKey p 0)).staged

/-- A PT permitted for a terminated ODU (Table 05-3); a multiplex only at index 0 (R141). -/
def ptOk (index t pt : Nat) : Bool :=
  if pt = 2 ∨ pt = 3 then t == 2 || t == 3
  else if pt = 5 then [1, 2, 3, 5, 6].contains t
  else if pt = 0x20 then t == 3 && index == 0
  else if pt = 0x21 then (t == 3 || t == 5) && index == 0
  else false

/-- OTN_ODU_CFG, Table 05-13 with the checks of R139, R141, R143, R145 and R152. -/
def State.oduCfgFault (s : State) (bs : List Byte) : Option Nat :=
  let p := fieldAt bs 0 1
  let index := fieldAt bs 1 1
  let t := fieldAt bs 2 1
  let ho := s.hoCfg p
  let term := fieldAt bs 3 1 = 1 ∧ t ≠ 0
  let flex := fieldAt bs 8 4
  let need := tsNeeded ho.otype ho.ptExp t flex
  let ts := tsOfMap (bytesAt bs 12 10)
  layoutFault bs 724 ([such 0 1 s.otnPortOk,
    such 1 1 (fun i => decide (i ≤ 80 ∧ (i = 0 ∨ t = 0 ∨
      (ho.otype ≠ 0 ∧ ho.mode = 1 ∧ (ho.ptExp = 0x20 ∨ ho.ptExp = 0x21))))),
    such 2 1 (fun t => decide (t ≤ 6 ∧ (t = 0 ∨ (if index = 0 then t = hoType (s.rate p)
      else t = 6 ∨ need ≠ 0)))),
    below 3 1 2, such 4 1 (fun pt => decide (¬ term) || ptOk index t pt),
    such 5 1 (fun pt => decide (term → pt ≠ 3)), below 6 1 32,
    such 8 4 (fun r => if t = 6 then decide (1000000 ≤ r ∧ r ≤ 100000000 ∧
      flexTs ho.otype r ≤ tsCount ho.otype ho.ptExp) else decide (r = 0)),
    such 12 10 (fun _ => decide (ts = [] ∨ (index ≠ 0 ∧ t ≠ 0 ∧ ts.length = need ∧
      ts.all (fun x => decide (x ≤ tsCount ho.otype ho.ptExp)) = true))),
    rsv 22 2] ++
    ((List.range 6).flatMap fun i => [below (24 + 4 * i) 1 3, below (25 + 4 * i) 1 32, rsv (27 + 4 * i) 1]) ++
    [below 48 4 (2 ^ 20)])

/-- Tributary slots in use or staged by other LO ODUs of the port. -/
def State.tsUsed (s : State) (p index : Nat) : List Nat :=
  s.odus.flatMap fun e => if e.1 / 256 = p ∧ e.1 % 256 ≠ index then e.2.cfg.ts ++ e.2.staged.ts else []

/-- An ODU carries a grate connection, or, at index 0, LO ODUs (R152). -/
def State.oduBusy (s : State) (p index : Nat) : Bool :=
  s.carries (epWord (epOdu p index)) ||
  (decide (index = 0) && s.odus.any fun e => decide (e.1 / 256 = p ∧ e.1 % 256 ≠ 0) &&
    (decide (e.2.cfg.otype ≠ 0) || decide (e.2.staged.otype ≠ 0)))

def oduReshaped (a b : OduCfg) : Bool :=
  decide (a.otype ≠ b.otype ∨ a.mode ≠ b.mode ∨ a.ptExp ≠ b.ptExp)

/-- Row 9 of OTN_ODU_CFG: the tributary slots are taken, lowest first, or as named (R143). -/
def State.oduCfgAdmit (s : State) (p : Packet) : Verdict :=
  let bs := p.payload
  let n := fieldAt bs 0 1
  let i := fieldAt bs 1 1
  let ho := s.hoCfg n
  let named := tsOfMap (bytesAt bs 12 10)
  let used := s.tsUsed n i
  let free := ((List.range (tsCount ho.otype ho.ptExp)).map (· + 1)).filter fun t => !used.contains t
  let need := if i = 0 then 0 else tsNeeded ho.otype ho.ptExp (fieldAt bs 2 1) (fieldAt bs 8 4)
  let ts := if named = [] then free.take need else named
  let new := oduCfgOf bs ts
  let s1 := s.updOdu (oduKey n i) fun x => { x with staged := new }
  if oduReshaped new (s.odu (oduKey n i)).cfg ∧ s.oduBusy n i = true then .refuse stBUSY 0 []
  else if named ≠ [] ∧ named.any (fun t => used.contains t) = true then .refuse stBUSY 0 []
  else if named = [] ∧ free.length < need then .noRes [⟨rTRIB_SLOTS, n, need, free.length⟩]
  else if contextShort s s1 ≠ [] then .noRes (contextShort s s1)
  else .accept s1 (mapOfTs ts)

/-- Every condition of an ODU ends. -/
def State.clearEntityOdu (s : State) (p i : Nat) : State :=
  s.each (List.range 8) fun s l => s.clearEntity p (entOdu i l)

/-- The flip of an ODU (R146): the defects of changed expected values end, acceptance restarts. -/
def State.flipOdu (s : State) (k : Nat) : State :=
  let s := s.reissued (k / 256) (entOdu (k % 256) 0)
  let x := s.odu k
  let p := k / 256
  let i := k % 256
  let old := x.cfg
  let new := x.staged
  let clear := fun (s : State) l => (s.dropDefect (condOdu p i l dTIM)).updLayer p i l fun y => { y with tti := {} }
  if new.otype ≠ old.otype then
    let s1 := (s.clearEntityOdu p i).updOdu k fun _ =>
      if new.otype = 0 then {} else { cfg := new, staged := new }
    s1.updOtn p fun y => { y with msiRuns := [] }
  else
    let s1 := s.updOdu k fun y => { y with cfg := y.staged }
    let s2 := if new.pmExp = old.pmExp then s1 else clear s1 0
    let s3 := s2.each (List.range 6) fun s j =>
      if new.tcmExp.getD j [] = old.tcmExp.getD j [] then s else clear s (j + 1)
    let s4 := if new.ptExp = old.ptExp then s3
      else (s3.dropDefect (condOdu p i 0 dPLM)).updOtn p fun y => { y with pt := {} }
    if new.ts = old.ts then s4
    else (s4.each ((s4.loCfgs p).map Prod.fst) fun s j => s.dropDefect (condOdu p j 0 dMSIM)).updOtn p fun y =>
      { y with msiRuns := [] }

def State.oduCfgRun (s : State) (p : Packet) : Done :=
  let k := oduKey (fieldAt p.payload 0 1) (fieldAt p.payload 1 1)
  let x := s.odu k
  if oduReshaped x.staged x.cfg ∧ s.oduBusy (k / 256) (k % 256) = true then failDone s stBUSY 0
  else okWith (s.flipOdu k) (mapOfTs x.staged.ts)

def State.oduOk (s : State) (p i : Nat) : Bool := (s.oduList p).contains i

/-- OTN_ODU_STATUS: PORT, INDEX, FLAGS ([0] CLEAR), reserved. The manual gives no layout. Notes:
assumption 11. -/
def State.oduStatusFault (s : State) (bs : List Byte) : Option Nat :=
  layoutFault bs 4 [such 0 1 s.otnPortOk, such 1 1 (s.oduOk (fieldAt bs 0 1)), below 2 1 2, rsv 3 1]

def State.layerLive (s : State) (p i l : Nat) : Nat :=
  ((List.range layerCodes.length).map fun j => bit (s.has (condOdu p i l (layerCodes.getD j 0))) * 2 ^ j).sum

def State.oduLive (s : State) (p i : Nat) : Nat :=
  ((List.range oduCodes.length).map fun j => bit (s.has (condOdu p i 0 (oduCodes.getD j 0))) * 2 ^ j).sum

/-- The items of R153 in order: live and sticky bits of PM and each TCM (2 bytes each), of the ODU (1 each),
PT, STAT, Cm sent and received (4 each), justifications (4 each), DM_FRAMES (2), DM_TIMEOUT (1), layer (1).
Notes: assumption 10. -/
def State.oduStatusBytes (s : State) (p i : Nat) : List Byte :=
  let x := s.odu (oduKey p i)
  let d := x.dm.getD x.dmLayer {}
  ((List.range 7).flatMap fun l =>
    beBytes 2 (s.layerLive p i l) ++ beBytes 2 (x.layers.getD l {}).hist) ++
  beBytes 1 (s.oduLive p i) ++ beBytes 1 x.hist ++
  beBytes 1 ((if i = 0 then (s.otn p).pt else x.pt).accepted.getD 0) ++
  beBytes 1 ((x.layers.getD 0 {}).stat.accepted.getD 0) ++ beBytes 4 x.cmTx ++ beBytes 4 x.cmRx ++
  beBytes 4 x.justPos ++ beBytes 4 x.justNeg ++ beBytes 2 d.result ++ beBytes 1 (bit d.timedOut) ++
  beBytes 1 x.dmLayer

def State.oduStatus (s : State) (p : Packet) : Verdict :=
  let n := fieldAt p.payload 0 1
  let i := fieldAt p.payload 1 1
  let s1 := if fieldAt p.payload 2 1 % 2 = 1 then
      s.updOdu (oduKey n i) fun x =>
        { x with justPos := 0, justNeg := 0, hist := 0,
                 layers := x.layers.map fun e => (e.1, { e.2 with hist := 0 }) }
    else s
  .answer stOK (s.oduStatusBytes n i) s1

/-- A layer of an ODU in a payload: 0 PM, 1 to 6 TCMi; SM is 7. -/
def State.layerOk (s : State) (p i l : Nat) : Bool := decide (l < 7) && s.monitored p i l

/-- OTN_TTI_READ: PORT, INDEX, LAYER (0 PM, 1 to 6 TCMi, 7 SM), reserved. Notes: assumption 11. -/
def State.ttiReadFault (s : State) (bs : List Byte) : Option Nat :=
  let p := fieldAt bs 0 1
  let l := fieldAt bs 2 1
  layoutFault bs 4 [such 0 1 s.otnPortOk, such 1 1 (fun i => decide (l = 7 ∧ i = 0) || s.oduOk p i),
    such 2 1 (fun l => decide (l = 7) || s.layerOk p (fieldAt bs 1 1) l), rsv 3 1]

def State.ttiRead (s : State) (p : Packet) : Verdict :=
  let l := s.layer (fieldAt p.payload 0 1) (fieldAt p.payload 1 1) (fieldAt p.payload 2 1)
  .answer stOK (l.tti.accepted.getD []) s

/-- DM_LOOP of a layer. -/
def State.dmLoop (s : State) (p i l : Nat) : Bool :=
  let c := (s.odu (oduKey p i)).cfg
  if l = 0 then c.flags.testBit 4 else (c.tcm.getD (l - 1) (0, 0, 0)).2.1.testBit 4

/-- OTN_DM_START: PORT, INDEX, LAYER, reserved (R138). Notes: assumption 11. -/
def State.dmStartFault (s : State) (bs : List Byte) : Option Nat :=
  let p := fieldAt bs 0 1
  let i := fieldAt bs 1 1
  layoutFault bs 4 [such 0 1 s.otnPortOk, such 1 1 (s.oduOk p),
    such 2 1 (fun l => s.layerOk p i l && !s.dmLoop p i l), rsv 3 1]

/-- The measurement starts: the DM bit to send is inverted (R138). -/
def State.dmBegin (s : State) (p i l : Nat) : State :=
  ((s.updLayer p i l fun x => { x with dmTx := !x.dmTx }).updDm p i l fun _ => { running := true }).updOdu
    (oduKey p i) fun x => { x with dmLayer := l }

def State.dmStartRun (s : State) (p : Packet) (creation : Option Nat) : Done :=
  let n := fieldAt p.payload 0 1
  let i := fieldAt p.payload 1 1
  let l := fieldAt p.payload 2 1
  s.long (dmRes n i l) p creation fun s => runsOn (s.dmBegin n i l)

end Sys2Proof.Machine
end

