-- ==== Sys2Proof/Machine/Alf.lean ====
section
/-! DEFINITION. ALF ports (06_adaptive_link_frame): lane rates (R154), packing and digests (R165, R166),
markers and frames received (R171 to R174), announcements and resizes (R161 to R164, R167), the frozen map
(R168 to R170), and the commands 0x1B to 0x1F. -/

namespace Sys2Proof.Machine

/-! ### Lane rates (Table 06-1) -/

/-- Most ALF blocks of a LANE_RATE; 0 where the width has none. -/
def alfMost (quad : Bool) (laneRate : Nat) : Nat :=
  if quad then [0, 0, 0, 69120, 172800].getD laneRate 0
  else [2520, 5040, 10440, 17280, 43200].getD laneRate 0

/-- Blocks of a list entry (R159). -/
def AlfTrib.blocks (t : AlfTrib) : Nat := if t.ttype = 1 then 3 else if t.ttype = 2 then 4 else 90 * t.count

/-! ### The map (R165) -/

/-- Place in the keep order: CLASS and SHED_RANK descending, list position ascending. -/
def keepKey (e : Nat × AlfTrib) : Nat := (7 - e.2.cls) * 2 ^ 24 + (255 - e.2.rank) * 2 ^ 16 + e.1

def keepOrder (l : List AlfTrib) : List AlfTrib :=
  (sortBy keepKey ((List.range l.length).zip l)).map Prod.snd

/-- The loop of alf_pack: entries with their starts, and the blocks used. -/
def packLoop (budget : Nat) : Bool → Nat → List AlfTrib → List MapEntry × Nat
  | _, used, [] => ([], used)
  | opened, used, t :: ts =>
    let fits := opened && decide (used + t.blocks ≤ budget)
    let r := packLoop budget fits (if fits then used + t.blocks else used) ts
    (⟨t.id, fits, if fits then used else 0, t.blocks⟩ :: r.1, r.2)

/-- alf_pack (R165): profile `k` of `n` blocks with PKT_MIN `m`. -/
def alfPack (k n m : Nat) (l : List AlfTrib) : AlfMap :=
  let r := packLoop (n - m) true 0 (keepOrder l)
  { profile := k, n := n, pktStart := r.2, pktBlocks := n - r.2, entries := r.1 }

/-- The digest of a map (R166). -/
def AlfMap.digest (m : AlfMap) : Nat :=
  crc16.of (beBytes 1 m.profile ++ beBytes 3 m.n ++
    ((m.entries.filter fun e => e.carried).flatMap fun e =>
      beBytes 2 e.id ++ beBytes 3 e.start ++ beBytes 3 e.blocks) ++
    [0xFF, 0xFF] ++ beBytes 3 m.pktStart ++ beBytes 3 m.pktBlocks)

/-- TRIB_IDs carried. -/
def AlfMap.carriedIds (m : AlfMap) : List Nat := (m.entries.filter fun e => e.carried).map MapEntry.id

/-- TRIB_IDs listed and not carried. -/
def AlfMap.shedIds (m : AlfMap) : List Nat := (m.entries.filter fun e => !e.carried).map MapEntry.id

/-- A frozen map read with `n` blocks: entries that end beyond are shed, the packet region clipped (R169). -/
def AlfMap.clip (m : AlfMap) (n : Nat) : AlfMap :=
  { m with
    n := n
    pktBlocks := min m.pktBlocks (n - m.pktStart)
    entries := m.entries.map fun e => { e with carried := e.carried && decide (e.start + e.blocks ≤ n) } }

def State.alfProfile (s : State) (p : Nat) : Nat := s.get (ALF_STATUS.key p) ALF_STATUS.PROFILE
def State.alfBlocks (s : State) (p k : Nat) : Nat := s.get (ALF_PROF.key p k) ALF_PROF.BLOCKS
def State.alfValid (s : State) (p k : Nat) : Bool := s.on (ALF_PROF.key p k) ALF_PROF.VALID
def State.alfPktMin (s : State) (p : Nat) : Nat := s.get (ALF_PKT_MIN.key p) ALF_PKT_MIN.PKT_MIN
def State.alfFrozen (s : State) (p : Nat) : Bool := s.on (ALF_STATUS.key p) ALF_STATUS.FROZEN

/-- The map of profile `k` from the configuration in force. -/
def State.alfMapOf (s : State) (p k : Nat) : AlfMap :=
  alfPack k (s.alfBlocks p k) (s.alfPktMin p) (s.alf p).list

/-- The candidate map (R168). -/
def State.alfCand (s : State) (p : Nat) : AlfMap := s.alfMapOf p (s.alfProfile p)

/-- The map in use: while frozen, the last agreed map with the Nk of the modem's profile (R169). -/
def State.alfUse (s : State) (p : Nat) : AlfMap :=
  if s.alfFrozen p then
    ((s.alf p).agreed.getD (s.alfCand p)).clip (s.alfBlocks p (s.alf p).modemProfile)
  else s.alfCand p

/-- The map for a frame's SEQ: the old one before the frame of the last resize (R171). -/
def State.alfMapFor (s : State) (p seq : Nat) : AlfMap :=
  match (s.alf p).resizeAt with
  | some n => if atOrBeyond seq n then s.alfUse p else (s.alf p).oldMap
  | none => s.alfUse p

/-! ### Shed and restored tributaries (R167) -/

/-- Four TRIB_IDs per extension word, the first in [47:36] (Table 16-5). -/
def idWords : Nat → List Nat → List Nat
  | 0, _ => []
  | n + 1, ids => if ids = [] then [] else
      (ids.getD 0 0 * 2 ^ 36 + ids.getD 1 0 * 2 ^ 24 + ids.getD 2 0 * 2 ^ 12 + ids.getD 3 0) ::
        idWords n (ids.drop 4)

/-- The event words of a list of TRIB_IDs: at most 60 IDs to an event. -/
def State.idEvents (s : State) (p code : Nat) : Nat → List Nat → State
  | 0, _ => s
  | n + 1, ids => if ids = [] then s
    else (s.arrive (.event p code true entAlf (idWords 15 (ids.take 60)))).idEvents p code n (ids.drop 60)

/-- A change of the map in use: what is newly shed and what is restored reaches the port in step 1. -/
def State.alfShift (s : State) (p : Nat) (old : AlfMap) (until_ : Nat) : State :=
  let new := s.alfUse p
  let shed := new.shedIds.filter fun i => !old.shedIds.contains i
  let back := new.carriedIds.filter fun i => old.shedIds.contains i
  let s1 := s.updAlf p fun x => { x with restoring := back, restoreUntil := until_ }
  (s1.idEvents p eALF_SHED 64 shed).idEvents p eALF_RESTORED 64 back

/-- A tributary of the port is in AIS toward the grate: shed, absent from the map, or not yet restored. -/
def State.alfShed (s : State) (p id : Nat) : Bool :=
  !(s.alfUse p).carriedIds.contains id || (s.alf p).restoring.contains id

/-! ### Resizes (R163) -/

/-- The resize at frame `n` is in place: `old` was the map in use before it. A frozen port changes only its
candidate map (R169). -/
def State.alfResized (s : State) (p n : Nat) (old : AlfMap) : State :=
  if s.alfFrozen p then s
  else
    let s1 := s.updAlf p fun x => { x with resizeAt := some n, oldMap := old }
    let s2 := (s1.put (ALF_STATUS.key p) ALF_STATUS.RESIZING 1).histBit (ALF_STATUS.key p) ALF_STATUS.HIST 5
    s2.alfShift p old ((n + 2) % 2 ^ 32)

/-- Frame `n` is the second frame of a resize. -/
def State.alfSecond (s : State) (p n : Nat) : Bool :=
  s.on (ALF_STATUS.key p) ALF_STATUS.RESIZING && decide ((s.alf p).resizeAt = some ((n + 2 ^ 32 - 1) % 2 ^ 32))

/-- AIS of restored tributaries ends from frame N + 2 (R167). -/
def State.alfRestoreEnd (s : State) (p : Nat) : State :=
  let x := s.alf p
  if x.restoring = [] ∨ ¬ atOrBeyond (s.pfn p) x.restoreUntil then s
  else s.updAlf p fun x => { x with restoring := [] }

/-- RESIZING ends with frame N + 1, and AIS of restored tributaries. -/
def State.alfBoundary (s : State) (p : Nat) : State :=
  let s1 := match (s.alf p).resizeAt with
    | some n => if atOrBeyond (s.pfn p) ((n + 2) % 2 ^ 32)
        then s.put (ALF_STATUS.key p) ALF_STATUS.RESIZING 0 else s
    | none => s
  s1.alfRestoreEnd p

/-- An entry that makes a resize of the port. -/
def Entry.resizes (e : Entry) (p : Nat) : Bool :=
  match e.key, e.action with
  | .port q _, .alfResize r _ _ => q == p && r == p
  | .port q _, .host c => q == p && (c.op == 0x1B || c.op == 0x1C)
  | _, _ => false

/-- The flip of ALF_PORT_CFG; a change of LANE_RATE retrains the lane as R79 states. -/
def alfPortRegs (p : Nat) : List Nat :=
  [ALF_CFG.key p, ALF_PKT_MIN.key p] ++ (List.range 16).map fun n => ALF_PROF.key p n

def State.flipAlfPort (s : State) (p : Nat) : State :=
  let old := s.get (ALF_CFG.key p) ALF_CFG.LANE_RATE
  let s1 := s.flipRegs (alfPortRegs p)
  if s1.get (ALF_CFG.key p) ALF_CFG.LANE_RATE = old then s1 else s1.modeChange p

/-- The flip of the tributary list; LIST_GEN counts it (Table 06-4). -/
def State.flipAlfList (s : State) (p : Nat) : State :=
  s.updAlf p fun x => { x with list := x.staged, listGen := (x.listGen + 1) % 256 }

/-- An announcement's resize takes effect: the new profile is in force, and it is pending no longer. -/
def State.alfProfileFlip (s : State) (p profile annId : Nat) : State :=
  let left := (s.alf p).anns.filter fun a => decide (a.annId ≠ annId)
  let s1 := s.updAlf p fun x => { x with anns := left }
  (if s1.alfFrozen p then s1 else s1.put (ALF_STATUS.key p) ALF_STATUS.PROFILE profile).put
    (ALF_STATUS.key p) ALF_STATUS.PENDING left.length

/-! ### Announcements (R161, Table 06-7) -/

/-- The frames at which resizes of the port are pending. -/
def State.alfPendingFrames (s : State) (p : Nat) : List Nat :=
  (s.cal.entries.filter fun e => e.resizes p).filterMap fun e =>
    match e.key with | .port _ n => some n | _ => none

/-- ALF_ANN and ALF_ANN_PFN. -/
def State.showAnn (s : State) (p profile annId outcome eff : Nat) : State :=
  let k := ALF_ANN.key p
  (((s.put k ALF_ANN.PROFILE profile).put k ALF_ANN.ANN_ID annId).put k ALF_ANN.OUTCOME outcome).put
    (ALF_ANN_PFN.key p) ALF_ANN_PFN.EFF_PFN eff

/-- A reply to an announcement. -/
def annReply (code profile annId eff : Nat) : CtlWord := ⟨code, profile * 2 ^ 36 + annId * 2 ^ 32 + eff⟩

/-- The announcement is answered: the reply word, what ALF_ANN shows, and the memory of the answer. -/
def State.annAnswer (s : State) (p profile annId eff code outcome effApplied : Nat) : State :=
  let key := profile * 16 + annId
  (s.updAlf p fun x =>
    { x with
      firstReplies := x.firstReplies ++ [annReply code profile annId effApplied]
      answered := (x.answered.filter fun a => decide (a.1 % 16 ≠ annId)) ++ [(key, eff, code, effApplied)] }).showAnn
    p profile annId outcome effApplied

/-- An accepted announcement becomes a device entry keyed to its frame (R52). -/
def State.annEntry (s : State) (p profile annId eff : Nat) : State :=
  let c := s.cal.nextCreation
  let s1 := (s.addDevice (.port p eff) (.alfResize p profile annId)).2.updAlf p fun x =>
    { x with anns := x.anns ++ [⟨profile, annId, eff, c⟩] }
  s1.put (ALF_STATUS.key p) ALF_STATUS.PENDING (s1.alf p).anns.length

/-- A pending announcement is replaced, with OUTCOME 6. -/
def State.annReplace (s : State) (p : Nat) (a : Ann) : State :=
  (((s.removeEntry a.creation).updAlf p fun x =>
    { x with anns := x.anns.filter fun b => decide (b.creation ≠ a.creation) }).showAnn p a.profile a.annId 6 a.eff)

/-- An ANNOUNCE carried by frame `framePfn` (Table 06-7, first match). -/
def State.announce (s : State) (p profile annId eff framePfn : Nat) : State :=
  let x := s.alf p
  let lead := (eff + 2 ^ 32 - framePfn) % 2 ^ 32
  if ¬ s.isAlf p then s
  else match x.answered.find? fun a => decide (a.1 = profile * 16 + annId ∧ a.2.1 = eff) with
    | some a => s.updAlf p fun x =>
        { x with repeats := x.repeats ++ [annReply a.2.2.1 profile annId a.2.2.2] }
    | none =>
      if s.alfFrozen p then s.annAnswer p profile annId eff 0x83 4 eff
      else if ¬ s.alfValid p profile then s.annAnswer p profile annId eff 0x83 3 eff
      else if lead < 8 ∨ 4095 < lead then s.annAnswer p profile annId eff 0x83 2 eff
      else if 4 ≤ x.anns.length ∨ ¬ s.deviceRoom then s.annAnswer p profile annId eff 0x83 5 eff
      else match x.anns.find? fun a => decide (a.eff = eff) with
        | some a => ((s.annReplace p a).annEntry p profile annId eff).annAnswer p profile annId eff 0x81 0 eff
        | none =>
          if (s.alfPendingFrames p).contains ((eff + 2 ^ 32 - 1) % 2 ^ 32) ∨ s.alfSecond p eff = true then
            let later := (eff + 1) % 2 ^ 32
            let s1 := match x.anns.find? fun a => decide (a.eff = later) with
              | some a => s.annReplace p a
              | none => s
            (s1.annEntry p profile annId later).annAnswer p profile annId eff 0x82 1 later
          else (s.annEntry p profile annId eff).annAnswer p profile annId eff 0x81 0 eff

/-- QUALITY (R162). -/
def State.alfQuality (s : State) (p content : Nat) : State :=
  if ¬ s.isAlf p then s
  else
    let k := ALF_QUALITY.key p
    ((s.put k ALF_QUALITY.SNR (bitsOf content 32 8)).put k ALF_QUALITY.MOD (bitsOf content 24 8)).put k
      ALF_QUALITY.RSL (bitsOf content 16 8)

/-- The 128-bit identity of four parts, part 0 first. -/
def identOf (t : Tbl Nat) : Nat :=
  t.getD 0 0 * 2 ^ 96 + t.getD 1 0 * 2 ^ 64 + t.getD 2 0 * 2 ^ 32 + t.getD 3 0

/-- An IDENT word; a full set that agrees with the set before it is the partner identity (R387). -/
def State.alfIdent (s : State) (p part word : Nat) : State :=
  if ¬ s.isAlf p then s
  else
    let parts := ((s.alf p).identParts).put part word
    if parts.length < 4 then s.updAlf p fun x => { x with identParts := parts }
    else
      let id := identOf parts
      let agrees := decide ((s.alf p).identLast = some id)
      let changed := agrees && decide ((s.alf p).partner ≠ some id)
      let s1 := s.updAlf p fun x =>
        { x with
          identParts := []
          identLast := some id
          partner := if agrees then some id else x.partner }
      if changed then s1.event p ePARTNER_CHANGE true 0 else s1

/-! ### Markers and frames -/

/-- LOS or LOAF stands: AFE and RDI-A freeze (R174). -/
def State.alfHeld (s : State) (p : Nat) : Bool :=
  (s.lanesOf p).any (fun l => s.decided (s.condLane l dLOS)) || s.decided (condPort p dLOAF)

/-- A valid marker: LOAF clears at the 8th in a row, with the marker's profile (R174). -/
def State.alfGoodMarker (s : State) (p profile : Nat) : State :=
  let old := s.alfUse p
  let s1 := s.updAlf p fun x =>
    { x with
      candidate := none
      missed := 0
      goodMarkers := min 8 (x.goodMarkers + 1)
      modemProfile := profile }
  if s1.decided (condPort p dLOAF) ∧ 8 ≤ (s1.alf p).goodMarkers then
    ((s1.rule (condPort p dLOAF) false).put (ALF_STATUS.key p) ALF_STATUS.PROFILE profile).alfShift p old (s1.pfn p)
  else if s1.alfFrozen p then s1.alfShift p old (s1.pfn p)
  else s1

/-- The parts of a received multiframe that other rules use: OHC words by MFI. -/
def State.alfOhc (s : State) (p mfi ohc : Nat) : State :=
  let s1 := s.updAlf p fun x => { x with farWords := x.farWords.store mfi ohc 0 }
  if mfi = 0 then s1.put (ALF_DIGEST_RX.key p) ALF_DIGEST_RX.D_USE ohc
  else if mfi = 1 then s1.put (ALF_DIGEST_RX.key p) ALF_DIGEST_RX.D_CAND ohc
  else s1

/-- MAP_MISMATCH is declared and both directions freeze (R169). -/
def State.alfFreeze (s : State) (p cause : Nat) : State :=
  if s.alfFrozen p then s
  else
    let a := (s.alf p).agreed.getD (s.alfCand p)
    let k := ALF_STATUS.key p
    let old := s.alfUse p
    let s1 := s.updAlf p fun x => { x with agreed := some a }
    let s2 := ((s1.put k ALF_STATUS.FROZEN 1).put k ALF_STATUS.CAUSE cause).histBit k ALF_STATUS.HIST 3
    (s2.rule (condPort p dMAP_MISMATCH) true).alfShift p old (s.pfn p)

/-- The digest check of an accepted MFI 0 frame (R168). -/
def State.alfDigestCheck (s : State) (p seq ohc : Nat) : State :=
  let m := s.alfMapFor p seq
  if m.digest = ohc then s.updAlf p fun x => { x with agreed := if s.alfFrozen p then x.agreed else some m }
  else s.alfFreeze p 0

/-- VER_PROF in frame N + 1 of a resize (R163). -/
def State.alfVerProf (s : State) (p seq profile : Nat) : State :=
  match (s.alf p).resizeAt with
  | some n => if seq = (n + 1) % 2 ^ 32 ∧ profile ≠ s.alfProfile p
      then s.put (ALF_STATUS.key p) ALF_STATUS.PROF_DIFF_HIST 1 else s
  | none => s

/-- An accepted frame (R168, R169, R171, Table 06-9). -/
def State.alfAccept (s : State) (p : Nat) (f : AlfRx) : State :=
  let seq := f.seq.toNat
  let mfi := seq % 64
  let held := s.alfHeld p
  let s1 := (s.updAlf p fun x =>
    { x with
      lastSeq := seq
      started := true
      accRun := if held then x.accRun else min 8 (x.accRun + 1)
      rdi := if held then x.rdi else runOn x.rdi (f.flags.toNat.testBit 15) }).countPort p 3 1
  let s2 := s1.put (ALF_STATUS.key p) ALF_STATUS.ERR_RUN 0
  let x := s2.alf p
  let s3 := if held then s2
    else
      let t := s2.integrate (condPort p dRDI_A) x.rdi 5 5
      if 8 ≤ x.accRun then t.rule (condPort p dAFE) false else t
  let s4 := (s3.alfOhc p mfi f.ohc.toNat).alfVerProf p seq f.profile
  let s5 := if mfi = 0 then s4.alfDigestCheck p seq f.ohc.toNat else s4
  if f.flags.toNat.testBit 14 then s5.alfFreeze p 1 else s5

/-- An errored frame (R171, R172). -/
def State.alfErrored (s : State) (p : Nat) : State :=
  let k := ALF_STATUS.key p
  let n := min 17 (s.get k ALF_STATUS.ERR_RUN + 1)
  let held := s.alfHeld p
  let s1 := ((s.countPort p 0 1).errBlocks (layKey p 5 0 0 0 0) false 1).updAlf p fun x =>
    { x with
      lastSeq := (x.lastSeq + 1) % 2 ^ 32
      accRun := if held then x.accRun else 0 }
  let s2 := if held then s1 else s1.put k ALF_STATUS.ERR_RUN n
  if 17 ≤ n ∧ ¬ held then s2.rule (condPort p dAFE) true else s2

/-- An interval without a valid marker: LOAF after 24 (Table 06-9). The interval's frame, or that none came, is
what the interval's frame row brings. Notes: assumption 17. -/
def State.alfMissed (s : State) (p : Nat) : State :=
  let s1 := s.updAlf p fun x => { x with missed := min 24 (x.missed + 1), goodMarkers := 0 }
  if 24 ≤ (s1.alf p).missed then s1.rule (condPort p dLOAF) true else s1

/-- How a frame is taken against the expected sequence (R171). -/
inductive AlfTake where
  | accept
  | slip (lost : Nat)
  | duplicate
  | errored
  deriving DecidableEq, Repr

def alfTake (expected : Nat) (f : AlfRx) : AlfTake :=
  let ahead := (f.seq.toNat + 2 ^ 32 - expected) % 2 ^ 32
  let behind := (expected + 2 ^ 32 - f.seq.toNat) % 2 ^ 32
  if f.present ∧ f.okExpected then .accept
  else if f.present ∧ f.hecOk ∧ f.okSeq ∧ 1 ≤ ahead ∧ ahead ≤ 16 then .slip ahead
  else if f.present ∧ f.hecOk ∧ f.okSeq ∧ 1 ≤ behind ∧ behind ≤ 16 then .duplicate
  else .errored

/-- A frame interval's frame (R171, R172). The first frame that passes its check with its own SEQ starts the
sequence. Notes: assumption 16. -/
def State.alfFrame (s : State) (p : Nat) (f : AlfRx) : State :=
  if ¬ s.isAlf p then s
  else
    let s1 := (s.countPort p 2 f.invalidBlocks).cvuFail p (f.present && !f.okExpected)
    let x := s1.alf p
    if ¬ x.started then
      if f.present ∧ f.hecOk ∧ f.okSeq then s1.alfAccept p f else s1.alfErrored p
    else match alfTake ((x.lastSeq + 1) % 2 ^ 32) f with
      | .accept => s1.alfAccept p { f with seq := BitVec.ofNat 32 (x.lastSeq + 1) }
      | .slip n =>
        (((s1.countPort p 1 n).updAlf p fun x => { x with framesLost := x.framesLost + n }).event p ePFN_SLIP
          true 0).alfAccept p f
      | .duplicate => s1
      | .errored => s1.alfErrored p

/-! ### Commands -/

def State.alfPortOk (s : State) (p : Nat) : Bool := s.portOk p && s.isAlf p

/-- ALF_PORT_CFG (Table 14-15, R154). -/
def State.alfCfgFault (s : State) (bs : List Byte) : Option Nat :=
  let most := alfMost (s.isQuad (fieldAt bs 0 1)) (fieldOf ALF_CFG.LANE_RATE (fieldAt bs 4 4))
  layoutFault bs 76 ([such 0 1 s.alfPortOk, rsv 1 3,
    such 4 4 (fun v => regBitsOk (ALF_CFG.key 0) v && decide (most ≠ 0)),
    such 8 4 (regBitsOk (ALF_PKT_MIN.key 0))] ++
    (List.range 16).map fun n => such (12 + 4 * n) 4 fun v =>
      regBitsOk (ALF_PROF.key 0 n) v && decide (fieldOf ALF_PROF.BLOCKS v ≤ most))

def State.alfCfgAdmit (s : State) (p : Packet) : Verdict :=
  .accept (s.stageWords p.payload 4 (alfPortRegs (fieldAt p.payload 0 1)))

/-- Entry `i` of a tributary list command with entries from offset `base`. -/
def tribAt (bs : List Byte) (base i : Nat) : AlfTrib :=
  let o := base + 8 * i
  ⟨fieldAt bs o 2, fieldAt bs (o + 2) 1, fieldAt bs (o + 3) 1, fieldAt bs (o + 4) 1, fieldAt bs (o + 6) 2⟩

/-- The layout checks of one entry (Table 06-19, R176): `listed` tells whether the TRIB_ID stands in the list
or earlier in the command. -/
def tribFields (base i : Nat) (idOk : Nat → Bool) (bs : List Byte) : List LField :=
  let o := base + 8 * i
  let tu := fieldAt bs (o + 2) 1 ≠ 3
  [such o 2 (fun v => decide (1 ≤ v ∧ v ≤ 4095) && idOk v), within (o + 2) 1 1 3, below (o + 3) 1 8, rsv (o + 5) 1,
   such (o + 6) 2 (fun c => if tu then decide (c = 1) else decide (1 ≤ c ∧ c ≤ 2022))]

/-- The faults of a list command on a list: unknown or repeated TRIB_IDs, too long a list (R176). -/
def tribListFault (bs : List Byte) (lead : List LField) (list : List AlfTrib) : Option Nat :=
  let op := fieldAt bs 1 1
  let n := fieldAt bs 2 2
  let ids := list.map AlfTrib.id
  let before := fun i => (List.range i).map fun j => (tribAt bs 4 j).id
  let idOk := fun i v =>
    !(before i).contains v && (if op = 1 then !ids.contains v else if op = 0 then true else ids.contains v)
  layoutFault bs (4 + 8 * n) (lead ++ [below 1 1 4,
    such 2 2 (fun n => decide (n ≤ 508) && (decide (op ≠ 1) || decide (ids.length + n ≤ 2048)))] ++
    (List.range (min n 508)).flatMap fun i => tribFields 4 i (idOk i) bs)

def State.alfTribFault (s : State) (bs : List Byte) : Option Nat :=
  tribListFault bs [such 0 1 s.alfPortOk] (s.alf (fieldAt bs 0 1)).staged

/-- The list after a command (Table 06-19). -/
def applyTribs (bs : List Byte) (list : List AlfTrib) : List AlfTrib :=
  let op := fieldAt bs 1 1
  let es := (List.range (fieldAt bs 2 2)).map fun i => tribAt bs 4 i
  if op = 0 then es
  else if op = 1 then list ++ es
  else if op = 2 then list.filter fun t => !es.any fun e => decide (e.id = t.id)
  else list.map fun t => match es.find? fun e => decide (e.id = t.id) with
    | some e => { t with cls := e.cls, rank := e.rank }
    | none => t

/-- An entry of the port's list carries a grate connection. -/
def State.alfConnected (s : State) (p id : Nat) : Bool :=
  s.carries (epWord (epSlot p id)) || s.carries (epWord (epTrib p 0xFF id))

/-- Entries of `old` that `new` drops or changes. -/
def changedTribs (old new : List AlfTrib) : List AlfTrib := old.filter fun t => !new.contains t

/-- The largest valid profile of the staged table. -/
def State.alfLargest (s : State) (p : Nat) : Nat :=
  ((List.range 16).map fun k =>
    let w := (s.rdStaged (ALF_PROF.key p k)).toNat
    if fieldOf ALF_PROF.VALID w = 1 then fieldOf ALF_PROF.BLOCKS w else 0).foldl max 0

/-- ALF blocks short for a list (R176). -/
def State.alfBlocksShort (s : State) (p : Nat) (list : List AlfTrib) : List Short :=
  let need := (list.map AlfTrib.blocks).sum
  let free := s.alfLargest p - fieldOf ALF_PKT_MIN.PKT_MIN (s.rdStaged (ALF_PKT_MIN.key p)).toNat
  if need ≤ free then [] else [⟨rALF_BLOCKS, p, need, free⟩]

def State.alfTribAdmit (s : State) (p : Packet) : Verdict :=
  let n := fieldAt p.payload 0 1
  let old := (s.alf n).staged
  let new := applyTribs p.payload old
  if (changedTribs old new).any (fun t => s.alfConnected n t.id) = true then .refuse stBUSY 0 []
  else if s.alfBlocksShort n new ≠ [] then .noRes (s.alfBlocksShort n new)
  else .accept (s.updAlf n fun x => { x with staged := new })

def State.alfReadFault (s : State) (bs : List Byte) : Option Nat := layoutFault bs 4 [such 0 1 s.alfPortOk, rsv 1 3]

/-- ALF_STATUS with its live bits (Table 06-13). -/
def State.alfStatusWord (s : State) (p : Nat) : Word :=
  let k := ALF_STATUS.key p
  let w := s.rd k
  (ALF_STATUS.LOAF.set (ALF_STATUS.AFE.set (ALF_STATUS.MAP_MISMATCH.set (ALF_STATUS.RDI_A.set w
    (bit (s.has (condPort p dRDI_A)))) (bit (s.has (condPort p dMAP_MISMATCH))))
    (bit (s.has (condPort p dAFE)))) (bit (s.has (condPort p dLOAF))))

def State.alfDigestWord (s : State) (p : Nat) : Word :=
  BitVec.ofNat 32 ((s.alfUse p).digest + (s.alfCand p).digest * 2 ^ 16)

/-- The registers of Tables 06-12 to 06-16, the pending announcements (count, then PROFILE, ANN_ID, 2 reserved
bytes and EFF_PFN of each), FRAMES_LOST (4 bytes). Notes: assumption 10. -/
def State.alfStatusBytes (s : State) (p : Nat) : List Byte :=
  ([s.rd (ALF_CFG.key p), s.alfStatusWord p, s.alfDigestWord p, s.rd (ALF_DIGEST_RX.key p), s.rd (ALF_ANN.key p),
    s.rd (ALF_ANN_PFN.key p), s.rd (ALF_PKT_MIN.key p), s.rd (ALF_QUALITY.key p)].flatMap fun w =>
      beBytes 4 w.toNat) ++
  beBytes 2 (s.alf p).anns.length ++ [0, 0] ++
  ((s.alf p).anns.flatMap fun a => beBytes 1 a.profile ++ beBytes 1 a.annId ++ [0, 0] ++ beBytes 4 a.eff) ++
  beBytes 4 (s.alf p).framesLost

def State.alfStatusRead (s : State) (p : Packet) : Verdict :=
  .answer stOK (s.alfStatusBytes (fieldAt p.payload 0 1)) s

def State.alfMapFault (s : State) (bs : List Byte) : Option Nat :=
  layoutFault bs 4 [such 0 1 s.alfPortOk, such 1 1 (fun v => decide (v < 16 ∨ v = 0xFF)), rsv 2 2]

/-- The result of ALF_MAP_READ (R492). -/
def mapBytes (frozen : Bool) (m : AlfMap) : List Byte :=
  beBytes 1 m.profile ++ beBytes 1 (bit frozen) ++ beBytes 2 m.digest ++ beBytes 4 m.n ++ beBytes 4 m.pktStart ++
  beBytes 4 m.pktBlocks ++ beBytes 2 m.entries.length ++ [0, 0] ++
  m.entries.flatMap fun e => beBytes 2 e.id ++ beBytes 1 (bit e.carried) ++ [0] ++ beBytes 4 e.start

def State.alfMapRead (s : State) (p : Packet) : Verdict :=
  let n := fieldAt p.payload 0 1
  let k := fieldAt p.payload 1 1
  .answer stOK (if k = 0xFF then mapBytes (s.alfFrozen n) (s.alfUse n) else mapBytes false (s.alfMapOf n k)) s

/-- ALF_MAP_RESYNC at its frame (R170). -/
def State.alfResync (s : State) (p : Nat) : State :=
  if ¬ s.alfFrozen p then s
  else
    let old := s.alfUse p
    let k := ALF_STATUS.key p
    let s1 := ((s.put k ALF_STATUS.FROZEN 0).put k ALF_STATUS.CAUSE 0).rule (condPort p dMAP_MISMATCH) false
    (s1.updAlf p fun x => { x with agreed := some (s1.alfCand p) }).alfShift p old (s.pfn p)

def State.alfResyncRun (s : State) (p : Packet) : Done := okDone (s.alfResync (fieldAt p.payload 0 1))

end Sys2Proof.Machine
end

