-- ==== Sys2Proof/Machine/Bond.lean ====
section
/-! DEFINITION. Bonding groups and hitless radio protection (07_bonding_and_radio_protection): group
membership (R177, R178), bundle frames and their maps (R179 to R184), members that go down and return
(R186, R187), HRP selection (R189 to R193), and the commands 0x20 to 0x25. -/

namespace Sys2Proof.Machine

/-! ### Membership -/

def groupsBonding : Nat := 12
def groupsHrp : Nat := 24

/-- Members of a group in force: indices with a port. -/
def memberPorts (ports : List Nat) : List (Nat × Nat) :=
  ((List.range 8).zip ports).filter fun e => decide (e.2 ≠ 0xFF)

def State.bondMembers (s : State) (g : Nat) : List (Nat × Nat) := memberPorts (s.bond g).ports

def State.bondOn (s : State) (g : Nat) : Bool := decide (s.get (BND_CFG.key g) BND_CFG.MAX_DIFF ≠ 0)

def State.hrpMain (s : State) (g : Nat) : Nat := s.get (HRP_CFG.key g) HRP_CFG.MAIN
def State.hrpOther (s : State) (g : Nat) : Nat := s.get (HRP_CFG.key g) HRP_CFG.OTHER
def State.hrpOn (s : State) (g : Nat) : Bool := decide (s.hrpMain g ≠ 0x7F)

/-- The bonding group and member index of a port in force. -/
def State.bondOf (s : State) (p : Nat) : Option (Nat × Nat) :=
  (List.range groupsBonding).findSome? fun g =>
    if s.bondOn g then (s.bondMembers g).findSome? fun e => if e.2 = p then some (g, e.1) else none else none

/-- The HRP group of a port in force, and whether it is the other port. -/
def State.hrpOf (s : State) (p : Nat) : Option (Nat × Bool) :=
  (List.range groupsHrp).findSome? fun g =>
    if ¬ s.hrpOn g then none
    else if s.hrpMain g = p then some (g, false) else if s.hrpOther g = p then some (g, true) else none

/-- A port stands in a group, in force or staged, other than the one named (kind 0 bonding, 1 HRP). -/
def State.inOtherGroup (s : State) (kind g p : Nat) : Bool :=
  (List.range groupsBonding).any (fun h => !(kind == 0 && h == g) &&
    (((s.bondOn h) && (s.bond h).ports.contains p) ||
     (decide (fieldOf BND_CFG.MAX_DIFF (s.rdStaged (BND_CFG.key h)).toNat ≠ 0) && (s.bond h).portsStaged.contains p))) ||
  (List.range groupsHrp).any fun h => !(kind == 1 && h == g) &&
    [s.rd (HRP_CFG.key h), s.rdStaged (HRP_CFG.key h)].any fun w =>
      decide (HRP_CFG.MAIN.get w ≠ 0x7F ∧ (HRP_CFG.MAIN.get w = p ∨ HRP_CFG.OTHER.get w = p))

/-- A port may join only with an empty list and no grate connection (R177). -/
def State.joinBusy (s : State) (p : Nat) : Bool :=
  !(s.alf p).list.isEmpty || !(s.alf p).staged.isEmpty || s.portConnected p

/-! ### Group fields of the frame overhead (R178) -/

/-- KIND, MEMBER and group number that a port's configuration expects. -/
def State.groupExpect (s : State) (p : Nat) : Option (Nat × Nat × Nat) :=
  match s.bondOf p, s.hrpOf p with
  | some (g, m), _ => some (1, m, g)
  | none, some (g, other) => some (2, bit other, g)
  | none, none => none

/-- An accepted frame of a group port: GROUP_MISMATCH after 8 that differ. It clears after 8 that agree.
Notes: assumption 18. -/
def State.groupCheck (s : State) (p flags : Nat) : State :=
  match s.groupExpect p with
  | none => s
  | some (kind, member, group) =>
    let seen := ((s.alf p).farWords.getD 13 0) / 256
    let bad := decide (bitsOf flags 9 2 ≠ kind ∨ bitsOf flags 11 3 ≠ member ∨ seen ≠ group)
    let s1 := s.updAlf p fun x => { x with group := runOn x.group bad }
    s1.integrate (condPort p dGROUP_MISMATCH) (s1.alf p).group 8 8

/-! ### The bundle map (R181) -/

/-- Profile of member `m` in a PROFILES word (Table 07-2). -/
def profileOf (profiles m : Nat) : Nat := bitsOf profiles (28 - 4 * m) 4

/-- Capacity of a bundle frame. -/
def State.bundleN (s : State) (g act profiles : Nat) : Nat :=
  ((s.bondMembers g).map fun e =>
    if act.testBit e.1 then s.alfBlocks e.2 (profileOf profiles e.1) - 1 else 0).sum

/-- Blocks that each member of `act` carries beside its control block. -/
def State.bundleCaps (s : State) (g act profiles : Nat) : List Nat :=
  (List.range 8).map fun m => match (s.bondMembers g).find? fun e => decide (e.1 = m) with
    | some e => if act.testBit m then s.alfBlocks e.2 (profileOf profiles m) - 1 else 0
    | none => 0

/-- The place of the greatest credit among the members that carry blocks; ties go to the lower member. -/
def greatestCredit : Nat → Option (Nat × Int) → List (Nat × Int) → Nat
  | _, best, [] => (best.map Prod.fst).getD 0
  | m, best, (cap, c) :: t =>
    let next := match best with
      | some (_, b) => if cap ≠ 0 ∧ b < c then some (m, c) else best
      | none => if cap ≠ 0 then some (m, c) else none
    greatestCredit (m + 1) next t

/-- The smooth weighted round robin of R182: the member of each block in turn. -/
def dealLoop (caps : List Nat) (total : Nat) : Nat → List Int → List Nat
  | 0, _ => []
  | n + 1, credit =>
    let c := List.zipWith (fun (x : Int) (k : Nat) => x + k) credit caps
    let w := greatestCredit 0 none (caps.zip c)
    w :: dealLoop caps total n (c.modify w fun x => x - total)

/-- The member that carries each bundle block (R182). -/
def bndDeal (caps : List Nat) : List Nat := dealLoop caps caps.sum caps.sum (caps.map fun _ => 0)

/-- The block of its member that carries bundle block `j`: block 0 is the control block. -/
def memberBlock (deal : List Nat) (j : Nat) : Nat := 1 + ((deal.take j).filter fun m => m = deal.getD j 0).length

/-- The receive map of the last bundle frame. -/
def State.bundleMap (s : State) (g : Nat) : AlfMap :=
  let x := s.bond g
  let cand := alfPack x.actRx (s.bundleN g x.actRx x.profilesRx) x.pktMin x.list
  if s.on (BND_STATUS.key g) BND_STATUS.FROZEN then x.agreed.getD cand else cand

/-- The port whose source names the bundle's shed and restored tributaries, and whose number its
connections carry: the lowest member's. Notes: assumption 19. -/
def State.bundlePort (s : State) (g : Nat) : Nat := ((s.bondMembers g).map Prod.snd).headD 0

/-- Shed and restored tributaries of a bundle (R181). -/
def State.bundleShift (s : State) (g : Nat) (old : AlfMap) : State :=
  let new := s.bundleMap g
  let p := s.bundlePort g
  let shed := new.shedIds.filter fun i => !old.shedIds.contains i
  let back := new.carriedIds.filter fun i => old.shedIds.contains i
  let s1 := s.updAlf p fun x => { x with restoring := back, restoreUntil := (s.pfn p + 2) % 2 ^ 32 }
  (s1.idEvents p eALF_SHED 64 shed).idEvents p eALF_RESTORED 64 back

/-- The bundle's digest received in OHC 14 of a member's accepted frame (R168, R181). -/
def State.bundleDigest (s : State) (g ohc : Nat) : State :=
  let m := s.bundleMap g
  let k := BND_STATUS.key g
  if m.digest = ohc then s.updBond g fun x =>
    { x with agreed := if s.on k BND_STATUS.FROZEN then x.agreed else some m }
  else if s.on k BND_STATUS.FROZEN then s
  else ((s.updBond g fun x => { x with agreed := some (x.agreed.getD m) }).put k BND_STATUS.FROZEN 1).rule
    (condBond g dMAP_MISMATCH) true

/-- The resync of a bundle at the frame of its member 0 port (R181). -/
def State.bundleResync (s : State) (g : Nat) : State :=
  let k := BND_STATUS.key g
  if ¬ s.on k BND_STATUS.FROZEN then s
  else ((s.put k BND_STATUS.FROZEN 0).updBond g fun x => { x with agreed := none }).rule
    (condBond g dMAP_MISMATCH) false

/-! ### Playout (R183, R184) -/

def condDelay (g m : Nat) : Cond := ⟨srcBond g, m, dDELAY_EXCEEDED⟩

/-- Shares late or in time: DELAY_EXCEEDED after 8, cleared after 8,000 (R184). -/
def State.shareTimes (s : State) (g : Nat) (shares : List BcbRx) : State :=
  s.each shares fun s b =>
    let m := b.member.val
    let s1 := s.updBond g fun x =>
      { x with late := x.late.store m (runOn (x.late.getD m {}) !b.onTime) {} }
    s1.integrate (condDelay g m) ((s1.bond g).late.getD m {}) 8 8000

/-- The greatest lag of the shares, and its member (Table 07-7). -/
def greatestLag : List BcbRx → Nat × Nat
  | [] => (0, 0)
  | b :: t => let r := greatestLag t
    if r.1 ≤ b.lagUs ∧ (r.1 < b.lagUs ∨ b.member.val ≤ r.2) then (b.lagUs, b.member.val) else r

/-- The reference member: the lowest not declared down (R184). -/
def State.reference (s : State) (g : Nat) : Nat :=
  (((s.bondMembers g).map Prod.fst).find? fun m => !(s.bond g).down.testBit m).getD 0

def State.showLag (s : State) (g : Nat) (shares : List BcbRx) : State :=
  let l := greatestLag shares
  let k := BND_LAG.key g
  ((s.put k BND_LAG.LAG (min 8191 l.1)).put k BND_LAG.MEMBER l.2).put k BND_LAG.REF (s.reference g)

/-- The control block of the lowest-index member frame that passes (R183). -/
def chosenBcb (shares : List BcbRx) : Option BcbRx :=
  (List.range 8).findSome? fun m =>
    shares.find? fun b => decide (b.member.val = m) && b.frameOk && b.checkOk && b.onTime

/-- A received RX_OK is accepted when 2 consecutive BCBs agree (R186). -/
def State.farRxOk (s : State) (g rxOk : Nat) : State :=
  let s1 := if (s.bond g).farLast = rxOk then s.put (BND_STATUS.key g) BND_STATUS.FAR_RX_OK rxOk else s
  s1.updBond g fun x => { x with farLast := rxOk }

/-- The receive list follows LIST_GEN (R188). -/
def State.bundleListGen (s : State) (g gen : Nat) : State :=
  s.updBond g fun x =>
    if gen = (x.genRx + 1) % 256 then { x with list := x.stagedList, genRx := gen } else x

/-- A share of an active member is absent, late or fails its check. -/
def shareErrored (act : Nat) (shares : List BcbRx) : Bool :=
  (List.range 8).any fun m => act.testBit m &&
    !(shares.any fun b => decide (b.member.val = m) && b.frameOk && b.onTime)

def State.bundleErr (s : State) (g : Nat) : State :=
  (s.countBond g 0 1).errBlocks (layKey g 7 0 0 0 0) false 1

/-- A bundle frame is played out (R183). -/
def State.bundlePlayout (s : State) (g : Nat) (shares : List BcbRx) : State :=
  if ¬ s.bondOn g then s
  else
    let mine := shares.filter fun b => (s.bondMembers g).any fun e => decide (e.1 = b.member.val)
    let s1 := (s.shareTimes g mine).showLag g mine
    match chosenBcb mine with
    | none => s1.bundleErr g
    | some b =>
      let old := s1.bundleMap g
      let s2 := (s1.bundleListGen g b.listGen.toNat).updBond g fun x =>
        { x with actRx := b.act.toNat, profilesRx := b.profiles.toNat }
      let same := decide (s1.bundleCaps g (s1.bond g).actRx (s1.bond g).profilesRx =
        s1.bundleCaps g b.act.toNat b.profiles.toNat)
      let s2 := if same then s2 else s2.updBond g fun x =>
        { x with dealRx := bndDeal (s1.bundleCaps g b.act.toNat b.profiles.toNat) }
      let s3 := (s2.put (BND_STATUS.key g) BND_STATUS.ACT_RX b.act.toNat).put (BND_CAP.key g) BND_CAP.BLOCKS
        (s2.bundleN g b.act.toNat b.profiles.toNat)
      let s4 := (s3.farRxOk g b.rxOk.toNat).bundleShift g old
      let s5 := if b.act ≠ 0 then s4.rule (condBond g dBUNDLE_DOWN) false else s4
      if shareErrored b.act.toNat mine then s5.bundleErr g else s5

/-! ### Transmit side of the tick (R180, R186, R187) -/

/-- Members that may carry a share: not down here, and accepted at the far end (R186). -/
def State.actMay (s : State) (g : Nat) : Nat :=
  ((s.bondMembers g).map fun e =>
    bit ((s.bond g).actTx.testBit e.1 && !(s.bond g).down.testBit e.1 &&
      (s.get (BND_STATUS.key g) BND_STATUS.FAR_RX_OK).testBit e.1) * 2 ^ e.1).sum

/-- RX_OK: members received here and not down (R186). -/
def State.rxOkMask (s : State) (g : Nat) : Nat :=
  ((s.bondMembers g).map fun e => bit (!(s.bond g).down.testBit e.1) * 2 ^ e.1).sum

/-- The candidate map of the bundle frame being sent, and the map it uses (R181, R169). -/
def State.bundleTxCand (s : State) (g : Nat) : AlfMap :=
  let x := s.bond g
  let act := s.get (BND_STATUS.key g) BND_STATUS.ACT_TX
  alfPack act (s.bundleN g act x.profilesTx) x.pktMin x.txList

def State.bundleTxMap (s : State) (g : Nat) : AlfMap :=
  if s.on (BND_STATUS.key g) BND_STATUS.FROZEN then (s.bond g).agreed.getD (s.bundleTxCand g) else s.bundleTxCand g

/-- A member started no frame, or two, in the interval: it is inactive for this bundle frame and has slipped
(R180). The interval before the tick stands for the one after it. Notes: assumption 20. -/
def State.slip (s : State) (g m : Nat) : State :=
  ((s.put (BND_STATUS.key g) BND_STATUS.SLIP_HIST 1).countBond g 1 1).event (srcBond g) 0x80 true m

/-- The bundle frame of this tick is dealt: BSN is SFN[15:0], ACT without slipped and small members. -/
def State.bundleDeal (s : State) (g : Nat) : State :=
  if ¬ s.bondOn g then s
  else
    let allowed := s.actMay g
    let one := fun m => decide ((s.bond g).starts.getD m 0 = 1)
    let s1 := s.each (s.bondMembers g) fun s e => if one e.1 then s else s.slip g e.1
    let act := ((s.bondMembers g).map fun e =>
      bit (allowed.testBit e.1 && one e.1 && decide (2 ≤ s.alfBlocks e.2 (s.alfProfile e.2))) * 2 ^ e.1).sum
    let profiles := ((s.bondMembers g).map fun e =>
      (if act.testBit e.1 then s.alfProfile e.2 else 0) * 2 ^ (28 - 4 * e.1)).sum
    let caps := s.bundleCaps g act profiles
    let same := decide (s.bundleCaps g (s.get (BND_STATUS.key g) BND_STATUS.ACT_TX) (s.bond g).profilesTx = caps)
    let bcb : List Byte := beBytes 1 act ++ beBytes 4 profiles ++ beBytes 1 (s.rxOkMask g) ++ beBytes 1 (s.bond g).genTx
    (s1.updBond g fun x =>
      { x with
        actTx := allowed
        starts := []
        lastBsn := s.time.sfn % 65536
        profilesTx := profiles
        bcbTx := bcb ++ beBytes 2 (crc16.of bcb)
        dealTx := if same then x.dealTx else bndDeal caps }).put
      (BND_STATUS.key g) BND_STATUS.ACT_TX act

/-- A member's frame boundary (R180). -/
def State.countStart (s : State) (p : Nat) : State :=
  match s.bondOf p with
  | some (g, m) => s.updBond g fun x => { x with starts := x.starts.store m (x.starts.getD m 0 + 1) 0 }
  | none => s

/-- A member's receive is down (R186). -/
def State.memberDown (s : State) (g m p : Nat) : Bool :=
  (s.lanesOf p).any (fun l => s.has (s.condLane l dLOS)) ||
  [dLOAF, dAFE, dMAP_MISMATCH, dGROUP_MISMATCH].any (fun d => s.has (condPort p d)) || s.has (condDelay g m)

/-- The down states of step 1: MEMBER_DOWN and MEMBER_UP, BUNDLE_DOWN while every member is down, and a hold
that a member's going down restarts (R186, R187). -/
def State.bondStates (s : State) (g : Nat) : State :=
  if ¬ s.bondOn g then s
  else
    let ms := s.bondMembers g
    let s1 := s.each ms fun s e =>
      let was := (s.bond g).down.testBit e.1
      let now := s.memberDown g e.1 e.2
      if was = now then s
      else
        let t := (s.updBond g fun x => { x with down := putBits x.down e.1 1 (bit now) }).event (srcBond g)
          (if now then 0x81 else 0x82) true e.1
        if now then t.stopTimer (.rejoin g e.1) else t
    if ms.all fun e => (s1.bond g).down.testBit e.1 then
      if s1.has (condBond g dBUNDLE_DOWN) then s1
      else (s1.defectHist (condBond g dBUNDLE_DOWN)).cond (condBond g dBUNDLE_DOWN) true
    else s1

/-- Step 3: the return hold of a member starts (R187). -/
def State.startRejoins (s : State) (g : Nat) : State :=
  if ¬ s.bondOn g then s
  else s.each (s.bondMembers g) fun s e =>
    let m := e.1
    let ready := !(s.bond g).down.testBit m && (s.get (BND_STATUS.key g) BND_STATUS.FAR_RX_OK).testBit m &&
      !(s.bond g).actTx.testBit m
    if ready && !s.hasTimer (.rejoin g m) then
      s.startTimer (.rejoin g m) (ticksPerSecond * s.get (BND_CFG.key g) BND_CFG.REJOIN_WTR)
    else s

/-- The hold expires: ACT is set from the next tick's bundle frame (R187). -/
def State.rejoinExpiry (s : State) (g m : Nat) : State :=
  if ¬ s.timerDue (.rejoin g m) then s
  else (s.stopTimer (.rejoin g m)).updBond g fun x => { x with actTx := putBits x.actTx m 1 1 }

/-! ### Bonding commands -/

/-- Largest valid BLOCKS of a port, in force and staged profile tables. -/
def State.alfLargestActive (s : State) (p : Nat) : Nat :=
  ((List.range 16).map fun k => if s.alfValid p k then s.alfBlocks p k else 0).foldl max 0

def State.alfLargestAny (s : State) (p : Nat) : Nat := max (s.alfLargest p) (s.alfLargestActive p)

/-- Σ (largest valid BLOCKS − 1) over ports. -/
def State.bundleMost (s : State) (ports : List Nat) : Nat :=
  ((ports.filter fun p => decide (p ≠ 0xFF)).map fun p => s.alfLargestAny p - 1).sum

/-- Delay store pages for a number of blocks held for some microseconds (R185, R191): 576 kb/s a block. -/
def delayPages (blocks us : Nat) : Nat := ceilDiv (blocks * us * 576) (1000 * 32768) + 16

/-- A member port of the payload: ALF, not in another group, named once, in the region of the first. -/
def State.bondPortOk (s : State) (bs : List Byte) (i p : Nat) : Bool :=
  let g := fieldAt bs 0 1
  let ports := (List.range i).map fun j => fieldAt bs (8 + j) 1
  let firstPort := ((List.range 8).map fun j => fieldAt bs (8 + j) 1).find? fun q => decide (q ≠ 0xFF)
  decide (p = 0xFF) || (s.alfPortOk p && !ports.contains p && !s.inOtherGroup 0 g p &&
    decide (firstPort.map regionOf = some (regionOf p)))

def State.bndGroupFault (s : State) (bs : List Byte) : Option Nat :=
  layoutFault bs 16 ([below 0 1 groupsBonding, rsv 1 1, within 2 2 0 8000] ++
    (List.range 8).map fun i => such (8 + i) 1 (s.bondPortOk bs i))

def State.bndGroupAdmit (s : State) (p : Packet) : Verdict :=
  let bs := p.payload
  let g := fieldAt bs 0 1
  let diff := fieldAt bs 2 2
  let ports := (List.range 8).map fun i => fieldAt bs (8 + i) 1
  let joining := ports.filter fun q => decide (q ≠ 0xFF) && !(s.bond g).ports.contains q
  let most := s.bundleMost ports
  let pages := if diff = 0 then 0 else delayPages most diff
  let mask := (memberPorts ports).map fun e => 2 ^ e.1
  let w := BND_CFG.MEMBERS.set (BND_CFG.MAX_DIFF.set (BND_CFG.REJOIN_WTR.set 0 (fieldAt bs 4 1)) diff) mask.sum
  let short := s.shortOf rDELAY_PAGES 0 pages (ownBond g)
  if joining.any s.joinBusy = true then .refuse stBUSY 0 []
  else if 172800 < most then .noRes [⟨rALF_BLOCKS, g, most, 172800⟩]
  else if short ≠ [] then .noRes short
  else
    let s1 := (s.wrStaged (BND_CFG.key g) w).updBond g fun x =>
      { x with portsStaged := ports, pktMinStaged := fieldAt bs 5 3 }
    .accept (s1.reserve rDELAY_PAGES 0 pages (ownBond g) (some (p.master, p.seq.toNat)))

/-- The flip of a group (R194): removed members leave ACT; added members enter through the hold. -/
def State.flipBond (s : State) (g : Nat) : State :=
  let x := s.bond g
  let kept := fun m => decide (x.ports.getD m 0xFF = x.portsStaged.getD m 0xFF)
  let act := ((List.range 8).map fun m => bit (x.actTx.testBit m && kept m) * 2 ^ m).sum
  let s1 := (s.flipRegs [BND_CFG.key g]).updBond g fun x =>
    { x with ports := x.portsStaged, pktMin := x.pktMinStaged, actTx := act }
  let s2 := s1.each (List.range 8) fun s m => if kept m then s else s.stopTimer (.rejoin g m)
  if s2.bondOn g then s2
  else s2.each (s2.evt.conds.filter fun c => decide (c.source = srcBond g)) fun s c => s.cond c false

def State.bndGroupRun (s : State) (p : Packet) : Done :=
  let g := fieldAt p.payload 0 1
  let s1 := s.flipBond g
  okDone (if s1.bondOn g then s1.commitUnits rDELAY_PAGES (ownBond g) (some (p.master, p.seq.toNat))
    else s1.releaseUnits rDELAY_PAGES (ownBond g))

def State.bndTribFault (s : State) (bs : List Byte) : Option Nat :=
  tribListFault bs [below 0 1 groupsBonding] (s.bond (fieldAt bs 0 1)).stagedList

def State.bndTribAdmit (s : State) (p : Packet) : Verdict :=
  let g := fieldAt p.payload 0 1
  let old := (s.bond g).stagedList
  let new := applyTribs p.payload old
  let need := (new.map AlfTrib.blocks).sum
  let free := s.bundleMost (s.bond g).ports - (s.bond g).pktMin
  if (changedTribs old new).any (fun t => s.alfConnected (s.bundlePort g) t.id) = true then .refuse stBUSY 0 []
  else if free < need then .noRes [⟨rALF_BLOCKS, g, need, free⟩]
  else .accept (s.updBond g fun x => { x with stagedList := new })

/-- The bundle list flips for the transmit direction (R188). -/
def State.flipBondList (s : State) (g : Nat) : State :=
  s.updBond g fun x => { x with txList := x.stagedList, genTx := (x.genTx + 1) % 256 }

def State.bndTribRun (s : State) (p : Packet) : Done := okDone (s.flipBondList (fieldAt p.payload 0 1))

/-- A status read of a group: GROUP and 3 reserved bytes. Notes: assumption 11. -/
def groupReadFault (n : Nat) (bs : List Byte) : Option Nat := layoutFault bs 4 [below 0 1 n, rsv 1 3]

def State.bndStatusWord (s : State) (g : Nat) : Word :=
  let w := s.rd (BND_STATUS.key g)
  BND_STATUS.MAP_MISMATCH.set (BND_STATUS.BUNDLE_DOWN.set w
    (bit (!s.bondOn g || s.has (condBond g dBUNDLE_DOWN)))) (bit (s.has (condBond g dMAP_MISMATCH)))

/-- Tables 07-5 to 07-7 and the down mask (1 byte, 3 reserved). Notes: assumption 10. -/
def State.bndStatusBytes (s : State) (g : Nat) : List Byte :=
  ([s.rd (BND_CFG.key g), s.bndStatusWord g, s.rd (BND_CAP.key g), s.rd (BND_LAG.key g)].flatMap fun w =>
    beBytes 4 w.toNat) ++ beBytes 1 (s.bond g).down ++ [0, 0, 0]

def State.bndStatusRead (s : State) (p : Packet) : Verdict :=
  .answer stOK (s.bndStatusBytes (fieldAt p.payload 0 1)) s

/-- ALF_PORT_CFG of a bonding member may not raise R_max beyond the group's pages (R185). -/
def State.alfCfgAdmitBonded (s : State) (p : Packet) : Verdict :=
  let n := fieldAt p.payload 0 1
  match s.alfCfgAdmit p, s.bondOf n with
  | .accept s1 r, some (g, _) =>
    let pages := delayPages (s1.bundleMost (s.bond g).ports) (s.get (BND_CFG.key g) BND_CFG.MAX_DIFF)
    let held := ((s.grate.allocs.filter fun a => decide (a.code = rDELAY_PAGES ∧ a.owner = ownBond g) &&
      a.holds s.dev.ticks).map Alloc.units).sum
    if pages ≤ held then .accept s1 r
    else .noRes [⟨rDELAY_PAGES, 0, pages, held + (s.capacity rDELAY_PAGES - s.used rDELAY_PAGES 0)⟩]
  | v, _ => v

/-! ### Hitless radio protection -/

/-- LOS, LOAF or AFE of a port (R193). -/
def State.radioDown (s : State) (p : Nat) : Bool :=
  (s.lanesOf p).any (fun l => s.has (s.condLane l dLOS)) || s.has (condPort p dLOAF) || s.has (condPort p dAFE)

/-- Announcements are taken from the other port while the main port is in LOS or LOAF (R190). -/
def State.annFromOther (s : State) (g : Nat) : Bool :=
  (s.lanesOf (s.hrpMain g)).any (fun l => s.has (s.condLane l dLOS)) || s.has (condPort (s.hrpMain g) dLOAF)

def condHrp (g code : Nat) : Cond := ⟨srcHrp g, g, code⟩

/-- The port conditions of a group in step 1, with their sticky bits (Table 07-9). -/
def State.hrpStates (s : State) (g : Nat) : State :=
  if ¬ s.hrpOn g then s
  else
    let set := fun (s : State) p code i =>
      let now := s.radioDown p
      if s.has (condHrp g code) = now then s
      else (if now then s.histBit (HRP_STATUS.key g) HRP_STATUS.HIST i else s).cond (condHrp g code) now
    set (set s (s.hrpMain g) 0x81 1) (s.hrpOther g) 0x82 2

/-- Whether the other copy is selected, and whether the frame is errored (R192). -/
def hrpSelect (mode : Nat) (main other : Option Bool) : Bool × Bool :=
  let ok := fun (c : Option Bool) => c.getD false
  if mode = 1 then (false, !ok main)
  else if mode = 2 then (true, !ok other)
  else if ok main then (false, false)
  else if ok other then (true, false)
  else (false, true)

/-- The selection at the playout of a frame (R192). -/
def State.hrpPlayout (s : State) (g : Nat) (main other : Option Bool) (lag : Int) : State :=
  if ¬ s.hrpOn g then s
  else
    let k := HRP_STATUS.key g
    let r := hrpSelect (s.get k HRP_STATUS.MODE) main other
    let s1 := if main.isSome ∧ other.isSome then s.put k HRP_STATUS.HRP_LAG (twos 9 lag) else s
    let s2 := (s1.updHrp g fun x => { x with played := x.played + 1 }).countHrp g (if r.1 then 2 else 1) 1
    let s3 := if r.2 then (s2.countHrp g 0 1).errBlocks (layKey g 8 0 0 0 0) false 1 else s2
    if s3.on k HRP_STATUS.SEL_OTHER = r.1 then s3
    else
      let s4 := (s3.put k HRP_STATUS.SEL_OTHER (bit r.1)).event (srcHrp g) 0x80 true g
      if r.1 then s4.histBit k HRP_STATUS.HIST 0 else s4

/-- An ANNOUNCE on a port of an HRP group acts on the main port's map, from the port R190 names, and is
answered on both ports. -/
def State.announceOn (s : State) (p profile annId eff framePfn : Nat) : State :=
  match s.hrpOf p with
  | none => s.announce p profile annId eff framePfn
  | some (g, other) =>
    if other ≠ s.annFromOther g then s
    else
      let m := s.hrpMain g
      let a := s.alf m
      let s1 := s.announce m profile annId eff framePfn
      let b := s1.alf m
      s1.updAlf (s.hrpOther g) fun x =>
        { x with
          firstReplies := x.firstReplies ++ b.firstReplies.drop a.firstReplies.length
          repeats := x.repeats ++ b.repeats.drop a.repeats.length }

/-- Ports of an HRP payload (R177, R189). -/
def State.hrpPortOk (s : State) (g p : Nat) : Bool := s.alfPortOk p && !s.inOtherGroup 1 g p

/-- The two ports share LANE_RATE, LINK_ID, profile table and PKT_MIN (R189). -/
def State.hrpAlike (s : State) (a b : Nat) : Bool :=
  decide (s.get (ALF_CFG.key a) ALF_CFG.LANE_RATE = s.get (ALF_CFG.key b) ALF_CFG.LANE_RATE) &&
  decide (s.get (ALF_CFG.key a) ALF_CFG.LINK_ID = s.get (ALF_CFG.key b) ALF_CFG.LINK_ID) &&
  decide (s.alfPktMin a = s.alfPktMin b) &&
  (List.range 16).all fun n => decide (s.rd (ALF_PROF.key a n) = s.rd (ALF_PROF.key b n))

/-- HRP_GROUP_CFG (R195): GROUP, MAIN (0x7F removes), OTHER, HRP_DELAY, 4 reserved bytes. -/
def State.hrpGroupFault (s : State) (bs : List Byte) : Option Nat :=
  let g := fieldAt bs 0 1
  let main := fieldAt bs 1 1
  layoutFault bs 8 [below 0 1 groupsHrp, such 1 1 (fun p => decide (p = 0x7F) || s.hrpPortOk g p),
    such 2 1 (fun p => if main = 0x7F then decide (p < 128) else s.hrpPortOk g p && decide (p ≠ main) &&
      decide (regionOf p = regionOf main) && s.hrpAlike main p), within 3 1 0 200, rsv 4 4]

def State.hrpGroupAdmit (s : State) (p : Packet) : Verdict :=
  let bs := p.payload
  let g := fieldAt bs 0 1
  let main := fieldAt bs 1 1
  let other := fieldAt bs 2 1
  let off := main = 0x7F
  let pages := if off then 0 else delayPages (s.alfLargestAny main) (fieldAt bs 3 1)
  let joins := fun q cur => decide (q ≠ cur) && s.joinBusy q
  let w := HRP_CFG.MAIN.set (HRP_CFG.OTHER.set (HRP_CFG.HRP_DELAY.set 0 (fieldAt bs 3 1)) other) main
  let short := s.shortOf rDELAY_PAGES 0 pages (ownHrp g)
  if ¬ off ∧ (joins main (s.hrpMain g) || joins other (s.hrpOther g)) = true then .refuse stBUSY 0 []
  else if short ≠ [] then .noRes short
  else .accept ((s.wrStaged (HRP_CFG.key g) w).reserve rDELAY_PAGES 0 pages (ownHrp g)
    (some (p.master, p.seq.toNat)))

/-- The flip of a group; removal returns the mode to automatic (R195). -/
def State.flipHrp (s : State) (g : Nat) : State :=
  let s1 := s.flipRegs [HRP_CFG.key g]
  if s1.hrpOn g then s1
  else ((s1.put (HRP_STATUS.key g) HRP_STATUS.MODE 0).each
    [condHrp g 0x81, condHrp g 0x82] fun s c => s.cond c false)

def State.hrpGroupRun (s : State) (p : Packet) : Done :=
  let g := fieldAt p.payload 0 1
  let s1 := s.flipHrp g
  okDone (if s1.hrpOn g then s1.commitUnits rDELAY_PAGES (ownHrp g) (some (p.master, p.seq.toNat))
    else s1.releaseUnits rDELAY_PAGES (ownHrp g))

def hrpSelectFault (bs : List Byte) : Option Nat := layoutFault bs 2 [below 0 1 groupsHrp, below 1 1 3]

/-- HRP_SELECT at step 2 (R193). -/
def State.hrpSelectRun (s : State) (p : Packet) : Done :=
  okDone (s.put (HRP_STATUS.key (fieldAt p.payload 0 1)) HRP_STATUS.MODE (fieldAt p.payload 1 1))

/-- HRP_STATUS with its live bits; a group that is off shows both ports down (Table 07-9). -/
def State.hrpStatusWord (s : State) (g : Nat) : Word :=
  let w := s.rd (HRP_STATUS.key g)
  let off := !s.hrpOn g
  HRP_STATUS.MAIN_DOWN.set (HRP_STATUS.OTHER_DOWN.set (HRP_STATUS.ANN_OTHER.set w
    (bit (!off && s.annFromOther g))) (bit (off || s.has (condHrp g 0x82)))) (bit (off || s.has (condHrp g 0x81)))

def State.hrpStatusRead (s : State) (p : Packet) : Verdict :=
  let g := fieldAt p.payload 0 1
  .answer stOK (beBytes 4 (s.rd (HRP_CFG.key g)).toNat ++ beBytes 4 (s.hrpStatusWord g).toNat) s

end Sys2Proof.Machine
end

