-- ==== Sys2Proof/Machine/LowOrder.lean ====
section
/-! DEFINITION. Low-order tributaries (08_low_order_tributaries): naming (R198), mapper positions (R196,
R197), TU multiframes (R204 to R217) and the commands 0x26 to 0x28. -/

namespace Sys2Proof.Machine

/-! ### Position words (R198, Table 08-2) -/

def posAlf (pos : Nat) : Bool := pos.testBit 15
def posK (pos : Nat) : Nat := bitsOf pos 13 2
def posL (pos : Nat) : Nat := bitsOf pos 10 3
/-- M - 1. -/
def posM (pos : Nat) : Nat := bitsOf pos 8 2
def posId (pos : Nat) : Nat := pos % 4096

/-- The position word of K, L and M - 1. -/
def posWord (k l m : Nat) : Nat := k * 2 ^ 13 + l * 2 ^ 10 + m * 2 ^ 8

/-- TUG-2s of a container's TYPE (R199). -/
def tugCount (ptype : Nat) : Nat := if ptype = 1 then 7 else 21

/-- Place of a TUG-2 in order of K then L. -/
def tugIndex (ptype pos : Nat) : Nat :=
  if ptype = 1 then posL pos - 1 else (posK pos - 1) * 7 + (posL pos - 1)

/-- TUs of a TUG-2 type (R199). -/
def tugTus (t : Nat) : Nat := [0, 4, 3, 1].getD t 0

/-- The container's TYPE, as last configured. -/
def State.contType (s : State) (p head : Nat) : Nat := (s.path (pathKey p head)).staged.ptype

/-- The list entry of a TRIB_ID, in the port's list or its bundle's. -/
def State.alfListed (s : State) (p id : Nat) : Option AlfTrib :=
  match s.bondOf p with
  | some (g, _) => if s.bundlePort g = p
      then (s.bond g).stagedList.find? fun t => decide (t.id = id) else none
  | none => (s.alf p).staged.find? fun t => decide (t.id = id)

/-- The TYPE of Table 08-12 that a position word names, 0 when there is no such TU (R198, R203). -/
def State.tuType (s : State) (p head pos : Nat) : Nat :=
  if posAlf pos then
    if head = 0xFF ∧ s.isAlf p ∧ bitsOf pos 12 3 = 0 then
      match s.alfListed p (posId pos) with
      | some t => if t.ttype ≤ 2 then t.ttype else 0
      | none => 0
    else 0
  else
    let c := s.contType p head
    let kOk := if c = 1 then posK pos = 0 else posK pos ≠ 0
    let t := (s.container (pathKey p head)).staged.getD (tugIndex c pos) 0
    if pos % 256 = 0 ∧ posL pos ≠ 0 ∧ kOk ∧ posM pos < tugTus t then t else 0

/-! ### Mapper positions (R196, R197) -/

/-- A mapper position in service (Table 01-7). -/
def State.mapperOk (s : State) (n : Nat) : Bool :=
  let st := s.get (SYS_BLOCK_MAP.key (24 + n)) SYS_BLOCK_MAP.STATE
  decide (st ≠ 1 ∧ st ≠ 3)

/-- Free units of a code at a mapper position. -/
def State.mapperFree (s : State) (code n : Nat) : Nat :=
  if s.mapperOk n then s.capacity code - s.used code n else 0

/-- The position of a region with the most free units, ties to the lower (R197). -/
def State.roomiest (s : State) (code region : Nat) : Nat :=
  (List.range 4).foldl (fun best j =>
    if s.mapperFree code best < s.mapperFree code (4 * region + j) then 4 * region + j else best) (4 * region)

/-- R197: the position for a container that takes `need` positions. -/
def State.containerPos (s : State) (region need : Nat) : Option Nat :=
  let own := s.roomiest rMAPPER_CONT_POS region
  if need ≤ s.mapperFree rMAPPER_CONT_POS own then some own
  else (List.range 16).find? fun n => decide (need ≤ s.mapperFree rMAPPER_CONT_POS n)

/-- Container positions of a TYPE (Table 08-1). -/
def contUnits (ptype : Nat) : Nat := if ptype = 1 then 1 else 3

/-- Retiming units of a tributary TYPE (Table 08-1). -/
def retimeUnits (t : Nat) : Nat := if t = 3 then 3 else 1

/-- Retiming units in use, as start and length. -/
def State.retimeUsed (s : State) : List (Nat × Nat) :=
  (s.tribs.filter fun e => decide (e.2.cfg.ttype ≠ 0)).map fun e => (e.2.retime, retimeUnits e.2.cfg.ttype)

/-- A place of `n` units within one page that meets none in use (R205). -/
def retimeFits (used : List (Nat × Nat)) (top n start : Nat) : Bool :=
  decide (start % 32 + n ≤ 32) && decide (start + n ≤ top) &&
  used.all fun u => decide (u.1 + u.2 ≤ start ∨ start + n ≤ u.1)

/-- The lowest place for a tributary's units: unit 0, the end of another's, or a page start after it. -/
def State.retimePlace (s : State) (n : Nat) : Option Nat :=
  let used := s.retimeUsed
  let starts := 0 :: used.flatMap fun u => [u.1 + u.2, ceilDiv (u.1 + u.2) 32 * 32]
  (sortBy id (starts.filter (retimeFits used (s.capacity rRETIME_UNITS) n))).head?

/-! ### Server defects (R213) -/

/-- The tributary of an ALF port is shed. -/
def State.slotShed (s : State) (p id : Nat) : Bool :=
  match s.bondOf p with
  | some (g, _) => !(s.bundleMap g).carriedIds.contains id || (s.alf p).restoring.contains id
  | none => s.alfShed p id

/-- A server defect of the tributary stands. -/
def State.tribServerDown (s : State) (p head pos : Nat) : Bool :=
  if posAlf pos then
    (s.lanesOf p).any (fun l => s.decided (s.condLane l dLOS)) || s.decided (condPort p dLOAF) ||
    s.decided (condPort p dAFE) || s.slotShed p (posId pos)
  else
    s.lineDown p || [dAIS_P, dLOP_P, dLOM_P].any fun d => s.decided (condPath p head d)

/-! ### A received TU multiframe -/

/-- Greatest TU pointer value, Table 08-4. -/
def tuTop (t : Nat) : Nat := [0, 103, 139, 427].getD t 139

/-- LOP-V and AIS-V after a pointer word, and after an accepted label 0b111 (R204, R209). -/
def State.tuPointerRules (s : State) (p head pos : Nat) : State :=
  let x := s.trib (tribNum p head pos)
  (s.rule (condTrib p head pos dLOP_V) (decide (x.ptr.state = .lop) && x.ptr.settled)).rule
    (condTrib p head pos dAIS_V) (decide (x.ptr.state = .ais) || x.label.accepted == some 7)

/-- The pointer word of a multiframe with the justification counts (R204). -/
def State.tuPointer (s : State) (p head pos word : Nat) : State :=
  let k := tribNum p head pos
  let x := s.trib k
  let top := tuTop x.cfg.ttype
  let s1 := s.updTrib k fun x => { x with ptr := x.ptr.frame top word }
  match justified top x.ptr word with
  | some true => (s1.updTrib k fun x => { x with inPj := x.inPj + 1 }).countTrib p head pos 2 1
  | some false => (s1.updTrib k fun x => { x with inNj := x.inNj + 1 }).countTrib p head pos 3 1
  | none => s1

/-- The 32-bit K4 bit 1 string: an 11-bit alignment 0111 1111 110, then the extended label in its bits 12
to 19 (G.707). PRESUMED; Notes: assumption 21. -/
def k4Label (bits : List Nat) : Option Nat :=
  let n := bits.foldl (fun a b => a * 2 + b) 0
  if bits.length = 32 ∧ n / 2 ^ 21 = 0x3FE then some (bitsOf n 13 8) else none

/-- A K4 bit enters the string. -/
def TribSt.k4Bit (x : TribSt) (b : Bool) : TribSt :=
  let bits := (x.k4Bits ++ [bit b]).drop (x.k4Bits.length + 1 - 32)
  match k4Label bits with
  | some v => { x with k4Bits := [], k4 := acceptVal 3 x.k4 v }
  | none => { x with k4Bits := bits }

/-- The accepted label, and whether it is the K4 extended one (R209). -/
def TribSt.accLabel (x : TribSt) : Option (Bool × Nat) :=
  match x.label.accepted, x.k4.accepted with
  | some 5, some v => some (true, v)
  | some v, _ => some (false, v)
  | none, _ => none

/-- UNEQ-V and PLM-V of the accepted label (R209). -/
def State.tuLabelRules (s : State) (p head pos : Nat) : State :=
  let x := s.trib (tribNum p head pos)
  let e := x.cfg.labelExp
  match x.accLabel with
  | none => s
  | some (ext, v) =>
    let on := decide (e ≠ 0)
    let uneq := !ext && v == 0
    let same := (ext == decide (128 ≤ e)) && v == e % 128
    (s.rule (condTrib p head pos dUNEQ_V) (on && uneq)).rule (condTrib p head pos dPLM_V)
      (on && !uneq && !same && !(!ext && v == 1))

/-- EXC-V and DEG-V at the end of a window (R211). -/
def State.tribBerEnd (s : State) (p head pos : Nat) : State :=
  let k := tribNum p head pos
  let x := s.trib k
  let w := 8 * bitsOf x.cfg.ber 0 10
  if w = 0 ∨ x.win.len < w then s
  else
    let sf := bitsOf x.cfg.ber 10 11
    let sd := bitsOf x.cfg.ber 21 11
    let s1 := if sf = 0 then s else s.berDecide (condTrib p head pos dEXC_V) sf x.win.count
    let s2 := if sd = 0 then s1 else s1.berDecide (condTrib p head pos dDEG_V) sd x.win.count
    s2.updTrib k fun x => { x with win := {} }

/-- MON of a tributary: 1 E1, 2 T1 (R214). -/
def TribCfg.mon (c : TribCfg) : Nat := bitsOf c.flags 1 2

/-- The E1 or T1 monitor runs (R214). -/
def State.monitorRuns (s : State) (p head pos : Nat) : Bool :=
  let x := s.trib (tribNum p head pos)
  decide (x.cfg.mon ≠ 0) && x.label.accepted == some 2 && !s.tribServerDown p head pos &&
  !s.decided (condTrib p head pos dAIS_V) && !s.decided (condTrib p head pos dLOP_V)

/-- What the monitor found in the multiframe (R215 to R217). -/
def State.tuMonitor (s : State) (p head pos : Nat) (f : TuRx) : State :=
  if ¬ s.monitorRuns p head pos then s
  else
    let k := tribNum p head pos
    let e1 := decide ((s.trib k).cfg.mon = 1)
    let lay := layKey p 3 head 0 pos 1
    let eb := if e1 then f.ebit else 0
    ((((s.countTrib p head pos 6 f.blkErr).countTrib p head pos 7 eb).errBlocks lay false f.blkErr).errBlocks lay
      true eb).updTrib k fun x => { x with crc4Absent := e1 && f.crc4Absent }

/-- V5, J2 and K4 (R208 to R211): counts go on, integration freezes under a server defect (R213). -/
def State.tuOverhead (s : State) (p head pos : Nat) (f : TuRx) : State :=
  let k := tribNum p head pos
  let v5 := f.v5.toNat
  let bad := bit f.bipBad
  let rei := bitsOf v5 5 1
  let lay := layKey p 3 head 0 pos 0
  let s1 := (((s.countTrib p head pos 0 bad).countTrib p head pos 1 rei).errBlocks lay false bad).errBlocks lay
    true rei
  if s1.tribServerDown p head pos then s1
  else
    let s2 := s1.updTrib k fun x =>
      let y := { x.k4Bit f.k4bit with
        label := acceptVal 5 x.label (bitsOf v5 1 3)
        rdi := runOn x.rdi (v5.testBit 0)
        rfi := runOn x.rfi (v5.testBit 4)
        win := { len := x.win.len + 1, count := x.win.count + bad } }
      if x.cfg.flags.testBit 0 then { y with j2 := y.j2.byte16 f.j2 } else y
    let x := s2.trib k
    let s3 := ((s2.tuPointerRules p head pos).tuLabelRules p head pos).integrate
      (condTrib p head pos dRDI_V) x.rdi 5 5
    let s4 := (s3.integrate (condTrib p head pos dRFI_V) x.rfi 5 5).rule (condTrib p head pos dTIM_V)
      (x.cfg.flags.testBit 0 && x.j2.differs false x.cfg.j2Exp)
    s4.tribBerEnd p head pos

/-- A received TU multiframe of a configured tributary. -/
def State.tuReceive (s : State) (p head pos : Nat) (f : TuRx) : State :=
  if (s.trib (tribNum p head pos)).cfg.ttype = 0 then s
  else
    let s1 := if s.tribServerDown p head pos then s else s.tuPointer p head pos f.pointer.toNat
    (s1.tuOverhead p head pos f).tuMonitor p head pos f

/-! ### LOM_CONTAINER_CFG (R219) -/

/-- The 21 or 7 types of TUG2_TYPES, 2 bits each, the first in [7:6] of its first byte. -/
def tugTypesOf (bs : List Byte) : List Nat :=
  (List.range 24).map fun i => bitsOf (fieldAt bs (2 + i / 4) 1) (6 - 2 * (i % 4)) 2

/-- The path can be a container: MODE 1, TYPE 1 or 2 (R199). -/
def State.containerOk (s : State) (p h : Nat) : Bool :=
  let c := (s.path (pathKey p h)).staged
  decide (c.mode = 1) && (decide (c.ptype = 1) || decide (c.ptype = 2))

def State.containerFault (s : State) (bs : List Byte) : Option Nat :=
  let p := fieldAt bs 0 1
  let n := tugCount (s.contType p (fieldAt bs 1 1))
  layoutFault bs 12 [such 0 1 s.stmPortOk, such 1 1 (s.containerOk p),
    such 2 6 (fun _ => ((tugTypesOf bs).drop n).all fun t => decide (t = 0)), rsv 8 4]

/-- A tributary of the container stands in a TUG-2 whose type changes. -/
def State.tugHeld (s : State) (k : Nat) (types : List Nat) : Bool :=
  let c := s.container k
  let t := s.contType (k / 256) (k % 256)
  s.tribs.any fun e =>
    decide (e.1 / 65536 = k) && (decide (e.2.cfg.ttype ≠ 0) || decide (e.2.staged.ttype ≠ 0)) &&
    decide (c.staged.getD (tugIndex t (e.1 % 65536)) 0 ≠ types.getD (tugIndex t (e.1 % 65536)) 0)

/-- Row 9: the mapper position is assigned and its container positions reserved (R197). -/
def State.containerAdmit (s : State) (p : Packet) : Verdict :=
  let bs := p.payload
  let k := pathKey (fieldAt bs 0 1) (fieldAt bs 1 1)
  let t := s.contType (k / 256) (k % 256)
  let types := (tugTypesOf bs).take (tugCount t)
  let held := s.container k
  if s.tugHeld k types then .refuse stBUSY 0 []
  else if held.staged ≠ [] then
    .accept (s.updContainer k fun c => { c with staged := types }) (beBytes 1 held.mapper)
  else
    let need := contUnits t
    match s.containerPos (regionOf (k / 256)) need with
    | none =>
      let best := s.roomiest rMAPPER_CONT_POS (regionOf (k / 256))
      .noRes [⟨rMAPPER_CONT_POS, best, need, s.mapperFree rMAPPER_CONT_POS best⟩]
    | some n =>
      .accept ((s.updContainer k fun c => { c with staged := types, mapper := n }).reserve rMAPPER_CONT_POS n need
        (ownContainer k) (some (p.master, p.seq.toNat))) (beBytes 1 n)

/-- The flip of a container: the H4 state starts when it is first given to the mapper. -/
def State.flipContainer (s : State) (k : Nat) (tag : Option (Nat × Nat)) : State :=
  (s.updContainer k fun c => { c with types := c.staged }).commitUnits rMAPPER_CONT_POS (ownContainer k) tag

def State.containerRun (s : State) (p : Packet) : Done :=
  let k := pathKey (fieldAt p.payload 0 1) (fieldAt p.payload 1 1)
  okWith (s.flipContainer k (some (p.master, p.seq.toNat))) (beBytes 1 (s.container k).mapper)

/-! ### LOM_TRIB_CFG (R220) -/

/-- A port whose tributaries are configured. -/
def State.lomPortOk (s : State) (p : Nat) : Bool := s.portOk p && (s.hasStm p || s.isAlf p)

/-- The word names a configured tributary, in force or staged. -/
def State.tribKnown (s : State) (p head pos : Nat) : Bool :=
  let x := s.trib (tribNum p head pos)
  decide (x.cfg.ttype ≠ 0) || decide (x.staged.ttype ≠ 0)

def State.lomTribFault (s : State) (bs : List Byte) : Option Nat :=
  let p := fieldAt bs 0 1
  let h := fieldAt bs 1 1
  let pos := fieldAt bs 2 2
  let named := s.tuType p h pos
  let ttype := fieldAt bs 4 1
  let mon := fun v => decide (v < 8) && (decide (bitsOf v 1 2 = 0) || decide (bitsOf v 1 2 = 1 ∧ ttype = 2) ||
    decide (bitsOf v 1 2 = 2 ∧ ttype = 1))
  layoutFault bs 28 [such 0 1 s.lomPortOk,
    such 1 1 (fun h => if s.isAlf p then decide (h = 0xFF)
      else decide (s.contType p h ≠ 0) && !(s.container (pathKey p h)).staged.isEmpty),
    such 2 2 (fun _ => decide (named ≠ 0) || s.tribKnown p h pos),
    such 4 1 (fun t => decide (t = 0 ∨ t = named)), below 5 1 16,
    such 6 1 (fun v => decide (v < 8 ∨ 128 ≤ v)), such 7 1 mon]

def tribCfgOf (bs : List Byte) : TribCfg :=
  { ttype := fieldAt bs 4 1, actions := fieldAt bs 5 1, labelExp := fieldAt bs 6 1, flags := fieldAt bs 7 1,
    ber := fieldAt bs 8 4, j2Exp := bytesAt bs 12 16 }

/-- The mapper position that serves a tributary (R197). -/
def State.tribMapper (s : State) (p head pos : Nat) : Nat :=
  if posAlf pos then s.roomiest rLO_TRIB_POS (regionOf p) else (s.container (pathKey p head)).mapper

/-- Row 9: BUSY for a connected tributary removed, or the units of a new tributary reserved. -/
def State.lomTribAdmit (s : State) (p : Packet) : Verdict :=
  let bs := p.payload
  let port := fieldAt bs 0 1
  let h := fieldAt bs 1 1
  let pos := fieldAt bs 2 2
  let k := tribNum port h pos
  let new := tribCfgOf bs
  let x := s.trib k
  let busy := s.carries (epWord (epTrib port h pos))
  let known := s.tribKnown port h pos
  let n := if known then x.mapper else s.tribMapper port h pos
  let s1 := s.updTrib k fun x => { x with staged := new, mapper := n }
  if busy && decide (new.ttype ≠ x.staged.ttype) then .refuse stBUSY 0 []
  else if new.ttype = 0 ∨ (known ∧ x.staged.ttype = new.ttype) then .accept s1
  else
    let posFree := s.mapperFree rLO_TRIB_POS n
    let units := retimeUnits new.ttype
    let short := (if 1 ≤ posFree then [] else [⟨rLO_TRIB_POS, n, 1, posFree⟩]) ++
      s.shortOf rRETIME_UNITS 0 units (ownTrib k) ++ contextShort s s1
    if short ≠ [] then .noRes short
    else if (s.retimePlace units).isNone then .noRes [⟨rRETIME_UNITS, 0, units, 0⟩]
    else
      let tag := some (p.master, p.seq.toNat)
      .accept ((s1.reserve rLO_TRIB_POS n 1 (ownTrib k) tag).reserve rRETIME_UNITS 0 units (ownTrib k) tag)

/-- The flip of a tributary: a new one starts as R113 states and has its bins in its context (R218). -/
def State.flipTrib (s : State) (k : Nat) (tag : Option (Nat × Nat)) : State :=
  let s := s.reissued (k / 2 ^ 24) (entTrib (k / 65536 % 256) (k % 65536))
  let x := s.trib k
  let p := k / 2 ^ 24
  let h := k / 65536 % 256
  let pos := k % 65536
  let lay := layKey p 3 h 0 pos 0
  if x.staged.ttype = x.cfg.ttype then
    let s1 := s.updTrib k fun x => { x with cfg := x.staged,
                                            win := if x.cfg.ber = x.staged.ber then x.win else {} }
    let c := (s1.trib k).cfg.ber
    let s2 := if bitsOf c 0 10 = 0 ∨ bitsOf c 10 11 = 0 then s1.rule (condTrib p h pos dEXC_V) false else s1
    if bitsOf c 0 10 = 0 ∨ bitsOf c 21 11 = 0 then s2.rule (condTrib p h pos dDEG_V) false else s2
  else
    let s1 := s.clearEntity p (entTrib h pos)
    if x.staged.ttype = 0 then
      let s2 := (((s1.releaseUnits rLO_TRIB_POS (ownTrib k)).releaseUnits rRETIME_UNITS (ownTrib k)).updTrib k fun _ =>
        {})
      { s2 with pm := { s2.pm with recs := s2.pm.recs.drop lay } }
    else
      let s2 := (s1.commitUnits rLO_TRIB_POS (ownTrib k) tag).commitUnits rRETIME_UNITS (ownTrib k) tag
      let s3 := s2.updTrib k fun y =>
        { cfg := y.staged, staged := y.staged, mapper := y.mapper,
          retime := (s2.retimePlace (retimeUnits y.staged.ttype)).getD 0 }
      { s3 with pm := { s3.pm with recs := s3.pm.recs.put lay ((s3.pm.recs.find lay).getD {}) } }

def State.lomTribRun (s : State) (p : Packet) : Done :=
  let port := fieldAt p.payload 0 1
  let h := fieldAt p.payload 1 1
  let pos := fieldAt p.payload 2 2
  let k := tribNum port h pos
  let x := s.trib k
  if x.staged.ttype ≠ x.cfg.ttype ∧ s.carries (epWord (epTrib port h pos)) = true then failDone s stBUSY 0
  else okDone (s.flipTrib k (some (p.master, p.seq.toNat)))

/-! ### LOM_TRIB_STATUS (R221) -/

/-- PORT, HEAD, POS, FLAGS ([0] CLEAR), 3 reserved bytes. Notes: assumption 11. -/
def State.lomStatusFault (s : State) (bs : List Byte) : Option Nat :=
  let p := fieldAt bs 0 1
  let h := fieldAt bs 1 1
  layoutFault bs 8 [such 0 1 s.lomPortOk,
    such 2 2 (fun pos => decide ((s.trib (tribNum p h pos)).cfg.ttype ≠ 0)), below 4 1 2, rsv 5 3]

def State.tribLive (s : State) (p h pos : Nat) : Nat :=
  ((List.range tribCodes.length).map fun i =>
    bit (s.has (condTrib p h pos (tribCodes.getD i 0))) * 2 ^ i).sum +
  bit (!posAlf pos && s.has (condPath p h dLOM_P)) * 2 ^ 15

/-- The tributary's mapper block was replaced in the current second (R221). -/
def State.tribSubstituted (s : State) (k : Nat) : Bool := s.health.mapperSubst.contains (s.trib k).mapper

/-- The items of R221 in order: live bits, sticky bits (2 each, bit 15 LOM-P), CRC4_ABSENT (1), pointer state
(1) and value (2), label and extended label (1 each), J2 (16), IN_PJ, IN_NJ, OUT_PJ, OUT_NJ (4 each),
SUBSTITUTED (1). Notes: assumption 10. -/
def State.tribStatusBytes (s : State) (p h pos : Nat) : List Byte :=
  let k := tribNum p h pos
  let x := s.trib k
  let lom := if posAlf pos then 0 else bit ((s.path (pathKey p h)).hist.testBit 8) * 2 ^ 15
  beBytes 2 (s.tribLive p h pos) ++ beBytes 2 (x.hist + lom) ++ beBytes 1 (bit x.crc4Absent) ++
  beBytes 1 (ptrStateCode x.ptr.state) ++ beBytes 2 x.ptr.value ++ beBytes 1 (x.label.accepted.getD 0) ++
  beBytes 1 (x.k4.accepted.getD 0) ++ bytesAt (x.j2.accepted.getD []) 0 16 ++ beBytes 4 x.inPj ++
  beBytes 4 x.inNj ++ beBytes 4 x.outPj ++ beBytes 4 x.outNj ++ beBytes 1 (bit (s.tribSubstituted k))

def State.lomStatus (s : State) (p : Packet) : Verdict :=
  let n := fieldAt p.payload 0 1
  let h := fieldAt p.payload 1 1
  let pos := fieldAt p.payload 2 2
  let s1 := if fieldAt p.payload 4 1 = 1 then
      s.updTrib (tribNum n h pos) fun x => { x with inPj := 0, inNj := 0, outPj := 0, outNj := 0, hist := 0 }
    else s
  .answer stOK (s.tribStatusBytes n h pos) s1

end Sys2Proof.Machine
end

