-- ==== Sys2Proof/Machine/Server.lean ====
section
/-! DEFINITION. What the declared defects order of each entity (R120, R147, R174, R212, R272, Table 11-3):
AIS toward the grate, and signal fail and signal degrade to protection (Tables 04-9, 05-6, 08-6, R149). Live
conditions only: the state after steps 1 to 3. -/

namespace Sys2Proof.Machine

/-- LOS on a lane of the port. -/
def State.losOf (s : State) (p : Nat) : Bool := (s.lanesOf p).any fun l => s.has (s.condLane l dLOS)

/-- Any of the port's own conditions. -/
def State.portHas (s : State) (p : Nat) (codes : List Nat) : Bool := codes.any fun c => s.has (condPort p c)

/-! ### OTN (Table 05-6) -/

def State.oduHas (s : State) (p i l : Nat) (codes : List Nat) : Bool := codes.any fun c => s.has (condOdu p i l c)

/-- Server defects of R148, live. -/
def State.oduServer (s : State) (p i : Nat) : Bool :=
  s.losOf p || s.portHas p [dOTU_LOF, dLOL, dLOM] ||
  (decide (i ≠ 0) && (s.oduHas p 0 0 [dPLM, dODU_AIS, dLCK, dOCI, dLOOMFI] || s.oduHas p i 0 [dMSIM, dLOFLOM]))

/-- SM TIM with SM_TIM_ACT. -/
def State.smTimActs (s : State) (p : Nat) : Bool := s.portHas p [dTIM] && s.timAct p 0 smLayer

/-- PM AIS, LCK and OCI, and PM TIM with TIM_ACT. -/
def State.pmFails (s : State) (p i : Nat) : Bool :=
  s.oduHas p i 0 [dODU_AIS, dLCK, dOCI] || (s.oduHas p i 0 [dTIM] && s.timAct p i 0)

/-- An operational TCM orders ODU-AIS. -/
def State.tcmAis (s : State) (p i : Nat) : Bool :=
  let c := (s.odu (oduKey p i)).cfg
  (List.range 6).any fun j =>
    let t := c.tcm.getD j (0, 0, 0)
    decide (t.1 = 2) && ((t.2.1.testBit 3 && s.oduHas p i (j + 1) [dLTC, dODU_AIS, dLCK, dOCI]) ||
      (t.2.1.testBit 2 && s.oduHas p i (j + 1) [dTIM]))

/-- ODU-AIS is ordered toward the grate by a defect. -/
def State.oduAis (s : State) (p i : Nat) : Bool :=
  let term := decide ((s.odu (oduKey p i)).cfg.mode = 1)
  s.oduServer p i || s.smTimActs p || s.tcmAis p i || (term && (s.pmFails p i || s.oduHas p i 0 [dPLM]))

/-- SNC signal fail and signal degrade (R149); `sub` for SNC/S. -/
def State.oduSf (s : State) (p i : Nat) (sub : Bool) : Bool :=
  s.oduServer p i || (if sub then s.smTimActs p else s.pmFails p i)

def State.oduSd (s : State) (p i : Nat) (sub : Bool) : Bool :=
  if sub then s.portHas p [dDEG] else s.oduHas p i 0 [dDEG]

/-! ### SDH and SONET (Table 04-9) -/

/-- The line orders AIS-P on every path. -/
def State.lineAis (s : State) (p : Nat) : Bool :=
  if s.isOtn p then s.oduAis p 0 || s.portHas p [dLOF, dAIS_L]
  else
    s.losOf p || s.portHas p [dLOF, dAIS_L] || (s.portHas p [dTIM_S] && s.on (SDH_CFG.key p) SDH_CFG.TIM_S_AIS) ||
    (s.portHas p [dEXC_L] && s.on (SDH_CFG.key p) SDH_CFG.EXC_L_AIS)

def State.pathHas (s : State) (p h : Nat) (codes : List Nat) : Bool := codes.any fun c => s.has (condPath p h c)

/-- The defects of a path that Table 04-9 sends on as AIS-P, selected by ACTIONS. -/
def State.pathActs (s : State) (p h : Nat) : Bool :=
  let a := (s.path (pathKey p h)).cfg.actions
  s.pathHas p h [dAIS_P, dLOP_P] || (a.testBit 0 && s.pathHas p h [dUNEQ_P]) ||
  (a.testBit 1 && s.pathHas p h [dPLM_P]) || (a.testBit 2 && s.pathHas p h [dTIM_P]) ||
  (a.testBit 3 && s.pathHas p h [dEXC_P])

/-- AIS-P is ordered on the path by a defect. -/
def State.pathAis (s : State) (p h : Nat) : Bool := s.lineAis p || s.pathActs p h

def State.pathSf (s : State) (p h : Nat) : Bool := s.pathAis p h || s.pathHas p h [dEXC_P]
def State.pathSd (s : State) (p h : Nat) : Bool := s.pathHas p h [dDEG_P]

/-- Signal fail and signal degrade of an MSP section (Table 04-9). -/
def State.lineSf (s : State) (p : Nat) : Bool := s.losOf p || s.portHas p [dLOF, dAIS_L, dEXC_L]
def State.lineSd (s : State) (p : Nat) : Bool := s.portHas p [dDEG_L]

/-! ### ALF (Table 06-9) -/

def State.alfDown (s : State) (p : Nat) : Bool := s.losOf p || s.portHas p [dLOAF, dAFE]

/-- The server of an ALF port's slots and TUs: the port, or its bundle (Table 07-3). -/
def State.alfServerAis (s : State) (p : Nat) : Bool :=
  match s.bondOf p with
  | some (g, _) => s.has (condBond g dBUNDLE_DOWN)
  | none => match s.hrpOf p with
    | some (g, _) => s.alfDown (s.hrpMain g) && s.alfDown (s.hrpOther g)
    | none => s.alfDown p

/-! ### Low order (Table 08-6) -/

def State.tribHas (s : State) (p h pos : Nat) (codes : List Nat) : Bool := codes.any fun c => s.has (condTrib p h pos c)

def State.tribServerAis (s : State) (p h pos : Nat) : Bool :=
  if posAlf pos then s.alfServerAis p else s.pathAis p h || s.pathHas p h [dLOM_P]

def State.tribActs (s : State) (p h pos : Nat) : Bool :=
  let a := (s.trib (tribNum p h pos)).cfg.actions
  s.tribHas p h pos [dAIS_V, dLOP_V] || (a.testBit 0 && s.tribHas p h pos [dUNEQ_V]) ||
  (a.testBit 1 && s.tribHas p h pos [dPLM_V]) || (a.testBit 2 && s.tribHas p h pos [dTIM_V]) ||
  (a.testBit 3 && s.tribHas p h pos [dEXC_V])

/-- TU-AIS is ordered on the tributary by a defect. -/
def State.tribAis (s : State) (p h pos : Nat) : Bool := s.tribServerAis p h pos || s.tribActs p h pos

def State.tribSf (s : State) (p h pos : Nat) : Bool := s.tribAis p h pos || s.tribHas p h pos [dEXC_V]
def State.tribSd (s : State) (p h pos : Nat) : Bool := s.tribHas p h pos [dDEG_V]

end Sys2Proof.Machine
end

