-- ==== Sys2Proof/Machine/Packet.lean ====
section
/-! DEFINITION. The packet engines (09_packet_mapping_and_queues): flows and channels (R223, R224), GFP-F
(R225 to R227), VCAT groups (R228, R229), classification and queues (R230 to R232, R237), flow control
(R233 to R236) and the commands 0x29 to 0x2D and 0x09. -/

namespace Sys2Proof.Machine

def packetPage : Nat := 4096

/-- The counter of each discard of Table 09-3 (Table 11-4, KIND 6). -/
def discLENGTH : Nat := 3
def discQUOTA : Nat := 4
def discAGED : Nat := 5
def discEGRESS : Nat := 6
def discGFP : Nat := 7

/-! ### Channels (Table 09-1) -/

/-- The Ethernet port's rate in Gb/s (Table 03-1). -/
def ethGbps (rate : Nat) : Nat := [10, 25, 100].getD rate 10

/-- Region of an engine. -/
def engineRegion (e : Nat) : Nat := e / 2

/-- ODU rates of Table 05-4 in kb/s; the payload takes 3,808 of 3,824 columns. -/
def oduKbps (t flex : Nat) : Nat :=
  if t = 6 then flex else [0, 1244160, 2498775, 10037274, 10399525, 104794446].getD t 0

def opuKbps (t flex : Nat) : Nat := oduKbps t flex * 238 / 239

/-- Payload of a VCAT member: C-3 and C-4 (G.707). PRESUMED; Notes: assumption 22. -/
def vcKbps (vtype : Nat) : Nat := if vtype = 1 then 48384 else 149760

/-- The rate R of a channel in kb/s (Table 09-1). -/
def State.chanRate (s : State) (e n : Nat) : Nat :=
  let c := s.chan (engKey e n)
  if c.kind = 1 then (s.alfUse c.ref).pktBlocks * 576
  else if c.kind = 2 then (s.bundleMap c.ref).pktBlocks * 576
  else if c.kind = 3 then
    let o := (s.odu (oduKey c.ref c.index)).cfg
    opuKbps o.otype o.flexRate
  else if c.kind = 4 then
    let v := s.vcat (engKey e c.ref)
    if !v.cfg.lcas && !v.failed.isEmpty then 0 else v.inUse.length * vcKbps v.cfg.vtype
  else 0

/-- A flow is on the channel. -/
def FlowCfg.on (f : FlowCfg) (kind ref index : Nat) : Bool :=
  decide (f.chKind = kind ∧ f.chRef = ref ∧ f.chIndex = index ∧ kind ≠ 0)

/-- Flows of a channel, in force. -/
def State.chanFlows (s : State) (e n : Nat) : List Nat :=
  let c := s.chan (engKey e n)
  (List.range 64).filter fun f => (s.flow (engKey e f)).cfg.on c.kind c.ref c.index

/-- The channel of a flow. -/
def State.chanOf (s : State) (e f : Nat) : Option Nat :=
  let c := (s.flow (engKey e f)).cfg
  (List.range 64).find? fun n =>
    let x := s.chan (engKey e n)
    decide (x.kind ≠ 0) && c.on x.kind x.ref x.index

/-- Flows of an Ethernet port, in force. -/
def State.portFlows (s : State) (p : Nat) : List (Nat × Nat) :=
  (s.flows.filter fun x => decide (x.2.cfg.chKind ≠ 0 ∧ x.2.cfg.ethPort = p)).map fun x => (x.1 / 64, x.1 % 64)

/-- The Ethernet port is in LOS or without block lock (R227). -/
def State.ethFailed (s : State) (p : Nat) : Bool :=
  s.losOf p || s.portHas p [dETH_LOS, dETH_LOBL]

/-! ### Queues toward the line (R230 to R232, R237) -/

def queuedBytes (q : List BufFrame) : Nat := (q.map BufFrame.bytes).sum

/-- Bytes queued on a channel at priority `prio` or higher (R233). -/
def State.backlog (s : State) (e n prio : Nat) : Nat :=
  ((s.chanFlows e n).map fun f =>
    queuedBytes ((s.flow (engKey e f)).queue.filter fun b => decide (prio ≤ b.prio))).sum

/-- PKT_PFC_e_p. -/
def pfcKey (e prio : Nat) : Nat := if e % 2 = 0 then PKT_PFC.key (e / 2) prio else PKT_PFC1.key (e / 2) prio

/-- The pause state of one priority after an evaluation (R233): D = 8 × B / R in microseconds. -/
def State.pauseBit (s : State) (e n prio : Nat) : Bool :=
  let rate := s.chanRate e n
  let b := 8000 * s.backlog e n prio
  let xoff := s.get (pfcKey e prio) PKT_PFC.XOFF_US
  let xon0 := s.get (pfcKey e prio) PKT_PFC.XON_US
  let xon := if xoff ≤ xon0 then xoff - 1 else xon0
  let was := (s.chan (engKey e n)).paused.testBit prio
  if rate = 0 then true
  else if xoff * rate ≤ b then true
  else if b < xon * rate then false else was

def State.drainChan (s : State) (e n : Nat) : State :=
  if (s.chan (engKey e n)).kind = 0 then s
  else
    let m := ((List.range 8).map fun i => bit (s.pauseBit e n i) * 2 ^ i).sum
    s.updChan (engKey e n) fun c => { c with paused := m }

/-- Every channel of an engine is evaluated (R233). -/
def State.drainEval (s : State) (e : Nat) : State := s.each (List.range 64) fun s n => s.drainChan e n

/-- The engine and flow of a VLAN entry: engine × 256 + FLOW. -/
def vlanKey (p vid : Nat) : Nat := p * 4096 + vid

/-- What a received frame's tag gives: VID and priority; untagged and priority-tagged frames use VID 0. -/
def State.frameClass (s : State) (p : Nat) (f : EthFrame) : Nat × Nat :=
  match f.tag with
  | some (vid, pcp) => (vid.toNat % 4096, pcp.toNat % 8)
  | none => (0, s.get (ETH_CFG.key p) ETH_CFG.DEFAULT_PCP)

def State.mtu (s : State) (p : Nat) : Nat := s.get (ETH_CFG.key p) ETH_CFG.MTU

/-- A frame reaches a flow's queue, or its discard count. -/
def State.enqueueFlow (s : State) (e f prio p : Nat) (x : EthFrame) : State :=
  let k := engKey e f
  let fl := s.flow k
  if x.bytes < 64 ∨ s.mtu p < x.bytes then s.countFlow e f discLENGTH 1
  else if fl.cfg.quota * packetPage < queuedBytes fl.queue + x.bytes then s.countFlow e f discQUOTA 1
  else s.updFlow k fun y => { y with queue := y.queue ++
    [{ bytes := x.bytes, prio := prio, tick := s.dev.ticks, fcsOk := x.fcsOk }] }

/-- A received Ethernet frame (R230). -/
def State.ethReceive (s : State) (p : Nat) (x : EthFrame) : State :=
  if ¬ s.isEth p then s
  else
    let (vid, prio) := s.frameClass p x
    let s1 := ((s.countPort p 1 1).countPort p 3 (bit !x.fcsOk)).cvuFail p !x.fcsOk
    match s1.vlans.find (vlanKey p vid) with
    | none => s1.countFlow (2 * regionOf p) 0xFF 0 1
    | some v =>
      let f := v % 256
      if f = 0xFF ∨ (s1.flow (engKey (v / 256) f)).cfg.chKind = 0 then s1.countFlow (v / 256) 0xFF 0 1
      else (s1.enqueueFlow (v / 256) f prio p x).drainChan (v / 256) ((s1.chanOf (v / 256) f).getD 0)

/-- Frames of a priority at the head of the flow's queue older than MAX_AGE are discarded (R237). -/
def State.ageHead (s : State) (e f prio : Nat) : Nat → State
  | 0 => s
  | fuel + 1 =>
    let x := s.flow (engKey e f)
    match x.queue.find? fun b => decide (b.prio = prio) with
    | none => s
    | some b =>
      if x.cfg.maxAge ≠ 0 ∧ x.cfg.maxAge * 8 < s.dev.ticks - b.tick then
        ((s.updFlow (engKey e f) fun y => { y with queue := y.queue.eraseP fun c => decide (c.prio = prio) }).countFlow
          e f discAGED 1).ageHead e f prio fuel
      else s

/-- The flow has a frame to send at the priority: its port has not failed (R227). -/
def State.flowReady (s : State) (prio e f : Nat) : Bool :=
  let x := s.flow (engKey e f)
  !s.ethFailed x.cfg.ethPort && x.queue.any fun b => decide (b.prio = prio)

/-- The next flow of the list after `cur`, going round. -/
def nextFlow (cur : Nat) (fs : List Nat) : Nat :=
  match fs.find? fun f => decide (cur < f) with
  | some f => f
  | none => fs.headD 0

/-- Deficit round robin (R232): the flow whose turn it is sends while its deficit covers its head frame;
the turn passes on, and the next flow gains WEIGHT × 256 bytes. The flow that sends, and the state. -/
def State.drr (s : State) (e n prio : Nat) (fs : List Nat) : Nat → Option Nat × State
  | 0 => (none, s)
  | fuel + 1 =>
    let cur := (s.chan (engKey e n)).turn.getD prio 64
    let x := s.flow (engKey e cur)
    let head := ((x.queue.find? fun b => decide (b.prio = prio)).map BufFrame.bytes).getD 0
    if fs.contains cur ∧ head ≤ x.deficit.getD prio 0 then (some cur, s)
    else
      let nxt := nextFlow cur fs
      let s1 := s.updChan (engKey e n) fun c => { c with turn := c.turn.put prio nxt }
      (s1.updFlow (engKey e nxt) fun y =>
        { y with deficit := y.deficit.store prio (y.deficit.getD prio 0 + y.cfg.weight * 256) 0 }).drr e n prio fs fuel

/-- The head frame of the flow's priority queue is sent on the channel. -/
def State.sendFrame (s : State) (e n f prio : Nat) : State :=
  let x := s.flow (engKey e f)
  match x.queue.find? fun b => decide (b.prio = prio) with
  | none => s
  | some b =>
    let rest := x.queue.eraseP fun c => decide (c.prio = prio)
    let left := if rest.any fun c => decide (c.prio = prio) then x.deficit.getD prio 0 - b.bytes else 0
    let s1 := s.updFlow (engKey e f) fun y => { y with queue := rest, deficit := y.deficit.store prio left 0 }
    ((s1.countFlow e f 0 1).countFlow e f 1 b.bytes).updChan (engKey e n) fun c => { c with sent := c.sent + 1 }

/-- One transmit opportunity of a channel: a frame of the highest priority that has one, else idle (R232). -/
def State.gfpTransmit (s : State) (e n : Nat) : State :=
  if (s.chan (engKey e n)).kind = 0 ∨ s.chanRate e n = 0 then s
  else
    let fs := s.chanFlows e n
    let aged := s.each fs fun s f => s.each (List.range 8) fun s prio =>
      s.ageHead e f prio (s.flow (engKey e f)).queue.length
    match ([7, 6, 5, 4, 3, 2, 1, 0] : List Nat).find? fun prio => fs.any fun f => aged.flowReady prio e f with
    | none => (aged.updChan (engKey e n) fun c => { c with idles := c.idles + 1 }).drainChan e n
    | some prio =>
      let ready := fs.filter fun f => aged.flowReady prio e f
      match aged.drr e n prio ready 4096 with
      | (some f, s1) => (s1.sendFrame e n f prio).drainChan e n
      | (none, s1) => s1

/-! ### The receive side (R226, R227) -/

/-- Frame delineation with DELTA = 1. -/
def gfpSync (sync : Nat) (chec : Nat) : Nat :=
  if sync = 0 then (if chec = 0 then 1 else 0)
  else if sync = 1 then (if chec = 0 then 2 else 0)
  else if chec = 2 then 0 else 2

/-- The flow of a received frame: the only one of a channel without linear headers, else by CID. -/
def State.gfpFlow (s : State) (e n : Nat) (cid : Option Byte) : Option Nat :=
  (s.chanFlows e n).find? fun f =>
    let c := (s.flow (engKey e f)).cfg
    match cid with
    | some v => c.flags.testBit 0 && decide (c.cid = v.toNat)
    | none => !c.flags.testBit 0

/-- GFP_CSF of a flow. -/
def condFlow (e f code : Nat) : Cond := ⟨srcEngine e, f, code⟩

/-- A frame for the flow's port enters its egress queue (R236). -/
def State.toEgress (s : State) (e f : Nat) (x : GfpRx) : State :=
  let p := (s.flow (engKey e f)).cfg.ethPort
  let q := s.eth p
  if q.egressQuota * packetPage < queuedBytes q.egress + x.bytes then s.countFlow e f discEGRESS 1
  else ((s.updEth p fun y => { y with egress := y.egress ++
      [{ bytes := x.bytes, prio := x.priority.val, tick := s.dev.ticks, fcsOk := x.fcsOk }] }).countFlow e f 2
        1).countPort p 3 (bit !x.fcsOk)

/-- A frame received in SYNC. -/
def State.gfpFrame (s : State) (e n : Nat) (x : GfpRx) : State :=
  let first := (s.chanFlows e n).headD 0
  match s.gfpFlow e n x.cid with
  | none => s.countFlow e first discGFP 1
  | some f =>
    let p := (s.flow (engKey e f)).cfg.ethPort
    if ¬ x.theOk then s.countFlow e f discGFP 1
    else if x.csf then
      (s.updFlow (engKey e f) fun y => { y with csfRx := some s.dev.ticks }).rule (condFlow e f dGFP_CSF) true
    else if x.errored ∨ ((s.flow (engKey e f)).cfg.flags.testBit 1 ∧ ¬ x.pfcsOk) then s.countFlow e f discGFP 1
    else if x.bytes < 64 ∨ s.mtu p < x.bytes then s.countFlow e f discLENGTH 1
    else s.toEgress e f x

/-- A received GFP-F frame on a channel (R226). -/
def State.gfpReceive (s : State) (e n : Nat) (x : GfpRx) : State :=
  let c := s.chan (engKey e n)
  if c.kind = 0 then s
  else
    let new := gfpSync c.sync x.chec.val
    let s1 := s.updChan (engKey e n) fun c => { c with sync := new }
    if new = 2 then s1.gfpFrame e n x else s1

/-- 300 ms without CSF end GFP_CSF (Table 09-5). -/
def State.csfClears (s : State) : State :=
  s.each (s.flows.map Prod.fst) fun s k =>
    match (s.flow k).csfRx with
    | some t => if t + 2400 ≤ s.dev.ticks then
        (s.updFlow k fun y => { y with csfRx := none }).rule (condFlow (k / 64) (k % 64) dGFP_CSF) false
      else s
    | none => s

/-- A CSF is sent for a failed Ethernet port every 100 ms (R227). -/
def State.csfSend (s : State) (e f : Nat) : State :=
  let x := s.flow (engKey e f)
  let due := match x.csfTx with
    | some t => decide (t + 800 ≤ s.dev.ticks)
    | none => true
  if x.cfg.chKind = 0 then s
  else if ¬ s.ethFailed x.cfg.ethPort then s.updFlow (engKey e f) fun y => { y with csfTx := none }
  else if due then
    (s.updFlow (engKey e f) fun y => { y with csfTx := some s.dev.ticks, csfSent := y.csfSent + 1 }).event
      (srcEngine e) 0x81 true f
  else s

/-! ### Egress and flow control (R234, R236) -/

/-- Priorities to pause toward the peer (R234). -/
def State.pauseWant (s : State) (p : Nat) : Nat :=
  let mode := s.get (ETH_CFG.key p) ETH_CFG.FC_MODE
  let all := (s.portFlows p).foldl (fun m ef => match s.chanOf ef.1 ef.2 with
    | some n => m ||| (s.chan (engKey ef.1 n)).paused
    | none => m) 0
  if mode = 2 then all else if mode = 1 then (if all = 0 then 0 else 0xFF) else 0

/-- A flow control frame at a frame boundary of the port, when the pause state has changed (R234). -/
def State.flowControl (s : State) (p : Nat) : State :=
  let want := s.pauseWant p
  if ¬ s.isEth p ∨ want = (s.eth p).sentPause then s
  else (s.updEth p fun y => { y with sentPause := want, fcSent := y.fcSent + 1, lastFc := want }).put
    (ETH_STATUS.key p) ETH_STATUS.TX_PAUSED want

/-- The refresh of a lasting pause (R234). -/
def State.pauseRefresh (s : State) (p : Nat) : State :=
  if (s.eth p).sentPause = 0 then s
  else s.updEth p fun y => { y with fcSent := y.fcSent + 1, lastFc := y.sentPause }

/-- RX_PAUSED: the priorities held. -/
def State.showHeld (s : State) (p : Nat) : State :=
  s.put (ETH_STATUS.key p) ETH_STATUS.RX_PAUSED (((s.eth p).held.map fun e => 2 ^ e.1).sum)

/-- A received PAUSE or PFC frame holds or releases the priorities it names (R236). -/
def State.pauseReceive (s : State) (p : Nat) (pfc : Bool) (enable : Nat) (quanta : List (BitVec 16)) : State :=
  if ¬ s.isEth p ∨ ¬ s.on (ETH_CFG.key p) ETH_CFG.RX_FC_EN then s
  else
    let named := (List.range 8).filter fun i => !pfc || enable.testBit i
    (s.updEth p fun y => { y with held := named.foldl (fun t i =>
      t.store i (quanta.getD (if pfc then i else 0) 0).toNat 0) y.held }).showHeld p

/-- The pause time of a priority runs out. -/
def State.pauseExpiry (s : State) (p prio : Nat) : State :=
  if ((s.eth p).held.find prio).isNone then s
  else (s.updEth p fun y => { y with held := y.held.drop prio }).showHeld p

/-- The first frame of the egress queue whose priority is not held leaves (R236). -/
def State.ethTransmit (s : State) (p : Nat) : State :=
  let x := s.eth p
  let free := fun (b : BufFrame) => (x.held.find b.prio).isNone
  if ¬ s.isEth p ∨ ¬ x.egress.any free then s
  else (s.updEth p fun y => { y with egress := y.egress.eraseP free }).countPort p 2 1

/-! ### VCAT groups (R228, R229) -/

/-- Signal fail of a member path: what Table 04-9 sends on as AIS-P, or LOA. -/
def State.memberFails (s : State) (m : Nat) : Bool :=
  s.pathAis (m / 256) (m % 256) || s.pathHas (m / 256) (m % 256) [dLOA]

/-- Conditions of a group: the engine's source, the group's number. -/
def condVcat (e g code : Nat) : Cond := ⟨srcEngine e, g, code⟩

/-- PLCR while fewer than X members are in use, TLCR while none is; without LCAS a failed member puts the
group in TLCR. -/
def State.vcatConds (s : State) (e g : Nat) : State :=
  let v := s.vcat (engKey e g)
  let on := decide (v.cfg.vtype ≠ 0)
  let none_ := if v.cfg.lcas then v.inUse.isEmpty else !v.failed.isEmpty
  (s.rule (condVcat e g dTLCR) (on && none_)).rule (condVcat e g dPLCR)
    (on && v.cfg.lcas && decide (v.inUse.length < v.cfg.members.length))

/-- LCAS_CHANGE with the group in ENTITY, and PLCR and TLCR judged. -/
def State.lcasChange (s : State) (e g : Nat) (inUse : List Nat) : State :=
  ((s.updVcat (engKey e g) fun v => { v with inUse := inUse }).event (srcEngine e) 0x82 true g).vcatConds e g

/-- A member's signal fail begins or ends (R229): HOLDOFF before its removal, LCAS_WTR before its return. -/
def State.memberState (s : State) (e g m : Nat) : State :=
  let v := s.vcat (engKey e g)
  let fails := s.memberFails (v.cfg.members.getD m 0)
  let was := v.failed.contains m
  if fails = was then s
  else if fails then
    let s1 := (s.updVcat (engKey e g) fun v => { v with failed := v.failed ++ [m] }).stopTimer (.lcasWtr e g m)
    if v.cfg.lcas && v.inUse.contains m then s1.startTimer (.lcasHoldoff e g m) (v.cfg.holdoff * 800)
    else s1.vcatConds e g
  else
    let s1 := (s.updVcat (engKey e g) fun v => { v with failed := v.failed.filter fun x => decide (x ≠ m) }).stopTimer
      (.lcasHoldoff e g m)
    if v.cfg.lcas && !v.inUse.contains m then s1.startTimer (.lcasWtr e g m) (v.cfg.wtr * ticksPerSecond)
    else s1.vcatConds e g

/-- The members of every group, from the state after the arrivals. -/
def State.vcatStates (s : State) : State :=
  s.each (s.vcats.filter fun v => decide (v.2.cfg.vtype ≠ 0)) fun s x =>
    s.each (List.range x.2.cfg.members.length) fun s m => s.memberState (x.1 / 64) (x.1 % 64) m

def State.lcasHoldoffExpiry (s : State) (e g m : Nat) : State :=
  if ¬ s.timerDue (.lcasHoldoff e g m) then s
  else
    let v := s.vcat (engKey e g)
    (s.stopTimer (.lcasHoldoff e g m)).lcasChange e g (v.inUse.filter fun x => decide (x ≠ m))

def State.lcasWtrExpiry (s : State) (e g m : Nat) : State :=
  if ¬ s.timerDue (.lcasWtr e g m) then s
  else
    let v := s.vcat (engKey e g)
    (s.stopTimer (.lcasWtr e g m)).lcasChange e g (sortBy id (v.inUse ++ [m]))

/-! ### PKT_FLOW_CFG (R223, R224, R244) -/

def State.ethPortOk (s : State) (p : Nat) : Bool := s.portOk p && s.isEth p

/-- CH_REF and CH_INDEX of Table 09-1 for an engine's region; a VCAT group is the engine's, when named. -/
def State.chanRefOk (s : State) (region engine kind index ref : Nat) : Bool :=
  if kind = 1 then s.alfPortOk ref && decide (regionOf ref = region)
  else if kind = 2 then
    decide (ref < groupsBonding) && !(s.bondMembers ref).isEmpty && decide (regionOf (s.bundlePort ref) = region)
  else if kind = 3 then
    let c := (s.odu (oduKey ref index)).cfg
    s.portOk ref && s.isOtn ref && decide (c.otype ≠ 0 ∧ c.mode = 1 ∧ c.ptExp = 5)
  else decide (ref < 64) && (decide (engine = 0xFF) || decide ((s.vcat (engKey engine ref)).staged.vtype ≠ 0))

/-- Flows configured or staged on a channel: engine and flow. -/
def State.flowsOn (s : State) (kind ref index : Nat) : List (Nat × Nat × FlowCfg) :=
  s.flows.flatMap fun x =>
    if x.2.staged.on kind ref index then [(x.1 / 64, x.1 % 64, x.2.staged)] else []

/-- Another flow shares the channel; a VCAT group's channel is its engine's alone. -/
def State.sharers (s : State) (bs : List Byte) : List (Nat × Nat × FlowCfg) :=
  (s.flowsOn (fieldAt bs 3 1) (fieldAt bs 4 1) (fieldAt bs 5 1)).filter fun x =>
    decide (¬ (x.1 = fieldAt bs 0 1 ∧ x.2.1 = fieldAt bs 1 1)) &&
    (decide (fieldAt bs 3 1 ≠ 4) || decide (x.1 = fieldAt bs 0 1))

def State.flowFault (s : State) (bs : List Byte) : Option Nat :=
  let e := fieldAt bs 0 1
  let kind := fieldAt bs 3 1
  let p := fieldAt bs 2 1
  let others := s.sharers bs
  if kind = 0 then
    layoutFault bs 16 [below 0 1 8,
      such 1 1 (fun f => decide (f < 64) && decide ((s.flow (engKey e f)).staged.chKind ≠ 0)), such 2 1 s.ethPortOk,
      rsv 13 3]
  else
    layoutFault bs 16 [
      such 0 1 (fun e => (decide (e = 0xFF) || decide (e < 8 ∧ engineRegion e = regionOf p)) &&
        (decide (e = 0xFF) || others.all fun x => decide (x.1 = e))),
      such 1 1 (fun f => decide (f < 64 ∨ f = 0xFF)), such 2 1 s.ethPortOk, below 3 1 5,
      such 4 1 (s.chanRefOk (regionOf p) e kind (fieldAt bs 5 1)),
      such 5 1 (fun v => decide (kind = 3 ∨ v = 0)),
      such 6 1 (fun c => others.all fun x => decide (x.2.2.cid ≠ c)), within 7 1 1 255, within 8 2 1 4096,
      such 12 1 (fun v => decide (v < 4) && (others.isEmpty || (v.testBit 0 &&
        others.all fun x => x.2.2.flags.testBit 0))), rsv 13 3]

def flowCfgOf (bs : List Byte) : FlowCfg :=
  { ethPort := fieldAt bs 2 1, chKind := fieldAt bs 3 1, chRef := fieldAt bs 4 1, chIndex := fieldAt bs 5 1,
    cid := fieldAt bs 6 1, weight := fieldAt bs 7 1, quota := fieldAt bs 8 2, maxAge := fieldAt bs 10 2,
    flags := fieldAt bs 12 1 }

/-- Bandwidth of an engine held by others than an owner, in Gb/s (R224). -/
def State.engineFree (s : State) (e owner : Nat) : Nat := 100 - s.usedBut rPKT_ENGINE_BW e owner

/-- R224: the engine of a flow. -/
def State.flowEngine (s : State) (bs : List Byte) : Nat :=
  let named := fieldAt bs 0 1
  let lo := 2 * regionOf (fieldAt bs 2 1)
  match s.flowsOn (fieldAt bs 3 1) (fieldAt bs 4 1) (fieldAt bs 5 1) with
  | (e, _) :: _ => if named = 0xFF then e else named
  | [] => if named ≠ 0xFF then named
    else if s.used rPKT_ENGINE_BW (lo + 1) < s.used rPKT_ENGINE_BW lo then lo + 1 else lo

/-- The lowest flow of an engine neither in force nor staged. -/
def State.lowestFlow (s : State) (e : Nat) : Option Nat :=
  (List.range 64).find? fun f =>
    decide ((s.flow (engKey e f)).cfg.chKind = 0 ∧ (s.flow (engKey e f)).staged.chKind = 0)

/-- Row 9: engine and flow chosen, pages and bandwidth reserved; the reply names both. -/
def State.flowAdmit (s : State) (p : Packet) : Verdict :=
  let bs := p.payload
  let e := s.flowEngine bs
  let new := flowCfgOf bs
  let f := if fieldAt bs 1 1 = 0xFF then s.lowestFlow e else some (fieldAt bs 1 1)
  match f with
  | none => .noRes [⟨rFLOWS, e, 1, 0⟩]
  | some f =>
    let k := engKey e f
    let own := ownFlow k
    let tag := some (p.master, p.seq.toNat)
    if new.chKind = 0 then
      .accept (s.updFlow k fun x => { x with staged := {} }) (beBytes 1 e ++ beBytes 1 f)
    else
      let gb := ethGbps (s.rate new.ethPort)
      let free := s.engineFree e own
      let short := (if gb ≤ free then [] else [⟨rPKT_ENGINE_BW, engineRegion e, gb, free⟩]) ++
        s.shortOf rPKT_BUFFER_PAGES 0 new.quota own
      if short ≠ [] then .noRes short
      else .accept (((s.updFlow k fun x => { x with staged := new }).reserve rPKT_BUFFER_PAGES 0 new.quota own
        tag).reserve rPKT_ENGINE_BW e gb own tag) (beBytes 1 e ++ beBytes 1 f)

/-- Channels without a flow end; a flow on no channel opens the lowest free one. -/
def State.settleChans (s : State) (e f : Nat) : State :=
  let s1 := s.each (List.range 64) fun s n =>
    if (s.chan (engKey e n)).kind ≠ 0 ∧ s.chanFlows e n = [] then s.updChan (engKey e n) fun _ => {} else s
  let c := (s1.flow (engKey e f)).cfg
  if c.chKind = 0 ∨ (s1.chanOf e f).isSome then s1
  else match (List.range 64).find? fun n => decide ((s1.chan (engKey e n)).kind = 0) with
    | some n => s1.updChan (engKey e n) fun _ => { kind := c.chKind, ref := c.chRef, index := c.chIndex }
    | none => s1

/-- The flip of a flow: a removal discards its queue and releases its pages (R244). -/
def State.flipFlow (s : State) (e f : Nat) (tag : Option (Nat × Nat)) : State :=
  let s := s.reissued (srcEngine e) f
  let k := engKey e f
  let x := s.flow k
  let own := ownFlow k
  let s1 := if x.staged.chKind = 0 then
      let s2 := (s.releaseUnits rPKT_BUFFER_PAGES own).releaseUnits rPKT_ENGINE_BW own
      (s2.cond (condFlow e f dGFP_CSF) false).updFlow k fun _ => {}
    else
      ((s.commitUnits rPKT_BUFFER_PAGES own tag).commitUnits rPKT_ENGINE_BW own tag).updFlow k fun x =>
        { x with cfg := x.staged }
  (s1.settleChans e f).drainEval e

/-- Execution: the payload names the engine and flow chosen at acceptance. -/
def State.flowRun (s : State) (p : Packet) : Done :=
  let e := fieldAt p.payload 0 1
  let f := fieldAt p.payload 1 1
  okWith (s.flipFlow e f (some (p.master, p.seq.toNat))) (beBytes 1 e ++ beBytes 1 f)

/-! ### PKT_VLAN_CFG (R230) -/

/-- The engine of a VLAN entry: the one of the port's region that holds the flow for the port. -/
def State.vlanEngine (s : State) (p f : Nat) : Option Nat :=
  let lo := 2 * regionOf p
  if f = 0xFF then some lo
  else [lo, lo + 1].find? fun e =>
    let x := (s.flow (engKey e f)).staged
    decide (f < 64 ∧ x.chKind ≠ 0 ∧ x.ethPort = p)

def State.vlanFault (s : State) (bs : List Byte) : Option Nat :=
  let n := max 1 (min 500 (bs.length / 4))
  layoutFault bs (4 * n) ((List.range n).flatMap fun i =>
    [such (4 * i) 1 s.ethPortOk, below (4 * i + 1) 2 4096,
     such (4 * i + 3) 1 fun f => (s.vlanEngine (fieldAt bs (4 * i) 1) f).isSome])

/-- Entries of a PKT_VLAN_CFG: key and value. -/
def State.vlanEntries (s : State) (bs : List Byte) : List (Nat × Nat) :=
  (List.range (bs.length / 4)).map fun i =>
    let p := fieldAt bs (4 * i) 1
    let f := fieldAt bs (4 * i + 3) 1
    (vlanKey p (fieldAt bs (4 * i + 1) 2), (s.vlanEngine p f).getD 0 * 256 + f)

/-- Entries of an engine in a table. -/
def vlanCount (t : Tbl Nat) (e : Nat) : Nat := (t.filter fun x => decide (x.2 / 256 = e)).length

/-- Row 9: each engine's table has 4,096 entries. -/
def State.vlanAdmit (s : State) (p : Packet) : Verdict :=
  let t := (s.vlanEntries p.payload).foldl (fun t x => t.put x.1 x.2) s.vlansStaged
  match (List.range 8).find? fun e => decide (4096 < vlanCount t e) with
  | some e => .noRes [⟨rFLOWS, e, vlanCount t e, 4096⟩]
  | none => .accept { s with vlansStaged := t }

/-- The flip of the VLAN entries of the ports named. -/
def State.flipVlans (s : State) (ports : List Nat) : State :=
  let named := fun (x : Nat × Nat) => ports.contains (x.1 / 4096)
  { s with vlans := (s.vlansStaged.filter named).foldl (fun t x => t.put x.1 x.2) s.vlans }

def State.vlanRun (s : State) (p : Packet) : Done :=
  okDone (s.flipVlans ((List.range (p.payload.length / 4)).map fun i => fieldAt p.payload (4 * i) 1).eraseDups)

/-! ### PKT_VCAT_CFG (R228) -/

/-- ENGINE, GROUP, TYPE (0 remove, 1 VC-3, 2 VC-4), LCAS, MAX_DIFF (2), HOLDOFF (100 ms), reserved, LCAS_WTR
(2), COUNT (2), then PORT and HEAD of each member. The manual gives no layout. Notes: assumption 11. -/
def State.vcatFault (s : State) (bs : List Byte) : Option Nat :=
  let t := fieldAt bs 2 1
  let n := fieldAt bs 10 2
  let member := fun i => fieldAt bs (12 + 2 * i) 2
  let pathFits := fun m =>
    let c := (s.path m).staged
    decide (c.mode = 1 ∧ c.ptype = t)
  layoutFault bs (12 + 2 * n) ([below 0 1 8, below 1 1 64, below 2 1 3, below 3 1 2,
    such 4 2 (fun v => decide (t = 0) || decide (1 ≤ v ∧ v ≤ 16000)), below 6 1 101, rsv 7 1, below 8 2 721,
    such 10 2 (fun v => if t = 0 then decide (v = 0) else decide (1 ≤ v ∧ v ≤ 256))] ++
    (List.range (min n 256)).flatMap fun i =>
      [such (12 + 2 * i) 1 s.stmPortOk,
       such (12 + 2 * i) 2 fun m => !s.stmPortOk (m / 256) ||
        (pathFits m && ((List.range i).all fun j => decide (member j ≠ m)))])

def vcatCfgOf (bs : List Byte) : VcatCfg :=
  { vtype := fieldAt bs 2 1, lcas := decide (fieldAt bs 3 1 = 1), maxDiff := fieldAt bs 4 2,
    holdoff := fieldAt bs 6 1, wtr := fieldAt bs 8 2,
    members := (List.range (fieldAt bs 10 2)).map fun i => fieldAt bs (12 + 2 * i) 2 }

/-- Delay store pages of a group (R228). -/
def vcatPages (c : VcatCfg) : Nat :=
  if c.vtype = 0 then 0 else ceilDiv (c.members.length * vcKbps c.vtype * c.maxDiff) (1000 * 32768) + 16

def State.vcatAdmit (s : State) (p : Packet) : Verdict :=
  let bs := p.payload
  let e := fieldAt bs 0 1
  let k := engKey e (fieldAt bs 1 1)
  let new := vcatCfgOf bs
  let own := ownVcat k
  let tag := some (p.master, p.seq.toNat)
  let short := s.shortOf rVCAT_MEMBERS e new.members.length own ++ s.shortOf rDELAY_PAGES 0 (vcatPages new) own
  if short ≠ [] then .noRes short
  else .accept (((s.updVcat k fun x => { x with staged := new }).reserve rVCAT_MEMBERS e new.members.length own
    tag).reserve rDELAY_PAGES 0 (vcatPages new) own tag)

/-- The flip of a group: the members not in signal fail are in use. -/
def State.flipVcat (s : State) (e g : Nat) (tag : Option (Nat × Nat)) : State :=
  let k := engKey e g
  let own := ownVcat k
  let x := s.vcat k
  let s0 := { s with timers := s.timers.filter fun t => match t.kind with
    | .lcasHoldoff a b _ => decide (¬ (a = e ∧ b = g))
    | .lcasWtr a b _ => decide (¬ (a = e ∧ b = g))
    | _ => true }
  if x.staged.vtype = 0 then
    ((((s0.releaseUnits rVCAT_MEMBERS own).releaseUnits rDELAY_PAGES own).cond (condVcat e g dTLCR) false).cond
      (condVcat e g dPLCR) false).updVcat k fun _ => {}
  else
    let bad := (List.range x.staged.members.length).filter fun m => s.memberFails (x.staged.members.getD m 0)
    let good := (List.range x.staged.members.length).filter fun m => !bad.contains m
    (((s0.commitUnits rVCAT_MEMBERS own tag).commitUnits rDELAY_PAGES own tag).updVcat k fun y =>
      { cfg := y.staged, staged := y.staged, inUse := if y.staged.lcas then good
          else List.range y.staged.members.length, failed := bad }).vcatConds e g

def State.vcatRun (s : State) (p : Packet) : Done :=
  let e := fieldAt p.payload 0 1
  okDone ((s.flipVcat e (fieldAt p.payload 1 1) (some (p.master, p.seq.toNat))).drainEval e)

/-! ### PKT_FLOW_STATUS -/

/-- ENGINE, FLOW, 2 reserved bytes. Notes: assumption 11. -/
def State.flowStatusFault (s : State) (bs : List Byte) : Option Nat :=
  layoutFault bs 4 [below 0 1 8,
    such 1 1 (fun f => decide (f < 64) && decide ((s.flow (engKey (fieldAt bs 0 1) f)).cfg.chKind ≠ 0)), rsv 2 2]

/-- Fill of each priority in bytes (4 each), the channel's pause state (1), R in kb/s (4), and the defects
GFP_LFD, GFP_CSF, PLCR, TLCR (1). Notes: assumption 10. -/
def State.flowStatus (s : State) (p : Packet) : Verdict :=
  let e := fieldAt p.payload 0 1
  let f := fieldAt p.payload 1 1
  let x := s.flow (engKey e f)
  let n := (s.chanOf e f).getD 0
  let vc := decide (x.cfg.chKind = 4)
  let fills := (List.range 8).flatMap fun i =>
    beBytes 4 (queuedBytes (x.queue.filter fun b => decide (b.prio = i)))
  let defects := bit (s.has (condChan e n dGFP_LFD)) + 2 * bit (s.has (condFlow e f dGFP_CSF)) +
    4 * bit (vc && s.has (condVcat e x.cfg.chRef dPLCR)) + 8 * bit (vc && s.has (condVcat e x.cfg.chRef dTLCR))
  .answer stOK (fills ++ beBytes 1 (s.chan (engKey e n)).paused ++ beBytes 4 (s.chanRate e n) ++ beBytes 1 defects) s

/-! ### ETH_PORT_CFG -/

/-- PORT, 3 reserved bytes, ETH_CFG (4), ETH_FC (4), EGRESS_QUOTA (2), 2 reserved bytes. The manual gives no
layout. Notes: assumption 11. -/
def State.ethCfgFault (s : State) (bs : List Byte) : Option Nat :=
  layoutFault bs 16 [such 0 1 s.ethPortOk, rsv 1 3,
    such 4 4 (fun v => regBitsOk (ETH_CFG.key 0) v && decide (fieldOf ETH_CFG.FC_MODE v ≠ 3) &&
      decide (fieldOf ETH_CFG.TPID_SEL v ≠ 3) &&
      decide (64 ≤ fieldOf ETH_CFG.MTU v ∧ fieldOf ETH_CFG.MTU v ≤ 9600)),
    such 8 4 (regBitsOk (ETH_FC.key 0)), below 12 2 4097, rsv 14 2]

def State.ethCfgAdmit (s : State) (p : Packet) : Verdict :=
  let bs := p.payload
  let n := fieldAt bs 0 1
  let pages := fieldAt bs 12 2
  let short := s.shortOf rPKT_BUFFER_PAGES 0 pages (ownEth n)
  if short ≠ [] then .noRes short
  else .accept (((s.stageWords bs 4 [ETH_CFG.key n, ETH_FC.key n]).updEth n fun x =>
    { x with egressQuotaStaged := pages }).reserve rPKT_BUFFER_PAGES 0 pages (ownEth n)
      (some (p.master, p.seq.toNat)))

def State.flipEth (s : State) (p : Nat) (tag : Option (Nat × Nat)) : State :=
  let s1 := (s.flipRegs [ETH_CFG.key p, ETH_FC.key p]).updEth p fun x => { x with egressQuota := x.egressQuotaStaged }
  let s2 := if s1.on (ETH_CFG.key p) ETH_CFG.RX_FC_EN then s1
    else (s1.updEth p fun x => { x with held := [] }).showHeld p
  if (s2.eth p).egressQuota = 0 then s2.releaseUnits rPKT_BUFFER_PAGES (ownEth p)
  else s2.commitUnits rPKT_BUFFER_PAGES (ownEth p) tag

def State.ethCfgRun (s : State) (p : Packet) : Done :=
  okDone (s.flipEth (fieldAt p.payload 0 1) (some (p.master, p.seq.toNat)))

/-- FAULT_PROP: the port sends local fault while every channel of its flows is in signal fail (R238). -/
def State.flowFails (s : State) (e f : Nat) : Bool :=
  let x := s.flow (engKey e f)
  s.has (condChan e ((s.chanOf e f).getD 0) dGFP_LFD) || s.has (condFlow e f dGFP_CSF) ||
  (decide (x.cfg.chKind = 4) && s.has (condVcat e x.cfg.chRef dTLCR))

def State.sendsLocalFault (s : State) (p : Nat) : Bool :=
  s.on (ETH_CFG.key p) ETH_CFG.FAULT_PROP && !(s.portFlows p).isEmpty &&
  (s.portFlows p).all fun ef => s.flowFails ef.1 ef.2

/-! ### QUEUE_READ (R240) and SYS_QCFG (R242, R243) -/

def queueReadFault (bs : List Byte) : Option Nat := layoutFault bs 4 [below 0 1 7, rsv 1 1, within 2 2 1 500]

def State.queueReadAnswer (s : State) (p : Packet) : Verdict :=
  let r := s.removeWords (fieldAt p.payload 0 1) (fieldAt p.payload 2 2)
  .answer stOK (beBytes 2 r.1.length ++ [0, 0] ++ r.1.flatMap fun w => beBytes 8 w.toNat) r.2

/-- A pointer mismatch of a legacy queue (R243). -/
def State.ptrMismatch (s : State) (q : Nat) : State :=
  if ¬ s.on (SYS_QCFG.key q) SYS_QCFG.LEGACY then s
  else ((s.resetQueue q).put (SYS_QSTAT.key q) SYS_QSTAT.MISMATCH_HIST 1).event (queueSource q) 0x83 true q

end Sys2Proof.Machine
end

