-- ==== Sys2Proof/Machine/Grate.lean ====
section
/-! DEFINITION. The grate and the stoker's connections (10_grate_and_stoker): endpoints (R247, R255), placement
(R254, R259), compaction plans (R262), carriers (R256), CONNECT, DISCONNECT and CONN_READ (R257, R263), the
expert commands on runs and maps (R265) and STK_QUERY. -/

namespace Sys2Proof.Machine

/-! ### Owners of internal runs (R253) -/

/-- The owner word of a run the stoker uses itself: a KIND no endpoint has, and a number. -/
def internalWord (kind n : Nat) : BitVec 64 := BitVec.ofNat 64 (kind * 2 ^ 48 + n % 2 ^ 48)

def ownerKind (w : BitVec 64) : Nat := bitsOf w.toNat 48 8

def wCarrier (id : Nat) : BitVec 64 := internalWord 0x81 id
def wMove (id : Nat) : BitVec 64 := internalWord 0x82 id
/-- A container crossing to another region's mapper: the port's side 0, the mapper's side 1. -/
def wCross (k side : Nat) : BitVec 64 := internalWord 0x83 (k * 2 + side)
/-- A packet channel on an ODU: the ODU's side 0, the engine's side 1. -/
def wChan (k side : Nat) : BitVec 64 := internalWord 0x84 (k * 2 + side)

/-! ### When a command flips, in ticks -/

/-- The tick at which a command of the given key takes effect; a port frame counts as one tick. -/
def State.keyTick (s : State) (k : CalKey) : Nat :=
  match k with
  | .sfn e => s.dev.ticks + (e - s.time.sfn)
  | .port q n => s.dev.ticks + (if atOrBeyond (s.pfn q) n then 0 else (n + 2 ^ 32 - s.pfn q) % 2 ^ 32)

/-- The tick at which an arriving packet's command flips. -/
def State.dueTick (s : State) (p : Packet) : Nat :=
  match s.effective p with
  | .immediate => s.dev.ticks + 1
  | .scheduled k _ => max (s.dev.ticks + 1) (s.keyTick k)
  | .refused _ => s.dev.ticks + 1

/-! ### Endpoints (Table 10-3, R255) -/

/-- What an endpoint carries: its KIND, slot count and, for KIND 3, TYPE. -/
structure EpInfo where
  kind : Nat
  slots : Nat
  lo : Nat
  deriving DecidableEq, Repr

/-- The list entry of an ALF port or its bundle, in force or staged. -/
def State.slotEntry (s : State) (staged : Bool) (p id : Nat) : Option AlfTrib :=
  let l := match s.bondOf p with
    | some (g, _) => if s.bundlePort g = p then (if staged then (s.bond g).stagedList else (s.bond g).txList) else []
    | none => if staged then (s.alf p).staged else (s.alf p).list
  l.find? fun t => decide (t.id = id)

/-- The endpoint as configured in force, or staged: none when it is not, or is a path or an ODU in MODE 1. -/
def State.epInfo (s : State) (staged : Bool) (e : Ep) : Option EpInfo :=
  if e.kind = 1 then
    let x := s.path (pathKey e.port e.head)
    let c := if staged then x.staged else x.cfg
    if c.ptype ≠ 0 ∧ c.mode = 0 then some ⟨1, pathWidth c.ptype, 0⟩ else none
  else if e.kind = 2 then
    let x := s.odu (oduKey e.port e.index)
    let c := if staged then x.staged else x.cfg
    if c.otype ≠ 0 ∧ c.mode = 0 then some ⟨2, oduSlots c.otype c.flexRate, 0⟩ else none
  else if e.kind = 3 then
    let x := s.trib (tribNum e.port e.head e.ref)
    let c := if staged then x.staged else x.cfg
    if c.ttype ≠ 0 then some ⟨3, 1, c.ttype⟩ else none
  else
    match s.slotEntry staged e.port e.ref with
    | some t => if t.ttype = 3 then some ⟨4, t.count, 0⟩ else none
    | none => none

/-- The command configures the endpoint. -/
def State.configures (s : State) (p : Packet) (e : Ep) : Bool :=
  let b := fun i => p.fld i 1
  (decide (p.op = 0x12) && decide (e.kind = 1 ∧ b 0 = e.port ∧ b 1 = e.head)) ||
  (decide (p.op = 0x17) && decide (e.kind = 2 ∧ b 0 = e.port ∧ b 1 = e.index)) ||
  (decide (p.op = 0x1C) && decide (e.kind = 4 ∧ b 0 = e.port)) ||
  (decide (p.op = 0x21) && decide (e.kind = 4) && (s.bondOf e.port).any fun g => decide (g.1 = b 0)) ||
  (decide (p.op = 0x27) && decide (e.kind = 3 ∧ b 0 = e.port ∧ b 1 = e.head ∧ p.fld 2 2 = e.ref)) ||
  (decide (p.op = 0x07 ∧ b 0 = 0) && (resourcesOf p).contains (0x01, 0, e.port))

/-- An accepted command flips the endpoint's staged configuration at or before tick `t` (R255). -/
def State.flipsBy (s : State) (e : Ep) (t : Nat) : Bool :=
  (s.cmd.immediates.any fun x => s.configures x.packet e) ||
  s.cal.entries.any fun x => match x.action with
    | .host p => s.configures p e && decide (s.keyTick x.key ≤ t)
    | _ => false

/-- The endpoint counts as configured for a flip at tick `t` (R255). -/
def State.epDue (s : State) (e : Ep) (t : Nat) : Option EpInfo :=
  match s.epInfo false e with
  | some i => some i
  | none => if s.flipsBy e t then s.epInfo true e else none

/-- The two endpoints carry the same container (R255). -/
def EpInfo.meets (a b : EpInfo) : Bool :=
  decide (a.slots = b.slots ∧ a.lo = b.lo) && (decide (a.kind = b.kind) ||
    decide ((a.kind = 4 ∧ b.kind ≠ 3) ∨ (b.kind = 4 ∧ a.kind ≠ 3)))

/-- The layout of a descriptor at an offset (Table 10-3). -/
def State.epFields (s : State) (bs : List Byte) (off : Nat) : List LField :=
  let k := fieldAt bs (off + 1) 1
  [such off 1 s.portOk, within (off + 1) 1 1 4,
   such (off + 2) 1 (fun h => if k = 2 then decide (h = 0)
     else if k = 4 ∨ (k = 3 ∧ s.isAlf (fieldAt bs off 1)) then decide (h = 0xFF) else true),
   such (off + 3) 1 (fun i => if k = 2 then decide (i ≤ 80) else decide (i = 0)),
   such (off + 4) 2 (fun r => decide (k = 3 ∨ k = 4 ∨ r = 0)), rsv (off + 6) 2]

/-- The endpoint's run, reserved or in force. -/
def State.runOf (s : State) (w : BitVec 64) : Option Run := (s.runsOf w).head?

/-- The endpoints that send into an endpoint, by the connections in force or reserved. -/
def Conn.receivers (c : Conn) : List (BitVec 64) :=
  (if c.dir = 0 then [c.a] else []) ++ [c.b] ++ (if c.prot = 1 then [c.b2] else []) ++ c.sinks.map Sink.ep

/-- The endpoint already has a source for its egress: a connection's, or an expert map entry's. -/
def State.sourced (s : State) (w : BitVec 64) : Bool :=
  (s.liveConns.any fun c => c.2.receivers.contains w) ||
  (s.runsOf w).any fun r => r.hostOwned && (s.grate.egress.find r.start).any fun e => e.valid

/-- Sinks of an endpoint's ingress half: connections in force or reserved, and expert map entries (R250). -/
def State.sinkCount (s : State) (w : BitVec 64) : Nat :=
  ((s.liveConns.map fun c =>
    (if c.2.a = w then 1 + c.2.sinks.length + c.2.prot else 0) + bit (decide (c.2.dir = 0 ∧ c.2.b = w)) +
    bit (decide (c.2.prot = 1 ∧ c.2.b2 = w))).sum) +
  match s.runOf w with
  | some r => (s.grate.egress.filter fun e =>
      e.2.hostOwned && decide (e.2.connId = 0xFFFF) && (decide (e.2.src = r.start) || decide (e.2.src2 = r.start))).length
  | none => 0

/-! ### Plans (R262) -/

/-- A run the stoker may move. -/
def State.movable (s : State) (r : Run) : Bool :=
  r.tag.isNone && r.freeAt.isNone && !r.hostOwned && !r.moving && decide (ownerKind r.owner ≠ 0x82) &&
  (!s.grate.moves.any fun m => decide (m.2.old = r.start)) &&
  !s.grate.retired.any fun x => decide (r.start ≤ x ∧ x < r.start + r.len)

/-- The lowest start below a run at which it fits. -/
def lowerFit (gs : List (Nat × Nat)) (start len : Nat) : Option Nat :=
  (gs.find? fun g => decide (len ≤ g.2 ∧ g.1 + len ≤ start)).map Prod.fst

/-- grt_compact on local intervals: the plan as old start, new start and length. -/
def compact (need : Nat) (occ : List (Nat × Nat)) : List (Nat × Nat) → List (Nat × Nat × Nat)
  | [] => []
  | (a, l) :: rs =>
    let gs := gaps sliceSlots 0 occ
    if 0 < need ∧ need ≤ largestOf gs then []
    else match lowerFit gs a l with
      | none => compact need occ rs
      | some t =>
        (a, t, l) :: compact need (sortBy Prod.fst ((t, l) :: occ.filter fun x => decide (x ≠ (a, l)))) rs

/-- The plan of a slice as it would stand after the moves already planned. -/
def State.planOf (s : State) (slice need : Nat) : List (Nat × Nat × Nat) :=
  let rs := (s.grate.runs.filter fun r => decide (r.start / sliceSlots = slice) && s.movable r).map fun r =>
    (r.start % sliceSlots, r.len)
  compact need (s.occupied slice s.dev.ticks true) (sortBy Prod.fst rs)

/-- A move is planned: its target is taken from now on. -/
def State.planMove (s : State) (slice old new len : Nat) (retire : Bool) : State :=
  let id := s.grate.nextMove
  let base := slice * sliceSlots
  let s1 := s.addRun { start := base + new, len := len, owner := wMove id }
  { s1 with grate := { s1.grate with
      nextMove := id + 1
      moves := s1.grate.moves.put id
        { slice := slice, old := base + old, new := base + new, len := len, retire := retire } } }

def State.planAll (s : State) (slice : Nat) (plan : List (Nat × Nat × Nat)) : State :=
  s.each plan fun s m => s.planMove slice m.1 m.2.1 m.2.2 false

/-- Moves of a slice's compaction plan that are not released. -/
def State.planRuns (s : State) (slice : Nat) : Bool :=
  s.grate.moves.any fun m => decide (m.2.slice = slice) && !m.2.retire

/-- MOVES of a slice, 0 acting as 1 (Table 10-13). -/
def State.movesPerTick (s : State) (slice : Nat) : Nat :=
  max 1 (s.get (GRT_SLICE_CFG.key slice) GRT_SLICE_CFG.MOVES)

/-- The start tick of each planned move in turn, when nothing makes it wait (R261, R262). -/
def startTicks (limit : Nat) : List Move → List (Move × Nat) → Nat → List (Move × Nat)
  | [], done, _ => done
  | m :: ms, done, first =>
    let deps := done.filter fun d => decide (m.new < d.1.old + d.1.len ∧ d.1.old < m.new + m.len)
    let t := (deps.map fun d => d.2 + 3).foldl max first
    let t' := if limit ≤ (done.filter fun d => decide (d.2 = t)).length then t + 1 else t
    startTicks limit ms (done ++ [(m, (m.start).getD t')]) (max first ((m.start).getD t'))

/-- The tick of the last release of a slice's moves. -/
def State.lastRelease (s : State) (slice : Nat) : Nat :=
  let ms := (s.grate.moves.filter fun m => decide (m.2.slice = slice)).map Prod.snd
  ((startTicks (s.movesPerTick slice) ms [] (s.dev.ticks + 1)).map fun x => x.2 + 2).foldl max 0

/-! ### Placement (R252, R254, R259) -/

/-- A run to place: owner, slice, length. -/
structure Need where
  owner : BitVec 64
  slice : Nat
  len : Nat
  deriving DecidableEq, Repr

def State.reserveOf (s : State) (slice : Nat) : Nat := s.get (GRT_SLICE_CFG.key slice) GRT_SLICE_CFG.RESERVE

/-- Slices without slots enough for a request. -/
def State.slotShorts (s : State) (t : Nat) (needs : List Need) : List Short :=
  (List.range 4).flatMap fun n =>
    let total := ((needs.filter fun x => decide (x.slice = n)).map Need.len).sum
    let free := s.freeSlots n t
    if total = 0 ∨ total + s.reserveOf n ≤ free then [] else [⟨rGRATE_SLOTS, n, total, free - s.reserveOf n⟩]

/-- One run placed by best fit, or after a plan of compaction where AUTO_DEFRAG allows it (R263). -/
def State.placeOne (s : State) (t : Nat) (tag : Option (Nat × Nat)) (x : Need) : List Short × State :=
  let put := fun (s : State) (a : Nat) =>
    s.addRun { start := x.slice * sliceSlots + a, len := x.len, owner := x.owner, tag := tag }
  match bestFit x.len (s.freeRuns x.slice t) with
  | some (a, _) => ([], put s a)
  | none =>
    let short : List Short := [⟨rGRATE_RUN, x.slice, x.len, s.largestRun x.slice t⟩]
    if s.on (GRT_SLICE_CFG.key x.slice) GRT_SLICE_CFG.AUTO_DEFRAG then
      let s1 := s.planAll x.slice (s.planOf x.slice x.len)
      match bestFit x.len (gaps sliceSlots 0 (s1.occupied x.slice t true)) with
      | some (a, _) => ([], put s1 a)
      | none => (short, s)
    else (short, s)

/-- Every run of a request, or the shortages. -/
def State.placeAll (s : State) (t : Nat) (tag : Option (Nat × Nat)) (needs : List Need) : List Short × State :=
  let slots := s.slotShorts t needs
  if slots ≠ [] then (slots, s)
  else needs.foldl (fun a x =>
    let r := a.2.placeOne t tag x
    (a.1 ++ r.1, r.2)) ([], s)

/-! ### Carriers (R200, R256) -/

def State.tribPos (s : State) (e : Ep) : Nat := (s.trib (tribNum e.port e.head e.ref)).mapper

/-- Carrier slots in use at a mapper position. -/
def State.carriersAt (s : State) (pos : Nat) : Nat :=
  (s.grate.carriers.map fun c => bit (decide (c.posA = pos)) + bit (decide (c.posB = pos))).sum

/-- The lowest free TU of a TUG-2 of type `t` in a pair, as L × 4 + (M - 1); type 0 stands for any unused one. -/
def CarrierPair.freeTu (c : CarrierPair) (want t : Nat) : Option Nat :=
  ((List.range 7).flatMap fun i => (List.range (tugTus t)).map fun m => (i + 1) * 4 + m).find? fun u =>
    decide (c.types.getD (u / 4 - 1) 0 = want) && !c.tus.contains u

/-- A TU of the pair is taken. -/
def State.takeTu (s : State) (id u t : Nat) : State :=
  { s with grate := { s.grate with carriers := s.grate.carriers.map fun c =>
      if c.id = id then { c with types := c.types.set (u / 4 - 1) t, tus := c.tus ++ [u] } else c } }

/-- The first pair, by slot, for which a rule yields a TU. -/
def firstTu (cs : List CarrierPair) (want t : Nat) : Option (Nat × Nat) :=
  cs.findSome? fun c => (c.freeTu want t).map fun u => (c.id, u)

/-- R256: the pair and TU of a tributary connection between two mapper positions. -/
def State.carrierFor (s : State) (due t posA posB : Nat) (tag : Option (Nat × Nat)) :
    List Short × State × Option (Nat × Nat) :=
  let cs := sortBy CarrierPair.slotA (s.grate.carriers.filter fun c =>
    decide ((c.posA = posA ∧ c.posB = posB) ∨ (c.posA = posB ∧ c.posB = posA)))
  match firstTu cs t t, firstTu cs 0 t with
  | some x, _ => ([], s.takeTu x.1 x.2 t, some x)
  | none, some x => ([], s.takeTu x.1 x.2 t, some x)
  | none, none =>
    let more := fun pos => 1 + bit (decide (posA = posB ∧ pos = posB))
    let full := ([posA, posB].eraseDups).flatMap fun pos =>
      if s.carriersAt pos + more pos ≤ 96 then []
      else ([⟨rMAPPER_CARRIERS, pos, more pos, 96 - s.carriersAt pos⟩] : List Short)
    let id := s.grate.nextPair
    let r := s.placeAll due tag [⟨wCarrier id, posA / 4, 1⟩, ⟨wCarrier id, posB / 4, 1⟩]
    let shorts := full ++ r.1
    if shorts ≠ [] then (shorts, s, none)
    else
      let slots := (r.2.runsOf (wCarrier id)).map Run.start
      let pair : CarrierPair := { id := id, posA := posA, posB := posB, slotA := slots.getD 0 0,
                                  slotB := slots.getD 1 0, types := [t, 0, 0, 0, 0, 0, 0], tus := [4] }
      let runs := r.2.grate.runs.map fun x => if x.owner = wCarrier id then { x with tag := none } else x
      ([], { r.2 with grate := { r.2.grate with carriers := r.2.grate.carriers ++ [pair], nextPair := id + 1,
                                                runs := runs } }, some (id, 4))

/-- The CARRIER word of a tributary's side of a pair (Table 08-9). -/
def State.carrierWord (s : State) (x : Option (Nat × Nat)) (pos t : Nat) : Nat :=
  match x with
  | none => 0
  | some (id, u) =>
    match s.grate.carriers.find? fun c => decide (c.id = id) with
    | none => 0
    | some c =>
      let here := decide (c.posA = pos)
      let slot := if here then c.slotA else c.slotB
      let peer := if here then c.posB else c.posA
      slot * 2 ^ 16 + (u / 4) * 2 ^ 13 + (u % 4) * 2 ^ 11 + s.physOf (24 + peer) * 2 ^ 6 + t * 2 ^ 4

/-! ### CONNECT (R255, R257, R263) -/

/-- The group KINDs that the endpoints of a protected connection imply (Table 12-1). -/
def groupKinds (k : Nat) : List Nat := if k = 3 then [3] else if k = 2 then [4, 5] else [2]

def groupCount (kind : Nat) : Nat := [0, 48, 4096, 16384, 256, 256].getD kind 0

/-- The group exists or is reserved by a connection. -/
def State.groupTaken (s : State) (g : Nat) : Bool :=
  (s.prot.groups.find g).isSome || s.liveConns.any fun c => decide (c.2.prot = 1 ∧ c.2.pgroup = g)

/-- PGROUP 0: the lowest free INDEX of the implied kind; ODU kinds share their indices. -/
def State.freeGroup (s : State) (kind : Nat) : Option Nat :=
  ((List.range (groupCount kind)).find? fun i =>
    (if kind = 4 then [4, 5] else [kind]).all fun k => !s.groupTaken (k * 2 ^ 24 + i)).map fun i => kind * 2 ^ 24 + i

def State.connectFault (s : State) (bs : List Byte) : Option Nat :=
  let prot := fieldAt bs 25 1
  let k := fieldAt bs 1 1
  let pgOk := fun g => if prot = 0 then decide (g = 0)
    else decide (g = 0) || ((groupKinds k).contains (g / 2 ^ 24) && decide (bitsOf g 16 8 = 0) &&
      decide (g % 65536 < groupCount (g / 2 ^ 24)))
  layoutFault bs 32 (s.epFields bs 0 ++ s.epFields bs 8 ++
    [such 8 8 (fun v => decide (v ≠ fieldAt bs 0 8)),
     such 16 8 (fun v => if prot = 1 then decide (v ≠ fieldAt bs 0 8 ∧ v ≠ fieldAt bs 8 8) else decide (v = 0))] ++
    (if prot = 1 then s.epFields bs 16 else []) ++
    [below 24 1 3, such 25 1 (fun v => decide (v < 2 ∧ (v = 1 → fieldAt bs 24 1 = 0))), rsv 26 2, such 28 4 pgOk])

/-- The endpoints' configuration, or the offset of the first field that breaks R255. -/
def connCheck (look : Ep → Option EpInfo) (bs : List Byte) : Option Nat :=
  let a := epAt bs 0
  let b := epAt bs 8
  let b2 := epAt bs 16
  match look a, look b with
  | none, _ => some 0
  | _, none => some 8
  | some ia, some ib =>
    if !ia.meets ib then some 8
    else if fieldAt bs 25 1 = 0 then none
    else match look b2 with
      | none => some 16
      | some i2 => if ia.meets i2 then none else some 16

/-- Runs that the endpoints still need. -/
def State.connNeeds (s : State) (bs : List Byte) (slots : Nat) : List Need :=
  ([0, 8] ++ if fieldAt bs 25 1 = 1 then [16] else []).flatMap fun off =>
    let e := epAt bs off
    if (s.runOf (epWord e)).isSome then [] else [⟨epWord e, regionOf e.port, slots⟩]

/-- Sinks short at an ingress half (R250). -/
def State.sinkShort (s : State) (w : BitVec 64) (more : Nat) : List Short :=
  let used := s.sinkCount w
  if used + more ≤ 16 then [] else [⟨rGRATE_SINKS, regionOf (epOfWord w).port, more, 16 - used⟩]

/-- The connection of DIR 2 whose A is named. -/
def State.connOfA (s : State) (w : BitVec 64) : Option (Nat × Conn) :=
  s.liveConns.find? fun c => decide (c.2.a = w ∧ c.2.prot = 0)

/-- The carriers of a low-order connection: A to B, and A to B2. -/
def State.connCarriers (s : State) (bs : List Byte) (due t : Nat) (tag : Option (Nat × Nat)) :
    List Short × State × Option (Nat × Nat) × Option (Nat × Nat) :=
  let pos := fun off => s.tribPos (epAt bs off)
  let r := s.carrierFor due t (pos 0) (pos 8) tag
  if fieldAt bs 25 1 = 0 then (r.1, r.2.1, r.2.2, none)
  else
    let q := r.2.1.carrierFor due t (pos 0) (pos 16) tag
    (r.1 ++ q.1, q.2.1, r.2.2, q.2.2)

/-- Everything a CONNECT reserves (R252): runs or carriers, sinks, the record. -/
def State.connReserve (s : State) (p : Packet) (i : EpInfo) : List Short × State × Option (Nat × Nat) × Option (Nat × Nat) :=
  let bs := p.payload
  let due := s.dueTick p
  let tag := some (p.master, p.seq.toNat)
  let wa := epWord (epAt bs 0)
  let dir := fieldAt bs 24 1
  let prot := fieldAt bs 25 1
  let sinks := if i.kind = 3 then [] else s.sinkShort wa (1 + prot) ++
    (if dir = 0 then s.sinkShort (epWord (epAt bs 8)) 1 else []) ++
    (if prot = 1 then s.sinkShort (epWord (epAt bs 16)) 1 else [])
  let r := if i.kind = 3 then s.connCarriers bs due i.lo tag
    else
      let x := s.placeAll due tag (s.connNeeds bs i.slots)
      (x.1, x.2, none, none)
  (sinks ++ r.1, r.2)

/-- The SFN of a tick to come. -/
def State.sfnOf (s : State) (t : Nat) : Nat := s.time.sfn + (t - s.dev.ticks)

/-- The flip waits for the last release of the plans it needs (R263). -/
def State.flipAfterPlan (s : State) (s1 : State) (due : Nat) : Nat :=
  if s1.grate.nextMove = s.grate.nextMove then due
  else ((List.range 4).map fun n => if s1.planRuns n then s1.lastRelease n + 1 else 0).foldl max due

/-- The RUN field of an end (Table 10-5). -/
def State.runWord (s : State) (w : BitVec 64) : Nat :=
  match s.runOf w with
  | some r => if ownerKind w = 3 then 0 else r.start * 2 ^ 16 + r.len * 2 ^ 4
  | none => 0

/-- Tributary slots of an ODU endpoint at index 1 or more. -/
def State.tsField (s : State) (c : Conn) : List Byte :=
  match [c.a, c.b].find? fun w => decide ((epOfWord w).kind = 2 ∧ (epOfWord w).index ≠ 0) with
  | some w => mapOfTs (s.odu (oduKey (epOfWord w).port (epOfWord w).index)).cfg.ts
  | none => List.replicate 10 0

/-- Table 10-5. -/
def State.connBytes (s : State) (id : Nat) : List Byte :=
  match s.grate.conns.find id with
  | none => []
  | some c =>
    let moving := c.endpoints.any fun w => (s.runsOf w).any fun r => r.moving
    let st := if c.inForce then (if moving then 2 else 1) else 0
    let e := epOfWord c.a
    let t := (s.trib (tribNum e.port e.head e.ref)).staged.ttype
    let car := fun w => if ownerKind w = 3 then s.carrierWord c.pair (s.tribPos (epOfWord w)) t else 0
    beBytes 2 id ++ beBytes 1 st ++ [0] ++ beBytes 6 (c.effSfn.getD (s.sfnOf c.eff)) ++ [0, 0] ++ beBytes 4 (s.runWord c.a) ++
    beBytes 4 (s.runWord c.b) ++ beBytes 4 (if c.prot = 1 then s.runWord c.b2 else 0) ++ beBytes 4 (car c.a) ++
    beBytes 4 (car c.b) ++ s.tsField c ++ [0, 0]

/-- Row 9 of CONNECT for a new connection. -/
def State.connectNew (s : State) (p : Packet) (i : EpInfo) (group : Nat) : Verdict :=
  let bs := p.payload
  let due := s.dueTick p
  let tag := some (p.master, p.seq.toNat)
  match s.grate.conns.lowestFree 40960 with
  | none => .noRes [⟨rCONN_RECORDS, 0, 1, 0⟩]
  | some id =>
    let r := s.connReserve p i
    let eff := s.flipAfterPlan r.2.1 due
    let c : Conn := { a := epWord (epAt bs 0), b := epWord (epAt bs 8), b2 := epWord (epAt bs 16),
                      dir := fieldAt bs 24 1, prot := fieldAt bs 25 1, pgroup := group, eff := eff,
                      deferred := decide (due < eff), pair := r.2.2.1, pair2 := r.2.2.2, tag := tag }
    let s1 := { r.2.1 with grate := { r.2.1.grate with conns := r.2.1.grate.conns.put id c } }
    let short := r.1 ++ contextShort s s1
    if short ≠ [] then .noRes short else .accept s1 (s1.connBytes id)

/-- Row 9 of CONNECT with DIR 2: B becomes a further sink. -/
def State.connectSink (s : State) (p : Packet) (i : EpInfo) : Verdict :=
  let bs := p.payload
  let wa := epWord (epAt bs 0)
  match s.connOfA wa with
  | none => .bad 0
  | some (id, c) =>
    let r := s.connReserve p i
    let x : Sink := { ep := epWord (epAt bs 8), pair := r.2.2.1, tag := some (p.master, p.seq.toNat) }
    let c1 : Conn := { c with sinks := c.sinks ++ [x] }
    let s1 : State := { r.2.1 with grate := { r.2.1.grate with conns := r.2.1.grate.conns.put id c1 } }
    if r.1 ≠ [] then .noRes r.1 else .accept s1 (s1.connBytes id)

/-- Row 9 of CONNECT: R255, BUSY for an endpoint with a source, the protection group, the resources. -/
def State.connectAdmit (s : State) (p : Packet) : Verdict :=
  let bs := p.payload
  let dir := fieldAt bs 24 1
  let prot := fieldAt bs 25 1
  let look := fun e => s.epDue e (s.dueTick p)
  let w := fun off => epWord (epAt bs off)
  let fed := (if dir = 0 then [w 0] else []) ++ [w 8] ++ if prot = 1 then [w 16] else []
  match connCheck look bs, look (epAt bs 0) with
  | some k, _ => .bad k
  | none, none => .bad 0
  | none, some i =>
    let named := fieldAt bs 28 4
    if fed.any s.sourced = true then .refuse stBUSY 0 []
    else if dir = 2 then s.connectSink p i
    else if prot = 0 then s.connectNew p i 0
    else if named ≠ 0 then
      (if s.liveConns.any (fun c => decide (c.2.prot = 1 ∧ c.2.pgroup = named)) = true then .refuse stBUSY 0 []
       else s.connectNew p i named)
    else match s.freeGroup ((groupKinds i.kind).headD 2) with
      | none => .refuse stBUSY 0 []
      | some g => s.connectNew p i g

/-! ### The flip of a connection -/

/-- The egress entries of a run take another run as SRC, and a third as SRC2. -/
def State.feed (s : State) (sink : BitVec 64) (src : BitVec 64) (src2 : Option (BitVec 64)) (id : Nat) : State :=
  match s.runOf sink, s.runOf src with
  | some r, some a =>
    let second := src2.bind s.runOf
    let t := (List.range r.len).foldl (fun (t : Tbl Egress) i =>
      t.put (r.start + i)
        { src := a.start + i, src2 := match second with | some b => b.start + i | none => 0xFFFF,
          valid := true, hostOwned := r.hostOwned, connId := id }) s.grate.egress
    { s with grate := { s.grate with egress := t, staged := t } }
  | _, _ => s

/-- The egress entries of a run are cleared. -/
def State.unfeed (s : State) (start len : Nat) : State :=
  let clear := fun (t : Tbl Egress) => t.filter fun e => decide (e.1 < start ∨ start + len ≤ e.1)
  { s with grate := { s.grate with egress := clear s.grate.egress, staged := clear s.grate.staged } }

/-- The next pointer of an endpoint's generator carries an enabled NDF (R114, R206). -/
def State.newSource (s : State) (w : BitVec 64) : State :=
  let e := epOfWord w
  if e.kind = 1 then
    s.updPath (pathKey e.port e.head) fun x => if x.cfg.ptype = 0 then x else { x with gen := { x.gen with ndf := true } }
  else if e.kind = 3 then
    s.updTrib (tribNum e.port e.head e.ref) fun x =>
      if x.cfg.ttype = 0 then x else { x with gen := { x.gen with ndf := true } }
  else s

/-- The carrier words of the tributaries of a low-order connection, and the carrier's own map entries. -/
def State.setCarrier (s : State) (a b : BitVec 64) (pair : Option (Nat × Nat)) (second : Bool) : State :=
  match pair with
  | none => s
  | some (id, _) =>
    let ea := epOfWord a
    let eb := epOfWord b
    let t := (s.trib (tribNum ea.port ea.head ea.ref)).cfg.ttype
    let wa := s.carrierWord pair (s.tribPos ea) t
    let wb := s.carrierWord pair (s.tribPos eb) t
    let s1 := s.updTrib (tribNum ea.port ea.head ea.ref) fun x =>
      if second then { x with carrier2 := wa } else { x with carrier := wa }
    let s2 := s1.updTrib (tribNum eb.port eb.head eb.ref) fun x => { x with carrier := wb }
    match s2.grate.carriers.find? fun c => decide (c.id = id) with
    | none => s2
    | some c =>
      let put := fun (t : Tbl Egress) (k v : Nat) => t.put k { src := v, valid := true }
      let eg := put (put s2.grate.egress c.slotA c.slotB) c.slotB c.slotA
      { s2 with grate := { s2.grate with egress := eg, staged := eg } }

/-- Runs and units reserved under a tag come into force. -/
def State.enforce (s : State) (tag : Nat × Nat) : State :=
  { s with grate := { s.grate with
      runs := s.grate.runs.map fun r => if r.tag = some tag then { r with tag := none } else r
      allocs := s.grate.allocs.map fun a => if a.tag = some tag then { a with tag := none } else a } }

/-- No run of the tag still overlaps one that has not been released (R263). -/
def State.runsReady (s : State) (tag : Nat × Nat) : Bool :=
  (s.grate.runs.filter fun r => decide (r.tag = some tag)).all fun r =>
    s.grate.runs.all fun x => decide (x.tag = some tag) || x.freeBy s.dev.ticks ||
      decide (x.start + x.len ≤ r.start ∨ r.start + r.len ≤ x.start)

/-- A reserved run overlaps one whose release is not planned any more. -/
def State.runsLost (s : State) (tag : Nat × Nat) : Bool :=
  !s.runsReady tag && !(s.grate.runs.filter fun r => decide (r.tag = some tag)).any fun r =>
    s.grate.moves.any fun m => decide (m.2.old < r.start + r.len ∧ r.start < m.2.old + m.2.len) ||
      s.grate.runs.any fun x => x.freeAt.isSome && !x.freeBy s.dev.ticks

/-- The map entries and carriers of a connection coming into force. -/
def State.wire (s : State) (id : Nat) (c : Conn) : State :=
  if ownerKind c.a = 3 then
    let s1 := s.setCarrier c.a c.b c.pair false
    let s2 := if c.prot = 1 then s1.setCarrier c.a c.b2 c.pair2 true else s1
    s2.each c.endpoints State.newSource
  else
    let s1 := s.feed c.b c.a none id
    let s2 := if c.dir = 0 then s1.feed c.a c.b (if c.prot = 1 then some c.b2 else none) id else s1
    let s3 := if c.prot = 1 then s2.feed c.b2 c.a none id else s2
    s3.each c.endpoints State.newSource

/-- The group of a protected connection (R289, R299). -/
def State.joinGroup (s : State) (id : Nat) (c : Conn) : State :=
  if c.prot = 0 then s
  else s.updGroup c.pgroup fun g => { g with conn := some id }

/-- A further sink coming into force. -/
def State.wireSink (s : State) (id : Nat) (c : Conn) (x : Sink) : State :=
  (if ownerKind c.a = 3 then s.setCarrier c.a x.ep x.pair false else s.feed x.ep c.a none id).newSource x.ep

end Sys2Proof.Machine
end

