-- ==== Sys2Proof/Machine/Moves.lean ====
section
/-! DEFINITION. Moves by bridge-and-roll (R260 to R262, R264), the flips of CONNECT and DISCONNECT (R257, R263),
the expert grate commands (R265), slot retirement and slice isolation (R35, R36), the stoker's internal runs
(R197, R253) and pool sizes (R266). -/

namespace Sys2Proof.Machine

/-! ### Runs and entries -/

def State.runAt (s : State) (start : Nat) : Option Run :=
  let here := s.grate.runs.filter fun r => decide (r.start = start) && !r.freeBy s.dev.ticks
  match here.find? fun r => decide (ownerKind r.owner ≠ 0x82) with
  | some r => some r
  | none => here.head?

/-- The run in use that starts at a slot: neither a planned target nor a reservation. -/
def Run.usedAt (r : Run) (start : Nat) : Bool :=
  decide (r.start = start ∧ ownerKind r.owner ≠ 0x82) && r.freeAt.isNone && r.tag.isNone

def State.mapRuns (s : State) (f : Run → Run) : State :=
  { s with grate := { s.grate with runs := s.grate.runs.map f } }

/-- Both banks of the egress map change alike. -/
def State.mapEgress (s : State) (f : Tbl Egress → Tbl Egress) : State :=
  { s with grate := { s.grate with egress := f s.grate.egress, staged := f s.grate.staged } }

/-- MOVING of a run and of its entries. -/
def State.setMoving (s : State) (pick : Run → Bool) (start len : Nat) (on : Bool) : State :=
  (s.mapRuns fun r => if pick r then { r with moving := on } else r).mapEgress fun t =>
    t.map fun e => if start ≤ e.1 ∧ e.1 < start + len then (e.1, { e.2 with moving := on }) else e

/-- A slot of one run renamed to the matching slot of another. -/
def renameSlot (old new len x : Nat) : Nat := if old ≤ x ∧ x < old + len then new + (x - old) else x

def Egress.rename (e : Egress) (old new len : Nat) : Egress :=
  { e with src := renameSlot old new len e.src, src2 := renameSlot old new len e.src2 }

def State.updMove (s : State) (id : Nat) (f : Move → Move) : State :=
  match s.grate.moves.find id with
  | none => s
  | some m => { s with grate := { s.grate with moves := s.grate.moves.put id (f m) } }

/-! ### The three steps of a move (R260) -/

/-- Bridge: the entries of N take the sources of those of O, and both runs are MOVING. -/
def State.bridgeMove (s : State) (id : Nat) : State :=
  match s.grate.moves.find id with
  | none => s
  | some m =>
    if m.phase ≠ 0 then s
    else
      let copy := fun (t : Tbl Egress) => (List.range m.len).foldl (fun (t : Tbl Egress) i =>
        match t.find (m.old + i) with
        | some e => t.put (m.new + i) e
        | none => t) t
      (((s.mapEgress copy).setMoving (fun r => r.usedAt m.old) m.old m.len true).setMoving
        (fun r => decide (r.owner = wMove id)) m.new m.len true).updMove id
        fun m => { m with phase := 1 }

/-- The generator of the endpoint that reads the run, or of the tributaries of a carrier, sends an enabled NDF. -/
def State.rolledSource (s : State) (owner : BitVec 64) (new : Nat) : State :=
  if ownerKind owner = 0x81 then
    { s with tribs := s.tribs.map fun t =>
        if t.2.carrier / 2 ^ 16 = new ∨ t.2.carrier2 / 2 ^ 16 = new
        then (t.1, { t.2 with gen := { t.2.gen with ndf := true } }) else t }
  else s.newSource owner

/-- A carrier's slot and the CARRIER words of its tributaries follow the run. -/
def State.rollCarrier (s : State) (old new : Nat) : State :=
  let word := fun (w : Nat) => if w / 2 ^ 16 = old ∧ w ≠ 0 then new * 2 ^ 16 + w % 2 ^ 16 else w
  { s with
    grate := { s.grate with carriers := s.grate.carriers.map fun c =>
      { c with slotA := if c.slotA = old then new else c.slotA
               slotB := if c.slotB = old then new else c.slotB } }
    tribs := s.tribs.map fun t => (t.1, { t.2 with carrier := word t.2.carrier, carrier2 := word t.2.carrier2 }) }

/-- Roll: every entry that names a slot of O names the matching slot of N, and the endpoint reads N. -/
def State.rollMove (s : State) (id : Nat) : State :=
  match s.grate.moves.find id with
  | none => s
  | some m =>
    if m.phase ≠ 1 then s
    else match s.grate.runs.find? fun r => r.usedAt m.old with
      | none => s
      | some o =>
        let s1 := s.mapEgress fun t => t.map fun e => (e.1, e.2.rename m.old m.new m.len)
        let s2 := s1.mapRuns fun r =>
          if r.usedAt m.old then { r with owner := wMove id, hostOwned := false }
          else if r.owner = wMove id then { r with owner := o.owner, hostOwned := o.hostOwned }
          else r
        let s3 := if ownerKind o.owner = 0x81 then s2.rollCarrier m.old m.new else s2
        (s3.rolledSource o.owner m.new).updMove id fun m => { m with phase := 2 }

/-- A compaction without moves left ends: GRT_DEFRAG or GRT_MOVE completes with the moves made (R262). -/
def State.planDone (s : State) (slice : Nat) : State :=
  if s.planRuns slice then s
  else
    let n := s.grate.planMoves.getD slice 0
    ({ s with grate := { s.grate with planMoves := s.grate.planMoves.drop slice } }).finishLong (8, 0, slice)
      stOK 0 (beBytes 2 n)

/-- Release: O is no longer written, its entries are cleared, and it is free from the next tick. -/
def State.releaseMove (s : State) (id : Nat) : State :=
  match s.grate.moves.find id with
  | none => s
  | some m =>
    if m.phase ≠ 2 then s
    else
      let s1 := (s.unfeed m.old m.len).setMoving (fun r => r.usedAt m.new) m.new m.len false
      let s2 := s1.mapRuns fun r => if r.start = m.old ∧ r.owner = wMove id ∧ r.freeAt = none
        then { r with freeAt := some (s.dev.ticks + 1), moving := false } else r
      let g := s2.grate
      let made := if m.retire then g.planMoves else g.planMoves.put m.slice (g.planMoves.getD m.slice 0 + 1)
      let s3 : State := { s2 with grate := { g with moves := g.moves.drop id, planMoves := made } }
      s3.planDone m.slice

/-- The calendar entries of a move end (R264). -/
def State.dropMoveEntries (s : State) (id : Nat) : State :=
  let kept := s.cal.entries.filter fun e =>
    decide (e.action ≠ .bridge id) && decide (e.action ≠ .roll id) && decide (e.action ≠ .release id)
  { s with cal := { s.cal with entries := kept } }

/-- A move that has not been rolled is undone and N is freed. -/
def State.undoMove (s : State) (id : Nat) : State :=
  match s.grate.moves.find id with
  | none => s
  | some m =>
    let s1 := if m.phase = 0 then s else (s.unfeed m.new m.len).setMoving (fun r => r.usedAt m.old) m.old m.len false
    let g := s1.grate
    let s2 : State := { s1 with grate := { g with
      runs := g.runs.filter fun r => decide (r.owner ≠ wMove id)
      moves := g.moves.drop id } }
    (s2.dropMoveEntries id).planDone m.slice

/-- A host action meets a move of one of its runs (R264): a move bridged in an earlier tick is finished at once,
any other is undone. -/
def State.settleMove (s : State) (id : Nat) : State :=
  match s.grate.moves.find id with
  | none => s
  | some m =>
    let noted := fun (s : State) => (s.put STK_HIST.key STK_HIST.MOVE_SUPERSEDED_HIST 1).event 261 0x81 true 0
    if 1 ≤ m.phase ∧ m.start.getD s.dev.ticks < s.dev.ticks then
      noted (((s.rollMove id).releaseMove id).dropMoveEntries id)
    else if m.start.isSome then noted (s.undoMove id)
    else s.undoMove id

/-- The moves under way or planned on a run. -/
def State.movesOn (s : State) (w : BitVec 64) (started : Bool) : List Nat :=
  (s.grate.moves.filter fun m => (!started || m.2.start.isSome) &&
    (s.runsOf w).any fun r => decide (m.2.old = r.start ∨ (m.2.phase = 2 ∧ m.2.new = r.start))).map Prod.fst

/-- Moves meet a host action on the given endpoints; `gone` where the runs are given up. -/
def State.settleMoves (s : State) (ws : List (BitVec 64)) (gone : Bool) : State :=
  s.each (ws.flatMap fun w => s.movesOn w (!gone)).eraseDups State.settleMove

/-! ### Starting moves (R261) -/

/-- N is wholly free but for the move itself. -/
def State.targetFree (s : State) (id : Nat) (m : Move) : Bool :=
  (s.grate.runs.all fun r => decide (r.owner = wMove id) || r.freeBy s.dev.ticks ||
    decide (r.start + r.len ≤ m.new ∨ m.new + m.len ≤ r.start)) &&
  !s.grate.retired.any fun x => decide (m.new ≤ x ∧ x < m.new + m.len)

/-- Three entries at consecutive ticks from this one find room. -/
def State.moveRoom (s : State) : Bool :=
  decide (s.cal.entries.length + 3 ≤ calCapacity) &&
  [0, 1, 2].all fun i => s.sfnRoom (.sfn (s.time.sfn + i))

def State.makeEntries (s : State) (id : Nat) : State :=
  let n := s.time.sfn
  (((s.addEntry (.sfn n) (.bridge id) false 0 0).addEntry (.sfn (n + 1)) (.roll id) false 0 0).addEntry
    (.sfn (n + 2)) (.release id) false 0 0).updMove id fun m => { m with start := some s.dev.ticks }

/-- Most moves at once in the chip (R261). -/
def movesAtOnce : Nat := 32

def State.movesActive (s : State) : Nat := (s.grate.moves.filter fun m => m.2.start.isSome).length

/-- Moves of a compaction that start in this tick in the slice. -/
def State.startedNow (s : State) (slice : Nat) : Nat :=
  (s.grate.moves.filter fun m => decide (m.2.slice = slice ∧ m.2.start = some s.dev.ticks) && !m.2.retire).length

/-- The moves that wait to start, in turn: `some` keeps going. -/
def State.startFrom (s : State) (slice : Nat) : List (Nat × Move) → State
  | [] => s
  | (id, m) :: rest =>
    if movesAtOnce ≤ s.movesActive ∨ (m.retire = false ∧ s.movesPerTick slice ≤ s.startedNow slice) then s
    else if s.targetFree id m = false then (if m.retire then s.startFrom slice rest else s)
    else if s.moveRoom = false then
      (s.put STK_HIST.key STK_HIST.MOVE_WAIT_HIST 1).event 261 0x82 true 0
    else (s.makeEntries id).startFrom slice rest

/-- A run that stays, since no move takes it away, stands in the target of a planned move. -/
def State.targetLost (s : State) (id : Nat) (m : Move) : Bool :=
  s.grate.runs.any fun r => decide (r.owner ≠ wMove id ∧ r.start < m.new + m.len ∧ m.new < r.start + r.len) &&
    r.freeAt.isNone && !s.grate.moves.any fun x => decide (x.2.old = r.start)

/-- MOVE_START of a slice: retirements first, then compaction moves in plan order. A planned move whose target
will not come free is given up. -/
def State.startMoves (s : State) (slice : Nat) : State :=
  let lost := s.grate.moves.filter fun m => decide (m.2.slice = slice) && m.2.start.isNone && s.targetLost m.1 m.2
  let s := s.each (lost.map Prod.fst) State.undoMove
  let ms := s.grate.moves.filter fun m => decide (m.2.slice = slice) && m.2.start.isNone
  s.startFrom slice ((ms.filter fun m => m.2.retire) ++ ms.filter fun m => !m.2.retire)

/-! ### Slot retirement and slice isolation (R35, R36) -/

/-- The run that uses a slot. -/
def State.runOver (s : State) (x : Nat) : Option Run :=
  s.grate.runs.find? fun r => decide (r.start ≤ x ∧ x < r.start + r.len) && !r.freeBy s.dev.ticks

/-- The run is planned to move away: best fit among all free slots, RESERVE included (R261). -/
def State.planRetire (s : State) (r : Run) : State :=
  if s.grate.moves.any (fun m => decide (m.2.old = r.start)) || r.freeAt.isSome || decide (ownerKind r.owner = 0x82)
  then s
  else match bestFit r.len (s.freeRuns (r.start / sliceSlots) s.dev.ticks) with
    | some (a, _) => s.planMove (r.start / sliceSlots) (r.start % sliceSlots) a r.len true
    | none => s

/-- Step 1 of the tick after the parity error: the slot is retired, a move into it is undone, and the run over it
moves away. -/
def State.retireSlot (s : State) (x : Nat) : State :=
  if s.grate.retired.contains x then s
  else
    let s0 := s.event (srcSlice (x / sliceSlots)) 0x80 true x
    let s1 := ({ s0 with grate := { s0.grate with retired := s0.grate.retired ++ [x] } }).addRepair 5 x 0xFFFF
    match s1.runOver x with
    | none => s1
    | some r =>
      let into := (s1.grate.moves.filter fun m => decide (m.2.new = r.start ∧ m.2.phase < 2)).map Prod.fst
      let s2 := s1.each into State.settleMove
      if into = [] then s2.planRetire r else s2

/-- Retirement moves that found no place before are planned again, and undone ones anew, in each step 1. -/
def State.replanRetired (s : State) : State :=
  s.each s.grate.retired fun s x => match s.runOver x with
    | some r => if s.grate.isolated.contains (x / sliceSlots) then s else s.planRetire r
    | none => s

/-- A slot or interconnect parity error: settled by retiring the slot in the next step 1, in both pair units
(R36, R306). -/
def State.slotParity (s : State) (x : Nat) : State :=
  let n := x / sliceSlots
  ((s.put (GRT_SLICE_STATUS.key n) GRT_SLICE_STATUS.PARITY_HIST 1).event (srcSlice n) 0x82 true x).arrive (.retire x)

/-- A slice that fails its health check is isolated until the next start (R35). -/
def State.sliceFailure (s : State) (n : Nat) : State :=
  if s.grate.isolated.contains n then s
  else
    let s1 := { s with grate := { s.grate with isolated := s.grate.isolated ++ [n] } }
    (s1.put (GRT_SLICE_STATUS.key n) GRT_SLICE_STATUS.ISOLATED 1).event (srcSlice n) 0x81 true n

/-! ### The flip of CONNECT (R255, R257, R263) -/

def tagOf (p : Packet) : Nat × Nat := (p.master, p.seq.toNat)

/-- The connection, and the sink, that a command reserved. -/
def State.connTagged (s : State) (tag : Nat × Nat) : Option (Nat × Conn) :=
  s.grate.conns.find? fun c => decide (c.2.tag = some tag) || c.2.sinks.any fun x => decide (x.tag = some tag)

def State.putConn (s : State) (id : Nat) (c : Conn) : State :=
  { s with grate := { s.grate with conns := s.grate.conns.put id c } }

/-- What the flip of a connection writes. -/
def State.flipConn (s : State) (id : Nat) (c : Conn) (tag : Nat × Nat) : State :=
  let s1 := (s.settleMoves c.endpoints false).enforce tag
  if c.tag = some tag then
    let c1 : Conn := { c with inForce := true, tag := none, eff := s.dev.ticks, effSfn := some s.time.sfn }
    ((s1.putConn id c1).wire id c1).joinGroup id c1
  else
    let x := c.sinks.find? fun x => decide (x.tag = some tag)
    let ss := c.sinks.map fun x => if x.tag = some tag then { x with on := true, tag := none } else x
    let c1 : Conn := { c with sinks := ss }
    match x with
    | some x => (s1.putConn id c1).wireSink id c1 x
    | none => s1

/-- Execution of CONNECT in any of its three forms. -/
def State.connectRun (s : State) (p : Packet) : Done :=
  let tag := tagOf p
  match s.connTagged tag with
  | none => failDone s stBAD_PARAM (payloadDetail 0)
  | some (id, c) =>
    match connCheck (s.epInfo false) p.payload with
    | some k => failDone (s.unreserve tag) stBAD_PARAM (payloadDetail k)
    | none =>
      if s.runsLost tag then failDone (s.unreserve tag) stBUSY 0
      else if decide (s.dev.ticks < c.eff) && c.deferred && decide (c.tag = some tag) || !s.runsReady tag then
        { s := (s.putConn id { c with deferred := true }), finished := false, again := true }
      else
        let s1 := s.flipConn id c tag
        { s := s1, status := if c.deferred then stDEFERRED else stOK, result := s1.connBytes id }

/-! ### DISCONNECT and CONN_READ (R257) -/

def connIdFault (bs : List Byte) : Option Nat := layoutFault bs 4 [below 0 2 40960, rsv 2 2]

/-- Row 9 of DISCONNECT: the connection must be held, and in force by then. -/
def State.disconnectAdmit (s : State) (p : Packet) : Verdict :=
  let id := p.fld 0 2
  match s.grate.conns.find id with
  | none => .refuse stNOT_PRESENT 0 []
  | some c =>
    let due := s.dueTick p
    if c.freeAt.isSome ∨ (c.inForce = false ∧ due < c.eff) then .refuse stNOT_PRESENT 0 []
    else if c.ends.isSome then .refuse stBUSY 0 []
    else .accept (s.putConn id { c with ends := some (due, tagOf p) })

/-- The run of an endpoint that no other connection uses is released from the next tick. -/
def State.endRun (s : State) (w : BitVec 64) : State :=
  let s1 := s.each (s.runsOf w) fun s r => s.unfeed r.start r.len
  if s1.connected w then s1
  else s1.mapRuns fun r =>
    if r.owner = w ∧ r.freeAt = none ∧ r.hostOwned = false then { r with freeAt := some (s.dev.ticks + 1) } else r

/-- The carrier words of a low-order tributary end. -/
def State.endCarrier (s : State) (w : BitVec 64) : State :=
  let e := epOfWord w
  if e.kind = 3 then s.updTrib (tribNum e.port e.head e.ref) fun x => { x with carrier := 0, carrier2 := 0, sel := false }
  else s

/-- What the flip of DISCONNECT does. -/
def State.endConn (s : State) (id : Nat) (c : Conn) : State :=
  let at_ := s.dev.ticks + 1
  let s1 := s.settleMoves c.endpoints true
  let s2 := s1.putConn id { c with freeAt := some at_, inForce := false }
  let s3 := (s2.each c.endpoints State.endRun).each c.endpoints State.endCarrier
  let s4 := ((s3.dropTu at_ c.pair).dropTu at_ c.pair2).each c.sinks fun s x => s.dropTu at_ x.pair
  if c.prot = 1 then
    let kept := s4.timers.filter fun t => match t.kind with
      | .holdoff h _ _ => decide (h ≠ c.pgroup)
      | .protWtr h => decide (h ≠ c.pgroup)
      | _ => true
    { s4 with timers := kept, prot := { s4.prot with groups := s4.prot.groups.drop c.pgroup } }
  else s4

def State.disconnectRun (s : State) (p : Packet) : Done :=
  let id := p.fld 0 2
  match s.grate.conns.find id with
  | none => failDone s stNOT_PRESENT 0
  | some c => if c.inForce then okDone (s.endConn id c) else failDone s stNOT_PRESENT 0

/-- CONN_READ answers at once. -/
def State.connRead (s : State) (p : Packet) : Verdict :=
  let id := p.fld 0 2
  match s.grate.conns.find id with
  | none => .refuse stNOT_PRESENT 0 []
  | some c => if c.freeAt.isSome then .refuse stNOT_PRESENT 0 [] else .answer stOK (s.connBytes id) s

/-! ### GRT_DEFRAG (R262) -/

def defragFault (bs : List Byte) : Option Nat := layoutFault bs 4 [below 0 1 4, rsv 1 1, within 2 2 0 12288]

/-- The plan is made at the effective tick; without a move to make it completes at once. -/
def State.defragStart (s : State) (p : Packet) : Done :=
  let n := p.fld 0 1
  let s1 := { s with grate := { s.grate with planMoves := s.grate.planMoves.drop n } }
  let plan := s1.planOf n (p.fld 2 2)
  if plan = [] then okWith (s1.endLong (8, 0, n)) (beBytes 2 0) else runsOn (s1.planAll n plan)

/-- A command for a slice whose plan runs takes the pending slot (R264). -/
def State.sliceLong (s : State) (n : Nat) (p : Packet) (creation : Option Nat) (start : State → Done) : Done :=
  if s.planRuns n then runsOn (s.takeSlot (8, 0, n) p creation)
  else s.long (8, 0, n) p creation start

def State.defragRun (s : State) (p : Packet) (creation : Option Nat) : Done :=
  s.sliceLong (p.fld 0 1) p creation fun s => s.defragStart p

/-! ### Expert runs (R265) -/

/-- The layout of GRT_RUN_SET: an endpoint that meets the grate, a START within its slice. -/
def State.runSetFault (s : State) (bs : List Byte) : Option Nat :=
  layoutFault bs 12 (s.epFields bs 0 ++ [such 1 1 (fun k => decide (k ≠ 3)), below 8 2 sliceSlots, rsv 10 2])

/-- The slots of a run are free for an expert request. -/
def State.slotsFree (s : State) (slice start len t : Nat) : Bool :=
  fitsIn (s.freeRuns slice t) start len

def State.runSetAdmit (s : State) (p : Packet) : Verdict :=
  let bs := p.payload
  let e := epAt bs 0
  let start := fieldAt bs 8 2
  let n := regionOf e.port
  match s.epDue e (s.dueTick p) with
  | none => .bad 0
  | some i =>
    if sliceSlots < start + i.slots then .bad 8
    else if (s.runOf (epWord e)).isSome ∨ s.slotsFree n start i.slots (s.dueTick p) = false then .refuse stBUSY 0 []
    else .accept (s.addRun { start := n * sliceSlots + start, len := i.slots, owner := epWord e, hostOwned := true,
                             tag := some (tagOf p) })

def State.runSetRun (s : State) (p : Packet) : Done :=
  if s.runsReady (tagOf p) then okDone (s.enforce (tagOf p))
  else failDone (s.unreserve (tagOf p)) stBUSY 0

def runFreeFault (bs : List Byte) : Option Nat := layoutFault bs 4 [below 0 1 4, rsv 1 1, below 2 2 sliceSlots]

/-- The expert run a payload names by SLICE and START. -/
def State.namedRun (s : State) (p : Packet) : Option Run := s.runAt (p.fld 0 1 * sliceSlots + p.fld 2 2)

def State.runFreeAdmit (s : State) (p : Packet) : Verdict :=
  match s.namedRun p with
  | none => .bad 2
  | some r =>
    if r.hostOwned = false ∨ r.freeAt.isSome then .bad 2
    else if s.connected r.owner ∨ r.moving ∨ r.tag.isSome then .refuse stBUSY 0 []
    else .accept s

def State.runFreeRun (s : State) (p : Packet) : Done :=
  match s.namedRun p with
  | none => failDone s stBAD_PARAM (payloadDetail 2)
  | some r =>
    if s.connected r.owner ∨ r.moving then failDone s stBUSY 0
    else okDone ((s.unfeed r.start r.len).mapRuns fun x =>
      if x.start = r.start ∧ x.freeAt = none then { x with freeAt := some (s.dev.ticks + 1) } else x)

/-! ### GRT_MAP_SET (R265) -/

/-- The slot stands in an allocated run. -/
def State.inRun (s : State) (x : Nat) : Bool := (s.runOver x).isSome

def mapEntries (bs : List Byte) : Nat := bs.length / 8

def State.mapSetFault (s : State) (bs : List Byte) : Option Nat :=
  let n := mapEntries bs
  let srcOk := fun v => decide (v = 0xFFFF) || s.inRun v
  firstOf [if bs.length % 8 ≠ 0 then some (8 * n) else none,
    if n = 0 then some 0 else if 500 < n then some 4000 else none,
    layoutFault (bs.take (8 * n)) (8 * n) ((List.range n).flatMap fun i =>
      [below (8 * i) 2 49152, such (8 * i + 2) 2 srcOk, such (8 * i + 4) 2 srcOk, rsv (8 * i + 6) 2])]

/-- Sinks of an ingress slot by the staged map. -/
def slotSinks (t : Tbl Egress) (x : Nat) : Nat :=
  (t.filter fun e => decide (e.2.src = x ∨ e.2.src2 = x)).length

def State.mapSetAdmit (s : State) (p : Packet) : Verdict :=
  let n := mapEntries p.payload
  let t := (List.range n).foldl (fun (t : Tbl Egress) i =>
    let src := p.fld (8 * i + 2) 2
    let src2 := p.fld (8 * i + 4) 2
    t.put (p.fld (8 * i) 2) { src := src, src2 := src2, valid := decide (src ≠ 0xFFFF), hostOwned := true })
    s.grate.staged
  let short := ((List.range n).flatMap fun i => [p.fld (8 * i + 2) 2, p.fld (8 * i + 4) 2]).filter fun x =>
    decide (x ≠ 0xFFFF ∧ 16 < slotSinks t x)
  match short with
  | x :: _ => .noRes [⟨rGRATE_SINKS, x / sliceSlots, slotSinks t x - slotSinks s.grate.staged x,
      16 - slotSinks s.grate.staged x⟩]
  | [] => .accept { s with grate := { s.grate with staged := t } }

/-- The flip of the staged entries of some egress slots. -/
def State.flipMap (s : State) (xs : List Nat) : State :=
  let s1 := s.settleMoves ((xs.filterMap s.runOver).map Run.owner).eraseDups false
  let t := xs.foldl (fun (t : Tbl Egress) x => match s1.grate.staged.find x with
    | some e => t.put x { e with sel := ((t.find x).map Egress.sel).getD false }
    | none => t.drop x) s1.grate.egress
  { s1 with grate := { s1.grate with egress := t } }

def State.mapSetRun (s : State) (p : Packet) : Done :=
  okDone (s.flipMap ((List.range (mapEntries p.payload)).map fun i => p.fld (8 * i) 2))

/-- Staged map entries of a slice that differ from the active ones (R55, R56). -/
def State.mapDiffers (s : State) (slice : Nat) : List Nat :=
  let keys := (s.grate.staged.map Prod.fst ++ s.grate.egress.map Prod.fst).eraseDups
  keys.filter fun x => decide (x / sliceSlots = slice ∧ s.grate.staged.find x ≠ s.grate.egress.find x)

/-- A discard of a slice's staged map (R56). -/
def State.discardMap (s : State) (slice : Nat) : State :=
  let t := (s.mapDiffers slice).foldl (fun (t : Tbl Egress) x => match s.grate.egress.find x with
    | some e => t.put x e
    | none => t.drop x) s.grate.staged
  { s with grate := { s.grate with staged := t } }

/-! ### GRT_MOVE (R260, R265) -/

def grtMoveFault (bs : List Byte) : Option Nat :=
  layoutFault bs 8 [below 0 1 4, rsv 1 1, below 2 2 sliceSlots, below 4 2 sliceSlots, rsv 6 2]

/-- The target reserved for a GRT_MOVE until it executes. -/
def wTarget (tag : Nat × Nat) : BitVec 64 := internalWord 0x85 (tag.1 * 65536 + tag.2)

/-- Row 9: the run named, and a target wholly free that is reserved from now on. -/
def State.grtMoveAdmit (s : State) (p : Packet) : Verdict :=
  let n := p.fld 0 1
  let new := p.fld 4 2
  match s.namedRun p with
  | none => .bad 2
  | some r =>
    if r.freeAt.isSome ∨ ownerKind r.owner = 0x82 ∨ ownerKind r.owner = 0x85 then .bad 2
    else if sliceSlots < new + r.len then .bad 4
    else if r.tag.isSome ∨ r.moving ∨ s.grate.moves.any (fun m => decide (m.2.old = r.start)) ∨
        s.slotsFree n new r.len (s.dueTick p) = false then .refuse stBUSY 0 []
    else .accept (s.addRun { start := n * sliceSlots + new, len := r.len, owner := wTarget (tagOf p),
                             tag := some (tagOf p) })

/-- The reserved target becomes the move's N. -/
def State.grtMoveStart (s : State) (p : Packet) : Done :=
  let n := p.fld 0 1
  let s0 := { s with grate := { s.grate with
    planMoves := s.grate.planMoves.drop n
    runs := s.grate.runs.filter fun r => decide (r.owner ≠ wTarget (tagOf p)) } }
  match s0.namedRun p with
  | none => failDone (s0.endLong (8, 0, n)) stBAD_PARAM (payloadDetail 2)
  | some r => runsOn (s0.planMove n (p.fld 2 2) (p.fld 4 2) r.len false)

def State.grtMoveRun (s : State) (p : Packet) (creation : Option Nat) : Done :=
  s.sliceLong (p.fld 0 1) p creation fun s => s.grtMoveStart p

/-! ### Internal runs (R197, R253) -/

/-- An accepted command with the internal runs it also needs. -/
def State.withRuns (s : State) (p : Packet) (v : Verdict) (needs : List Need) : Verdict :=
  match v with
  | .accept s1 r =>
    let fresh := needs.filter fun x => (s.runOf x.owner).isNone
    let q := s1.placeAll (s.dueTick p) (some (tagOf p)) fresh
    if q.1 = [] then .accept q.2 r else .noRes q.1
  | v => v

/-- Two internal runs feed each other from a flip on. -/
def State.joinRuns (s : State) (tag : Nat × Nat) (a b : BitVec 64) : State :=
  let s1 := s.enforce tag
  (s1.feed a b none 0xFFFF).feed b a none 0xFFFF

/-- The mapper of a container stands in another region. -/
def State.crosses (s : State) (k : Nat) : Bool :=
  decide ((s.container k).staged ≠ [] ∧ (s.container k).mapper / 4 ≠ regionOf (k / 256))

/-- LOM_CONTAINER_CFG with the crossing's runs. -/
def State.containerAccept (s : State) (p : Packet) : Verdict :=
  let k := pathKey (p.fld 0 1) (p.fld 1 1)
  let w := pathWidth (s.contType (k / 256) (k % 256))
  match s.containerAdmit p with
  | .accept s1 r =>
    if s1.crosses k then
      s.withRuns p (.accept s1 r) [⟨wCross k 0, regionOf (k / 256), w⟩, ⟨wCross k 1, (s1.container k).mapper / 4, w⟩]
    else .accept s1 r
  | v => v

def State.containerFlip (s : State) (p : Packet) : Done :=
  let k := pathKey (p.fld 0 1) (p.fld 1 1)
  let d := s.containerRun p
  if d.s.crosses k then { d with s := d.s.joinRuns (tagOf p) (wCross k 0) (wCross k 1) } else d

/-- PKT_FLOW_CFG with the runs of a channel on an ODU; the payload's first bytes name the engine chosen. -/
def State.flowAccept (s : State) (p : Packet) : Verdict :=
  match s.flowAdmit p with
  | .accept s1 r =>
    if p.fld 3 1 = 3 then
      let k := oduKey (p.fld 4 1) (p.fld 5 1)
      let c := (s.odu k).cfg
      let w := oduSlots c.otype c.flexRate
      s.withRuns p (.accept s1 r) [⟨wChan k 0, regionOf (p.fld 4 1), w⟩, ⟨wChan k 1, engineRegion (beVal (r.take 1)), w⟩]
    else .accept s1 r
  | v => v

def State.flowFlip (s : State) (p : Packet) : Done :=
  let d := s.flowRun p
  if p.fld 3 1 = 3 then
    let k := oduKey (p.fld 4 1) (p.fld 5 1)
    { d with s := d.s.joinRuns (tagOf p) (wChan k 0) (wChan k 1) }
  else d

/-- The internal run still serves a container or a channel. -/
def State.internalUsed (s : State) (w : BitVec 64) : Bool :=
  let n := w.toNat % 2 ^ 48 / 2
  if ownerKind w = 0x83 then s.crosses n
  else if ownerKind w = 0x84 then
    s.flows.any fun f => f.2.cfg.on 3 (n / 256) (n % 256) || f.2.staged.on 3 (n / 256) (n % 256)
  else true

/-- Internal runs whose container or channel has gone are free from the next tick (R251). -/
def State.sweepInternal (s : State) : State :=
  let ends := s.grate.runs.filter fun r => r.freeAt.isNone && r.tag.isNone && !s.internalUsed r.owner
  s.each ends fun s r => (s.unfeed r.start r.len).mapRuns fun x =>
    if x.start = r.start ∧ x.freeAt = none then { x with freeAt := some (s.dev.ticks + 1) } else x

/-! ### STK_POOL_CFG (R266) -/

def poolLeast : List Nat := [64, 0, 0, 0, 16, 16, 8, 8]
def poolMost : List Nat := [160, 192, 160, 64, 16, 16, 16, 16]

/-- Banks in service: neither spare nor retired. -/
def State.bankServes (s : State) (b : Nat) : Bool :=
  !s.on (STK_BANK.key b) STK_BANK.SPARE && !s.on (STK_BANK.key b) STK_BANK.RETIRED

def State.banksIn (s : State) : Nat := ((List.range 400).filter s.bankServes).length

/-- The counts of a payload: 2 bytes per pool. -/
def poolCounts (bs : List Byte) : List Nat := (List.range 8).map fun i => fieldAt bs (2 * i) 2

def State.poolFault (s : State) (bs : List Byte) : Option Nat :=
  firstOf [layoutFault bs 16 ((List.range 8).map fun i =>
      within (2 * i) 2 (poolLeast.getD i 0) (poolMost.getD i 0)),
    if 16 ≤ bs.length ∧ (poolCounts bs).sum ≠ s.banksIn then some 0 else none]

/-- Pages of a pool the stoker has allocated. -/
def State.poolUsed (s : State) (i : Nat) : Nat :=
  if i = 0 then s.contextPages
  else if i = 1 then s.used rPKT_BUFFER_PAGES 0
  else if i = 2 then s.used rDELAY_PAGES 0
  else if i = 3 then ceilDiv (s.used rRETIME_UNITS 0) 32
  else 0

def State.poolAdmit (s : State) (p : Packet) : Verdict :=
  let ws := poolCounts p.payload
  if (List.range 8).any fun i => decide (pagesPerBank * ws.getD i 0 < s.poolUsed i) then .refuse stBUSY 0 []
  else .accept s

/-- The banks of a pool that leave it, highest first. -/
def State.leavingBanks (s : State) (want : List Nat) : List Nat :=
  (List.range 8).flatMap fun i =>
    let mine := (List.range 400).filter fun b => s.bankServes b && decide (s.get (STK_BANK.key b) STK_BANK.POOL = i)
    mine.reverse.take (mine.length - want.getD i 0)

/-- Leaving banks join the growing pools in pool order. -/
def State.joinPools (s : State) (want : List Nat) (i : Nat) : List Nat → Nat → State
  | [], _ => s
  | b :: bs, fuel =>
    match fuel with
    | 0 => s
    | fuel + 1 =>
      let j := ((List.range 8).find? fun j => decide (i ≤ j ∧ s.poolBanks j < want.getD j 0)).getD 7
      (((s.put (STK_BANK.key b) STK_BANK.POOL j).put (STK_POOL.key j) STK_POOL.BANKS (s.poolBanks j + 1)).joinPools
        want j bs fuel)

/-- The last page has switched: the banks change pools and the command completes (R266). -/
def State.resizePools (s : State) : State :=
  let want := s.grate.poolWant
  let banks := s.leavingBanks want
  let s1 := s.each (List.range 8) fun s i =>
    (s.put (STK_POOL.key i) STK_POOL.BANKS (min (s.poolBanks i) (want.getD i 0))).put (STK_POOL.key i) STK_POOL.RESIZING 0
  let s2 := s1.joinPools want 0 banks 400
  let s3 := { s2 with grate := { s2.grate with poolWant := [], pagesLeft := 0 } }
  let s3 := if s.poolBanks 6 = s3.poolBanks 6 then s3 else s3.updObs fun o => { o with buffer := [], dropBefore := true }
  (s3.event 357 0x80 true 0).finishLong (0x10, 0, 0) stOK 0 []

/-- STK_POOL_CFG starts: the pages that the leaving banks hold must be moved first; how many they hold is open. -/
def State.poolStart (s : State) (p : Packet) : Done :=
  let want := poolCounts p.payload
  let banks := s.leavingBanks want
  let most := ((List.range 8).map fun i =>
    min (s.poolUsed i) (pagesPerBank * (s.poolBanks i - want.getD i 0))).sum
  let f := s.fresh
  let left := f.1 % (most + 1)
  let s1 := { f.2 with grate := { f.2.grate with poolWant := want, pagesLeft := left } }
  if (List.range 8).any fun i => decide (pagesPerBank * want.getD i 0 < s.poolUsed i) then
    failDone (s.endLong (0x10, 0, 0)) stBUSY 0
  else if left = 0 ∨ banks = [] then runsOn s1.resizePools
  else runsOn (s1.each (List.range 8) fun s i =>
    if want.getD i 0 < s.poolBanks i then s.put (STK_POOL.key i) STK_POOL.RESIZING 1 else s)

def State.poolRun (s : State) (p : Packet) (creation : Option Nat) : Done :=
  s.long (0x10, 0, 0) p creation fun s => s.poolStart p

/-- POOL_PAGE_SWITCH: a copied page of a leaving bank switches to its new bank. -/
def State.pageSwitch (s : State) : State :=
  if s.grate.pagesLeft = 0 then s
  else
    let s1 := { s with grate := { s.grate with pagesLeft := s.grate.pagesLeft - 1 } }
    if s1.grate.pagesLeft = 0 then s1.resizePools else s1

/-! ### A removed configuration (R264) -/

/-- A running long operation of a slice has nothing left to move; checked once in each step 2. -/
def State.settlePlans (s : State) : State :=
  s.each (List.range 4) fun s n => if (s.running (8, 0, n)).isSome then s.planDone n else s

/-! ### The rows -/

def execMoveStart (n : Fin 4) (s : State) : Host.Outcome State Fault Refusal := .next ((s.startMoves n).settle)

/-- The calendar holds a step of a move that is due. -/
def State.takeStep (s : State) (a : Action) : Option State :=
  match s.cal.entries.find? fun e => decide (e.action = a) with
  | some e =>
    match e.key with
    | .sfn n => if n ≤ s.time.sfn then some (s.removeEntry e.creation) else none
    | .port _ _ => none
  | none => none

def execMoveBridge (id : Nat) (s : State) : Host.Outcome State Fault Refusal :=
  match s.takeStep (.bridge id) with
  | some s1 => .next (s1.bridgeMove id).settle
  | none => .next s.settle

def execMoveRoll (id : Nat) (s : State) : Host.Outcome State Fault Refusal :=
  match s.takeStep (.roll id) with
  | some s1 => .next (s1.rollMove id).settle
  | none => .next s.settle

def execMoveRelease (id : Nat) (s : State) : Host.Outcome State Fault Refusal :=
  match s.takeStep (.release id) with
  | some s1 => .next (s1.releaseMove id).settle
  | none => .next s.settle

def execSlotParityError (slot : Fin 49152) (s : State) : Host.Outcome State Fault Refusal :=
  .next (s.slotParity slot).settle

def execSliceFailure (n : Fin 4) (s : State) : Host.Outcome State Fault Refusal := .next (s.sliceFailure n).settle

def execPoolPageSwitch (_page : Nat) (s : State) : Host.Outcome State Fault Refusal := .next s.pageSwitch.settle

end Sys2Proof.Machine
end

