-- ==== Sys2Proof/Machine/Damper.lean ====
section
/-! DEFINITION. The damper (R270 to R274, Table 11-2) and SQUELCH_ON_FAIL with its probes (R273). -/

namespace Sys2Proof.Machine

/-! ### Blocks that serve an entity (R15, R32) -/

/-- The physical block that serves a framer position is isolated. -/
def State.framerDown (s : State) (p : Nat) : Bool :=
  s.health.isolated.any fun b => match b with
    | .framer n => decide (n.val = s.physOf (framerPos p))
    | _ => false

/-- The mapper block of a mapper position is isolated, or its spare has not resumed (R222). -/
def State.mapperDown (s : State) (pos : Nat) : Bool :=
  (s.health.mapperResume.find pos).isSome || s.health.isolated.any fun b => match b with
    | .mapper n => decide (n.val = s.physOf (24 + pos))
    | _ => false

def State.engineDown (s : State) (e : Nat) : Bool :=
  s.health.isolated.any fun b => match b with
    | .engine n => decide (n.val = e)
    | _ => false

/-- The record of an entity was lost (R29). -/
def State.lostContext (s : State) (source entity : Nat) : Bool :=
  s.health.contextLost.any fun c => decide (c.source = source ∧ c.entity = entity)

/-! ### Transmitters (row 1) -/

/-- The receive defects that SQUELCH_ON_FAIL acts on. -/
def State.receiveFails (s : State) (p : Nat) : Bool :=
  if s.isOtn p then s.losOf p || s.portHas p [dOTU_LOF, dLOL, dLOM]
  else s.losOf p || s.portHas p [dLOF]

/-- The receive is free of LOS and out-of-frame, and on an OTU port of OOM and LOL. -/
def State.hearing (s : State) (p : Nat) : Bool :=
  if s.isOtn p then !(s.losOf p || s.portHas p [dOTU_OOF, dOOM, dLOL]) else !(s.losOf p || s.portHas p [dOOF])

/-- SQUELCH_ON_FAIL of a port whose family heeds it. -/
def State.squelches (s : State) (p : Nat) : Bool :=
  (s.isSdh p || s.isOtn p) && s.on (PRT_DAMPER.key p) PRT_DAMPER.SQUELCH_ON_FAIL

/-- Ticks between probes, and the tick within them at which a probe starts. -/
def probePeriod : Nat := 8192
def probeStart : Nat := 8176

/-- Step 4 for the squelch of one port: it starts and ends with the defect; within it the transmitters send in
probes and while the receive hears its far end. -/
def State.squelchStep (s : State) (p : Nat) : State :=
  if s.squelches p && s.receiveFails p then
    let since := ((s.port p).squelchSince).getD s.dev.ticks
    let sends := decide (probeStart ≤ (s.dev.ticks - since) % probePeriod) || s.hearing p
    if (s.port p).squelchSince = some since ∧ (s.port p).probing = sends then s
    else s.updPort p fun x => { x with squelchSince := some since, probing := sends }
  else if (s.port p).squelchSince.isSome then s.updPort p fun x => { x with squelchSince := none, probing := false }
  else s

/-- The transmitters of a port are squelched (row 1). -/
def State.txSilent (s : State) (p : Nat) : Bool :=
  s.dev.coreBypass || ((s.lanesOf p).any fun l => (s.port l).squelched) ||
  ((s.port p).squelchSince.isSome && !(s.port p).probing)

/-! ### Entities -/

/-- The number of a damper output: what it carries and whose it is. -/
def damperKey (kind n : Nat) : Nat := kind * 2 ^ 48 + n

def dkPort : Nat := 0
def dkPathRx : Nat := 1
def dkPathTx : Nat := 2
def dkOduRx : Nat := 3
def dkOduTx : Nat := 4
def dkTribRx : Nat := 5
def dkTribTx : Nat := 6
def dkSlotRx : Nat := 7
def dkSlotTx : Nat := 8
def dkPacket : Nat := 9

/-- The first row that holds, of the rows after the first. -/
def chooseOut (forced hold defect unconnected : Bool) : DamperOut :=
  if forced then .forced else if hold then .hold else if defect then .defect
  else if unconnected then .unconnected else .traffic

/-- Row 3 for what a port receives. -/
def State.portHold (s : State) (p : Nat) : Bool :=
  (s.port p).modeHold || s.framerDown p || (s.port p).awaitResume

def State.rxHold (s : State) (p : Nat) : Bool := s.portHold p || s.laneTest p

/-- A port's transmitters. -/
def State.portOut (s : State) (p : Nat) : DamperOut :=
  if s.txSilent p then .squelch
  else chooseOut ((s.isSdh p && s.on (SDH_CFG.key p) SDH_CFG.FORCE_AIS_L) ||
      (s.isOtn p && s.on (OTN_CFG.key p) OTN_CFG.FORCE_ODU_AIS))
    (s.portHold p) (s.isEth p && s.sendsLocalFault p) false

/-- The endpoint takes its signal from the grate and finds no source there (R248). -/
def State.unfed (s : State) (w : BitVec 64) : Bool :=
  match s.runOf w with
  | some r => match s.grate.egress.find r.start with
    | some e => !e.valid
    | none => true
  | none => true

def State.pathRxOut (s : State) (p h : Nat) : DamperOut :=
  chooseOut false (s.rxHold p || s.lostContext p (entPath h)) (s.pathAis p h) false

def State.pathTxOut (s : State) (p h : Nat) : DamperOut :=
  if s.txSilent p then .squelch
  else chooseOut false (s.portHold p || s.lostContext p (entPath h)) false
    (decide ((s.path (pathKey p h)).cfg.mode = 0) && s.unfed (epWord (epPath p h)))

def State.oduRxOut (s : State) (p i : Nat) : DamperOut :=
  chooseOut false (s.rxHold p || s.lostContext p (entOdu i 0)) (s.oduAis p i) false

/-- FLAGS [3] of an ODU is FORCE_LCK (Table 05-13). -/
def State.oduTxOut (s : State) (p i : Nat) : DamperOut :=
  let c := (s.odu (oduKey p i)).cfg
  if s.txSilent p then .squelch
  else chooseOut (c.flags.testBit 3 || (decide (i = 0) && s.on (OTN_CFG.key p) OTN_CFG.FORCE_ODU_AIS))
    (s.portHold p || s.lostContext p (entOdu i 0)) false (decide (c.mode = 0) && s.unfed (epWord (epOdu p i)))

/-- A tributary's own holds: its mapper, its context, the shedding of its ALF entry. -/
def State.tribHold (s : State) (p h pos : Nat) : Bool :=
  s.mapperDown (s.trib (tribNum p h pos)).mapper || s.lostContext p (entTrib h pos) ||
  (posAlf pos && s.slotShed p (posId pos))

def State.tribRxOut (s : State) (p h pos : Nat) : DamperOut :=
  chooseOut false (s.rxHold p || s.tribHold p h pos) (s.tribAis p h pos) false

def State.tribTxOut (s : State) (p h pos : Nat) : DamperOut :=
  if s.txSilent p then .squelch
  else chooseOut false (s.portHold p || s.tribHold p h pos) false
    (decide ((s.trib (tribNum p h pos)).carrier = 0))

def State.slotRxOut (s : State) (p id : Nat) : DamperOut :=
  chooseOut false (s.rxHold p || s.slotShed p id) (s.alfServerAis p) false

def State.slotTxOut (s : State) (p id : Nat) : DamperOut :=
  if s.txSilent p then .squelch
  else chooseOut false (s.portHold p || s.slotShed p id) false (s.unfed (epWord (epSlot p id)))

/-- The packet region of an ALF port, toward its engine. -/
def State.packetOut (s : State) (p : Nat) : DamperOut := chooseOut false (s.rxHold p) (s.alfServerAis p) false

/-- SLOT entries of a port's list in force, or of its bundle's. -/
def State.slotsOf (s : State) (p : Nat) : List Nat :=
  if s.isAlf p = false then []
  else
    let l := match s.bondOf p with
      | some (g, _) => if s.bundlePort g = p then (s.bond g).txList else []
      | none => (s.alf p).list
    (l.filter fun t => decide (t.ttype = 3)).map AlfTrib.id

/-- Step 4: every entity's output by the first row of Table 11-2 that holds. -/
def State.damperTable (s : State) : Tbl DamperOut :=
  let used := (List.range s.portCount).filter fun p => decide (s.family p ≠ 0) && !s.isMember p
  let paths := (s.paths.filter fun x => decide (x.2.cfg.ptype ≠ 0)).map Prod.fst
  let odus := (s.odus.filter fun x => decide (x.2.cfg.otype ≠ 0)).map Prod.fst
  let tribs := (s.tribs.filter fun x => decide (x.2.cfg.ttype ≠ 0)).map Prod.fst
  let slots := used.flatMap fun p => (s.slotsOf p).map fun id => (p, id)
  used.map (fun p => (damperKey dkPort p, s.portOut p)) ++
  paths.map (fun k => (damperKey dkPathRx k, s.pathRxOut (k / 256) (k % 256))) ++
  paths.map (fun k => (damperKey dkPathTx k, s.pathTxOut (k / 256) (k % 256))) ++
  odus.map (fun k => (damperKey dkOduRx k, s.oduRxOut (k / 256) (k % 256))) ++
  odus.map (fun k => (damperKey dkOduTx k, s.oduTxOut (k / 256) (k % 256))) ++
  tribs.map (fun k => (damperKey dkTribRx k, s.tribRxOut (k / 2 ^ 24) (k / 65536 % 256) (k % 65536))) ++
  tribs.map (fun k => (damperKey dkTribTx k, s.tribTxOut (k / 2 ^ 24) (k / 65536 % 256) (k % 65536))) ++
  slots.map (fun x => (damperKey dkSlotRx (x.1 * 4096 + x.2), s.slotRxOut x.1 x.2)) ++
  slots.map (fun x => (damperKey dkSlotTx (x.1 * 4096 + x.2), s.slotTxOut x.1 x.2)) ++
  (used.filter fun p => s.isAlf p).map fun p => (damperKey dkPacket p, s.packetOut p)

/-- The outputs that carry a replacement signal in place of traffic. -/
def DamperOut.replaces : DamperOut → Bool
  | .traffic => false
  | .unconnected => false
  | _ => true

/-- The endpoint whose receive side an output belongs to. -/
def damperEp (k : Nat) : Option (BitVec 64) :=
  let n := k % 2 ^ 48
  if k / 2 ^ 48 = dkPathRx then some (epWord (epPath (n / 256) (n % 256)))
  else if k / 2 ^ 48 = dkTribRx then some (epWord (epTrib (n / 2 ^ 24) (n / 65536 % 256) (n % 65536)))
  else none

/-- The endpoints that take their signal from an endpoint. -/
def State.sinksOf (s : State) (w : BitVec 64) : List (BitVec 64) :=
  s.liveConns.flatMap fun c =>
    (if c.2.a = w then [c.2.b] ++ (if c.2.prot = 1 then [c.2.b2] else []) ++ c.2.sinks.map Sink.ep else []) ++
    (if c.2.dir = 0 ∧ (c.2.b = w ∨ (c.2.prot = 1 ∧ c.2.b2 = w)) then [c.2.a] else [])

/-- The step 4 of the damper: squelches, then every output; where AIS ends, the pointer generators of the sinks
send an enabled NDF (R271). -/
def State.damperStep (s : State) : State :=
  let s1 := s.each (List.range s.portCount) State.squelchStep
  let t := s1.damperTable
  let ended := s1.dampers.filterMap fun x =>
    if x.2.replaces && decide (t.find x.1 = some .traffic) then damperEp x.1 else none
  let s2 : State := { s1 with dampers := t }
  s2.each (ended.flatMap s2.sinksOf) State.newSource

/-- The output of an entity as last set. -/
def State.damper (s : State) (kind n : Nat) : DamperOut := s.dampers.getD (damperKey kind n) .traffic

/-! ### PRT_DAMPER_CFG (R273) -/

def State.damperCfgFault (s : State) (bs : List Byte) : Option Nat :=
  layoutFault bs 8 [such 0 1 s.portOk, rsv 1 3, such 4 4 (regBitsOk (PRT_DAMPER.key 0))]

def State.damperCfgAdmit (s : State) (p : Packet) : Verdict :=
  .accept (s.wrStaged (PRT_DAMPER.key (p.fld 0 1)) (BitVec.ofNat 32 (p.fld 4 4)))

def State.flipDamper (s : State) (p : Nat) : State := s.flipRegs [PRT_DAMPER.key p]

def State.damperCfgRun (s : State) (p : Packet) : Done := okDone (s.flipDamper (p.fld 0 1))

/-! ### Rows -/

/-- SQUELCH_PROBE: the transmitters of a squelched port begin or end a probe. -/
def execSquelchProbe (p : Port) (s : State) : Host.Outcome State Fault Refusal :=
  .next (if (s.port p).squelchSince.isSome then s.squelchStep p else s).settle

/-- DEFECT_DECIDED: an integration not decided by a frame row has run. -/
def State.defectDecided (s : State) (c : Cond) (set : Bool) : State :=
  if c.source < 96 ∧ laneDefect c.code = true then s.laneDecided (s.laneOf c) c.code set
  else
    let s1 := if c.source < 96 ∧ s.isEth c.source = true then
        (if c.code = dETH_LOBL then s.put (ETH_STATUS.key c.source) ETH_STATUS.BLOCK_LOCK (bit !set)
         else if c.code = dETH_HIBER then s.put (ETH_STATUS.key c.source) ETH_STATUS.HI_BER (bit set) else s)
      else s
    s1.rule c set

def execDefectDecided (c : Cond) (set : Bool) (s : State) : Host.Outcome State Fault Refusal :=
  .next (s.defectDecided c set).settle

def execLaneFaultRetry (p : Port) (held : Bool) (s : State) : Host.Outcome State Fault Refusal :=
  .next (s.laneRetry p held).settle

end Sys2Proof.Machine
end

