-- ==== Sys2Proof/Machine/Pm.lean ====
section
/-! DEFINITION. Counters by reference (Table 11-6), snapshots (R279 to R282), seconds, availability and bins
(R283 to R288), CNT_CLEAR, PM_CFG and PM_READ. -/

namespace Sys2Proof.Machine

/-! ### Counter references (Tables 11-4, 11-6) -/

/-- A counter reference taken from 8 bytes. -/
structure Ref where
  port : Nat
  kind : Nat
  head : Nat
  index : Nat
  ref : Nat
  counter : Nat
  layer : Nat
  deriving DecidableEq, Repr

def refAt (bs : List Byte) (off : Nat) : Ref :=
  ⟨fieldAt bs off 1, fieldAt bs (off + 1) 1, fieldAt bs (off + 2) 1, fieldAt bs (off + 3) 1, fieldAt bs (off + 4) 2,
   fieldAt bs (off + 6) 1, fieldAt bs (off + 7) 1⟩

def refOfWord (w : Nat) : Ref :=
  ⟨bitsOf w 56 8, bitsOf w 48 8, bitsOf w 40 8, bitsOf w 32 8, bitsOf w 16 16, bitsOf w 8 8, bitsOf w 0 8⟩

def Ref.key (r : Ref) : Nat := ctrKey r.port r.kind r.head r.index r.ref r.counter r.layer

/-- Counters of a KIND. -/
def kindCounters (kind index : Nat) : Nat :=
  if kind = 6 ∧ index = 0xFF then 1 else [0, 6, 4, 12, 0, 6, 9, 2, 3].getD kind 0

/-- The fields of a reference that names a counter; `all` admits COUNTER 0xFF. -/
def State.refFields (s : State) (bs : List Byte) (off : Nat) (all : Bool) : List LField :=
  let k := fieldAt bs (off + 1) 1
  let i := fieldAt bs (off + 3) 1
  [such off 1 (fun p => if k = 6 then decide (p < 8) else if k = 7 then decide (p < groupsBonding)
     else if k = 8 then decide (p < groupsHrp) else decide (p < s.portCount)),
   such (off + 1) 1 (fun k => [1, 2, 3, 5, 6, 7, 8].contains k),
   such (off + 2) 1 (fun h => decide (k = 1 ∨ k = 3 ∨ h = 0)),
   such (off + 3) 1 (fun i => if k = 2 then decide (i ≤ 80) else if k = 6 then decide (i < 64 ∨ i = 0xFF)
     else decide (i = 0)),
   such (off + 4) 2 (fun r => decide (k = 3 ∨ r = 0)),
   such (off + 6) 1 (fun c => decide (c < kindCounters k i) || (all && decide (c = 0xFF))),
   such (off + 7) 1 (fun l => if k = 2 then decide (l < 7) else decide (l = 0))]

/-- The entity of a reference is configured. -/
def State.refExists (s : State) (r : Ref) : Bool :=
  if r.kind = 1 then decide ((s.path (pathKey r.port r.head)).cfg.ptype ≠ 0)
  else if r.kind = 2 then decide ((s.odu (oduKey r.port r.index)).cfg.otype ≠ 0) &&
    (decide (r.layer = 0) || decide (((s.odu (oduKey r.port r.index)).cfg.tcm.getD (r.layer - 1) (0, 0, 0)).1 ≠ 0))
  else if r.kind = 3 then decide ((s.trib (tribNum r.port r.head r.ref)).cfg.ttype ≠ 0)
  else if r.kind = 5 then decide (s.family r.port ≠ 0) && !s.isMember r.port
  else if r.kind = 6 then decide (r.index = 0xFF) || decide ((s.flow (engKey r.port r.index)).cfg.chKind ≠ 0)
  else if r.kind = 7 then !(s.bondMembers r.port).isEmpty
  else if r.kind = 8 then s.hrpOn r.port
  else false

/-- The counter as it stands: value, OVF, and the entity's WRAP. -/
def State.counter (s : State) (r : Ref) : Nat × Bool × Nat :=
  if r.kind = 5 ∧ r.counter < 4 then
    let c := (s.port r.port).cnts.getD r.counter {}
    (c.value, c.ovf, c.wrap)
  else if r.kind = 3 ∧ 8 ≤ r.counter then
    match s.pm.recs.find (layKey r.port 3 r.head 0 r.ref 1) with
    | none => (0, false, 0)
    | some x =>
      let b := x.near.cur15
      ([b.es, b.ses, b.bbe, b.uas].getD (r.counter - 8) 0, false, 0)
  else
    let c := s.pm.ctrs.getD r.key {}
    (c.value, c.ovf, (s.pm.ctrs.getD (ctrEntity r.key) {}).wrap)

/-- The word of a snapshot entry (R281). -/
def State.snapWord (s : State) (w : BitVec 64) : BitVec 64 :=
  let r := refOfWord w.toNat
  if s.refExists r then
    let c := s.counter r
    BitVec.ofNat 64 (c.1 + bit c.2.1 * 2 ^ 48 + (c.2.2 % 16) * 2 ^ 49)
  else BitVec.ofNat 64 (2 ^ 53)

/-! ### CNT_CLEAR (R278) -/

def State.cntClearFault (s : State) (bs : List Byte) : Option Nat := layoutFault bs 8 (s.refFields bs 0 true)

/-- One counter and its flags go to 0. -/
def State.clearCounter (s : State) (r : Ref) : State :=
  if r.kind = 5 ∧ r.counter < 4 then
    s.updPort r.port fun x => { x with cnts := x.cnts.store r.counter {} {} }
  else
    { s with pm := { s.pm with ctrs := s.pm.ctrs.store r.key {} {} } }

def State.cntClearRun (s : State) (p : Packet) : Done :=
  let r := refAt p.payload 0
  let cs := if r.counter = 0xFF then List.range (kindCounters r.kind r.index) else [r.counter]
  let s1 := s.each cs fun s c => s.clearCounter { r with counter := c }
  let e := ctrEntity r.key
  okDone { s1 with pm := { s1.pm with ctrs := s1.pm.ctrs.store e {} {} } }

/-! ### Snapshot sets (R279 to R282) -/

def State.snapSet (s : State) (n : Nat) : SnapSet := s.pm.sets.getD n {}
def State.updSet (s : State) (n : Nat) (f : SnapSet → SnapSet) : State :=
  { s with pm := { s.pm with sets := s.pm.sets.store n (f (s.snapSet n)) {} } }

/-- The references of a SNAP_SET_CFG payload: SET, OP, COUNT, then the list. -/
def State.snapCfgFault (s : State) (bs : List Byte) : Option Nat :=
  let n := fieldAt bs 2 2
  layoutFault bs (4 + 8 * n) ([below 0 1 16, below 1 1 2, within 2 2 0 500] ++
    if n ≤ 500 then (List.range n).flatMap fun i => s.refFields bs (4 + 8 * i) false else [])

def snapRefs (bs : List Byte) : List (BitVec 64) :=
  (List.range (fieldAt bs 2 2)).map fun i => BitVec.ofNat 64 (fieldAt bs (4 + 8 * i) 8)

def snapMost : Nat := 2048

/-- Row 9: an append beyond 2,048 references is refused at COUNT. -/
def State.snapCfgAdmit (s : State) (p : Packet) : Verdict :=
  let old := if p.fld 1 1 = 1 then (s.snapSet (p.fld 0 1)).staged else []
  let new := old ++ snapRefs p.payload
  if snapMost < new.length then .bad 2 else .accept (s.updSet (p.fld 0 1) fun x => { x with staged := new })

def State.flipSnapSet (s : State) (n : Nat) : State := s.updSet n fun x => { x with refs := x.staged }

def State.snapCfgRun (s : State) (p : Packet) : Done := okDone (s.flipSnapSet (p.fld 0 1))

/-- SNAPSHOT: SET, 3 reserved bytes, INTERVAL (4 bytes). -/
def snapshotFault (bs : List Byte) : Option Nat := layoutFault bs 8 [below 0 1 16, rsv 1 3]

/-- A SNAPSHOT that repeats is held by its entry and completes when that is removed (R280). Notes: assumption 25. -/
def repeats (p : Packet) (creation : Nat) : Bool := decide (p.fld 4 4 ≠ 0) && decide (creation ≠ noCreation)

/-- A SNAPSHOT that has been taken, or superseded. -/
def State.endSnapshot (s : State) (p : Packet) (c status flags : Nat) : State :=
  if repeats p c then s else s.complete p (if c = noCreation then none else some c) status 0 flags []

/-- SNAPSHOT at its tick: the set is due at step 5. A second one of the set in the tick merges: the later stays. -/
def State.snapshotDue (s : State) (p : Packet) (creation : Option Nat) : Done :=
  let c := creation.getD noCreation
  let old := s.pm.due.find? fun d => decide (d.1 = p.fld 0 1)
  let s1 := match old with
    | some d => s.endSnapshot d.2.1 d.2.2 stSUPERSEDED 0
    | none => s
  runsOn { s1 with pm := { s1.pm with due := (s1.pm.due.filter fun d => decide (d.1 ≠ p.fld 0 1)) ++ [(p.fld 0 1, p, c)] } }

/-- One snapshot: it writes the older buffer. -/
def State.takeSnapshot (s : State) (n : Nat) : State :=
  let x := s.snapSet n
  let seq := (x.seq + 1) % 65536
  let buf : SnapBuf := { seq := seq, time := s.timeWord, label := s.time.tod, words := x.refs.map s.snapWord }
  let s1 := s.updSet n fun x => { x with older := x.newer, newer := some buf, seq := seq }
  s1.put SYS_SNAP_STATUS.key SYS_SNAP_STATUS.SET_VALID (s1.get SYS_SNAP_STATUS.key SYS_SNAP_STATUS.SET_VALID ||| 2 ^ n)

def snapPerTick : Nat := 8192

/-- The snapshots of a step 5 in creation order, up to 8,192 counters; those beyond wait for the next tick. -/
def State.snapsFrom (s : State) (carried : List Nat) : List (Nat × Packet × Nat) → Nat → State
  | [], _ => s
  | (n, p, c) :: rest, spent =>
    let size := (s.snapSet n).refs.length
    if snapPerTick < spent + size ∧ 0 < spent then
      ({ s with pm := { s.pm with due := (n, p, c) :: rest } }).put SYS_SNAP_STATUS.key SYS_SNAP_STATUS.CARRIED_HIST 1
    else
      let s1 := s.takeSnapshot n
      let flags := cflagsOf false (carried.contains n)
      let s2 := s1.endSnapshot p c stOK flags
      s2.snapsFrom carried rest (spent + size)

/-- SNAPSHOT_EXECUTE and the snapshots of step 5. `first` is 0 but for the sets carried from an earlier tick. -/
def State.takeSnapshots (s : State) (carried : List Nat) : State :=
  if s.pm.due = [] then s
  else
    let ds := sortBy (fun d : Nat × Packet × Nat => d.2.2) s.pm.due
    ({ s with pm := { s.pm with due := [] } }).snapsFrom carried ds 0

/-- SNAP_READ: SET, 1 reserved byte, SEQ, START, COUNT. -/
def snapReadFault (bs : List Byte) : Option Nat :=
  layoutFault bs 8 [below 0 1 16, rsv 1 1, below 4 2 snapMost, within 6 2 0 500]

/-- SEQ, the number of words given, the time word, the label, then the words. -/
def snapBytes (b : SnapBuf) (start count : Nat) : List Byte :=
  let ws := (b.words.drop start).take count
  beBytes 2 b.seq ++ beBytes 2 ws.length ++ beBytes 8 b.time ++ beBytes 8 b.label ++
  ws.flatMap fun w => beBytes 8 w.toNat

/-- A SEQ that neither buffer holds is SUPERSEDED when older, NOT_PRESENT when no snapshot has it. -/
def State.snapRead (s : State) (p : Packet) : Verdict :=
  let x := s.snapSet (p.fld 0 1)
  let seq := p.fld 2 2
  match [x.newer, x.older].findSome? fun b => b.filter fun b => decide (b.seq = seq) with
  | some b => .answer stOK (snapBytes b (p.fld 4 2) (p.fld 6 2)) s
  | none =>
    match x.newer with
    | some b => if (b.seq + 65536 - seq) % 65536 < 32768 then .refuse stSUPERSEDED 0 [] else .refuse stNOT_PRESENT 0 []
    | none => .refuse stNOT_PRESENT 0 []

/-! ### Layers (R283, R287, Table 11-7) -/

/-- The port's line or section receives no frames, or its AIS. -/
def State.sectionDefect (s : State) (p : Nat) : Bool :=
  s.losOf p || s.portHas p [dLOF, dTIM_S]

def State.lineDefect (s : State) (p : Nat) : Bool :=
  if s.isOtn p then s.oduServer p 0 || s.portHas p [dTIM] || s.oduHas p 0 0 [dODU_AIS, dLCK, dOCI, dTIM, dPLM] ||
      s.portHas p [dLOF, dAIS_L]
  else s.sectionDefect p || s.portHas p [dAIS_L]

def State.pathDefect (s : State) (p h : Nat) : Bool :=
  s.lineDefect p || s.pathHas p h [dAIS_P, dLOP_P, dUNEQ_P, dPLM_P, dTIM_P]

def State.tribServerDefect (s : State) (p h pos : Nat) : Bool :=
  if posAlf pos then s.alfServerAis p || s.slotShed p (posId pos) else s.pathDefect p h || s.pathHas p h [dLOM_P]

def State.tribDefect (s : State) (p h pos : Nat) : Bool :=
  s.tribServerDefect p h pos || s.tribHas p h pos [dAIS_V, dLOP_V, dUNEQ_V, dPLM_V, dTIM_V]

/-- A defect of the layer or of a server layer whose action toward it is AIS, shed or idle (R283). -/
def State.nearDefect (s : State) (lay : Nat) : Bool :=
  let r := refOfWord lay
  let p := r.port
  if r.kind = 1 then s.pathDefect p r.head
  else if r.kind = 2 then
    s.oduServer p r.index || s.portHas p [dTIM] ||
    (if r.layer = 0 then s.oduHas p r.index 0 [dODU_AIS, dLCK, dOCI, dTIM] ||
        (decide ((s.odu (oduKey p r.index)).cfg.mode = 1) && s.oduHas p r.index 0 [dPLM])
     else s.oduHas p r.index r.layer [dLTC, dODU_AIS, dLCK, dOCI, dTIM])
  else if r.kind = 3 then
    (if r.layer = 0 then s.tribDefect p r.head r.ref else s.tribDefect p r.head r.ref)
  else if r.kind = 5 then
    (if s.isOtn p then s.losOf p || s.portHas p [dOTU_LOF, dLOL, dLOM, dTIM]
     else if s.isAlf p then s.alfDown p
     else if r.layer = 0 then s.sectionDefect p else s.lineDefect p)
  else if r.kind = 7 then s.has (condBond p dBUNDLE_DOWN)
  else s.alfDown (s.hrpMain p) && s.alfDown (s.hrpOther p)

/-- The far-end defect of the last column of Table 11-7. -/
def State.farDefect (s : State) (lay : Nat) : Bool :=
  let r := refOfWord lay
  let p := r.port
  if r.kind = 1 then s.pathHas p r.head [dRDI_P]
  else if r.kind = 2 then s.oduHas p r.index r.layer [dBDI]
  else if r.kind = 3 then
    s.tribHas p r.head r.ref (if r.layer = 0 then [dRDI_V] else [dE1_RAI, dT1_RAI])
  else if r.kind = 5 then
    (if s.isOtn p then s.portHas p [dBDI] else if s.isAlf p then s.portHas p [dRDI_A]
     else decide (r.layer = 1) && s.portHas p [dRDI_L])
  else if r.kind = 7 then (s.bondMembers p).any fun q => s.portHas q.2 [dRDI_A]
  else s.portHas (s.hrpMain p) [dRDI_A] || s.portHas (s.hrpOther p) [dRDI_A]

/-- Frames per second of an OTU mode and of an ODU, from the rates of Tables 05-1 and 05-4. -/
def otuPerSecond (rate : Nat) : Nat := [2666057, 10709225, 11095728, 111809974].getD rate 0 * 1000 / 130560
def oduPerSecond (t flex : Nat) : Nat := oduKbps t flex * 1000 / 122368

/-- 15% and 30% of the blocks of a second, rounded up. -/
def share (percent blocks : Nat) : Nat := ceilDiv (blocks * percent) 100

/-- The SES threshold of a layer; T1's follows the blocks of the second, 333 or 334. -/
def State.sesThreshold (s : State) (lay : Nat) (odd : Bool) : Nat :=
  let r := refOfWord lay
  if r.kind = 2 then
    let c := (s.odu (oduKey r.port r.index)).cfg
    share 15 (oduPerSecond c.otype c.flexRate)
  else if r.kind = 3 then
    (if r.layer = 0 then 600
     else if (s.trib (tribNum r.port r.head r.ref)).cfg.mon = 2 then share 30 (333 + bit odd) else 300)
  else if r.kind = 5 ∧ s.isOtn r.port = true then share 15 (otuPerSecond (s.rate r.port))
  else 2400

/-! ### Seconds (R284, R285) -/

/-- What a second adds to the bin that holds it. -/
def PmSec.bin (x : PmSec) : Bin :=
  if x.counted then
    (if x.avail then { es := bit x.es, ses := bit x.ses, bbe := x.bbe } else { uas := 1 })
  else {}

/-- A bin with another's counts added; BBE holds at `top`. -/
def Bin.plus (top : Nat) (a b : Bin) : Bin :=
  { a with es := a.es + b.es, ses := a.ses + b.ses, uas := a.uas + b.uas, bbe := min top (a.bbe + b.bbe) }

def Bin.minus (a b : Bin) : Bin :=
  { a with es := a.es - b.es, ses := a.ses - b.ses, uas := a.uas - b.uas, bbe := a.bbe - b.bbe }

def Bin.flag (b : Bin) (i : Nat) : Bin := { b with flags := b.flags ||| 2 ^ i }

def flagIncomplete : Nat := 7
def flagAdjusted : Nat := 6
def flagSubstituted : Nat := 5
def flagSettled : Nat := 3

/-- Most a 15-minute and a 24-hour bin hold of BBE: narrow for a low-order path, wide for any other. -/
def bbeTop (lay : Nat) (day : Bool) : Nat :=
  if bitsOf lay 48 8 = 3 ∧ lay % 256 = 0 then (if day then 2 ^ 32 - 1 else 2 ^ 22 - 1) else 2 ^ 40 - 1

/-- A bin from which a second's old share is taken and its new share is added. -/
def Bin.moved (top : Nat) (b : Bin) (old new : Bin) : Bin := (b.minus old).plus top new

/-- The last seconds counted otherwise: each in the bin that holds it; a previous bin so changed is ADJUSTED. -/
def EndSt.recount (lay : Nat) (e : EndSt) (f : PmSec → PmSec) : EndSt :=
  let step := fun (e : EndSt) (x : PmSec) =>
    let old := x.bin
    let new := (f x).bin
    if old = new then e
    else
      let e1 := if x.old15 then { e with prev15 := (e.prev15.moved (bbeTop lay false) old new).flag flagAdjusted }
        else { e with cur15 := e.cur15.moved (bbeTop lay false) old new }
      if x.old24 then { e1 with prev24 := (e1.prev24.moved (bbeTop lay true) old new).flag flagAdjusted }
      else { e1 with cur24 := e1.cur24.moved (bbeTop lay true) old new }
  let e1 := e.last.foldl step e
  { e1 with last := e.last.map f }

/-- A closing second at one end. -/
def secondOf (thr errs : Nat) (defect avail counted : Bool) : PmSec :=
  let es := defect || decide (0 < errs)
  let ses := defect || decide (thr ≤ errs)
  { es := es, ses := ses, bbe := if es && !ses then errs else 0, avail := avail, counted := counted }

/-- The second enters the current bins and the last ten. -/
def EndSt.count (lay : Nat) (e : EndSt) (x : PmSec) : EndSt :=
  { e with last := (x :: e.last).take 10
           cur15 := e.cur15.plus (bbeTop lay false) x.bin
           cur24 := e.cur24.plus (bbeTop lay true) x.bin }

/-- The run of R285 after a second; at 10 the availability turns over. -/
def EndSt.turn (e : EndSt) (ses : Bool) : Bool × EndSt :=
  let n := if ses = e.available then e.run + 1 else 0
  if n = 10 then (true, { e with available := !e.available, run := 0 }) else (false, { e with run := n })

/-- The closing second of a record (R284, R285). -/
def PmRec.close (lay thr : Nat) (r : PmRec) : PmRec :=
  match r.near.closing, r.far.closing with
  | some (ne, nd), some (fe, fd) =>
    let avail := r.near.available
    if r.frozen then
      let uas : Bin := { uas := 1 }
      { r with near := { r.near with closing := none, cur15 := r.near.cur15.plus (bbeTop lay false) uas,
                                       cur24 := r.near.cur24.plus (bbeTop lay true) uas }
               far := { r.far with closing := none } }
    else
      let x := secondOf thr ne nd avail true
      let y := secondOf thr fe fd r.far.available avail
      let n1 := ({ r.near with closing := none }).count lay x
      let f1 := ({ r.far with closing := none }).count lay y
      let (nt, n2) := n1.turn x.ses
      let n3 := if nt then n2.recount lay fun z => { z with avail := n2.available } else n2
      let f2 := if nt then f1.recount lay fun z => { z with counted := n2.available } else f1
      let (ft, f3) := f2.turn y.ses
      let f4 := if ft then f3.recount lay fun z => { z with avail := f3.available } else f3
      { r with near := n3, far := f4 }
  | _, _ => r

/-- The current bin becomes the previous one (R287). -/
def EndSt.roll15 (e : EndSt) (mark : Bool) : EndSt :=
  { e with prev15 := if mark then e.cur15.flag flagIncomplete else e.cur15
           cur15 := if mark then ({} : Bin).flag flagIncomplete else {}
           last := e.last.map fun x => { x with old15 := true } }

def EndSt.roll24 (e : EndSt) (mark : Bool) : EndSt :=
  { e with prev24 := if mark then e.cur24.flag flagIncomplete else e.cur24
           cur24 := if mark then ({} : Bin).flag flagIncomplete else {}
           last := e.last.map fun x => { x with old24 := true } }

def EndSt.settle15 (e : EndSt) : EndSt := { e with prev15 := e.prev15.flag flagSettled }
def EndSt.settle24 (e : EndSt) : EndSt := { e with prev24 := e.prev24.flag flagSettled }

/-- Bins roll, and a bin ten seconds old is SETTLED. -/
def PmRec.roll (r : PmRec) (new15 new24 mark : Bool) : PmRec :=
  let a := r.age15 + 1
  let b := r.age24 + 1
  let r1 := if a = 10 then { r with near := r.near.settle15, far := r.far.settle15 } else r
  let r2 := if b = 10 then { r1 with near := r1.near.settle24, far := r1.far.settle24 } else r1
  let r3 := { r2 with age15 := min a 11, age24 := min b 11 }
  let r4 := if new15 then { r3 with near := r3.near.roll15 mark, far := r3.far.roll15 mark, age15 := 0 } else r3
  if new24 then { r4 with near := r4.near.roll24 mark, far := r4.far.roll24 mark, age24 := 0 } else r4

/-- Every record with its key. -/
def State.mapRecs (s : State) (f : Nat → PmRec → PmRec) : State :=
  { s with pm := { s.pm with recs := s.pm.recs.map fun x => (x.1, f x.1 x.2) } }

/-! ### Step 1: what arrives belongs to the second in progress (R283) -/

/-- At a tick that ends a second, the second so far waits for its close at step 5. -/
def EndSt.rotate (e : EndSt) : EndSt := { e with closing := some (e.secErrs, e.defect), secErrs := 0, defect := false }

def State.rotateSecond (s : State) : State :=
  let s1 := s.mapRecs fun _ r => { r with near := r.near.rotate, far := r.far.rotate }
  { s1 with pm := { s1.pm with closing := true } }

/-- Errored blocks found since the last tick arrive. -/
def EndSt.absorb (e : EndSt) : EndSt := { e with secErrs := e.secErrs + e.errs, errs := 0 }

def State.absorbErrors (s : State) : State :=
  s.mapRecs fun _ r => { r with near := r.near.absorb, far := r.far.absorb }

/-- The layers that a declared defect affects are in a defect second. -/
def State.markDefects (s : State) : State :=
  s.mapRecs fun k r => { r with
    near := { r.near with defect := r.near.defect || s.nearDefect k }
    far := { r.far with defect := r.far.defect || s.farDefect k } }

/-! ### The close (R283 to R288) -/

/-- The position in the bins after a second whose successor starts at SFN `next`. -/
def State.showSecond (s : State) (next : Nat) : State :=
  (s.put SYS_PM_STATUS.key SYS_PM_STATUS.SECOND (next / 8000 % 900)).put SYS_PM_STATUS.key SYS_PM_STATUS.QUARTER
    (next / 8000 / 900 % 96)

/-- The close of the second before SFN `next`; `last` is the second's own number, `jump` a forward SET_SFN. -/
def State.closeSeconds (s : State) (last next : Nat) (jump : Bool) : State :=
  let odd := s.fresh
  let s1 : State := { odd.2 with pm := { odd.2.pm with closing := false } }
  let new15 := decide (last / 900 ≠ next / 8000 / 900)
  let new24 := decide (last / 86400 ≠ next / 8000 / 86400)
  let mark := jump && decide (next / 8000 ≠ last + 1)
  let s2 := s1.mapRecs fun k r => (r.close k (s1.sesThreshold k (odd.1 % 2 = 1))).roll new15 new24 mark
  let s3 := if mark then s2.mapRecs fun _ r =>
      { r with near := { r.near with last := [] }, far := { r.far with last := [] } } else s2
  (s3.showSecond next).each (List.range s3.portCount) fun s p =>
    if s.isOtn p then s.degClosePort p else s

/-- EPOCH_RESTART: the second and the bins close INCOMPLETE (R288). -/
def State.closeRestart (s : State) (v : Nat) : State :=
  let s0 := if s.pm.closing then s.closeSeconds (s.time.sfn / 8000 - 1) s.time.sfn false else s
  let s1 := (s0.rotateSecond).mapRecs fun k r =>
    let c := (r.close k (s.sesThreshold k false)).roll true true true
    let part := decide (v % 8000 ≠ 0)
    let tidy := fun (e : EndSt) (n : Nat) => { e with
      last := []
      cur15 := if part || decide (v / 8000 % 900 ≠ 0) then e.cur15 else { e.cur15 with flags := 0 }
      cur24 := if part || decide (v / 8000 % n ≠ 0) then e.cur24 else { e.cur24 with flags := 0 } }
    { c with near := tidy c.near 86400, far := tidy c.far 86400 }
  (({ s1 with pm := { s1.pm with closing := false } }).showSecond v).each (List.range s1.portCount) fun s p =>
    if s.isOtn p then s.degClosePort p else s

/-- The flag of a bin in which a substitution affected an entity (R286). -/
def State.flagSubst (s : State) (pick : Nat → Bool) : State :=
  s.mapRecs fun k r => if pick k then
      { r with near := { r.near with cur15 := r.near.cur15.flag flagSubstituted,
                                     cur24 := r.near.cur24.flag flagSubstituted } }
    else r

/-- An E1 or T1 monitor is frozen or runs again (R217). -/
def State.freezeMonitors (s : State) : State :=
  s.mapRecs fun k r =>
    let x := refOfWord k
    if x.kind = 3 ∧ x.layer = 1 then { r with frozen := !s.monitorRuns x.port x.head x.ref } else r

/-! ### PM_CFG and PM_READ (R287, R288) -/

/-- The layer is one the reference may name; the offset of the first field that names none. -/
def State.layerFault (s : State) (bs : List Byte) : Option Nat :=
  let r := refAt bs 0
  let p := r.port
  let k := r.kind
  let tr := s.trib (tribNum p r.head r.ref)
  firstOf ([(([such 0 1 (fun v => if k = 7 then decide (v < groupsBonding) && !(s.bondMembers v).isEmpty
        else if k = 8 then decide (v < groupsHrp) && s.hrpOn v
        else decide (v < s.portCount) && (decide (k ≠ 5) || s.isSdh v || s.isOtn v || s.isAlf v)),
      such 1 1 (fun k => [1, 2, 3, 5, 7, 8].contains k),
      such 2 1 (fun h => if k = 1 then decide ((s.path (pathKey p h)).cfg.ptype ≠ 0)
        else decide (k = 3 ∨ h = 0)),
      such 3 1 (fun i => if k = 2 then decide ((s.odu (oduKey p i)).cfg.otype ≠ 0) else decide (i = 0)),
      such 4 2 (fun v => if k = 3 then decide (tr.cfg.ttype ≠ 0) else decide (v = 0)),
      such 6 1 (fun c => decide (c = 0)),
      such 7 1 (fun l => if k = 2 then s.layerOk p r.index l
        else if k = 3 then decide (l = 0) || (decide (l = 1) && decide (tr.cfg.mon ≠ 0))
        else if k = 5 then decide (l = 0) || (decide (l = 1) && s.isSdh p)
        else decide (l = 0))] : List LField).findSome? fun f =>
          if f.off + f.size ≤ bs.length ∧ f.ok (fieldAt bs f.off f.size) = false then some f.off else none)])

def State.pmCfgFault (s : State) (bs : List Byte) : Option Nat :=
  firstOf [s.layerFault bs, layoutFault bs 12 [below 8 1 2, rsv 9 3]]

def Ref.layer0 (r : Ref) : Nat := layKey r.port r.kind r.head r.index r.ref r.layer

def loPath (r : Ref) : Bool := decide (r.kind = 3 ∧ r.layer = 0)

/-- Row 9 of PM_CFG: records run out at 16,384, pages before. -/
def State.pmCfgAdmit (s : State) (p : Packet) : Verdict :=
  let r := refAt p.payload 0
  let k := r.layer0
  if loPath r ∨ p.fld 8 1 = 0 ∨ (s.pm.recs.find k).isSome then .accept s
  else if 16384 ≤ s.pmRecords then .noRes [⟨rPM_RECORDS, 0, 1, 0⟩]
  else
    let s1 := { s with pm := { s.pm with recs := s.pm.recs.put k {} } }
    if s.poolPages 0 < s1.contextPages then .noRes [⟨rCONTEXT_PAGES, 0, 1, 0⟩] else .accept s

def newRec : PmRec :=
  let b := ({} : Bin).flag flagIncomplete
  { near := { cur15 := b, cur24 := b }, far := { cur15 := b, cur24 := b }, age15 := 11, age24 := 11 }

def State.pmCfgRun (s : State) (p : Packet) : Done :=
  let r := refAt p.payload 0
  let k := r.layer0
  if loPath r then okDone s
  else if p.fld 8 1 = 0 then okDone { s with pm := { s.pm with recs := s.pm.recs.drop k } }
  else if (s.pm.recs.find k).isSome then okDone s
  else okDone { s with pm := { s.pm with recs := s.pm.recs.put k newRec } }

def State.pmReadFault (s : State) (bs : List Byte) : Option Nat := firstOf [s.layerFault bs, layoutFault bs 8 []]

/-- Table 11-10. -/
def Bin.bytes (b : Bin) : List Byte :=
  beBytes 3 b.es ++ beBytes 3 b.ses ++ beBytes 3 b.uas ++ beBytes 5 b.bbe ++ beBytes 1 b.flags ++ [0]

/-- The eight bins in the order of R287. -/
def PmRec.bytes (r : PmRec) : List Byte :=
  [r.near.cur15, r.far.cur15, r.near.prev15, r.far.prev15, r.near.cur24, r.far.cur24, r.near.prev24,
    r.far.prev24].flatMap Bin.bytes

def State.pmRead (s : State) (p : Packet) : Verdict :=
  match s.pm.recs.find (refAt p.payload 0).layer0 with
  | some r => .answer stOK r.bytes s
  | none => .refuse stNOT_PRESENT 0 []

/-! ### Rows -/

def execSnapshotExecute (s : State) : Host.Outcome State Fault Refusal :=
  .next (s.takeSnapshots (s.pm.due.map Prod.fst)).settle

/-- BER_WINDOW_END of the detector that the window names. -/
def State.windowEnd (s : State) (w : BerWindow) : State :=
  match w with
  | .lineSf p => s.lineSfEnd p
  | .lineSd p => s.lineSdEnd p
  | .path p h => s.pathBerEnd p h
  | .trib k => s.tribBerEnd k.port k.head.toNat k.pos.toNat

def execBerWindowEnd (w : BerWindow) (s : State) : Host.Outcome State Fault Refusal := .next (s.windowEnd w).settle

end Sys2Proof.Machine
end

