-- ==== Sys2Proof/Machine/Protection.lean ====
section
/-! DEFINITION. Protection groups (R289 to R300, R319, R320): signal fail and degrade, hold-off, the request in
force, WTR and DNR, linear MSP with its K bytes, SNCP selectors, and the PROT_ commands. -/

namespace Sys2Proof.Machine

def pgKind (g : Nat) : Nat := g / 2 ^ 24
def pgIndex (g : Nat) : Nat := g % 65536

/-- A PGROUP of Table 12-1. -/
def pgOk (g : Nat) : Bool :=
  decide (1 ≤ pgKind g ∧ pgKind g ≤ 5 ∧ bitsOf g 16 8 = 0 ∧ pgIndex g < groupCount (pgKind g))

def State.groupHeld (s : State) (g : Nat) : Bool := (s.prot.groups.find g).isSome

/-- The source a group's events are reported under (Table 16-1). -/
def protSource (g : Nat) : Nat :=
  if pgKind g = 1 then 192 + pgIndex g
  else if pgKind g = 2 then 240 + pgIndex g / 1024
  else if pgKind g = 3 then 244 + pgIndex g / 4096
  else 248

def eAPS_MODE : Nat := 0x82
def eAPS_FOP : Nat := 0x83
def eAPS_INVALID : Nat := 0x84

/-- The role decided at the last step 4 (Table 12-15): 0 not in a pair, 1 standby, 2 active. -/
def State.role (s : State) : Nat := s.get CLM_STATUS.key CLM_STATUS.ROLE

/-! ### Signal fail and signal degrade (Table 12-1) -/

/-- The endpoint of an SNCP channel: 1 is B, 0 is B2. -/
def State.sncpEnd (s : State) (g ch : Nat) : Option Ep :=
  ((s.pgroup g).conn.bind s.grate.conns.find).map fun c => epOfWord (if ch = 0 then c.b2 else c.b)

def State.epSf (s : State) (kind : Nat) (e : Ep) : Bool :=
  if kind = 3 then (s.tribRxOut e.port e.head e.ref).replaces || s.tribHas e.port e.head e.ref [dEXC_V]
  else if kind = 4 then s.oduSf e.port e.index false
  else if kind = 5 then s.oduSf e.port e.index true
  else if e.kind = 1 then (s.pathRxOut e.port e.head).replaces || s.pathHas e.port e.head [dEXC_P]
  else (s.slotRxOut e.port e.ref).replaces

def State.epSd (s : State) (kind : Nat) (e : Ep) : Bool :=
  if kind = 3 then s.tribSd e.port e.head e.ref
  else if kind = 4 then s.oduSd e.port e.index false
  else if kind = 5 then s.oduSd e.port e.index true
  else decide (e.kind = 1) && s.pathSd e.port e.head

/-- The port of an MSP channel. -/
def GroupCfg.port (c : GroupCfg) (ch : Nat) : Nat := if ch = 0 then c.protPort else c.work.getD (ch - 1) 0xFF

def State.chanSf (s : State) (g ch : Nat) : Bool :=
  if pgKind g = 1 then s.lineSf ((s.pgroup g).cfg.port ch)
  else (s.sncpEnd g ch).any fun e => s.epSf (pgKind g) e

def State.chanSd (s : State) (g ch : Nat) : Bool :=
  if pgKind g = 1 then s.lineSd ((s.pgroup g).cfg.port ch)
  else (s.sncpEnd g ch).any fun e => s.epSd (pgKind g) e

/-- The channels of a group: protection and its working channels. -/
def State.channels (s : State) (g : Nat) : List Nat :=
  let c := (s.pgroup g).cfg
  (List.range (c.n + 1)).filter fun ch => decide (pgKind g ≠ 1) || decide (c.port ch < 96)

/-! ### Arrivals and hold-off (R291) -/

/-- HOLDOFF in ticks: 100 ms a step. -/
def GroupCfg.holdTicks (c : GroupCfg) : Nat := c.holdoff * 800

/-- One condition of one channel as seen in step 1. -/
def State.seeFail (s : State) (g ch : Nat) (sd now : Bool) : State :=
  let x := s.pgroup g
  let was := if sd then x.sd.contains ch else x.sf.contains ch
  let without := fun (l : List Nat) => l.filter fun c => decide (c ≠ ch)
  if was = now then s
  else if now then
    let s1 := s.updGroup g fun x => if sd then { x with sd := x.sd ++ [ch] } else { x with sf := x.sf ++ [ch] }
    if x.cfg.holdoff = 0 ∨ (sd = true ∧ x.sfUp.contains ch = true) then
      s1.updGroup g fun x => if sd then { x with sdUp := x.sdUp ++ [ch] } else { x with sfUp := x.sfUp ++ [ch] }
    else s1.startTimer (.holdoff g ch sd) x.cfg.holdTicks
  else
    (s.updGroup g fun x => if sd then { x with sd := without x.sd, sdUp := without x.sdUp }
      else { x with sf := without x.sf, sfUp := without x.sfUp }).stopTimer (.holdoff g ch sd)

/-- Step 1: every group's conditions. -/
def State.protArrivals (s : State) : State :=
  s.each (s.prot.groups.map Prod.fst) fun s g =>
    s.each (s.channels g) fun s ch =>
      (s.seeFail g ch false (s.chanSf g ch)).seeFail g ch true
        (s.chanSd g ch && (s.pgroup g).cfg.flags.testBit 2)

/-- Step 3: the hold-off timers of a group that have run; a condition that still holds is raised. -/
def State.holdoffExpiry (s : State) (g : Nat) : State :=
  let due := s.timers.filter fun t => decide (t.due ≤ s.dev.ticks) && match t.kind with
    | .holdoff h _ _ => decide (h = g)
    | _ => false
  s.each due fun s t => match t.kind with
    | .holdoff _ ch sd =>
      (s.stopTimer t.kind).updGroup g fun x =>
        if sd then (if x.sd.contains ch && !x.sdUp.contains ch then { x with sdUp := x.sdUp ++ [ch] } else x)
        else (if x.sf.contains ch && !x.sfUp.contains ch then { x with sfUp := x.sfUp ++ [ch] } else x)
    | _ => s

/-! ### The request in force (R290, R293) -/

/-- PROT_COMMAND's rank by CMD (Table 12-2). -/
def cmdRank (cmd : Nat) : Nat := [0, 12, 10, 5, 5, 3].getD cmd 0

/-- The stored request is a manual switch to working. -/
def GroupSt.toWorking (x : GroupSt) : Bool :=
  match x.ext with
  | some (_, _, p) => decide (p.fld 4 1 = 4)
  | none => false

/-- The automatic requests of a group: rank and channel. -/
def GroupSt.autos (x : GroupSt) : List (Nat × Nat) :=
  let high := fun ch => decide (x.cfg.arch = 1) && x.cfg.highPri.testBit (ch - 1)
  x.sfUp.map (fun ch => (if ch = 0 then 11 else if high ch then 9 else 8, ch)) ++
  x.sdUp.map fun ch => (if ch = 0 then 6 else if high ch then 7 else 6, ch)

/-- The better of two requests: the higher rank, then the lower working channel; between SD on protection and on
working the one in force, else working. -/
def betterReq (cur a b : Nat × Nat) : Nat × Nat :=
  if a.1 ≠ b.1 then (if a.1 < b.1 then b else a)
  else if a.1 = 6 ∧ (a.2 = 0 ∨ b.2 = 0) then
    (if a = cur then a else if b = cur then b else if a.2 = 0 then b else a)
  else if a.2 ≤ b.2 then a else b

def bestReq (cur : Nat × Nat) (l : List (Nat × Nat)) : Nat × Nat := l.foldl (betterReq cur) (0, 0)

/-- The local request without WTR and DNR. -/
def GroupSt.base (x : GroupSt) : Nat × Nat :=
  bestReq (x.lrank, x.lchan) ((match x.ext with | some (r, c, _) => [(r, c)] | none => []) ++ x.autos)

/-- The group leaves SF_W or SD_W while it selects protection. -/
def GroupSt.leaves (x : GroupSt) : Bool := decide (6 ≤ x.lrank ∧ x.lrank ≤ 9 ∧ x.lchan ≠ 0) && x.selProt

/-- The local request in force, WTR and DNR included: the request, whether WTR starts, whether DNR holds. -/
def GroupSt.localReq (x : GroupSt) (waiting : Bool) : (Nat × Nat) × Bool × Bool :=
  let b := x.base
  let ends := decide (b.1 = 12 ∨ b.1 = 10) || (decide (b.1 = 5) && x.toWorking)
  let revertive := x.cfg.flags.testBit 0
  if 4 < b.1 then (b, false, x.dnr && !ends)
  else if x.leaves then (if revertive then ((4, x.lchan), true, false) else (if b.1 = 3 then b else (1, x.lchan), false, true))
  else if x.lrank = 4 ∧ waiting = true then ((4, x.lchan), false, false)
  else if x.dnr then (if 1 < b.1 then b else (1, max 1 x.lchan), false, true)
  else (b, false, false)

/-- The request a received K1 codes: rank, channel, MANUAL to protection. A reverse request asks for nothing. -/
def farRequest (k1 : Nat) : Option (Nat × Nat) :=
  let ch := k1 % 16
  match k1 / 16 with
  | 15 => some (12, ch)
  | 14 => some (10, ch)
  | 13 => some (9, ch)
  | 12 => some (if ch = 0 then 11 else 8, ch)
  | 11 => some (7, ch)
  | 10 => some (6, ch)
  | 8 => some (5, ch)
  | 6 => some (4, ch)
  | 4 => some (3, ch)
  | 2 => some (0, 0)
  | 1 => some (1, ch)
  | 0 => some (0, 0)
  | _ => none

/-- What a request selects: protection, working, or no change (Table 12-2). -/
def selects (r : Nat × Nat) (manualW : Bool) : Option Bool :=
  if r.1 = 12 ∨ r.1 = 11 ∨ r.1 = 0 then some false
  else if r.1 = 6 then some (decide (r.2 ≠ 0))
  else if r.1 = 5 then some (!manualW)
  else if r.1 = 3 then none
  else some true

/-- K1[7:4] of a request (Table 12-2). -/
def k1Code (r : Nat × Nat) : Nat := [0, 1, 2, 4, 6, 8, 10, 11, 12, 13, 14, 12, 15].getD r.1 0

def GroupCfg.bidir (c : GroupCfg) : Bool := c.flags.testBit 1

/-- The far request takes part: bidirectional MSP without APS_MODE or APS_FOP (R297, R298). -/
def GroupSt.heedsFar (x : GroupSt) : Bool := x.cfg.bidir && !x.mode && !x.fop

/-- K1 and K2 as Table 12-3 codes them. -/
def GroupSt.kBytes (x : GroupSt) : Nat × Nat :=
  let manualW := decide (x.lrank = 5) && x.toWorking
  let k1 := if x.farInForce then 2 * 16 + x.chan
    else if manualW then 0 else k1Code (x.lrank, x.lchan) * 16 + (if x.lrank = 0 then 0 else x.lchan)
  let bridged := if x.cfg.arch = 0 then x.farK1 % 16 else x.bridge
  (k1, bridged * 16 + x.cfg.arch * 8 + (if x.cfg.bidir then 5 else 4))

/-- The channel bridged onto protection. -/
def GroupSt.bridgeOf (x : GroupSt) (req : Nat × Nat) (far : Bool) : Nat :=
  if x.cfg.arch = 0 then x.farK1 % 16
  else if far then req.2
  else if x.heedsFar then (if x.farK1 % 16 = req.2 then req.2 else 0)
  else req.2

/-- SWITCH and REQUEST carry the channel selected (0 protection) and the rank. -/
def State.protEvent (s : State) (g code : Nat) : State :=
  let x := s.pgroup g
  s.eventX (protSource g) code true (pgIndex g) [(if x.selProt then 0 else max 1 x.selChan) + x.rank * 256]

/-- The selector itself: SEL of the A end's entries, or the A-end tributary's SEL bit (R299). -/
def State.setSelector (s : State) (g : Nat) (prot : Bool) : State :=
  match (s.pgroup g).conn.bind s.grate.conns.find with
  | none => s
  | some c =>
    let e := epOfWord c.a
    if e.kind = 3 then s.updTrib (tribNum e.port e.head e.ref) fun x => { x with sel := prot }
    else match s.runOf c.a with
      | none => s
      | some r => s.mapEgress fun t => t.map fun y =>
          if r.start ≤ y.1 ∧ y.1 < r.start + r.len then (y.1, { y.2 with sel := prot }) else y

/-- Step 2: the request in force is chosen and executed. A standby unit takes its groups from the mirror (R302). -/
def State.runGroup (s : State) (g : Nat) : State :=
  if s.groupHeld g = false ∨ s.role = 1 then s
  else
    let x := s.pgroup g
    let r := x.localReq (s.hasTimer (.protWtr g))
    let own := r.1
    let s1 := if r.2.1 then s.startTimer (.protWtr g) (x.cfg.wtr * ticksPerSecond)
      else if own.1 = 4 then s else s.stopTimer (.protWtr g)
    let far := if x.heedsFar then (farRequest x.farK1).filter fun f => decide (own.1 < f.1) else none
    let req := far.getD own
    let manualW := far.isNone && decide (own.1 = 5) && x.toWorking
    let frozen := (x.mode || x.fop) && decide (own.1 = 0)
    let prot := if frozen then x.selProt else (selects req manualW).getD x.selProt
    let chan := if frozen then x.selChan else if req.1 = 3 then x.selChan else req.2
    let bridge := if frozen then x.bridge else x.bridgeOf req far.isSome
    let changed := decide ((x.rank, x.chan, x.farInForce) ≠ (req.1, req.2, far.isSome))
    let moved := decide (x.selProt ≠ prot) || (prot && decide (x.selChan ≠ chan) && decide (pgKind g = 1))
    let s2 := s1.updGroup g fun x => { x with
      lrank := own.1, lchan := own.2, dnr := r.2.2, rank := req.1, chan := req.2, farInForce := far.isSome,
      bridge := bridge }
    let s3 := if changed then s2.protEvent g 0x81 else s2
    let s4 := s3.updGroup g fun x => { x with selProt := prot, selChan := chan }
    let s4 := if changed || moved then s4.traceProtection g x.rank req.1 x.selChan chan else s4
    let s5 := if moved then (s4.setSelector g prot).protEvent g 0x80 else s4
    let k := (s5.pgroup g).kBytes
    if pgKind g = 1 then s5.updGroup g fun x => { x with txK1 := k.1, txK2 := k.2 } else s5

/-- Every group, in the order of its PGROUP. -/
def State.runGroups (s : State) : State := s.each (s.prot.groups.map Prod.fst) State.runGroup

/-- Step 3: WTR has run; the request in force becomes NR (R293). -/
def State.protWtrExpiry (s : State) (g : Nat) : State :=
  if s.timerDue (.protWtr g) then
    let s1 := (s.stopTimer (.protWtr g)).updGroup g fun x => { x with
      lrank := 0, lchan := 0, rank := if x.farInForce then x.rank else 0, chan := if x.farInForce then x.chan else 0 }
    if (s.pgroup g).farInForce then s1 else s1.protEvent g 0x81
  else s

/-! ### MSP (R296 to R298) -/

/-- The MSP group whose protection port is named. -/
def State.mspOf (s : State) (p : Nat) : Option Nat :=
  (s.prot.groups.find? fun g => decide (pgKind g.1 = 1 ∧ g.2.cfg.protPort = p)).map Prod.fst

/-- The MSP group in which a port works. -/
def State.mspWorking (s : State) (p : Nat) : Option Nat :=
  (s.prot.groups.find? fun g => decide (pgKind g.1 = 1) && g.2.cfg.work.contains p).map Prod.fst

/-- APS_MODE after an accepted K2. -/
def State.apsMode (s : State) (g : Nat) : State :=
  let x := s.pgroup g
  let low := x.farK2 % 8
  let bad := decide (bitsOf x.farK2 3 1 ≠ x.cfg.arch) ||
    (decide (low ≠ 6 ∧ low ≠ 7) && decide (low ≠ if x.cfg.bidir then 5 else 4))
  (s.updGroup g fun x => { x with mode := bad }).cond ⟨protSource g, pgIndex g, eAPS_MODE⟩ bad

/-- Accepted K1 and K2 reach the group in step 1 (R105, R297). -/
def State.kArrival (s : State) (p k1 k2 : Nat) : State :=
  match s.mspOf p with
  | none => s
  | some g =>
    let x := s.pgroup g
    let bad := (farRequest k1).isNone || decide (x.cfg.n < k1 % 16)
    let s1 := s.updGroup g fun x => { x with
      farK1 := if bad then x.farK1 else k1, farK2 := k2, invalid := x.invalid || bad }
    (if bad then s1.event (protSource g) eAPS_INVALID true (pgIndex g) else s1).apsMode g

/-- A frame of the protection port: APS_FOP counts whether the bridge answers the sent K1 (Table 12-4). -/
def State.fopFrame (s : State) (p : Nat) : State :=
  match s.mspOf p with
  | none => s
  | some g =>
    let x := s.pgroup g
    match (s.sdh p).k.accepted with
    | none => s
    | some v =>
      let differs := decide (v % 256 / 16 ≠ x.txK1 % 16)
      let run := if differs then x.fopRun + 1 else 0
      let ok := if differs then 0 else x.fopOk + 1
      let fop := if 400 ≤ run then true else if 3 ≤ ok then false else x.fop
      (s.updGroup g fun x => { x with fopRun := min 400 run, fopOk := min 3 ok, fop := fop }).cond
        ⟨protSource g, pgIndex g, eAPS_FOP⟩ fop

/-! ### PROT_GROUP_CFG (R319, Table 12-18) -/

def groupCfgOf (bs : List Byte) : GroupCfg :=
  { arch := fieldAt bs 5 1, flags := fieldAt bs 6 1, n := fieldAt bs 7 1, holdoff := fieldAt bs 8 2,
    wtr := fieldAt bs 10 2, protPort := fieldAt bs 12 1,
    work := (List.range 14).map fun i => fieldAt bs (14 + i) 1, highPri := fieldAt bs 28 2 }

/-- The port is in another MSP group. -/
def State.mspTaken (s : State) (g p : Nat) : Bool :=
  s.prot.groups.any fun x => decide (x.1 ≠ g ∧ pgKind x.1 = 1) &&
    (decide (x.2.cfg.protPort = p) || x.2.cfg.work.contains p || decide (x.2.staged.protPort = p) ||
      x.2.staged.work.contains p)

/-- High-order path configurations of a port, by head. -/
def State.pathCfgs (s : State) (p : Nat) : List (Nat × PathCfg) :=
  (s.paths.filter fun x => decide (x.1 / 256 = p ∧ x.2.staged.ptype ≠ 0)).map fun x => (x.1 % 256, x.2.staged)

/-- A port that can serve an MSP group beside another. -/
def State.mspLike (s : State) (p q : Nat) : Bool :=
  s.sdhPortOk p && decide (regionOf p = regionOf q ∧ s.family p = s.family q ∧ s.rate p = s.rate q)

def State.groupCfgFault (s : State) (bs : List Byte) : Option Nat :=
  let g := fieldAt bs 0 4
  let msp := decide (pgKind g = 1)
  let c := groupCfgOf bs
  let first := c.work.getD 0 0xFF
  let known := fun v => pgOk v && (decide (pgKind v ≤ 2) || s.groupTaken v)
  if fieldAt bs 4 1 = 0 then
    layoutFault bs 32 [such 0 4 pgOk, below 4 1 2, rsv 13 1, rsv 30 2]
  else
    layoutFault bs 32 ([such 0 4 known, below 4 1 2, such 5 1 (fun a => decide (a = 0 ∨ (msp = true ∧ a = 1))),
      such 6 1 (fun f => decide (f < 8) && (msp || !f.testBit 1)),
      such 7 1 (fun n => if msp = true ∧ c.arch = 1 then decide (1 ≤ n ∧ n ≤ 14) else decide (n = 1)),
      within 8 2 0 100, within 10 2 0 720,
      such 12 1 (fun p => if msp then s.mspLike p first && !s.mspTaken g p && !s.portConnected p &&
        (s.pathCfgs p).isEmpty else decide (p = 0xFF)),
      rsv 13 1, such 28 2 (fun h => decide (h < 2 ^ 14) && (msp || decide (h = 0))), rsv 30 2] ++
    (List.range 14).map fun i => such (14 + i) 1 fun p =>
      if msp = false ∨ c.n ≤ i then decide (p = 0xFF)
      else s.mspLike p first && !s.mspTaken g p && decide (p ≠ c.protPort) && !(c.work.take i).contains p &&
        decide (s.pathCfgs p = s.pathCfgs first))

/-- The group carries connections (R319). -/
def State.groupCarries (s : State) (g : Nat) : Bool :=
  if pgKind g = 1 then (s.pgroup g).cfg.work.any fun p => decide (p < 96) && s.portConnected p
  else (s.pgroup g).conn.isSome || s.liveConns.any fun c => decide (c.2.prot = 1 ∧ c.2.pgroup = g)

def State.groupCfgAdmit (s : State) (p : Packet) : Verdict :=
  let g := p.fld 0 4
  if p.fld 4 1 = 0 then (if s.groupCarries g then .refuse stBUSY 0 [] else .accept s)
  else if s.groupHeld g then .accept (s.updGroup g fun x => { x with staged := groupCfgOf p.payload })
  else .accept s

/-- A group ends: its timers stop, its defects end, the selectors stand at working. -/
def State.dropGroup (s : State) (g : Nat) : State :=
  let s1 := s.setSelector g false
  let s2 := { s1 with
    timers := s1.timers.filter fun t => match t.kind with
      | .holdoff h _ _ => decide (h ≠ g)
      | .protWtr h => decide (h ≠ g)
      | _ => true
    prot := { s1.prot with groups := s1.prot.groups.drop g } }
  (s2.cond ⟨protSource g, pgIndex g, eAPS_MODE⟩ false).cond ⟨protSource g, pgIndex g, eAPS_FOP⟩ false

def State.flipGroup (s : State) (g : Nat) : State :=
  (s.updGroup g fun x => { x with cfg := x.staged }).runGroup g

def State.groupCfgRun (s : State) (p : Packet) : Done :=
  let g := p.fld 0 4
  if p.fld 4 1 = 0 then
    (if s.groupCarries g then failDone s stBUSY 0 else if s.groupHeld g then okDone (s.dropGroup g) else okDone s)
  else
    let c := groupCfgOf p.payload
    let s1 := if s.groupHeld g then s
      else { s with prot := { s.prot with groups := s.prot.groups.put g { staged := c } } }
    okDone ((s1.updGroup g fun x => { x with staged := c }).flipGroup g)

/-! ### PROT_COMMAND and PROT_STATUS (R294, R320) -/

def State.protCommandFault (s : State) (bs : List Byte) : Option Nat :=
  let g := fieldAt bs 0 4
  let c := (s.pgroup g).cfg
  layoutFault bs 8 [such 0 4 (fun g => pgOk g && s.groupHeld g),
    such 4 1 (fun cmd => decide (cmd < 6) && (decide (cmd ≠ 5) || (decide (pgKind g = 1) && c.bidir))),
    such 5 1 (fun ch => if pgKind g = 1 ∧ c.arch = 1 then decide (1 ≤ ch ∧ ch ≤ c.n) else decide (ch = 1)), rsv 6 2]

/-- CLEAR removes the stored request and any WTR. -/
def State.clearRequest (s : State) (g : Nat) : State :=
  let x := s.pgroup g
  if x.ext.isNone ∧ s.hasTimer (.protWtr g) = false then s
  else ((s.stopTimer (.protWtr g)).updGroup g fun x => { x with
    ext := none, lrank := if x.lrank = 4 then 0 else x.lrank }).runGroup g

def State.protCommandRun (s : State) (p : Packet) : Done :=
  let g := p.fld 0 4
  let cmd := p.fld 4 1
  let r := cmdRank cmd
  if s.groupHeld g = false then failDone s stSUPERSEDED 0
  else if cmd = 0 then okDone (s.clearRequest g)
  else if r < (s.pgroup g).rank then failDone s stSUPERSEDED 0
  else
    let ch := if r = 12 then 0 else p.fld 5 1
    okDone ((s.updGroup g fun x => { x with ext := some (r, ch, p) }).runGroup g)

def State.protStatusFault (s : State) (bs : List Byte) : Option Nat :=
  layoutFault bs 4 [such 0 4 (fun g => pgOk g && s.groupHeld g)]

/-- Request in force, selector, bridge, timers remaining, K bytes sent and accepted, defects (Table 12-17). -/
def State.protStatusBytes (s : State) (g : Nat) : List Byte :=
  let x := s.pgroup g
  let hold := ((s.channels g).flatMap fun ch => [s.timerLeft (.holdoff g ch false), s.timerLeft (.holdoff g ch true)]).foldl
    max 0
  beBytes 1 x.rank ++ beBytes 1 x.chan ++ beBytes 1 (if x.selProt then 0 else max 1 x.selChan) ++ beBytes 1 x.bridge ++
  beBytes 4 hold ++ beBytes 4 (s.timerLeft (.protWtr g)) ++ beBytes 1 x.txK1 ++ beBytes 1 x.txK2 ++
  beBytes 1 x.farK1 ++ beBytes 1 x.farK2 ++ beBytes 1 (bit x.mode + 2 * bit x.fop + 4 * bit x.invalid)

def State.protStatus (s : State) (p : Packet) : Verdict := .answer stOK (s.protStatusBytes (p.fld 0 4)) s

/-! ### Rows -/

def execHoldoffExpiry (g : BitVec 32) (s : State) : Host.Outcome State Fault Refusal :=
  .next (s.holdoffExpiry g.toNat).settle

def execProtWtrExpiry (g : BitVec 32) (s : State) : Host.Outcome State Fault Refusal :=
  .next (s.protWtrExpiry g.toNat).settle

/-- APS_K_ARRIVAL: accepted K bytes reach the group of the port. -/
def execApsKArrival (p : Port) (k1 k2 : Byte) (s : State) : Host.Outcome State Fault Refusal :=
  .next (s.kArrival p k1.toNat k2.toNat).settle

end Sys2Proof.Machine
end

