-- ==== Sys2Proof/Machine/Pair.lean ====
section
/-! DEFINITION. The equipment protection pair (R301 to R318): chimney frames, the two claim channels, the mate
claim in force, roles, the mirror, the return to service, handovers, and the PAIR_ commands. -/

namespace Sys2Proof.Machine

def State.clm (s : State) (f : Fld) : Nat := s.get CLM_STATUS.key f
def State.inPair (s : State) : Bool := s.on CLM_CFG.key CLM_CFG.PAIR_EN
def State.pinsOn (s : State) : Bool := s.on CLM_CFG.key CLM_CFG.PINS_EN
def State.updPair (s : State) (f : PairSt → PairSt) : State := { s with pair := f s.pair }

/-- Codes of ES252 and ES253. -/
def eROLE_CHANGE : Nat := 0x80
def eCLAIM_DISCREPANCY : Nat := 0x81
def eCLAIM_TIE : Nat := 0x82
def ePINS_LOST : Nat := 0x83
def eCHIMNEY_DOWN : Nat := 0x84
def eHANDOVER : Nat := 0x85
def srcPair : Nat := 252
def srcMirror : Nat := 253

/-- The sticky bit of CLM_STATUS. -/
def State.clmHist (s : State) (i : Nat) : State := s.histBit CLM_STATUS.key CLM_STATUS.HIST i

/-- A live bit of CLM_STATUS changes, with its event and its sticky bit. -/
def State.clmLive (s : State) (f : Fld) (code hist : Nat) (on : Bool) : State :=
  if s.on CLM_STATUS.key f = on then s
  else
    let s1 := (s.put CLM_STATUS.key f (bit on)).setCond ⟨srcPair, 0, code⟩ on
    (if on then s1.clmHist hist else s1).event srcPair code on 0

/-! ### Chimney links (R303, R386) -/

def State.chimPort (s : State) (link : Nat) : Nat :=
  s.get CLM_CHIMNEY.key (if link = 0 then CLM_CHIMNEY.CHIM0 else CLM_CHIMNEY.CHIM1)

def State.chimOn (s : State) (link : Nat) : Bool :=
  s.on CLM_CHIMNEY.key (if link = 0 then CLM_CHIMNEY.CHIM0_EN else CLM_CHIMNEY.CHIM1_EN)

def State.link (s : State) (n : Nat) : ChimSt := s.pair.links.getD n {}
def State.updLink (s : State) (n : Nat) (f : ChimSt → ChimSt) : State :=
  s.updPair fun x => { x with links := x.links.store n (f (s.link n)) {} }

/-- A lane of the quad has LOS, CDR_LOL or LANE_ALIGN. -/
def State.chimLanesDown (s : State) (link : Nat) : Bool :=
  let p := s.chimPort link
  (s.lanesOf p).any fun l => [dLOS, dCDR_LOL, dLANE_ALIGN].any fun c => s.has (s.condLane l c)

/-- The link is down: a lane defect, or 8 intervals without an accepted frame, until 64 are accepted. -/
def State.linkDown (s : State) (link : Nat) : Bool :=
  !s.chimOn link || s.chimLanesDown link || decide (8 ≤ (s.link link).miss)

/-- The place of a quad among the chimney quads, in ascending port order. -/
def State.chimIndex (s : State) (p : Nat) : Nat := ((List.range p).filter fun q => s.isChimney q && !s.isMember q).length

def condLink (i : Nat) : Cond := ⟨296 + i, i, 0x80⟩

/-- The partner of an accepted identity is not the mate that PAIR_CFG names. -/
def State.partnerBad (s : State) (link : Nat) : Bool :=
  match (s.link link).partner with
  | some id => s.inPair && decide (bitsOf id.toNat 16 10 ≠ s.get CLM_CHIMNEY.key CLM_CHIMNEY.MATE_ADDR)
  | none => false

/-- An identity set received on a link; two equal ones in a row are accepted (R386). -/
def State.chimIdent (s : State) (link : Nat) (id : BitVec 128) : State :=
  let x := s.link link
  let agrees := decide (x.identLast = some id)
  let s1 := s.updLink link fun x => { x with identLast := some id, partner := if agrees then some id else x.partner }
  if agrees ∧ x.partner ≠ some id then
    let i := s.chimIndex (s.chimPort link)
    let s2 := s1.event (292 + i) 0x81 true i
    if s2.partnerBad link then s2.event (292 + i) 0x80 true i else s2
  else s1

/-- The frame's overhead is accepted. -/
def State.overheadOk (s : State) (link : Nat) (f : ChimRx) : Bool :=
  f.markerOk && f.checkOk && decide (f.ver = 1) && !s.partnerBad link

/-- An interval of a link, with or without an accepted frame. -/
def State.linkInterval (s : State) (link : Nat) (ok : Bool) : State :=
  let x := s.link link
  let good := if ok then min 64 (x.good + 1) else 0
  let miss := if ok then (if 8 ≤ x.miss ∧ good < 64 then x.miss else 0) else min 8 (x.miss + 1)
  let s1 := s.updLink link fun x => { x with good := good, miss := miss }
  let c := condLink (s.chimIndex (s.chimPort link))
  if s1.linkDown link ∧ ¬ s.linkDown link then s1.arrive (.defect c true)
  else if s1.linkDown link = false ∧ s.has c = true then s1.arrive (.defect c false) else s1

/-- The pair's chimney is down. -/
def State.chimneyGone (s : State) : Bool := s.linkDown 0 && s.linkDown 1

/-- The change of CHIMNEY_DOWN is decided; it arrives in the next step 1. -/
def State.decideChimney (s : State) : State :=
  let last := s.arrivals.foldl (fun b a => match a with | .chimney d => d | _ => b) (s.on CLM_STATUS.key CLM_STATUS.CHIMNEY_DOWN)
  if last = s.chimneyGone then s else s.arrive (.chimney s.chimneyGone)

/-- The receiver takes the lower-numbered link that is up. -/
def State.takesLink (s : State) (link : Nat) : Bool := !s.linkDown link && (decide (link = 0) || s.linkDown 0)

/-- What an accepted overhead says: CLAIM, NEXT_CLAIM, ADDR. -/
def State.takeOverhead (s : State) (f : ChimRx) : State :=
  let s1 := (s.put CLM_MATE.key CLM_MATE.CHIMNEY_CLAIM f.claim.toNat).put CLM_MATE_IN_FORCE.key
    CLM_MATE_IN_FORCE.MATE_ADDR_RX f.addr.toNat
  let s2 := s1.updPair fun x => { x with
    mateNext := f.nextClaim.toNat
    chimClaim := if f.sfn.toNat % 2 = 0 then some f.claim.toNat else x.chimClaim }
  if f.flags.toNat.testBit 5 ∧ s2.pair.handover.isNone then s2.arrive (.mateHandover f.nextSfn.toNat) else s2

/-- CHIMNEY_FRAME_RECEIVE: the interval of one link. A frame whose CRC over the mirror stream fails is discarded
whole (R423). -/
def State.chimneyReceive (s : State) (link : Nat) (f : ChimRx) : State :=
  if s.inPair = false ∨ s.chimOn link = false then s
  else
    let s1 := match f.ident with
      | some id => if f.markerOk then s.chimIdent link id else s
      | none => s
    let ok := s1.overheadOk link f && f.mirrorOk
    let s2 := (s1.linkInterval link ok).cvuFail (s1.chimPort link) (f.markerOk && !f.checkOk)
    let s3 := if ok && s2.takesLink link then s2.takeOverhead f else s2
    s3.decideChimney

/-! ### The mirror (R304 to R307) -/

/-- Bytes of the mirrored pools, and chimney frames of a sweep of them. -/
def State.sweepFrames (s : State) : Nat := ceilDiv ((s.poolBanks 0 + s.poolBanks 4 + s.poolBanks 5) * 131072) 750000

/-- A sweep starts; MIRROR_SYNCED is set in the tick after its last frame. -/
def State.startSweep (s : State) : State := s.updPair fun x => { x with sweep := s.sweepFrames + 1 }

def State.synced (s : State) : Bool := s.on CLM_STATUS.key CLM_STATUS.MIRROR_SYNCED

/-- MIRROR_STALE stands while a standby is not synchronised. -/
def State.judgeStale (s : State) : State :=
  s.cond ⟨srcMirror, 0, 0x81⟩ (decide (s.role = 1) && !s.synced)

def State.setSynced (s : State) (on : Bool) : State :=
  if s.synced = on then s
  else
    let s1 := s.put CLM_STATUS.key CLM_STATUS.MIRROR_SYNCED (bit on)
    (if on then s1.event srcMirror 0x80 true 0 else s1).judgeStale

/-- The last frame of the sweep has gone: the mirror is synchronised. -/
def State.sweepDone (s : State) : State :=
  if s.pair.sweep = 1 then (s.updPair fun x => { x with sweep := 0 }).setSynced true else s

/-- One tick of a sweep. -/
def State.sweepTick (s : State) : State :=
  if s.pair.sweep = 0 then s
  else if s.pair.sweep = 1 then s.sweepDone
  else s.updPair fun x => { x with sweep := x.sweep - 1 }

/-- A stoker result that differs from the active's (R306). -/
def State.diverged (s : State) : State := ((s.clmHist 4).event srcMirror 0x82 true 0).startSweep

/-! ### The pin channel (R311) -/

/-- The code of a valid pulse: within 5 µs of its moment, within 0.125 µs of a code point. -/
def pulseCode (riseErrNs : Int) (widthNs : Nat) : Option Nat :=
  if riseErrNs.natAbs ≤ 5000 ∧ widthNs ≤ 103625 ∧ 8000 ≤ widthNs + 125 then
    let v := (widthNs + 187 - 8000) / 375
    let point := 8000 + v * 375
    if v < 256 ∧ (widthNs : Int) - point ≤ 125 ∧ (point : Int) - widthNs ≤ 125 then some v else none
  else none

/-- A pulse in a tick of even SFN carries claim bits [15:8], in the next bits [7:0]. -/
def State.claimPulse (s : State) (riseErrNs : Int) (widthNs : Nat) : State :=
  if s.pinsOn = false then s
  else
    let v := pulseCode riseErrNs widthNs
    if s.time.sfn % 2 = 0 then s.updPair fun x => { x with pinHigh := v } else s.updPair fun x => { x with pinLow := v }

/-- Four pairs without a valid pin word: the pin channel is lost. -/
def State.pinLoss (s : State) : State :=
  if 4 ≤ s.pair.pinBad then s.clmLive CLM_STATUS.PINS_LOST ePINS_LOST 1 true else s

/-- The end of a pair of ticks, judged in step 1 of an even tick. -/
def State.pinPair (s : State) : State :=
  match s.pair.pinHigh, s.pair.pinLow with
  | some h, some l =>
    let good := min 8 (s.pair.pinGood + 1)
    let s1 := (s.updPair fun x => { x with pinBad := 0, pinGood := good }).put CLM_MATE.key CLM_MATE.PIN_CLAIM (h * 256 + l)
    if 8 ≤ good then s1.clmLive CLM_STATUS.PINS_LOST ePINS_LOST 1 false else s1
  | _, _ => (s.updPair fun x => { x with pinBad := min 4 (x.pinBad + 1), pinGood := 0 }).pinLoss

/-! ### The mate claim in force (R312 to R314) -/

/-- DISC in frames, 0 acting as 1. -/
def State.discFrames (s : State) : Nat := max 1 (s.get CLM_CFG.key CLM_CFG.DISC)

def State.chimLost (s : State) : Bool := s.on CLM_STATUS.key CLM_STATUS.CHIMNEY_DOWN
def State.pinsLost (s : State) : Bool := s.on CLM_STATUS.key CLM_STATUS.PINS_LOST || !s.pinsOn

/-- CLAIM_COMPARE in step 1 of an even tick. -/
def State.compareClaims (s : State) : State :=
  let clear := fun (s : State) => s.updPair fun x => { x with pinHigh := none, pinLow := none, chimClaim := none }
  match s.pair.pinHigh, s.pair.pinLow, s.pair.chimClaim with
  | some h, some l, some c =>
    if s.chimLost ∨ s.pinsLost then clear (s.updPair fun x => { x with disagree := 0, agree := 0 })
    else
      let same := decide (h * 256 + l = c)
      let s1 := s.updPair fun x => { x with
        agrees := same
        disagree := if same then 0 else min 255 (x.disagree + 2)
        agree := if same then min 255 (x.agree + 2) else 0
        lastAgreed := if same then c else x.lastAgreed }
      let s2 := if s1.discFrames ≤ s1.pair.disagree then s1.clmLive CLM_STATUS.DISCREPANCY eCLAIM_DISCREPANCY 2 true
        else if s1.discFrames ≤ s1.pair.agree then s1.clmLive CLM_STATUS.DISCREPANCY eCLAIM_DISCREPANCY 2 false
        else s1
      clear s2
  | _, _, _ => clear s

def State.mateInForce (s : State) : Nat := s.get CLM_MATE_IN_FORCE.key CLM_MATE_IN_FORCE.MATE_CLAIM

/-- Both channels count as lost, the override included. -/
def State.bothLost (s : State) : Bool :=
  let o := s.get CLM_CFG.key CLM_CFG.CHANNEL_OVERRIDE
  if o = 1 then s.chimLost else if o = 2 then s.pinsLost else s.chimLost && s.pinsLost

/-- Table 12-9. -/
def State.mateClaim (s : State) : Nat :=
  let c := s.get CLM_MATE.key CLM_MATE.CHIMNEY_CLAIM
  let p := s.get CLM_MATE.key CLM_MATE.PIN_CLAIM
  let o := s.get CLM_CFG.key CLM_CFG.CHANNEL_OVERRIDE
  if s.bothLost then (if s.pair.mateZero then 0 else s.mateInForce)
  else if o = 1 then c
  else if o = 2 then p
  else if s.chimLost then p
  else if s.pinsLost then c
  else if s.on CLM_STATUS.key CLM_STATUS.DISCREPANCY then max c p
  else s.pair.lastAgreed

def State.setMate (s : State) (v : Nat) : State := s.put CLM_MATE_IN_FORCE.key CLM_MATE_IN_FORCE.MATE_CLAIM v

/-- MATE_HOLD in ticks: 1 to 64 ms. -/
def State.mateHoldTicks (s : State) : Nat := 8 * min 64 (max 1 (s.get CLM_CFG.key CLM_CFG.MATE_HOLD))

/-- The mate hold starts when both channels are lost, and a return stops it. -/
def State.mateHoldStep (s : State) : State :=
  if s.bothLost then
    (if s.pair.mateZero ∨ s.hasTimer .mateHold then s else s.startTimer .mateHold s.mateHoldTicks)
  else (s.stopTimer .mateHold).updPair fun x => { x with mateZero := false }

/-- Step 3: the hold has run; the mate claim in force is 0. -/
def State.mateHoldExpiry (s : State) : State :=
  if s.timerDue .mateHold then ((s.stopTimer .mateHold).updPair fun x => { x with mateZero := true }).setMate 0 else s

/-! ### Eligibility and the own claim (R308, R309, R316) -/

def State.unitGrade (s : State) : Nat := s.get HLT_STATUS.key HLT_STATUS.DEVICE_GRADE

def State.blockGone (s : State) : Bool :=
  ((List.range 40).any fun n => decide (s.get (SYS_BLOCK_MAP.key n) SYS_BLOCK_MAP.STATE = 1)) || !s.grate.isolated.isEmpty

/-- The causes of R309 other than the return to service. -/
def State.unfit (s : State) : Bool :=
  s.dev.coreBypass || decide (s.unitGrade < s.get CLM_CFG.key CLM_CFG.MIN_GRADE) ||
  (s.on CLM_CFG.key CLM_CFG.DROP_ON_ISOLATE && s.blockGone) || s.pair.heldOut

def State.eligible (s : State) : Bool := s.inPair && decide (s.pair.returnStep = 0) && !s.unfit

/-- The claim the unit would have with or without eligibility. -/
def State.claimValue (s : State) (eligible : Bool) : Nat :=
  (if eligible then s.get CLM_CFG.key CLM_CFG.RANK else 0) * 4096 +
  (if s.pair.returnStep = 1 ∨ s.pair.returnStep = 2 then 0 else s.unitGrade % 8) * 256 + s.address % 256

/-- The own claim follows at an even SFN. -/
def State.updateClaim (s : State) : State :=
  let s1 := s.put CLM_STATUS.key CLM_STATUS.ELIGIBLE (bit s.eligible)
  if s.inPair = false then s1
  else if s.time.sfn % 2 = 0 then s1.put CLM_STATUS.key CLM_STATUS.OWN_CLAIM (s1.claimValue s1.eligible)
  else s1

/-- Step 4: the role (R302, R310, R314, R315). -/
def State.decideRole (s0 : State) : State :=
  let s := s0.updateClaim
  if s.inPair = false then
    (s.put CLM_STATUS.key CLM_STATUS.ROLE 0) |> fun s => { s with pins := { s.pins with role := false } }
  else
    let own := s.clm CLM_STATUS.OWN_CLAIM
    let mate := s.mateInForce
    let active := decide (mate < own) && (!(s.pair.mateZero && s.bothLost) || s.eligible)
    let role := if active then 2 else 1
    let was := s.role
    let s1 := (s.put CLM_STATUS.key CLM_STATUS.ROLE role)
    let s2 : State := { s1 with pins := { s1.pins with role := active && s1.on CLM_CHIMNEY.key CLM_CHIMNEY.ROLE_EN } }
    let s3 := if was = role then s2 else (s2.clmHist 3).event srcPair eROLE_CHANGE true 0
    let tie := decide (own = mate)
    let s4 := if tie && !s3.pair.tie then (s3.clmHist 5).event srcPair eCLAIM_TIE true 0 else s3
    let s5 := s4.updPair fun x => { x with tie := tie }
    let s6 := if was = 1 ∧ role = 2 ∧ s5.synced = false then
        { s5 with
          paths := s5.paths.map fun e => (e.1, { e.2 with gen := {} })
          tribs := s5.tribs.map fun e => (e.1, { e.2 with gen := {} }) }
      else s5
    s6.judgeStale

/-- Pair lanes are squelched while the unit is standby (R302). -/
def State.pairSilent (s : State) (p : Nat) : Bool := decide (s.role = 1) && (s.lanesOf p).any fun l => s.pair.lanes.contains l

/-! ### Handovers (R316 to R318) -/

def resPair : Res := (0x0D, 0, 0)

/-- A handover is created for tick `h`. -/
def State.makeHandover (s : State) (h own mate : Nat) (switch : Bool) : State :=
  let r := s.addDevice (.sfn h) .handover
  if r.1 then
    (r.2.updPair fun x => { x with handover := some (h, own, mate, switch) }).put CLM_STATUS.key CLM_STATUS.HANDOVER_PENDING 1
  else s

/-- The handover entry is removed; a SWITCHOVER completes FLUSHED. -/
def State.cancelHandover (s : State) : State :=
  match s.pair.handover with
  | none => s
  | some (_, _, _, switch) =>
    let kept := s.cal.entries.filter fun e => decide (e.action ≠ Action.handover)
    let s1 : State := { s with cal := { s.cal with entries := kept } }
    let s2 := (s1.updPair fun x => { x with handover := none }).put CLM_STATUS.key CLM_STATUS.HANDOVER_PENDING 0
    if switch then s2.finishLong resPair stFLUSHED 0 [] else s2

/-- The next even SFN at or after `n`. -/
def evenAt (n : Nat) : Nat := n + n % 2

def State.handoverLead (s : State) : Nat := max 8 (s.get CLM_CFG2.key CLM_CFG2.HANDOVER_LEAD)

/-- The claim with which the unit returns to service. -/
def State.returnClaim (s : State) : Nat :=
  s.get CLM_CFG.key CLM_CFG.RANK * 4096 + s.unitGrade % 8 * 256 + s.address % 256

/-- The conditions of a handover. -/
def State.canHandover (s : State) : Bool := !s.chimLost && s.synced

/-- After WTR: a unit that outranks its mate schedules a handover, another is eligible at the next even SFN. -/
def State.afterWtr (s : State) : State :=
  if s.pair.returnStep ≠ 4 ∨ s.pair.handover.isSome then s
  else if s.mateInForce < s.returnClaim then
    (if s.canHandover then s.makeHandover (evenAt (s.time.sfn + s.handoverLead)) s.returnClaim s.pair.mateNext false else s)
  else s.updPair fun x => { x with returnStep := 0 }

/-- Step 3: the pair WTR has run (R316). -/
def State.pairWtrExpiry (s : State) : State :=
  if s.timerDue .pairWtr then ((s.stopTimer .pairWtr).updPair fun x => { x with returnStep := 4 }).afterWtr else s

/-- The return to service advances (R316); `tested` tells that a smoke round ended, and how. -/
def State.returnStep (s : State) (tested : Option Bool) : State :=
  if s.inPair = false then s
  else
    let k := s.pair.returnStep
    if s.unfit then
      (if k = 0 ∨ 2 < k then (s.stopTimer .pairWtr).updPair fun x => { x with returnStep := 1 } else s)
    else if k = 0 then s
    else if s.synced = false then (s.stopTimer .pairWtr).updPair fun x => { x with returnStep := 1 }
    else if k = 1 then s.updPair fun x => { x with returnStep := 2 }
    else if k = 2 then
      (if tested = some true then (s.updPair fun x => { x with returnStep := 3 }).startTimer .pairWtr
          (s.get CLM_CFG2.key CLM_CFG2.WTR * ticksPerSecond) else s)
    else if tested = some false then (s.stopTimer .pairWtr).updPair fun x => { x with returnStep := 2 }
    else s.afterWtr

/-- A handover is cancelled by CHIMNEY_DOWN or a loss of either unit's eligibility before step 2 of H. -/
def State.judgeHandover (s : State) : State :=
  if s.pair.handover.isSome ∧ (s.chimLost = true ∨ s.unfit = true) then s.cancelHandover else s

/-- The mate announces a handover: an own entry is created, if at least 2 ticks remain (R317). -/
def State.mateHandover (s : State) (h : Nat) : State :=
  if s.pair.handover.isSome ∨ h < s.time.sfn + 2 ∨ s.canHandover = false then s
  else s.makeHandover h (s.clm CLM_STATUS.OWN_CLAIM) s.pair.mateNext false

/-- HANDOVER at step 2 of H: both claims take their new values. -/
def State.runHandover (s : State) : State :=
  match s.pair.handover with
  | none => s
  | some (_, own, mate, switch) =>
    let s1 := s.updPair fun x => { x with
      handover := none, handed := switch, lastAgreed := mate, agrees := true, disagree := 0
      heldOut := x.heldOut || switch
      returnStep := if switch then x.returnStep else if x.returnStep = 4 then 0 else x.returnStep }
    ((((s1.put CLM_STATUS.key CLM_STATUS.OWN_CLAIM own).setMate mate).put CLM_STATUS.key CLM_STATUS.HANDOVER_PENDING 0).event
      srcPair eHANDOVER true 0)

/-- Step 4 of H: a SWITCHOVER completes. -/
def State.endHandover (s : State) : State :=
  if s.pair.handed then (s.updPair fun x => { x with handed := false }).finishLong resPair stOK 0 [] else s

/-! ### Steps of a tick -/

/-- Step 1: the channels of the pair. -/
def State.pairArrivals (s : State) : State :=
  if s.inPair = false then s
  else
    let s1 := if s.chimneyGone && !s.chimLost then s.decideChimney else s
    let s2 := if s1.time.sfn % 2 = 0 then s1.pinPair.compareClaims else s1
    let s3 := s2.setMate s2.mateClaim
    s3.sweepTick.judgeHandover
/-- CHIMNEY_DOWN arrives: the mirror is no longer synchronised; its clearing starts a sweep. -/
def State.chimneyArrives (s : State) (down : Bool) : State :=
  if s.chimLost = down then s
  else
    let s1 := s.clmLive CLM_STATUS.CHIMNEY_DOWN eCHIMNEY_DOWN 0 down
    if down then (s1.updPair fun x => { x with sweep := 0 }).setSynced false else s1.startSweep

/-- Step 3 of the pair. -/
def State.pairTimers (s : State) : State :=
  if s.inPair = false then s
  else
    let s1 := s.mateHoldExpiry.mateHoldStep
    s1.pairWtrExpiry.returnStep none

/-! ### Chimney transmit (R303) -/

/-- FLAGS of Table 12-6. -/
def State.chimFlags (s : State) : Nat :=
  128 * bit (decide (s.role = 2)) + 64 * bit s.synced + 32 * bit s.pair.handover.isSome

/-- CHIMNEY_FRAME_TRANSMIT: the overhead of the frame, and the mirror records since the last. -/
def State.chimneyTransmit (s : State) : State :=
  if s.inPair = false then s
  else
    let own := s.clm CLM_STATUS.OWN_CLAIM
    let next := match s.pair.handover with | some (_, o, _, switch) => if switch then own % 4096 else o | none => own
    let h := match s.pair.handover with | some (h, _) => h | none => 0
    s.updPair fun x => { x with
      txClaim := own, txNext := next, txNextSfn := h, txFlags := s.chimFlags, txSfn := s.time.sfn
      mirrorSeq := (x.mirrorSeq + x.forward.length) % 2 ^ 32, forward := [] }

/-! ### PAIR_CFG, PAIR_COMMAND, PAIR_STATUS -/

/-- PAIR_CFG: CLM_CFG, CLM_CFG2, CLM_CHIMNEY (4 bytes each), and a map of 96 pair lanes, lane l at bit l mod 8 of
byte 12 + l div 8. -/
def State.pairCfgFault (s : State) (bs : List Byte) : Option Nat :=
  let chim := fieldAt bs 8 4
  let quadOk := fun (f : Fld) (en : Fld) => decide (fieldOf en chim = 0) ||
    (s.isChimney (fieldOf f chim) && !s.isMember (fieldOf f chim))
  layoutFault bs 24 [
    such 0 4 (fun v => regBitsOk CLM_CFG.key v && decide (fieldOf CLM_CFG.CHANNEL_OVERRIDE v ≠ 3)),
    such 4 4 (fun v => regBitsOk CLM_CFG2.key v && decide (fieldOf CLM_CFG2.WTR v ≤ 720)),
    such 8 4 (fun v => regBitsOk CLM_CHIMNEY.key v && quadOk CLM_CHIMNEY.CHIM0 CLM_CHIMNEY.CHIM0_EN &&
      quadOk CLM_CHIMNEY.CHIM1 CLM_CHIMNEY.CHIM1_EN &&
      (decide (fieldOf CLM_CFG.PAIR_EN (fieldAt bs 0 4) = 0) ||
        decide (fieldOf CLM_CHIMNEY.MATE_ADDR v % 256 ≠ s.address % 256)))]

def pairLanes (bs : List Byte) : List Nat :=
  (List.range 96).filter fun l => (fieldAt bs (12 + l / 8) 1).testBit (l % 8)

def State.pairCfgAdmit (s : State) (p : Packet) : Verdict :=
  .accept ((((s.wrStaged CLM_CFG.key (BitVec.ofNat 32 (p.fld 0 4))).wrStaged CLM_CFG2.key
    (BitVec.ofNat 32 (p.fld 4 4))).wrStaged CLM_CHIMNEY.key (BitVec.ofNat 32 (p.fld 8 4))).updPair
      fun x => { x with lanesStaged := pairLanes p.payload })

/-- The flip of the pair's configuration: a sweep starts (R307). -/
def State.flipPair (s : State) : State :=
  let was := s.inPair
  let s1 := (s.flipRegs [CLM_CFG.key, CLM_CFG2.key, CLM_CHIMNEY.key]).updPair fun x => { x with lanes := x.lanesStaged }
  if s1.inPair then
    let s2 := if was then s1
      else ((s1.updPair fun x => { x with returnStep := 1 }).setCond ⟨srcPair, 0, eCHIMNEY_DOWN⟩ s1.chimLost).setCond
        ⟨srcPair, 0, ePINS_LOST⟩ (s1.on CLM_STATUS.key CLM_STATUS.PINS_LOST)
    s2.startSweep
  else s1

def State.pairCfgRun (s : State) (_p : Packet) : Done := okDone s.flipPair

/-- PAIR_COMMAND: CMD, VALUE, H. -/
def State.pairCommandFault (_s : State) (bs : List Byte) : Option Nat :=
  let cmd := fieldAt bs 0 1
  layoutFault bs 8 [below 0 1 3, such 1 1 (fun v => if cmd = 2 then decide (v < 3) else decide (v = 0)),
    such 2 6 (fun h => if cmd = 1 then decide (h % 2 = 0) else decide (h = 0))]

/-- Row 9: SWITCHOVER acts on the active unit. -/
def State.pairCommandAdmit (s : State) (p : Packet) : Verdict :=
  if p.fld 0 1 = 1 ∧ s.role ≠ 2 then .refuse stBUSY 0 [] else .accept s

/-- SWITCHOVER creates the handover for the H it names. -/
def State.switchStart (s : State) (p : Packet) : Done :=
  let h := p.fld 2 6
  if s.canHandover = false ∨ s.role ≠ 2 ∨ h ≤ s.time.sfn then failDone (s.endLong resPair) stBUSY 0
  else
    let s1 := s.makeHandover h (s.clm CLM_STATUS.OWN_CLAIM % 4096) s.pair.mateNext true
    if s1.pair.handover.isSome then runsOn s1 else failDone (s.endLong resPair) stBUSY 0

def State.pairCommandRun (s : State) (p : Packet) (creation : Option Nat) : Done :=
  let cmd := p.fld 0 1
  if cmd = 0 then
    okDone (if s.pair.heldOut then s.updPair fun x => { x with heldOut := false, returnStep := 2 } else s)
  else if cmd = 1 then
    (if s.pair.handover.isSome then runsOn (s.takeSlot resPair p creation)
     else s.long resPair p creation fun s => s.switchStart p)
  else
    okDone ((s.put CLM_CFG.key CLM_CFG.CHANNEL_OVERRIDE (p.fld 1 1)).wrStaged CLM_CFG.key
      (CLM_CFG.CHANNEL_OVERRIDE.set (s.rdStaged CLM_CFG.key) (p.fld 1 1)))

def noPayload (bs : List Byte) : Option Nat := layoutFault bs 0 []

/-- Tables 12-12 to 12-16, WTR remaining, handover tick. -/
def State.pairStatus (s : State) (_p : Packet) : Verdict :=
  .answer stOK ([CLM_CFG.key, CLM_CFG2.key, CLM_CHIMNEY.key, CLM_STATUS.key, CLM_MATE.key, CLM_MATE_IN_FORCE.key].flatMap
    (fun k => beBytes 4 (s.rd k).toNat) ++ beBytes 4 (s.timerLeft .pairWtr) ++
    beBytes 6 (match s.pair.handover with | some (h, _) => h | none => 0)) s

/-! ### Rows -/

def execClaimInPulse (e : Int) (w : Nat) (s : State) : Host.Outcome State Fault Refusal := .next (s.claimPulse e w).settle

def execPinChannelLoss (s : State) : Host.Outcome State Fault Refusal := .next s.pinLoss.settle

def execChimneyFrameReceive (link : Fin 2) (f : ChimRx) (s : State) : Host.Outcome State Fault Refusal :=
  .next (s.chimneyReceive link f).settle

def execChimneyFrameTransmit (s : State) : Host.Outcome State Fault Refusal := .next s.chimneyTransmit.settle

def execMirrorSweepDone (s : State) : Host.Outcome State Fault Refusal := .next s.sweepDone.settle

def execMateHoldExpiry (s : State) : Host.Outcome State Fault Refusal := .next s.mateHoldExpiry.settle

def execPairWtrExpiry (s : State) : Host.Outcome State Fault Refusal := .next s.pairWtrExpiry.settle

/-- HANDOVER: the entry of a due handover executes. -/
def execHandover (s : State) : Host.Outcome State Fault Refusal :=
  match s.takeStep .handover with
  | some s1 => .next s1.runHandover.settle
  | none => .next s.settle

end Sys2Proof.Machine
end

