-- ==== Sys2Proof/Machine/Timing.lean ====
section
/-! DEFINITION. References, the DPLLs, the frame pulse, clock outputs and synthesis loops (13_timing). -/

namespace Sys2Proof.Machine

def State.updSync (s : State) (f : SyncSt → SyncSt) : State := { s with sync := f s.sync }

/-! ### Quality (R325, R326) -/

def optionOne : List Nat := [0xF, 0x2, 0x0, 0x4, 0x8, 0x8, 0xB, 0xB, 0xF]
def optionTwo : List Nat := [0xF, 0x1, 0x0, 0x7, 0x4, 0xD, 0xA, 0xC, 0xF]

/-- The S1 code a port sends for a rank (Table 13-4). -/
def rankCode (family rank : Nat) : Nat := (if family = 2 then optionTwo else optionOne).getD rank 0xF

/-- The rank of a received S1 code; a code absent from Table 13-4 is rank 8. -/
def codeRank (family code : Nat) : Nat :=
  let ranks := if family = 2 then [1, 2, 3, 4, 5, 6, 7] else [1, 2, 3, 5, 7]
  (ranks.find? fun r => decide (rankCode family r = code)).getD 8

def State.refCfg (s : State) (n : Nat) (f : Fld) : Nat := s.get (DPL_REF_CFG.key n) f

/-- The port that REF4 to REF7 recover timing from. -/
def State.refPort (s : State) (n : Nat) : Nat := s.refCfg n DPL_REF_CFG.SOURCE

/-- The quality rank of a reference (R326). -/
def State.refRank (s : State) (n : Nat) : Nat :=
  let p := s.refPort n
  if 4 ≤ n ∧ n < 8 ∧ s.isSdh p = true ∧ s.refCfg n DPL_REF_CFG.QL_OVR = 0 then
    match (s.sdh p).s1.accepted with
    | some v => codeRank (s.family p) (v % 16)
    | none => 8
  else s.refCfg n DPL_REF_CFG.QL

def State.dpl (s : State) (f : Fld) : Nat := s.get DPL_STATUS.key f
def State.setDpl (s : State) (f : Fld) (v : Nat) : State := s.put DPL_STATUS.key f v

def dpFREE : Nat := 0
def dpACQUIRING : Nat := 1
def dpLOCKED : Nat := 2
def dpBANKED : Nat := 3

def oscBanked (t : Nat) : Nat := [8, 7, 5].getD t 8
def oscFree (t : Nat) : Nat := [8, 7, 7].getD t 8

/-- The rank the DPLL supplies (R326). -/
def State.rankOut (s : State) : Nat :=
  let osc := s.get DPL_CFG.key DPL_CFG.OSC_TYPE
  let st := s.dpl DPL_STATUS.STATE
  if st = dpFREE then oscFree osc
  else if st = dpBANKED then max s.sync.lastRank (oscBanked osc)
  else s.refRank (s.dpl DPL_STATUS.IN_USE)

/-- The rank a port sends: 8 from the port the reference in use is recovered from (R326). -/
def State.portRank (s : State) (p : Nat) : Nat :=
  let n := s.dpl DPL_STATUS.IN_USE
  if 4 ≤ n ∧ n < 8 ∧ s.refPort n = p then 8 else s.dpl DPL_STATUS.RANK_OUT

/-- RANK_OUT follows; a change is an event of ES178. -/
def State.supplyRank (s : State) : State :=
  let r := s.rankOut
  if s.dpl DPL_STATUS.RANK_OUT = r then s else (s.setDpl DPL_STATUS.RANK_OUT r).event 178 0x80 true r

/-! ### Reference checks (R323, R324) -/

/-- The event source of a reference, and the code of its failure there (Table 13-10). -/
def refSource (n : Nat) : Nat := if n < 4 then 171 + n else if n < 8 then 175 else 176
def eREF_FAIL (n : Nat) : Nat := if n < 4 then 0x82 else 0x80
def eREF_QUAL (n : Nat) : Nat := if n < 4 then 0x83 else 0x81

/-- Activity and frequency fail from reset, and from a restart of the checks (R345). -/
def failedChecks : Nat := 3

def State.checks (s : State) (n : Nat) : Nat := s.sync.checks.getD n failedChecks
def State.refOn (s : State) (n : Nat) (f : Fld) : Bool := s.on (DPL_REF_STATUS.key n) f
def State.setRef (s : State) (n : Nat) (f : Fld) (v : Nat) : State := s.put (DPL_REF_STATUS.key n) f v
def State.refFailed (s : State) (n : Nat) : Bool := s.refOn n DPL_REF_STATUS.FAILED

def State.updFeed (s : State) (n : Nat) (bad phase : Nat) : State :=
  s.updSync fun x => { x with
    feedBad := x.feedBad.store n bad 0xF
    feedPhase := x.feedPhase.store n phase 0 }

def State.feedBad (s : State) (n : Nat) : Nat := s.sync.feedBad.getD n 0xF

/-- The failing checks of a feed: bit 0 activity, bit 1 frequency. -/
def State.feedChecks (s : State) (n feed : Nat) : Nat := bitsOf (s.feedBad n) (2 * feed) 2

def State.discOf (s : State) (n : Nat) : Nat := max 1 (s.get (DPL_PAIR_CFG.key n) DPL_PAIR_CFG.DISC)

def State.discrepant (s : State) (n : Nat) : Bool := s.refOn n DPL_REF_STATUS.DISCREPANCY

/-- SYNC_DISCREPANCY is declared or clears. -/
def State.setDiscrepancy (s : State) (n : Nat) (on : Bool) : State :=
  if s.discrepant n = on then s
  else
    let s1 := (s.setRef n DPL_REF_STATUS.DISCREPANCY (bit on)).cond ⟨171 + n, n, 0x81⟩ on
    if on then s1.histBit (DPL_REF_STATUS.key n) DPL_REF_STATUS.HIST 1 else s1

/-- The feeds of a sync pair are compared, and the feed in use is set (Table 13-3): its number, or none. -/
def State.feedChoice (s : State) (n : Nat) (dis : Nat) : Option Nat :=
  let ov := s.get (DPL_PAIR_CFG.key n) DPL_PAIR_CFG.FEED_OVERRIDE
  let cur := s.get (DPL_REF_STATUS.key n) DPL_REF_STATUS.FEED_B
  let a := decide (s.feedChecks n 0 = 0)
  let b := decide (s.feedChecks n 1 = 0)
  if ov = 1 then some 0
  else if ov = 2 then some 1
  else if a = false ∧ b = false then none
  else if a = false then some 1
  else if b = false then some 0
  else if s.discOf n ≤ dis then none
  else some cur

def State.feedSelect (s : State) (n : Nat) : State :=
  let both := decide (s.feedChecks n 0 = 0 ∧ s.feedChecks n 1 = 0)
  let near := decide (s.sync.feedPhase.getD n 0 ≤ 10 * s.get (DPL_PAIR_CFG.key n) DPL_PAIR_CFG.PAIR_WIN)
  let dis := if both && !near then s.sync.feedDis.getD n 0 + 1 else 0
  let agr := if both && near then s.sync.feedAgree.getD n 0 + 1 else 0
  let ov := s.get (DPL_PAIR_CFG.key n) DPL_PAIR_CFG.FEED_OVERRIDE
  let choice := s.feedChoice n dis
  let declared := decide (s.discOf n ≤ dis ∧ ov ≠ 1 ∧ ov ≠ 2)
  let s1 := s.updSync fun x => { x with
    feedDis := x.feedDis.store n dis 0
    feedAgree := x.feedAgree.store n agr 0
    feedNone := (x.feedNone.filter fun k => decide (k ≠ n)) ++ (if choice.isNone then [n] else []) }
  let s2 := match choice with
    | some f => s1.setRef n DPL_REF_STATUS.FEED_B f
    | none => s1
  let s3 := if declared then s2.setDiscrepancy n true
    else if s.discOf n ≤ agr then s2.setDiscrepancy n false else s2
  (s3.cond ⟨171 + n, 0, 0x80⟩ (decide (s.feedChecks n 0 ≠ 0))).cond ⟨171 + n, 1, 0x80⟩
    (decide (s.feedChecks n 1 ≠ 0))

/-- Activity and frequency of a reference: of the feed in use for a sync pair, of both where none is. -/
def State.clockChecks (s : State) (n : Nat) : Nat :=
  if n < 4 then
    (if s.sync.feedNone.contains n then
      (if s.discrepant n then 0 else s.feedChecks n 0 ||| s.feedChecks n 1)
    else s.feedChecks n (s.get (DPL_REF_STATUS.key n) DPL_REF_STATUS.FEED_B))
  else s.checks n % 4

/-- The port of REF4 to REF7 has a defect of the Port check. -/
def State.refPortFails (s : State) (n : Nat) : Bool :=
  let p := s.refPort n
  s.losOf p || s.portHas p [dLOF, dOTU_LOF, dLOL, dLOM, dLOAF, dETH_LOBL]

/-- The Link check of REF8 to REF10. -/
def State.refLinkFails (s : State) (n : Nat) : Bool :=
  if n = 10 then s.on SYS_TIME_STATUS.key SYS_TIME_STATUS.FLYWHEEL else s.linkDown (n - 8)

/-- All checks of a reference as they stand (Table 13-2). -/
def State.judgeChecks (s : State) (n : Nat) : Nat :=
  s.clockChecks n + 4 * bit (decide (4 ≤ n ∧ n < 8) && s.refPortFails n) +
  8 * bit (decide (8 ≤ n ∧ n < 11) && s.refLinkFails n) +
  16 * bit (s.on DPL_CFG.key DPL_CFG.QL_EN && decide (s.refRank n = 8)) +
  32 * bit (decide (n < 4) && s.discrepant n)

/-- The lowest check that fails in `new` and did not in `old`. -/
def newFailure (old new : Nat) : Option Nat := (List.range 6).find? fun c => new.testBit c && !old.testBit c

/-- QUALIFIED follows (R323). -/
def State.settleQualified (s : State) (n : Nat) : State :=
  let q := !s.refFailed n && decide (s.refCfg n DPL_REF_CFG.PRIORITY ≠ 0) && !s.hasTimer (.refWtr n)
  if s.refOn n DPL_REF_STATUS.QUALIFIED = q then s
  else (s.setRef n DPL_REF_STATUS.QUALIFIED (bit q)).event (refSource n) (eREF_QUAL n) q n

/-- The checks of a reference change: a failure, or its clearing, which starts the wait-to-restore unless the
reference has never failed since it was enabled (R328). -/
def State.setChecks (s : State) (n v : Nat) : State :=
  let was := s.refFailed n
  let s1 := s.updSync fun x => { x with checks := x.checks.store n v failedChecks }
  let s2 := match newFailure (s.checks n) v with
    | some c => s1.setRef n DPL_REF_STATUS.FAIL_CAUSE c
    | none => s1
  let c : Cond := ⟨refSource n, n, eREF_FAIL n⟩
  let s3 := if v ≠ 0 ∧ was = false then
      let t := ((s2.stopTimer (.refWtr n)).setRef n DPL_REF_STATUS.FAILED 1).histBit
        (DPL_REF_STATUS.key n) DPL_REF_STATUS.HIST 0
      ((t.updSync fun x => { x with failedOnce := n :: x.failedOnce.filter fun k => decide (k ≠ n) }).setCond
        c true).event c.source c.code true n
    else if v = 0 ∧ was = true then
      let t := ((s2.setRef n DPL_REF_STATUS.FAILED 0).setCond c false).event c.source c.code false n
      if s.sync.failedOnce.contains n then
        t.startTimer (.refWtr n) (s.refCfg n DPL_REF_CFG.WTR * ticksPerSecond) else t
    else s2
  s3.settleQualified n

/-- A reference that is not enabled has not failed since it was enabled. -/
def State.forgetFailures (s : State) (n : Nat) : State :=
  if s.refCfg n DPL_REF_CFG.PRIORITY = 0 then
    s.updSync fun x => { x with failedOnce := x.failedOnce.filter fun k => decide (k ≠ n) } else s

/-- Something decided about a reference's activity or frequency, or about the phase of a pair, arrives. -/
def State.refArrival (s : State) (n check feed phase : Nat) (failing : Bool) : State :=
  if n < 4 then
    let bad := if check < 2 then putBits (s.feedBad n) (2 * feed + check) 1 (bit failing) else s.feedBad n
    s.updFeed n bad phase
  else if check < 2 then s.setChecks n (putBits (s.checks n) check 1 (bit failing))
  else s

/-- Step 1: feeds, then every check (R323, R324). -/
def State.timingArrivals (s : State) : State :=
  let s1 := s.each (List.range 4) State.feedSelect
  s1.each (List.range 12) fun s n =>
    let t := (s.forgetFailures n).setRef n DPL_REF_STATUS.RANK (s.refRank n)
    t.setChecks n (t.judgeChecks n)

/-! ### Selection (R327 to R330) -/

def State.selected (s : State) : Nat := s.get DPL_CFG.key DPL_CFG.SELECTED
def State.qualified (s : State) (n : Nat) : Bool := s.refOn n DPL_REF_STATUS.QUALIFIED

/-- The order of R327 among qualified references: rank where it counts, PRIORITY, number. -/
def State.refOrder (s : State) (n : Nat) : Nat :=
  (if s.on DPL_CFG.key DPL_CFG.QL_EN then s.refRank n else 0) * 256 + s.refCfg n DPL_REF_CFG.PRIORITY * 16 + n

def State.bestRef (s : State) : Option Nat :=
  if s.selected < 12 ∧ s.qualified s.selected = true then some s.selected
  else ((List.range 12).filter s.qualified).foldl (fun b n => match b with
    | none => some n
    | some m => if s.refOrder n < s.refOrder m then some n else b) none

/-- A change of DPLL state: the history bit, and an event at the next step 1 (R331). -/
def State.enterDpll (s : State) (st : Nat) : State :=
  let left := decide (s.dpl DPL_STATUS.STATE = dpLOCKED ∧ st ≠ dpLOCKED)
  let s1 := (s.setDpl DPL_STATUS.STATE st).histBit DPL_STATUS.key DPL_STATUS.STATE_HIST st
  let s2 := if left then s1.updSync fun x => { x with lockedSince := none } else s1
  if s.dpl DPL_STATUS.STATE = st then s2 else s2.arrive (.event 168 0x80 true 0 [])

/-- Acquiring, on a reference, at the acquisition bandwidth of its type. -/
def State.acquire (s : State) (n : Nat) : State :=
  let old := s.dpl DPL_STATUS.IN_USE
  let s1 := ((s.enterDpll dpACQUIRING).setDpl DPL_STATUS.IN_USE n).setDpl DPL_STATUS.BW_STEP 0
  let s2 := s1.updSync fun x => { x with lockFound := none }
  if old = n then s2 else s2.event 169 0x80 true n

/-- Banked or free-run, with no reference in use. -/
def State.coast (s : State) (st : Nat) : State :=
  let old := s.dpl DPL_STATUS.IN_USE
  let s1 := ((s.enterDpll st).setDpl DPL_STATUS.IN_USE 12).setDpl DPL_STATUS.BW_STEP 0
  s1.updSync fun x => { x with
    lockFound := none
    lastRank := if old < 12 then s.refRank old else x.lastRank }

def State.histValid (s : State) : Bool := decide (s.dpl DPL_STATUS.HIST_VALID = 1)

/-- Banked where the history is valid, else free-run. -/
def State.holdover (s : State) : State := s.coast (if s.histValid then dpBANKED else dpFREE)

/-- Ticks from lock found to step `k` of Table 13-6; step 4 is tracking. -/
def bwTicks (k : Nat) : Nat := 2 * k * ticksPerSecond

/-- The bandwidth step due by now. -/
def State.bwDue (s : State) : Nat :=
  match s.sync.lockFound with
  | some t => min 3 ((s.dev.ticks - t) / bwTicks 1)
  | none => 0

/-- Bandwidth steps at 2, 4 and 6 s after lock is found. -/
def State.bwStep (s : State) : State :=
  if s.dpl DPL_STATUS.STATE = dpACQUIRING then s.setDpl DPL_STATUS.BW_STEP s.bwDue else s

/-- Locked 8 s after lock is found. -/
def State.dpllLocked (s : State) : State :=
  match s.sync.lockFound with
  | some t =>
    if s.dpl DPL_STATUS.STATE = dpACQUIRING ∧ t + bwTicks 4 ≤ s.dev.ticks then
      ((s.enterDpll dpLOCKED).setDpl DPL_STATUS.BW_STEP 4).updSync fun x =>
        { x with lockedSince := some s.dev.ticks }
    else s
  | none => s

/-- The frequency history becomes valid (R332). -/
def State.historyValid (s : State) : State :=
  match s.sync.lockedSince with
  | some t =>
    if t + (max 1 (s.get DPL_CFG.key DPL_CFG.HIST_WIN) + 1) * ticksPerSecond ≤ s.dev.ticks then
      s.setDpl DPL_STATUS.HIST_VALID 1 else s
  | none => s

/-- The phase error has stayed within 100 ns for 1 s. -/
def State.dpllLockFound (s : State) : State :=
  if s.dpl DPL_STATUS.STATE = dpACQUIRING ∧ s.sync.lockFound = none then
    s.updSync fun x => { x with lockFound := some s.dev.ticks } else s

/-- The phase error has been beyond 1 µs for 100 ms: acquiring on the same reference (Table 13-7). -/
def State.dpllLockLost (s : State) : State :=
  if s.dpl DPL_STATUS.STATE = dpLOCKED then
    (s.acquire (s.dpl DPL_STATUS.IN_USE)).arrive (.event 168 0x81 true 0 []) else s

/-- Stage 3 of step 3: selection. -/
def State.selectRef (s : State) : State :=
  let st := s.dpl DPL_STATUS.STATE
  let use := s.dpl DPL_STATUS.IN_USE
  if s.sync.failed then s
  else if s.selected = 13 then
    (let want := if s.histValid then dpBANKED else dpFREE
     if st = want then s else s.coast want)
  else if s.selected = 14 then (if st = dpFREE then s else s.coast dpFREE)
  else match s.bestRef with
    | some n =>
      if st = dpFREE ∨ st = dpBANKED then s.acquire n
      else if s.refFailed use then s.acquire n
      else if st = dpLOCKED ∧ n ≠ use then s.acquire n
      else s
    | none => if (st = dpACQUIRING ∨ st = dpLOCKED) ∧ s.refFailed use = true then s.holdover else s

/-- A reference's wait-to-restore has run (R328). -/
def State.refWtrExpiry (s : State) (n : Nat) : State :=
  if s.timerDue (.refWtr n) then (s.stopTimer (.refWtr n)).settleQualified n else s

/-- NO_REF follows the qualified references. -/
def State.judgeNoRef (s0 s : State) : State :=
  let some0 := (List.range 12).any s0.qualified
  let some1 := (List.range 12).any s.qualified
  if some0 = some1 then s
  else (s.setCond ⟨169, 0, 0x81⟩ (!some1)).event 169 0x81 (!some1) 0

/-- CLK_OUT outputs are squelched in free-run (R338). -/
def State.squelchClocks (s : State) : State :=
  s.each (List.range 8) fun s n =>
    let w := DPL_CLKOUT.key n
    s.cond ⟨186 + n / 4, n, 0x80⟩ (s.on w DPL_CLKOUT.ENABLE && s.on w DPL_CLKOUT.SQUELCH_FREE &&
      decide (s.get w DPL_CLKOUT.SRC = 0) && decide (s.dpl DPL_STATUS.STATE = dpFREE))

/-- Step 3 of the timing block, in its three stages (R327). -/
def State.timingStep (s : State) : State :=
  let s1 := s.each (List.range 12) State.refWtrExpiry
  let s2 := (s1.bwStep.dpllLocked).historyValid
  (judgeNoRef s s2.selectRef).supplyRank.squelchClocks

/-! ### DPLL-B (R337) -/

/-- The DPLL in service fails with no mirror. -/
def State.dpllFail (s : State) : State :=
  ((s.coast dpBANKED).updSync fun x => { x with failed := true }).cond ⟨170, 0, 0x83⟩ true

/-- The mirror re-synchronises from the DPLL in service. -/
def State.resync (s : State) : State := s.updSync fun x => { x with resynced := some s.dev.ticks }

/-- The DPLL in service fails its checks: the other takes over. -/
def State.takeover (s : State) : State :=
  if s.sync.failed then s
  else if s.sync.mirror then
    (((s.setDpl DPL_STATUS.B_IN_SERVICE (1 - s.dpl DPL_STATUS.B_IN_SERVICE)).setDpl
      DPL_STATUS.TAKEOVER_HIST 1).resync).event 170 0x80 true 0
  else s.dpllFail

/-- The DPLLs diverge while banked or free-run. -/
def State.dpllDiverge (s : State) : State :=
  let st := s.dpl DPL_STATUS.STATE
  if s.sync.mirror = true ∧ (st = dpFREE ∨ st = dpBANKED) then
    ((s.setDpl DPL_STATUS.DIVERGED_HIST 1).resync).event 170 0x81 true 0 else s

/-- The mirror fails its checks: isolated within 1 s of its last re-synchronising, re-synchronised otherwise. -/
def State.mirrorCheckFail (s : State) : State :=
  if !s.sync.mirror then (if s.sync.failed then s else s.dpllFail)
  else if s.sync.resynced.any fun t => decide (s.dev.ticks ≤ t + ticksPerSecond) then
    (s.updSync fun x => { x with mirror := false }).cond ⟨170, 0, 0x82⟩ true
  else s.resync

/-! ### The frame pulse (R44, R335, R336, R472) -/

def resDpll : Res := (0x09, 0, 0)

/-- FRAME_MISALIGNED follows the live offset. -/
def State.judgeOffset (s : State) : State :=
  let bad := decide (10 * s.get DPL_CFG.key DPL_CFG.ALIGN_TOL < s.time.fpOffsetNs.natAbs)
  (s.setDpl DPL_STATUS.FRAME_MISALIGNED (bit bad)).cond ⟨177, 0, 0x81⟩ bad

/-- The live measurement of the root. -/
def State.setOffset (s : State) (v : Int) : State :=
  (({ s with time := { s.time with fpOffsetNs := v } }).put DPL_FRAME_OFFSET.key DPL_FRAME_OFFSET.OFFSET
    (twos 32 v)).judgeOffset

def condFpLost : Cond := ⟨177, 0, 0x80⟩

/-- The slew of R336 ends. -/
def State.endAlign (s : State) (status : Nat) : State :=
  (s.setDpl DPL_STATUS.ALIGNING 0).finishLong resDpll status 0 []

/-- A pulse is missing, or has a width of neither kind: FP_IN_LOST, and a slew stops. -/
def State.fpMissing (s : State) : State :=
  if !s.isGateway ∨ ¬ s.time.fpAligned = true then s
  else
    let s1 := ((s.put SYS_TIME_STATUS.key SYS_TIME_STATUS.FP_IN_VALID 0).put SYS_TIME_STATUS.key
      SYS_TIME_STATUS.FP_IN_LOST 1).cond condFpLost true
    if s.dpl DPL_STATUS.ALIGNING = 1 then s1.endAlign stFLUSHED else s1

/-- Widths of a frame pulse and of a second marker, in ns (R472). -/
def framePulse (w : Nat) : Bool := decide (40 ≤ w ∧ w ≤ 4000)
def markerPulse (w : Nat) : Bool := decide (8000 ≤ w ∧ w ≤ 60000)

/-- A rising edge of FP_IN: the first valid one aligns the divider, every later one is measured. -/
def State.fpPulse (s : State) (w : Nat) (offset : Int) : State :=
  if !s.isGateway then s
  else if !framePulse w && !markerPulse w then s.fpMissing
  else
    let s1 : State := { s with time := { s.time with marker := markerPulse w } }
    let s2 := s1.cond condFpLost false
    if s.time.fpAligned then s2.setOffset offset
    else
      let s3 : State := { s2 with time := { s2.time with fpAligned := true } }
      (s3.put SYS_TIME_STATUS.key SYS_TIME_STATUS.FP_IN_VALID 1).setOffset 0

/-- One tick of a slew: done within 2.5 ns, else the tick is lengthened or shortened by 2.5 ns. -/
def State.alignStep (s : State) : State :=
  if s.dpl DPL_STATUS.ALIGNING = 0 then s
  else if s.time.fpOffsetNs.natAbs ≤ 2 then
    ((s.put SYS_TIME_STATUS.key SYS_TIME_STATUS.FP_IN_VALID 1).event 177 0x82 true 0).endAlign stOK
  else s.updSync fun x => { x with slewed := x.slewed + (if 0 < s.time.fpOffsetNs then 1 else -1) }

/-- The pulses the FP_OUT pins send at a tick: 500 ns, 20 µs at a second marker with SECOND_MARK. -/
def State.frameOutputs (s : State) : State :=
  let t := (List.range 4).foldl (fun (t : Tbl Nat) m =>
    let k := DPL_FPOUT.key m
    let v := if s.get k DPL_FPOUT.ENABLE = 0 ∨ s.on (PIN_MON.key (8 + m)) PIN_MON.HIGHZ = true then 0
      else if s.time.sfn % ticksPerSecond = 0 ∧ s.get k DPL_FPOUT.SECOND_MARK = 1 then 20000 else 500
    t.store m v 0) s.pins.fpOut
  { s with pins := { s.pins with fpOut := t } }

/-! ### Synthesis loops (R341, R342) -/

def State.synBit (s : State) (f : Fld) (i : Nat) (on : Bool) : State :=
  s.put SYN_STATUS.key f (putBits (s.get SYN_STATUS.key f) i 1 (bit on))

/-- Lock or reference lost: the loop is on its bypass clock, the core loop stops the datapath (R42). -/
def State.synLoss (s : State) (i : Nat) (refLost : Bool) : State :=
  let s1 := (s.synBit SYN_STATUS.LOCK i false).synBit SYN_STATUS.BYPASS i true
  let s2 := if refLost then (s1.histBit SYN_STATUS.key SYN_STATUS.REF_LOSS_HIST i).event (180 + i) 0x81 true i
    else (s1.histBit SYN_STATUS.key SYN_STATUS.LOL_HIST i).event (180 + i) 0x80 true i
  let s3 := s2.cond ⟨180 + i, i, 0x82⟩ true
  if i = 0 then { s3 with dev := { s3.dev with coreBypass := true } } else s3

/-- Lock declared again; the datapath restarts at the next tick (R42). -/
def State.synLock (s : State) (i : Nat) : State :=
  if (s.get SYN_STATUS.key SYN_STATUS.LOCK).testBit i then s
  else
    (((s.synBit SYN_STATUS.LOCK i true).synBit SYN_STATUS.BYPASS i false).cond ⟨180 + i, i, 0x82⟩ false).event
      (180 + i) 0x83 true i

/-- The datapath restarts at the first tick after the core loop regains lock (R42). -/
def State.coreRestart (s : State) : State :=
  if (s.get SYN_STATUS.key SYN_STATUS.BYPASS).testBit 0 then s
  else { s with dev := { s.dev with coreBypass := false } }

/-- Something the datapath does: nothing while the core is on bypass or in reset (R42, R452). -/
def State.datapath (s : State) (f : State → State) : State :=
  if s.dev.coreBypass = true ∨ s.dev.boot = .held then s else f s

/-- A clock output restarts with its new setting at the tick after its flip (R339). -/
def State.clkRestart (s : State) (n : Nat) : State :=
  if s.sync.clkHold.contains n then
    (s.updSync fun x => { x with clkHold := x.clkHold.filter fun k => decide (k ≠ n) }).event
      (186 + n / 4) 0x81 true n
  else s

/-! ### Commands (Table 13-19). Payloads: notes, assumption 11 -/

/-- The rank, the wait-to-restore and the source of a reference are within range (R322). -/
def State.refCfgOk (s : State) (n v : Nat) : Bool :=
  let f := fun x => fieldOf x v
  let src := f DPL_REF_CFG.SOURCE
  let ql := f DPL_REF_CFG.QL
  decide (1 ≤ ql ∧ ql ≤ 8 ∧ f DPL_REF_CFG.WTR ≤ 720) &&
  (if n < 4 ∨ n = 11 then decide (src < 7)
   else if n < 8 then s.portOk src && decide (s.family src ≠ 0 ∧ s.family src ≠ 6)
   else decide (src = 0))

def State.dplRefFault (s : State) (bs : List Byte) : Option Nat :=
  let n := fieldAt bs 0 1
  layoutFault bs 12 [below 0 1 12, rsv 1 3, such 4 4 fun v => s.refCfgOk n v,
    such 8 4 fun v => if n < 4 then regBitsOk (DPL_PAIR_CFG.key n) v && decide (fieldOf DPL_PAIR_CFG.FEED_OVERRIDE v ≠ 3)
      else decide (v = 0)]

def dplRefRegs (n : Nat) : List Nat := if n < 4 then [DPL_REF_CFG.key n, DPL_PAIR_CFG.key n] else [DPL_REF_CFG.key n]

def State.dplRefAdmit (s : State) (p : Packet) : Verdict :=
  .accept (s.stageWords p.payload 4 (dplRefRegs (p.fld 0 1)))

/-- The flip of a reference: a new source, or a PRIORITY from 0, restarts its checks (R345). -/
def State.flipRef (s : State) (n : Nat) : State :=
  let was := s.rd (DPL_REF_CFG.key n)
  let s1 := s.flipRegs (dplRefRegs n)
  let now := s1.rd (DPL_REF_CFG.key n)
  let moved := decide (DPL_REF_CFG.SOURCE.get was ≠ DPL_REF_CFG.SOURCE.get now)
  let fresh := decide (DPL_REF_CFG.PRIORITY.get was = 0 ∧ DPL_REF_CFG.PRIORITY.get now ≠ 0)
  if !moved && !fresh then s1.settleQualified n
  else
    let s2 := if n < 4 then s1.updFeed n 0xF 0 else s1
    let s3 := s2.setChecks n failedChecks
    if fresh then s3.updSync fun x => { x with failedOnce := x.failedOnce.filter fun k => decide (k ≠ n) } else s3

def State.dplRefRun (s : State) (p : Packet) : Done := okDone (s.flipRef (p.fld 0 1))

def dplSelectFault (bs : List Byte) : Option Nat := layoutFault bs 4 [below 0 1 15, rsv 1 3]

/-- DPL_SELECT writes SELECTED (R330). -/
def State.dplSelectRun (s : State) (p : Packet) : Done :=
  let s1 := s.put DPL_CFG.key DPL_CFG.SELECTED (p.fld 0 1)
  okDone (s1.wrStaged DPL_CFG.key (DPL_CFG.SELECTED.set (s1.rdStaged DPL_CFG.key) (p.fld 0 1)))

def dplCfgRegs : List Nat := DPL_CFG.key :: (List.range 4).map DPL_FPOUT.key

def dplCfgFault (bs : List Byte) : Option Nat :=
  layoutFault bs 20 ([such 0 4 fun v => regBitsOk DPL_CFG.key v && decide (fieldOf DPL_CFG.OSC_TYPE v ≠ 3) &&
      decide (fieldOf DPL_CFG.HIST_WIN v ≤ 60)] ++
    (List.range 4).map fun m => such (4 + 4 * m) 4 fun v =>
      regBitsOk (DPL_FPOUT.key m) v && decide (fieldOf DPL_FPOUT.OFFSET v ≤ 99999))

/-- The staged DPL_CFG keeps SELECTED, which DPL_SELECT alone writes. -/
def State.dplCfgAdmit (s : State) (p : Packet) : Verdict :=
  let s1 := s.stageWords p.payload 0 dplCfgRegs
  .accept (s1.wrStaged DPL_CFG.key (DPL_CFG.SELECTED.set (s1.rdStaged DPL_CFG.key) s.selected))

def State.flipDpl (s : State) : State :=
  let keep := s.selected
  let s1 := s.flipRegs dplCfgRegs
  s1.put DPL_CFG.key DPL_CFG.SELECTED keep

def State.dplCfgRun (s : State) (_p : Packet) : Done := okDone s.flipDpl

/-- DPL_REF_STATUS with its timer fields. -/
def State.refStatus (s : State) (n : Nat) : Word :=
  let k := TimerKind.refWtr n
  let w := DPL_REF_STATUS.WTR_RUNNING.set (s.rd (DPL_REF_STATUS.key n)) (bit (s.hasTimer k))
  DPL_REF_STATUS.WTR_LEFT.set w (ceilDiv (s.timerLeft k) ticksPerSecond)

/-- The registers of Tables 13-11 to 13-18, in address order. -/
def State.dplStatus (s : State) (_p : Packet) : Verdict :=
  let words := [DPL_CFG.key, DPL_STATUS.key, DPL_FRAME_OFFSET.key].map s.rd ++
    (List.range 12).map (fun n => s.rd (DPL_REF_CFG.key n)) ++ (List.range 12).map s.refStatus ++
    (List.range 4).map (fun n => s.rd (DPL_PAIR_CFG.key n)) ++
    (List.range 8).map (fun n => s.rd (DPL_CLKOUT.key n)) ++
    (List.range 4).map (fun n => s.rd (DPL_FPOUT.key n)) ++ [SYN_STATUS.key, SYN_SS_CFG.key].map s.rd
  .answer stOK (words.flatMap fun w => beBytes 4 w.toNat) s

/-- The slew starts (R336). -/
def State.alignStart (s : State) (_p : Packet) : Done :=
  if s.has condFpLost = true ∨ s.time.fpAligned = false then failDone (s.endLong resDpll) stFLUSHED 0
  else runsOn (s.setDpl DPL_STATUS.ALIGNING 1)

def State.alignAdmit (s : State) (_p : Packet) : Verdict := if s.isGateway then .accept s else .refuse stBAD_PARAM 0 []

def State.alignRun (s : State) (p : Packet) (creation : Option Nat) : Done :=
  s.long resDpll p creation fun s => s.alignStart p

def clkoutFault (bs : List Byte) : Option Nat :=
  layoutFault bs 8 [below 0 1 8, rsv 1 3, such 4 4 fun v =>
    let f := fieldOf DPL_CLKOUT.FREQ_KHZ v
    regBitsOk (DPL_CLKOUT.key 0) v && decide (f = 0 ∨ (8 ≤ f ∧ f ≤ 156250)) &&
    (decide (fieldOf DPL_CLKOUT.FORMAT v < 2) || decide (f ≤ 125000))]

def State.clkoutAdmit (s : State) (p : Packet) : Verdict :=
  .accept (s.stageWords p.payload 4 [DPL_CLKOUT.key (p.fld 0 1)])

/-- The flip holds the output low until the next tick (R339). -/
def State.flipClock (s : State) (n : Nat) : State :=
  (s.flipRegs [DPL_CLKOUT.key n]).updSync fun x =>
    { x with clkHold := n :: x.clkHold.filter fun k => decide (k ≠ n) }

def State.clkoutRun (s : State) (p : Packet) : Done := okDone (s.flipClock (p.fld 0 1))

def synFault (bs : List Byte) : Option Nat :=
  layoutFault bs 4 [such 0 4 fun v => regBitsOk SYN_SS_CFG.key v && decide (fieldOf SYN_SS_CFG.SS_MODE v ≠ 3)]

def State.synAdmit (s : State) (p : Packet) : Verdict := .accept (s.stageWords p.payload 0 [SYN_SS_CFG.key])

def State.flipSyn (s : State) : State := (s.flipRegs [SYN_SS_CFG.key]).event 188 0x80 true 0

def State.synRun (s : State) (_p : Packet) : Done := okDone s.flipSyn

/-! ### Rows -/

def execRefCheckChange (n : Fin 12) (c : Fin 6) (feed : Fin 2) (phase : Nat) (failing : Bool) (s : State) :
    Host.Outcome State Fault Refusal :=
  .next (s.arrive (.refFail n c feed phase failing)).settle

def execRefWtrExpiry (n : Fin 12) (s : State) : Host.Outcome State Fault Refusal := .next (s.refWtrExpiry n).settle

def execDpllLockFound (s : State) : Host.Outcome State Fault Refusal := .next s.dpllLockFound.settle

def execDpllBwStep (s : State) : Host.Outcome State Fault Refusal := .next s.bwStep.settle

def execDpllLocked (s : State) : Host.Outcome State Fault Refusal := .next s.dpllLocked.settle

def execDpllLockLost (s : State) : Host.Outcome State Fault Refusal := .next s.dpllLockLost.settle

def execDpllHistValid (s : State) : Host.Outcome State Fault Refusal := .next s.historyValid.settle

def execDpllTakeover (s : State) : Host.Outcome State Fault Refusal := .next s.takeover.settle

def execDpllDiverged (s : State) : Host.Outcome State Fault Refusal := .next s.dpllDiverge.settle

def execDpllMirrorCheckFail (s : State) : Host.Outcome State Fault Refusal := .next s.mirrorCheckFail.settle

def execSynLockLoss (i : Fin 6) (refLost : Bool) (s : State) : Host.Outcome State Fault Refusal :=
  .next (s.synLoss i refLost).settle

def execSynRelock (i : Fin 6) (s : State) : Host.Outcome State Fault Refusal := .next (s.synLock i).settle

def execClkoutRestart (n : Fin 8) (s : State) : Host.Outcome State Fault Refusal := .next (s.clkRestart n).settle

def execFpInPulse (w : Nat) (offset : Int) (s : State) : Host.Outcome State Fault Refusal :=
  .next (s.fpPulse w offset).settle

def execFpInMissing (s : State) : Host.Outcome State Fault Refusal := .next s.fpMissing.settle

end Sys2Proof.Machine
end

