-- ==== Sys2Proof/Machine/Ring.lean ====
section
/-! DEFINITION. The flue ring, the gateway and identities (15_flue_ring, R366 to R370), and the restart of the
epoch, which the ring carries to its members (R65, R66). -/

namespace Sys2Proof.Machine

def State.updRing (s : State) (f : RingSt → RingSt) : State := { s with ring := f s.ring }
def State.flu (s : State) (f : Fld) : Nat := s.get FLU_STATUS.key f
def State.setFlu (s : State) (f : Fld) (v : Nat) : State := s.put FLU_STATUS.key f v

/-- The sticky bits of FLU_STATUS: west down, east down, wrap, GATEWAY_CONFLICT. -/
def State.fluHist (s : State) (i : Nat) : State := s.histBit FLU_STATUS.key FLU_STATUS.HIST i

/-- The device booted from PCIe or SPI (R373). -/
def State.bootedGateway (s : State) : Bool :=
  let b := s.get SYS_BOOT_STATUS.key SYS_BOOT_STATUS.BOOT_SEL
  decide (b = 0 ∨ b = 2)

/-! ### Identity (Table 15-3, R388) -/

def identBytes (i : Ident) : List Byte :=
  beBytes 8 i.fuse.toNat ++ [i.variant, i.stepping] ++ beBytes 2 i.fwVersion.toNat ++
  beBytes 2 (bit i.addrValid * 2 ^ 15 + i.addr.toNat) ++ [i.port, i.flags]

/-- The device's own identity block, sent on `port`. -/
def State.ownIdent (s : State) (port : Nat) : Ident :=
  { fuse := s.dev.fuseId, variant := BitVec.ofNat 8 (bit s.dev.variant48), stepping := s.dev.stepping
    fwVersion := BitVec.ofNat 16 (s.get SYS_IDENT.key SYS_IDENT.FW_VERSION)
    addrValid := s.on FLU_STATUS.key FLU_STATUS.ADDR_VALID || s.isGateway
    addr := BitVec.ofNat 10 s.address, port := BitVec.ofNat 8 port
    flags := BitVec.ofNat 8 (bit s.bootedGateway + 2 * bit s.isGateway + 4 * bit s.inPair) }

def State.identifyFault (s : State) (bs : List Byte) : Option Nat :=
  let what := fieldAt bs 0 1
  layoutFault bs 4 [such 0 1 fun v => decide (v < 2) || (decide (v = 2) && s.isGateway),
    such 1 1 fun v => decide (what ≠ 1) || (s.portOk v && (s.isAlf v || s.isChimney v)), rsv 2 2]

/-- The chimney link that runs on a port. -/
def State.linkOfPort (s : State) (p : Nat) : Option Nat := [0, 1].find? fun k => s.chimOn k && decide (s.chimPort k = p)

/-- The partner of a port: VALID and the identity; for an ALF port the far words 5 to 7 of Table 06-5. -/
def State.partnerBytes (s : State) (p : Nat) : List Byte :=
  let known := if s.isAlf p then (s.alf p).partner
    else (s.linkOfPort p).bind fun k => (s.link k).partner.map BitVec.toNat
  [BitVec.ofNat 8 (bit known.isSome)] ++ beBytes 16 (known.getD 0) ++
  (if s.isAlf p then [5, 6, 7].flatMap fun k => beBytes 2 ((s.alf p).farWords.getD k 0) else [])

/-- One entry of the ring table. -/
def ringEntryBytes (e : RingEntry) : List Byte :=
  identBytes e.ident ++ beBytes 1 e.hop ++ beBytes 1 (bit e.present) ++ beBytes 6 0

def State.ringTableBytes (s : State) : List Byte :=
  ringEntryBytes { ident := s.ownIdent 0xFF, hop := 0, present := true } ++ s.ring.table.flatMap ringEntryBytes

def State.identify (s : State) (p : Packet) : Verdict :=
  let what := p.fld 0 1
  .answer stOK (if what = 0 then identBytes (s.ownIdent 0xFF) else if what = 1 then s.partnerBytes (p.fld 1 1)
    else s.ringTableBytes) s

/-! ### EPOCH_RESTART (R65) -/

/-- An entry keyed to the PFN of an ALF port. -/
def State.alfKeyed (s : State) (e : Entry) : Bool := match e.key with
  | .port p _ => s.isAlf p
  | .sfn _ => false

/-- Renumbering from 0 in the old order. -/
def renumber : Nat → List Entry → List Entry
  | _, [] => []
  | n, e :: es => { e with creation := n } :: renumber (n + 1) es

/-- Device work whose entries a restart removed goes on at the ticks after it: notes, assumption 23. -/
def State.resumeDevice (s : State) (v : Nat) (old : List Entry) : State :=
  s.each old fun s e => match e.action with
    | .bridge id => s.updMove id fun m => { m with start := none }
    | .roll id => (s.addDevice (.sfn v) (.roll id)).2
    | .release id => if (old.any fun x => decide (x.action = .roll id)) then (s.addDevice (.sfn (v + 1)) (.release id)).2
        else (s.addDevice (.sfn v) (.release id)).2
    | .spare u => (s.addDevice (.sfn v) (.spare u)).2
    | _ => s

/-- Steps of a move whose bridge has not run are made again with it. -/
def unbegun (es : List Entry) (e : Entry) : Bool := match e.action with
  | .roll id => es.any fun x => decide (x.action = .bridge id)
  | .release id => es.any fun x => decide (x.action = .bridge id)
  | _ => false

/-- A pending announcement keeps the number of its entry. -/
def State.annRenumber (s : State) (e : Entry) : State :=
  match e.action with
  | .alfResize p profile annId => s.updAlf p fun x => { x with anns := x.anns.map fun a =>
      if a.profile = profile ∧ a.annId = annId then { a with creation := e.creation } else a }
  | _ => s

/-- The epoch becomes `e`, the calendar is flushed but for ALF port keys, and the next tick carries `v`. -/
def State.restartEpoch (s : State) (e v : Nat) : State :=
  let s0 : State := { s with time := { s.time with epoch := e % 256 } }
  let gone := s0.cal.entries.filter fun x => !s0.alfKeyed x
  let s1 := s0.cancelHandover.flushWhere (fun x => !s0.alfKeyed x) 0x000F
  let kept := renumber 0 s1.cal.entries
  let s1 := s1.each kept State.annRenumber
  let s2 : State := { s1 with
    cal := { entries := kept, nextCreation := kept.length }
    time := { s1.time with nextSfn := some v, jump := false, armed := s1.time.armed.filter fun a => a.2.isNone } }
  let s3 := (s2.put SYS_TIME_STATUS.key SYS_TIME_STATUS.SFN_CONFLICT 0).cond ⟨290, 0, 0x81⟩ false
  let s4 := s3.resumeDevice v (gone.filter fun x => !unbegun gone x)
  (s4.closeRestart v).event 257 0x81 true 0

/-! ### The ring SFN (R45, R384) -/

/-- The ring SFN is lost: the device counts on its own DPLL. -/
def State.sfnLoss (s : State) : State :=
  if s.isGateway ∨ s.on SYS_TIME_STATUS.key SYS_TIME_STATUS.FLYWHEEL = true then s
  else (((s.put SYS_TIME_STATUS.key SYS_TIME_STATUS.FLYWHEEL 1).cond ⟨290, 0, 0x80⟩ true).updRing fun x =>
    { x with adopted := false })

/-- Compare with the ring: the next tick is tick `v` of the ring. -/
def State.alignSfn (s : State) (v epoch : Nat) : State :=
  let next := s.time.nextSfn.getD (s.time.sfn + 1)
  if epoch ≠ s.time.epoch then s.restartEpoch epoch v
  else if s.on SYS_TIME_STATUS.key SYS_TIME_STATUS.SFN_CONFLICT then s
  else if next < v then { s with time := { s.time with nextSfn := some v, jump := true } }
  else if next = v then s
  else if next - v ≤ 64 then
    (if s.time.suppress = 0 then { s with time := { s.time with suppress := next - v } } else s)
  else (s.put SYS_TIME_STATUS.key SYS_TIME_STATUS.SFN_CONFLICT 1).cond ⟨290, 0, 0x81⟩ true

/-- A device that arrives adopts the ring's SFN and epoch, whatever its own (R45). -/
def State.adoptSfn (s : State) (v epoch : Nat) : State :=
  let next := s.time.nextSfn.getD (s.time.sfn + 1)
  let t := { s.time with epoch := epoch % 256, nextSfn := some v, jump := decide (next < v) }
  ({ s with time := t }).updRing fun x => { x with adopted := true }

/-- The ring SFN reaches a device that arrives, or returns to one that flywheels. -/
def State.sfnReturn (s : State) (v epoch : Nat) : State :=
  if s.isGateway then s
  else if !s.ring.adopted && !s.on SYS_TIME_STATUS.key SYS_TIME_STATUS.FLYWHEEL then s.adoptSfn v epoch
  else
    let s1 := (s.put SYS_TIME_STATUS.key SYS_TIME_STATUS.FLYWHEEL 0).cond ⟨290, 0, 0x80⟩ false
    (s1.updRing fun x => { x with adopted := true }).alignSfn v epoch

/-! ### Links and wraps (R381 to R383) -/

def State.ringPort (s : State) (east : Bool) : RingPort := if east then s.ring.east else s.ring.west
def State.updRingPort (s : State) (east : Bool) (f : RingPort → RingPort) : State :=
  s.updRing fun x => if east then { x with east := f x.east } else { x with west := f x.west }

def upFld (east : Bool) : Fld := if east then FLU_STATUS.EAST_UP else FLU_STATUS.WEST_UP
def wrapFld (east : Bool) : Fld := if east then FLU_STATUS.WRAP_E else FLU_STATUS.WRAP_W
def State.ringUp (s : State) (east : Bool) : Bool := s.on FLU_STATUS.key (upFld east)
def State.ringWrapped (s : State) (east : Bool) : Bool := s.on FLU_STATUS.key (wrapFld east)

/-- A link report: on the root it is taken at the next step 1, from a member it travels. -/
def State.linkReport (s : State) (east good : Bool) : State :=
  if s.isGateway then s.arrive (.linkReport s.address east good)
  else s.updRing fun x => { x with tx := x.tx ++ [⟨7, x.ringNo * 64, 8⟩] }

/-- A port's link goes down: the device wraps there and reports. -/
def State.ringDown (s : State) (east : Bool) : State :=
  if !s.ringUp east then s
  else
    let s1 := ((s.setFlu (upFld east) 0).fluHist (bit east)).cond ⟨288, 0, 0x80 + bit east⟩ true
    let s2 := ((s1.stopTimer (.unwrap east)).setFlu (wrapFld east) 1).fluHist 2
    (s2.updRingPort east fun x => { x with good := 0 }).linkReport east false

def unwrapHold (s : State) : Nat := max 1 (s.get FLU_CFG.key FLU_CFG.UNWRAP_HOLD) * ticksPerSecond

/-- A port's link comes up. -/
def State.ringIsUp (s : State) (east : Bool) : State :=
  if s.ringUp east then s
  else
    let s1 := (s.setFlu (upFld east) 1).cond ⟨288, 0, 0x80 + bit east⟩ false
    if s1.ringWrapped east then s1.startTimer (.unwrap east) (unwrapHold s) else s1

/-- UNWRAP_HOLD has run on a wrapped port whose link is up. -/
def State.unwrapExpiry (s : State) (east : Bool) : State :=
  if s.timerDue (.unwrap east) then
    (let s1 := s.stopTimer (.unwrap east)
     if s1.ringUp east && s1.ringWrapped east then s1.linkReport east true else s1)
  else s

/-- The first SFN that is a multiple of 8 and at least 16 after `n`. -/
def unwrapSfn (n : Nat) : Nat := (n + 16 + 7) / 8 * 8

/-- The root takes a link report in step 1. -/
def State.takeLinkReport (s : State) (addr : Nat) (east good : Bool) : State :=
  if !s.isGateway then s
  else if good then
    let s1 := s.updRing fun x => { x with goodReports := (x.goodReports.filter fun e => decide (e ≠ (addr, east))) ++
      [(addr, east)] }
    if s1.ring.wrapped.all fun e => s1.ring.goodReports.contains e then
      s1.updRing fun x => { x with unwrapAt := some (unwrapSfn s.time.sfn) } else s1
  else
    (s.updRing fun x => { x with
      wrapped := (x.wrapped.filter fun e => decide (e ≠ (addr, east))) ++ [(addr, east)]
      goodReports := x.goodReports.filter fun e => decide (e ≠ (addr, east)) }).event 288 0x82 true 0

/-- A wrapped port whose link is up unwraps. -/
def State.unwrapPort (s : State) (east : Bool) : State :=
  if s.ringWrapped east && s.ringUp east then s.setFlu (wrapFld east) 0 else s

/-- From frame U every wrapped port whose link is up unwraps. -/
def State.ringUnwrap (s : State) : State :=
  match s.ring.unwrapAt with
  | some u =>
    if s.time.sfn < u then s
    else
      let s1 := (s.unwrapPort false).unwrapPort true
      (s1.updRing fun x => { x with unwrapAt := none, wrapped := [], goodReports := [] }).event 288 0x83 true 0
  | none => s

/-! ### Frames (R377 to R380) -/

/-- A gateway that accepts the headers of a root of lower fuse ID gives way (R373). -/
def State.gatewayRule (s : State) (h : RingHdr) : State :=
  if s.isGateway && decide (h.rootFuse.toNat < s.dev.fuseId.toNat) then
    (({ s with cmd := { s.cmd with demoted := true } }).fluHist 3).event 291 0x80 true 0
  else s

/-- The address follows the ring number of the headers (R375). -/
def State.ringNumber (s : State) (n : Nat) : State :=
  let s1 := s.updRing fun x => { x with ringNo := n }
  if s.isGateway ∨ s.flu FLU_STATUS.ADDR_VALID = 0 then s1
  else s1.setFlu FLU_STATUS.ADDR (n * 64 + s.address % 64)

/-- What a member takes from a header on its processing path. -/
def State.takeHeader (s : State) (east : Bool) (h : RingHdr) : State :=
  let f := if east then FLU_DELAY.LINK_E else FLU_DELAY.LINK_W
  let s1 := (s.put FLU_DELAY.key f h.linkDelayNs).gatewayRule h
  if s1.isGateway then s1
  else
    let s2 := (s1.updRing fun x => { x with rootFuse := h.rootFuse }).ringNumber h.ring.toNat
    let s3 := (s2.put FLU_CUM_DELAY.key FLU_CUM_DELAY.CUM_DELAY (h.cumDelay.toNat + 10 * h.linkDelayNs)).setFlu
      FLU_STATUS.HOP (h.hop.toNat + 1)
    let s4 := if h.flags.toNat.testBit 5 then
        s3.updRing fun x => { x with unwrapAt := some (h.sfn.toNat + 1) } else s3
    if s4.ring.adopted then s4.alignSfn h.sfn.toNat h.epoch.toNat
    else if 8 ≤ (s4.ringPort east).good then s4.sfnReturn h.sfn.toNat h.epoch.toNat
    else s4

/-- The path that times the device: the west receive, the east one while the west link is down. -/
def State.onPath (s : State) (east : Bool) : Bool := if east then !s.ringUp false else true

/-- A ring frame header. The header of frame S times tick S, so it comes before that tick. -/
def State.ringReceive (s : State) (east : Bool) (h : RingHdr) : State :=
  if !h.checkOk then
    let s1 := (s.bump FLU_ERR_CNT.key FLU_ERR_CNT.HDR_ERR 1).updRingPort east fun x =>
      { x with good := 0, miss := x.miss + 1 }
    let s2 := if 3 ≤ (s1.ringPort east).miss then s1.ringDown east else s1
    if 8 ≤ s2.ring.west.miss ∧ 8 ≤ s2.ring.east.miss then s2.sfnLoss else s2
  else
    let far := h.flags.toNat.testBit 6
    let s1 := s.updRingPort east fun x =>
      { x with miss := 0, far := if far then x.far + 1 else 0, good := if far then 0 else x.good + 1 }
    let s2 := if 2 ≤ (s1.ringPort east).far then s1.ringDown east
      else if 8 ≤ (s1.ringPort east).good then s1.ringIsUp east else s1
    if s2.onPath east then s2.takeHeader east h else s2

/-- Bytes that the root and a member may insert into a frame (R380). -/
def rootAllowance : Nat := 16384
def memberAllowance : Nat := 4104

/-- The longest leading part of the queue within the allowance; one packet always fits. -/
def takeFor (room : Nat) : List RingPkt → List RingPkt
  | [] => []
  | p :: ps => if p.len ≤ room then p :: takeFor (room - p.len) ps else []

/-- Beacons, announces, assigns and link reports are inserted into any frame. -/
def RingPkt.free (p : RingPkt) : Bool := decide (4 ≤ p.type)

/-- Words of the first record in the ring event buffer, its marker included. -/
def recordLen (ws : List (BitVec 64)) : Nat := match ws with
  | [] => 0
  | w :: _ => if bitsOf w.toNat 56 6 = 3 then 1 + bitsOf w.toNat 44 12 else 1

/-- Whole records of at most 512 words leave in an event packet (R399). -/
def recordsFor (room : Nat) : Nat → List (BitVec 64) → Nat
  | 0, _ => 0
  | n + 1, ws =>
    let k := recordLen ws
    if k = 0 ∨ room < k then 0 else k + recordsFor (room - k) n (ws.drop k)

/-- Packets of replies that wait on a member. -/
def State.replyPkts (s : State) : List RingPkt :=
  s.cmd.sent.map fun r => ⟨2, s.ring.ringNo * 64, 44 + r.result.length⟩

/-- The beacon or announce of a frame whose SFN is a multiple of 8 (R384, R385). -/
def State.beaconPkts (s : State) : List RingPkt :=
  if s.isGateway ∨ s.time.sfn % 8 ≠ 0 then []
  else if s.on FLU_STATUS.key FLU_STATUS.ADDR_VALID then [⟨4, s.ring.ringNo * 64, 20⟩]
  else if s.ring.adopted then [⟨5, s.ring.ringNo * 64, 20⟩] else []

/-- UNWRAP_NEXT stands in the header of frame U - 1, which carries no packet (R383). -/
def State.unwrapNext (s : State) : Bool := s.ring.unwrapAt.any fun u => decide (s.time.sfn + 1 = u)

/-- A frame is sent: the packets that its allowances admit leave in order. -/
def State.ringTransmit (s : State) : State :=
  let wrapped := s.ringWrapped false || s.ringWrapped true
  let down := !s.ringUp false || !s.ringUp true
  let flags := 128 * bit wrapped + 64 * bit down + 32 * bit (s.isGateway && s.unwrapNext)
  let s0 := s.updRing fun x => { x with sent := [], sentFlags := flags }
  let s1 := if s.isGateway then s0.setFlu FLU_STATUS.HOP 0 else s0
  if s.unwrapNext then s1
  else
    let now := s.ring.tx.filter RingPkt.free ++ s.beaconPkts
    let bound := s.ring.tx.filter fun p => !p.free
    if s.isGateway then
      let out := takeFor rootAllowance bound
      s1.updRing fun x => { x with tx := bound.drop out.length, sent := now ++ out }
    else if s.time.sfn % 2 = s.flu FLU_STATUS.HOP % 2 then
      let replies := takeFor memberAllowance s.replyPkts
      let used := (replies.map RingPkt.len).sum
      let n := recordsFor ((memberAllowance - used - 4) / 8) 1024 s.evt.ringBuf
      let events : List RingPkt := if n = 0 then [] else [⟨3, s.ring.ringNo * 64, 8 * n + 4⟩]
      let s2 : State := { s1 with
        cmd := { s1.cmd with sent := s1.cmd.sent.drop replies.length }
        evt := { s1.evt with ringBuf := s1.evt.ringBuf.drop n } }
      s2.updRing fun x => { x with tx := bound, sent := now ++ replies ++ events }
    else s1.updRing fun x => { x with tx := bound, sent := now }

/-! ### Arrival and departure of devices (R384, R385) -/

def identPos (i : Ident) : Nat := i.addr.toNat % 64

/-- The FLU_MEMBERS bit of a position. -/
def State.setMember (s : State) (pos : Nat) (on : Bool) : State :=
  s.put (FLU_MEMBERS.key (pos / 32)) FLU_MEMBERS.PRESENT
    (putBits (s.get (FLU_MEMBERS.key (pos / 32)) FLU_MEMBERS.PRESENT) (pos % 32) 1 (bit on))

def State.entryOf (s : State) (fuse : BitVec 64) : Option RingEntry :=
  s.ring.table.find? fun e => decide (e.ident.fuse = fuse)

/-- The present device that holds a position, other than the one of fuse `f`. -/
def State.heldByOther (s : State) (f : BitVec 64) (pos : Nat) : Bool :=
  decide (pos = 0) || s.ring.table.any fun e => e.present && decide (identPos e.ident = pos ∧ e.ident.fuse ≠ f)

def State.putEntry (s : State) (e : RingEntry) : State :=
  let known := (s.entryOf e.ident.fuse).isSome
  let renewed := s.ring.table.map fun y => if y.ident.fuse = e.ident.fuse then e else y
  s.updRing fun x => { x with table := if known then renewed else x.table ++ [e] }

/-- An announce: a device not yet known is entered, and DEVICE_ARRIVED is raised. -/
def State.takeAnnounce (s : State) (i : Ident) (hop : Nat) : State :=
  if !s.isGateway ∨ (s.entryOf i.fuse).isSome then s
  else (s.putEntry { ident := i, hop := hop, present := false }).event 289 0x80 true 0

/-- An assign packet: FUSE_ID, ADDR, reserved bytes and CRC. -/
def assignPkt (dest : Nat) : RingPkt := ⟨6, dest, 16⟩

/-- A device becomes present under its position. -/
def State.becomePresent (s : State) (i : Ident) (hop : Nat) : State :=
  ((s.putEntry { ident := i, hop := hop, present := true, beacon := true }).setMember (identPos i) true).event
    289 0x80 true (identPos i)

/-- A SET_ADDRESS ends with its completion (PHASE 2). -/
def State.endAssign (s : State) (a : Assign) (status : Nat) : State :=
  let s1 := s.updRing fun x => { x with assigns := x.assigns.filter fun b => decide (b ≠ a) }
  s1.reply a.packet 2 status 0 (a.creation.getD noCreation) s.time.sfn 0 []

/-- A beacon of frame 8j, in step 1 of tick 8j + 1 (R385); one that carries the address of a SET_ADDRESS
completes it (R376). -/
def State.takeBeacon (s : State) (i : Ident) (hop : Nat) : State :=
  if !s.isGateway ∨ i.addrValid = false then s
  else match s.ring.assigns.find? fun a => decide (a.fuse = i.fuse ∧ a.addr = i.addr.toNat), s.entryOf i.fuse with
    | some a, some e =>
      let s1 := if e.present ∧ identPos e.ident ≠ (identPos i) then
          (s.setMember (identPos e.ident) false).arrive (.notPresent e.ident.addr.toNat) else s
      ((if e.present then (s1.putEntry { e with ident := i, hop := hop, beacon := true, missing := 0 }).setMember (identPos i) true
        else s1.becomePresent i hop)).endAssign a stOK
    | _, some e =>
      if e.present = true ∧ e.ident.addr = i.addr then s.putEntry { e with ident := i, hop := hop, beacon := true, missing := 0 }
      else if s.heldByOther i.fuse (identPos i) then s.updRing fun x => { x with tx := x.tx ++ [assignPkt i.addr.toNat] }
      else s.becomePresent i hop
    | _, none =>
      if s.heldByOther i.fuse (identPos i) then s.updRing fun x => { x with tx := x.tx ++ [assignPkt i.addr.toNat] }
      else s.becomePresent i hop

/-- A present member is declared absent. -/
def State.declareAbsent (s : State) (e : RingEntry) : State :=
  (((s.updRing fun x => { x with table := x.table.filter fun y => decide (y.ident.fuse ≠ e.ident.fuse) }).setMember
    (identPos e.ident) false).event 289 0x81 true (identPos e.ident)).arrive (.notPresent e.ident.addr.toNat)

/-- The member at a position has missed 3 beacon frames. -/
def State.beaconMissing (s : State) (pos : Nat) : State :=
  match s.ring.table.find? fun e => e.present && decide (identPos e.ident = pos) && decide (3 ≤ e.missing) with
  | some e => s.declareAbsent e
  | none => s

/-- In step 1 of tick 8j + 1, after the beacons: the members that sent none count one more missing. -/
def State.countBeacons (s : State) : State :=
  if !s.isGateway ∨ s.time.sfn % 8 ≠ 1 then s
  else
    let s1 := s.updRing fun x => { x with table := x.table.map fun e =>
      if e.present then { e with beacon := false, missing := if e.beacon then 0 else e.missing + 1 } else e }
    s1.each (s1.ring.table.filter fun e => e.present && decide (3 ≤ e.missing)) State.declareAbsent

/-! ### SET_ADDRESS (R376) -/

def setAddressFault (bs : List Byte) : Option Nat := layoutFault bs 12 [such 8 2 fun v => decide (v < 1024), rsv 10 2]

def State.setAddressAdmit (s : State) (p : Packet) : Verdict :=
  let f := BitVec.ofNat 64 (p.fld 0 8)
  let a := p.fld 8 2
  if !s.isGateway then .refuse stBAD_PARAM 0 []
  else if f = s.dev.fuseId then (if a % 64 = 0 then .accept s else Verdict.bad 8)
  else if (s.entryOf f).isNone then .refuse stNOT_PRESENT 0 []
  else if a / 64 ≠ s.address / 64 ∨ a % 64 = 0 then Verdict.bad 8
  else if s.heldByOther f (a % 64) then .refuse stBUSY 0 []
  else .accept s

/-- Ticks in which the beacon with the new address must come. -/
def assignTicks : Nat := 24

/-- The command awaits a member, so its acceptance is answered and a completion follows. -/
def State.assignsMember (s : State) (p : Packet) : Bool := decide (BitVec.ofNat 64 (p.fld 0 8) ≠ s.dev.fuseId)

def State.setAddressRun (s : State) (p : Packet) (creation : Option Nat) : Done :=
  let f := BitVec.ofNat 64 (p.fld 0 8)
  let a := p.fld 8 2
  if f = s.dev.fuseId then
    let s1 := s.complete p creation stOK 0 0 []
    runsOn (((s1.setFlu FLU_STATUS.ADDR a).setFlu FLU_STATUS.ADDR_VALID 1).updRing fun x => { x with ringNo := a / 64 })
  else match s.entryOf f with
    | none => failDone s stNOT_PRESENT 0
    | some e => runsOn (s.updRing fun x => { x with
        tx := x.tx ++ [assignPkt e.ident.addr.toNat]
        assigns := x.assigns ++ [⟨p, creation, f, a, s.dev.ticks + assignTicks⟩] })

/-- No beacon with the new address has come in time. -/
def State.assignExpiry (s : State) : State :=
  s.each (s.ring.assigns.filter fun a => decide (a.due ≤ s.dev.ticks)) fun s a => s.endAssign a stNOT_PRESENT

/-- A member takes or drops an address. -/
def State.takeAssign (s : State) (fuse : BitVec 64) (addr : Nat) (valid : Bool) : State :=
  if s.isGateway ∨ fuse ≠ s.dev.fuseId then s
  else if valid then (s.setFlu FLU_STATUS.ADDR addr).setFlu FLU_STATUS.ADDR_VALID 1
  else (s.setFlu FLU_STATUS.ADDR 0).setFlu FLU_STATUS.ADDR_VALID 0

/-! ### The gateway (R367 to R370) -/

def inbufCap : Nat := 32
def gatewayRecord : Nat := 4096

/-- A packet enters the input buffer of its master, or finds it full (R369). -/
def State.bufferPacket (s : State) (p : Packet) : State :=
  if inbufCap ≤ (s.master p.master).inbuf.length then s.reply0 p stBUSY 0x0006 []
  else s.updMaster p.master fun x => { x with inbuf := x.inbuf ++ [p] }

/-- Commands whose reply is awaited. -/
def State.awaited (s : State) (m : Nat) : Nat :=
  ((s.master m).awaiting.filter fun a => !a.timedOut).length

def State.reachable (s : State) (dest : Nat) : Bool :=
  s.ring.table.any fun e => e.present && decide (e.ident.addr.toNat = dest)

/-- The gateway takes a packet that master `m` submitted: it executes it, forwards it, or answers it. -/
def State.submit (s : State) (m : Nat) (p : Packet) : State :=
  let dest := p.dest.toNat % 1024
  if s.cmd.demoted then s.reply0 p stBUSY 0 []
  else if p.master ≠ m ∨ p.srcRing ≠ s.address / 64 then
    s.replyWindow m p
  else if dest = s.address then s.bufferPacket p
  else if !s.reachable dest then s.replyFor p stNOT_PRESENT 0
  else if gatewayRecord ≤ s.awaited m then s.replyFor p stBUSY 0x0010
  else
    let s1 := s.updRing fun x => { x with tx := x.tx ++ [⟨1, dest, 28 + p.payload.length⟩] }
    if p.noReply then s1
    else s1.updMaster m fun x => { x with awaiting := (x.awaiting.filter fun a => decide (a.packet.seq ≠ p.seq)) ++
      [{ packet := p, due := s.dev.ticks + s.timeoutOf p }] }

/-- FULL of CMD_TX_m. -/
def State.recordFull (s : State) (m : Nat) : Bool := decide (gatewayRecord ≤ s.awaited m)

/-- A reply with STALE set in CFLAGS, and its CHECK renewed (R368). -/
def staleReply (bs : List Byte) : List Byte :=
  let n := bs.length - 4
  let body := (putByte bs 33 (BitVec.ofNat 8 (fieldAt bs 33 1 ||| 4))).take n
  body ++ beBytes 4 (crc32c.of (beBytes 2 (fieldAt bs 4 2 % 1024) ++ bytesAt bs 6 2 ++ body))

/-- A reply reaches the gateway (R368, R370): PHASE 1 keeps the record for the completion, a fragment with MORE
keeps it for the rest. -/
def State.gatewayReply (s : State) (m seq : Nat) (bs : List Byte) : State :=
  match (s.master m).awaiting.find? fun a => decide (a.packet.seq.toNat = seq) with
  | none => s.deliverPacket m bs
  | some a =>
    let more := decide (2 ^ 15 ≤ fieldAt bs 18 2)
    let keep := more || decide (fieldAt bs 25 1 = 1)
    let left := if keep then (s.master m).awaiting.map fun b =>
        if b.packet.seq.toNat = seq then { b with answered := true } else b
      else (s.master m).awaiting.filter fun b => decide (b.packet.seq.toNat ≠ seq)
    let s1 := s.updMaster m fun x => { x with awaiting := left }
    s1.deliverPacket m (if a.timedOut ∧ a.answered = false then staleReply bs else bs)

/-- A forwarded command without a first reply by its TIMEOUT (R368). -/
def State.gatewayExpiry (s : State) (m seq : Nat) : State :=
  match (s.master m).awaiting.find? fun a => decide (a.packet.seq.toNat = seq ∧ a.due ≤ s.dev.ticks) &&
      !a.answered && !a.timedOut with
  | none => s
  | some a =>
    let s1 := s.updMaster m fun x => { x with awaiting := x.awaiting.map fun b =>
      if b.packet.seq.toNat = seq then { b with timedOut := true } else b }
    ((s1.replyFor a.packet stBUSY 0x0007).put CMD_STATUS.key CMD_STATUS.TIMEOUT_HIST 1).event (258 + m) 0x83 true 0

/-- Every reply awaited from an address returns NOT_PRESENT (R368). -/
def State.dropAwaited (s : State) (addr : Nat) : State :=
  s.each [0, 1] fun s m =>
    let hit := fun (a : Await) => decide (a.packet.dest.toNat % 1024 = addr)
    let gone := (s.master m).awaiting.filter fun a => hit a && !a.timedOut
    let s1 := s.updMaster m fun x => { x with awaiting := x.awaiting.filter fun a => !hit a }
    s1.each gone fun s a => s.replyFor a.packet stNOT_PRESENT 0

/-- Step 3 of the ring and the gateway. -/
def State.ringTimers (s : State) : State :=
  let s1 := (s.unwrapExpiry false).unwrapExpiry true
  let s2 := s1.assignExpiry
  s2.each [0, 1] fun s m => s.each ((s.master m).awaiting.map fun a => a.packet.seq.toNat) fun s q => s.gatewayExpiry m q

/-! ### Rows -/

def execRingFrameReceive (east : Bool) (h : RingHdr) (s : State) : Host.Outcome State Fault Refusal :=
  .next (s.ringReceive east h).settle

def execRingFrameTransmit (s : State) : Host.Outcome State Fault Refusal := .next s.ringTransmit.settle

def execRingLinkDown (east : Bool) (s : State) : Host.Outcome State Fault Refusal := .next (s.ringDown east).settle

def execRingLinkUp (east : Bool) (s : State) : Host.Outcome State Fault Refusal := .next (s.ringIsUp east).settle

def execRingLinkReport (addr : BitVec 10) (east good : Bool) (s : State) : Host.Outcome State Fault Refusal :=
  .next (s.arrive (.linkReport addr.toNat east good)).settle

def execUnwrapHoldExpiry (east : Bool) (s : State) : Host.Outcome State Fault Refusal :=
  .next (s.unwrapExpiry east).settle

def execRingUnwrap (s : State) : Host.Outcome State Fault Refusal := .next s.ringUnwrap.settle

def execRingAnnounce (i : Ident) (hop : Byte) (s : State) : Host.Outcome State Fault Refusal :=
  .next (s.arrive (.announce i hop.toNat)).settle

def execRingBeacon (i : Ident) (hop : Byte) (s : State) : Host.Outcome State Fault Refusal :=
  .next (s.arrive (.beacon i hop.toNat)).settle

def execBeaconMissing (pos : Fin 64) (s : State) : Host.Outcome State Fault Refusal := .next (s.beaconMissing pos).settle

def execMemberAssign (fuse : BitVec 64) (addr : BitVec 10) (valid : Bool) (s : State) :
    Host.Outcome State Fault Refusal :=
  .next (s.takeAssign fuse addr.toNat valid).settle

def execSetAddressTimeout (s : State) : Host.Outcome State Fault Refusal := .next s.assignExpiry.settle

def execRingEventPacket (record : List (BitVec 64)) (s : State) : Host.Outcome State Fault Refusal :=
  .next (s.arrive (.ringEvents record)).settle

def execGatewayReplyReceive (m : Fin 2) (seq : BitVec 16) (bs : List Byte) (s : State) :
    Host.Outcome State Fault Refusal :=
  .next (s.gatewayReply m seq.toNat bs).settle

def execGatewayReplyTimeout (m : Fin 2) (seq : BitVec 16) (s : State) : Host.Outcome State Fault Refusal :=
  .next (s.gatewayExpiry m seq.toNat).settle

def execRingSfnLoss (s : State) : Host.Outcome State Fault Refusal := .next s.sfnLoss.settle

def execRingSfnReturn (sfn : BitVec 48) (epoch : Byte) (s : State) : Host.Outcome State Fault Refusal :=
  .next (s.sfnReturn sfn.toNat epoch.toNat).settle

end Sys2Proof.Machine
end

