-- ==== Sys2Proof/Machine/Health.lean ====
section
/-! DEFINITION. Isolation, spares, bank repair, the smoke test and power domains (R20 to R40, R87 to R90, R222,
18_health_spares_and_power). -/

namespace Sys2Proof.Machine

def State.updHealth (s : State) (f : HealthSt → HealthSt) : State := { s with health := f s.health }

/-! ### Power domains (R441, Table 18-8) -/

def domainCount : Nat := 137

def State.domainBit (s : State) (k : Nat → Nat) (d : Nat) : Bool := (s.rd (k (d / 32))).getLsbD (d % 32)

def State.setDomainBit (s : State) (k : Nat → Nat) (d : Nat) (on : Bool) : State :=
  s.wr (k (d / 32)) (BitVec.ofNat 32 (putBits (s.rd (k (d / 32))).toNat (d % 32) 1 (bit on)))

def State.domainUp (s : State) (d : Nat) : Bool := s.domainBit HLT_DOMAIN_UP.key d
def State.rejoined (s : State) (d : Nat) : Bool := s.domainBit HLT_DOMAIN_REJ.key d
def State.domainReady (s : State) (d : Nat) : Bool := s.domainUp d && s.rejoined d

/-- A domain that comes up and has not rejoined. -/
def State.joining (s : State) (d : Nat) : Bool := s.domainUp d && !s.rejoined d

/-- Domains held down on the KX9600-48 (R17, R73). -/
def State.fuseHeld (s : State) (d : Nat) : Bool :=
  s.dev.variant48 && decide ((24 ≤ d ∧ d ≤ 47) ∨ d = 50 ∨ d = 51 ∨ (66 ≤ d ∧ d ≤ 79) ∨ (104 ≤ d ∧ d ≤ 107))

def domLane (l : Nat) : Nat := l / 2
def domSpare (g : Nat) : Nat := 48 + g / 2
def domFramer (n : Nat) : Nat := 52 + n
def domMapper (n : Nat) : Nat := 80 + n
def domEngine (n : Nat) : Nat := 100 + n
def domSlice (n : Nat) : Nat := 108 + n
def domBank (n : Nat) : Nat := 112 + n / 16

/-- The macro domain of a lane: its own, or its group spare's. -/
def State.laneDomain (s : State) (l : Nat) : Nat := if (s.port l).servedBy.isSome then domSpare (l / 12) else domLane l

/-- The domain of a unit a descriptor names. -/
def State.unitDomain (s : State) (u : UnitRef) : Nat :=
  match u with
  | .lane l => s.laneDomain l
  | .framer n => domFramer (s.physOf n)
  | .mapper n => domMapper (s.physOf (24 + n))
  | .bank n => domBank n

/-- A resource names units of a domain that has not rejoined (R443). -/
def State.resJoining (s : State) (r : Res) : Bool :=
  let n := r.2.2
  if r.1 = 0x01 then
    s.joining (domFramer (s.physOf (framerPos n))) || (s.lanesOf n).any fun l => s.joining (s.laneDomain l)
  else if r.1 = 0x07 then s.joining (domEngine r.2.1)
  else if r.1 = 0x08 then s.joining (domSlice n)
  else false

/-! ### Grades (R425, R426) -/

def gSpare (g : Nat) : Nat := g
def gFramer (n : Nat) : Nat := 100 + n
def gMapper (n : Nat) : Nat := 200 + n
def gEngine (n : Nat) : Nat := 300 + n
def gBank (n : Nat) : Nat := 400 + n
def gSlice (n : Nat) : Nat := 900 + n
def gCp : Nat := 1000

def State.grade (s : State) (u : Nat) : Nat := s.health.grades.getD u 0

/-- The position that a physical block serves, among `count` positions from `base`. -/
def State.servedPos (s : State) (base count n : Nat) : Option Nat :=
  (List.range count).find? fun k => decide (s.physOf (base + k) = n)

/-- The registers that show a unit's grade. -/
def State.showGrade (s : State) (u v : Nat) : State :=
  if u < 100 then s.put (LAN_SPARE.key u) LAN_SPARE.HEALTH v
  else if u < 200 then
    match s.servedPos 0 24 (u - 100) with
    | some k => s.put (SYS_BLOCK_MAP.key k) SYS_BLOCK_MAP.HEALTH v
    | none => s
  else if u < 300 then
    match s.servedPos 24 16 (u - 200) with
    | some k => s.put (SYS_BLOCK_MAP.key (24 + k)) SYS_BLOCK_MAP.HEALTH v
    | none => s
  else if u < 400 then s.put HLT_GRADE_PE.key ⟨4 * (u - 300), 4⟩ v
  else if u < 900 then s.put (STK_BANK.key (u - 400)) STK_BANK.HEALTH v
  else if u < 1000 then s.put HLT_GRADE_FS.key ⟨4 * (u - 900), 4⟩ v
  else s.put HLT_STATUS.key HLT_STATUS.CP_GRADE v

def State.setGrade (s : State) (u v : Nat) : State :=
  (s.updHealth fun h => { h with grades := h.grades.store u v 0 }).showGrade u v

/-- The STATE of a block map entry. -/
def State.blockState (s : State) (n : Nat) : Nat := s.get (SYS_BLOCK_MAP.key n) SYS_BLOCK_MAP.STATE
def State.setBlockState (s : State) (n v : Nat) : State := s.put (SYS_BLOCK_MAP.key n) SYS_BLOCK_MAP.STATE v

/-- R426. -/
def State.deviceGrade (s : State) : Nat :=
  let engines := ((List.range 8).filter fun e => s.domainReady (domEngine e)).map fun e => s.grade (gEngine e)
  let slices := ((List.range 4).filter fun n => !s.grate.isolated.contains n).map fun n => s.grade (gSlice n)
  let framers := ((List.range 24).filter fun n => s.blockState n ≠ 3).map fun n => s.grade (gFramer (s.physOf n))
  let mappers := ((List.range 16).filter fun n => s.blockState (24 + n) ≠ 3).map fun n =>
    s.grade (gMapper (s.physOf (24 + n)))
  (engines ++ slices ++ framers ++ mappers).foldl min (s.grade gCp)

/-! ### Isolation (R32, R35) -/

def blockSource (b : BlockRef) : Nat :=
  match b with
  | .framer n => srcFramer n
  | .mapper n => srcMapper n
  | .engine n => srcEngine n
  | .slice n => srcSlice n

/-- The block map index a block serves at. -/
def State.blockIndex (s : State) (b : BlockRef) : Option Nat :=
  match b with
  | .framer n => s.servedPos 0 24 n
  | .mapper n => (s.servedPos 24 16 n).map fun k => 24 + k
  | _ => none

/-- Region of a block map index. -/
def indexRegion (i : Nat) : Nat := if i < 24 then i / 6 else (i - 24) / 4
def srcRegion (m : Nat) : Nat := 328 + m
def condRegion (i : Nat) : Cond := ⟨srcRegion (indexRegion i), i, 0x80⟩

def indexUnit (i : Nat) : UnitRef := if i < 24 then .framer i else .mapper (i - 24)

/-- A block in service is isolated: its outputs pass to the damper, and a framer or mapper block asks for the
region's spare in the next tick. -/
def State.isolate (s : State) (b : BlockRef) : State :=
  if s.health.isolated.contains b then s
  else
    let mark := fun (s : State) => (s.updHealth fun h => { h with isolated := h.isolated ++ [b] }).cond
      ⟨blockSource b, 0, 0x80⟩ true
    match b with
    | .slice n => s.sliceFailure n
    | .engine n => if s.domainUp (domEngine n) then mark s else s
    | _ => match s.blockIndex b with
      | none => s
      | some i =>
        if s.blockState i = 3 then s
        else (((mark s).setBlockState i 1).cond (condRegion i) true).arrive (.trigger (indexUnit i))

/-! ### Triggers and approval (R430 to R433) -/

def unitKind (u : UnitRef) : Nat :=
  match u with
  | .lane _ => 1
  | .framer _ => 2
  | .mapper _ => 3
  | .bank _ => 4

def unitNum (u : UnitRef) : Nat :=
  match u with
  | .lane n => n
  | .framer n => n
  | .mapper n => n
  | .bank n => n

/-- Commits of one step 2 run by kind, then by the number of the failed unit (R433). -/
def unitKey (u : UnitRef) : Nat := unitKind u * 65536 + unitNum u

def unitOf (kind n : Nat) : UnitRef :=
  if kind = 1 then .lane n else if kind = 2 then .framer n else if kind = 3 then .mapper n else .bank n

def unitBytes (u : UnitRef) : List Byte := beBytes 1 (unitKind u) ++ [0] ++ beBytes 2 (unitNum u)

/-- Units of each kind (R1, R14, R37). -/
def State.unitCount (s : State) (kind : Nat) : Nat :=
  if kind = 1 then s.portCount else if kind = 2 then 24 else if kind = 3 then 16 else if kind = 4 then 400 else 0

/-- The unit exists and is in service on this device. -/
def State.unitOk (s : State) (kind n : Nat) : Bool :=
  decide (n < s.unitCount kind) && !(decide (kind = 2) && s.fuseHeld (domFramer (s.physOf n)))

/-- The region that reports a unit. -/
def unitRegion (u : UnitRef) : Nat :=
  match u with
  | .lane n => n / 24
  | .framer n => n / 6
  | .mapper n => n / 4
  | .bank _ => 0

def unitIndex (u : UnitRef) : Option Nat :=
  match u with
  | .framer n => some n
  | .mapper n => some (24 + n)
  | _ => none

/-- An isolated block's STATE. -/
def State.markBlock (s : State) (u : UnitRef) (v : Nat) : State :=
  match unitIndex u with
  | some i => if s.blockState i = 1 ∨ s.blockState i = 2 then s.setBlockState i v else s
  | none => s

def State.setPendingSubs (s : State) (us : List UnitRef) : State :=
  (s.updHealth fun h => { h with pendingSubs := us }).put HLT_STATUS.key HLT_STATUS.PENDING (bit !us.isEmpty)

/-- A spare commit at step 2 of the present tick; without a calendar entry it waits for one (R52). -/
def State.queueSpare (s : State) (u : UnitRef) : State :=
  let r := s.addDevice (.sfn s.time.sfn) (.spare u)
  if r.1 then r.2 else s.updHealth fun h => { h with waiting := h.waiting ++ [u] }

/-- A bank is under copy. -/
def State.copying (s : State) (b : Nat) : Bool := s.health.copies.any fun c => decide (c.1 = b)

/-- A trigger arrives in step 1. -/
def State.takeTrigger (s : State) (u : UnitRef) : State :=
  let done := match u with
    | .bank b => s.copying b || !s.bankServes b
    | _ => false
  if done || s.health.pendingSubs.contains u then s
  else if s.expertMode then
    ((s.setPendingSubs (s.health.pendingSubs ++ [u])).markBlock u 2).event (srcRegion (unitRegion u)) 0x82 true
      (match unitIndex u with | some i => i | none => unitNum u)
  else s.queueSpare u

/-- Step 1: commits that found no entry are created in the first tick with a free one; outside expert mode the
pending substitutions commit. -/
def State.spareArrivals (s : State) : State :=
  let w := s.health.waiting
  let s1 := (s.updHealth fun h => { h with waiting := [] }).each w State.queueSpare
  if s1.expertMode then s1
  else
    let us := s1.health.pendingSubs
    if us = [] then s1
    else ((s1.setPendingSubs []).each us fun s u => s.markBlock u 1).each us State.queueSpare

/-- Least grade of an available spare. -/
def State.leastGrade (s : State) : Nat := s.get HLT_CFG.key HLT_CFG.SPARE_MIN_GRADE

/-! ### Transceiver macros (R87 to R90) -/

def srcSpare (g : Nat) : Nat := 320 + g

def State.spareLane (s : State) (g : Nat) : Nat := 12 * g + s.get (LAN_SPARE.key g) LAN_SPARE.TARGET

def State.macroFree (s : State) (g : Nat) : Bool :=
  decide (s.get (LAN_SPARE.key g) LAN_SPARE.STATE = 0) && s.domainReady (domSpare g) &&
  decide (s.leastGrade ≤ s.grade (gSpare g))

def spareDeadline : Nat := 32

/-- The spare macro of group `g` takes lane `l`. -/
def State.placeMacro (s : State) (l state : Nat) : State :=
  let g := l / 12
  ((s.put (LAN_SPARE.key g) LAN_SPARE.TARGET (l % 12)).put (LAN_SPARE.key g) LAN_SPARE.STATE state).updPort l fun x =>
    { x with servedBy := some (96 + g), eyeHours := [] }

def State.commitLane (s : State) (l : Nat) : State :=
  let g := l / 12
  if s.macroFree g then
    let s1 := (s.placeMacro l 1).put (LAN_STATUS.key l) LAN_STATUS.SUBSTITUTING 1
    ((s1.put (LAN_STATUS.key l) LAN_STATUS.CDR_LOCK 0).startTimer (.spareLock g) spareDeadline).addRepair 1 l (96 + g)
  else s.event (srcSpare g) 0x82 true l

/-- The spare's CDR locks; the lane is in service from step 1 of the next tick. -/
def State.spareLocks (s : State) (g : Nat) : State :=
  if s.get (LAN_SPARE.key g) LAN_SPARE.STATE = 1 ∧ s.hasTimer (.spareLock g) then
    let l := s.spareLane g
    ((s.stopTimer (.spareLock g)).put (LAN_STATUS.key l) LAN_STATUS.CDR_LOCK 1).arrive (.spareIn (.lane l))
  else s

/-- SPARE_IN arrives. -/
def State.spareInService (s : State) (u : UnitRef) : State :=
  match u with
  | .lane l =>
    let g := l / 12
    (((s.put (LAN_STATUS.key l) LAN_STATUS.SUBSTITUTING 0).put (LAN_STATUS.key l) LAN_STATUS.ON_SPARE 1).put
      (LAN_SPARE.key g) LAN_SPARE.STATE 2).event (srcSpare g) 0x80 true l
  | _ => s

/-- Step 3 of tick T + 32: a spare that has not locked has failed, and the lane stays on it (R88). -/
def State.spareDeadlineEnds (s : State) (g : Nat) : State :=
  if s.timerDue (.spareLock g) then
    let l := s.spareLane g
    let s1 := (s.stopTimer (.spareLock g)).put (LAN_STATUS.key l) LAN_STATUS.SUBSTITUTING 0
    ((s1.put (LAN_STATUS.key l) LAN_STATUS.ON_SPARE 1).put (LAN_SPARE.key g) LAN_SPARE.STATE 3).event
      (srcSpare g) 0x81 true l
  else s

/-! ### Framer and mapper blocks (R33, R34, R222, R434) -/

/-- The spare block of a position's region, its grade, its domain and the event source of a block. -/
def spareBlock (i : Nat) : Nat := if i < 24 then 7 * (i / 6) + 6 else 5 * ((i - 24) / 4) + 4
def blockGrade (i n : Nat) : Nat := if i < 24 then gFramer n else gMapper n
def blockDomain (i n : Nat) : Nat := if i < 24 then domFramer n else domMapper n
def blockSrc (i n : Nat) : Nat := if i < 24 then srcFramer n else srcMapper n

def State.blockFree (s : State) (i : Nat) : Bool :=
  let n := spareBlock i
  s.domainReady (blockDomain i n) && decide (s.leastGrade ≤ s.grade (blockGrade i n)) && decide (s.physOf i ≠ n) &&
  (if i < 24 then (s.servedPos 0 24 n).isNone else (s.servedPos 24 16 n).isNone)

/-- The spare serves position `i` of the block map. -/
def State.placeBlock (s : State) (i : Nat) : State :=
  let n := spareBlock i
  ((s.put (SYS_BLOCK_MAP.key i) SYS_BLOCK_MAP.PHYS n).setBlockState i 0).put (SYS_BLOCK_MAP.key i)
    SYS_BLOCK_MAP.HEALTH (s.grade (blockGrade i n))

/-- The layers of a port. -/
def layersOf (p : Nat) (lay : Nat) : Bool := decide (bitsOf lay 56 8 = p)

/-- The ports of a framer position wait for their next frame boundary, SUBSTITUTED in this second. -/
def State.framerPorts (s : State) (pos : Nat) : State :=
  s.each ((List.range 4).map fun j => 4 * pos + j) fun s p =>
    if s.portOk p && decide (s.family p ≠ 0) then
      ((s.updPort p fun x => { x with awaitResume := true, substituted := true }).event p eSUBSTITUTED true 0).flagSubst
        (layersOf p)
    else s

/-- The tributaries of a mapper position. -/
def State.mapperTribs (s : State) (pos : Nat) : List Nat :=
  (s.tribs.filter fun t => decide (t.2.cfg.ttype ≠ 0 ∧ t.2.mapper = pos)).map Prod.fst

/-- The tributaries of a mapper position stay in TU-AIS until the spare resumes, SUBSTITUTED in this second. -/
def State.mapperEntities (s : State) (pos : Nat) : State :=
  let ks := s.mapperTribs pos
  let own := fun (lay : Nat) => decide (bitsOf lay 48 8 = 3) &&
    ks.contains (tribNum (bitsOf lay 56 8) (bitsOf lay 40 8) (bitsOf lay 16 16))
  let s1 := (s.updHealth fun h => { h with mapperSubst := h.mapperSubst ++ [pos],
                                           mapperResume := h.mapperResume.put pos s.dev.ticks }).flagSubst own
  s1.each ks fun s k => s.event (k / 2 ^ 24) eSUBSTITUTED true (entTrib (k / 65536 % 256) (k % 65536))

def State.commitBlock (s : State) (i : Nat) : State :=
  if s.blockFree i then
    let old := s.physOf i
    let n := spareBlock i
    let s1 := ((s.placeBlock i).cond (condRegion i) false).event (blockSrc i old) 0x84 true 0
    let s2 := (s1.event (srcRegion (indexRegion i)) 0x81 true i).addRepair (if i < 24 then 2 else 3)
      (if i < 24 then i else i - 24) n
    if i < 24 then s2.framerPorts i else s2.mapperEntities (i - 24)
  else s.markBlock (indexUnit i) 1

/-- The port resumes at a frame boundary after the commit. -/
def State.framerResumes (s : State) (p : Nat) : State :=
  if (s.port p).awaitResume then s.updPort p fun x => { x with awaitResume := false } else s

/-- Step 4 of the first tick at or after the commit with SFN[1:0] = 0. -/
def State.mapperResumes (s : State) (pos : Nat) : State :=
  if s.time.sfn % 4 = 0 then s.updHealth fun h => { h with mapperResume := h.mapperResume.drop pos } else s

def State.mapperResumeStep (s : State) : State := s.each (s.health.mapperResume.map Prod.fst) State.mapperResumes

/-! ### Re-initialisation (R28, R29) and the recovery of pages (Table 18-5) -/

/-- The state part of an entity's context takes its reset values. -/
def State.reinit (s : State) (c : Cond) : State :=
  let p := c.source
  let kind := c.entity / 2 ^ 28
  if p < 96 then
    if kind = 2 then s.updPath (pathKey p (c.entity % 256)) PathSt.restart
    else if kind = 3 then s.updOdu (oduKey p (c.entity / 256 % 256)) OduSt.restart
    else if kind = 4 then s.updTrib (tribNum p (c.entity / 65536 % 256) (c.entity % 65536)) TribSt.restart
    else s
  else if 144 ≤ p ∧ p < 152 then
    s.updFlow (engKey (p - 144) (c.entity % 64)) fun x => { cfg := x.cfg, staged := x.staged, queue := x.queue }
  else s

/-- The source of the block that serves an entity. -/
def State.blockOf (s : State) (c : Cond) : Nat :=
  if c.source < 96 then
    if c.entity / 2 ^ 28 = 4 then
      srcMapper (s.physOf (24 + (s.trib (tribNum c.source (c.entity / 65536 % 256) (c.entity % 65536))).mapper))
    else srcFramer (s.physOf (framerPos c.source))
  else c.source

/-- The named events of a mapper or framer block; an engine has none of them. -/
def State.blockEvent (s : State) (c : Cond) (code : Nat) : State :=
  let b := s.blockOf c
  if b < 144 then s.eventX b code true 0 [c.source * 2 ^ 32 + c.entity] else s

/-- A poisoned context read: retried once, else re-initialised from the configuration record (R28, R29). -/
def State.poisonedRead (s : State) (c : Cond) (retryGood recordGood : Bool) : State :=
  if retryGood then s.blockEvent c 0x83
  else
    let s1 := s.reinit c
    if recordGood then s1.blockEvent c 0x82
    else
      let lost := if s1.health.contextLost.contains c then s1.health.contextLost else s1.health.contextLost ++ [c]
      (s1.updHealth fun h => { h with contextLost := lost }).blockEvent c 0x81

/-- The members of a list that a free number picks: which entities lie on a page is open. -/
def picked {α : Type} (v : Nat) (l : List α) : List α :=
  (l.zipIdx.filter fun x => v.testBit x.2).map Prod.fst

/-- The entity of a counter reference, as an event names it. -/
def refCond (k : Nat) : Cond :=
  let kind := bitsOf k 48 8
  let port := bitsOf k 56 8
  if kind = 1 then ⟨port, entPath (bitsOf k 40 8), 0⟩
  else if kind = 2 then ⟨port, entOdu (bitsOf k 32 8) 0, 0⟩
  else if kind = 3 then ⟨port, entTrib (bitsOf k 40 8) (bitsOf k 16 16), 0⟩
  else ⟨srcEngine port, bitsOf k 32 8, 0⟩

/-- Entities with contexts, as counter references. -/
def State.tribRefs (s : State) : List Nat :=
  (s.tribs.filter fun t => t.2.cfg.ttype ≠ 0).map fun t =>
    ctrKey (t.1 / 2 ^ 24) 3 (t.1 / 65536 % 256) 0 (t.1 % 65536) 0xFF 0

def State.contextRefs (s : State) : List Nat :=
  ((s.paths.filter fun t => t.2.cfg.ptype ≠ 0).map fun t => ctrKey (t.1 / 256) 1 (t.1 % 256) 0 0 0xFF 0) ++
  ((s.odus.filter fun t => t.2.cfg.otype ≠ 0).map fun t => ctrKey (t.1 / 256) 2 0 (t.1 % 256) 0 0xFF 0) ++
  s.tribRefs ++ (s.flows.filter fun t => t.2.cfg.chKind ≠ 0).map fun t => ctrKey (t.1 / 64) 6 0 (t.1 % 64) 0 0xFF 0

def State.groupRefs (s : State) : List Nat :=
  ((s.bonds.filter fun g => g.2.ports ≠ []).map fun g => ctrKey g.1 7 0 0 0 0xFF 0) ++
  ((List.range groupsHrp).filter s.hrpOn).map fun g => ctrKey g 8 0 0 0 0xFF 0

/-- POISON among the discards of a flow (Table 11-4). -/
def discPOISON : Nat := 8

/-- Frames of a flow on the page are discarded. -/
def State.discardFrames (s : State) (v : Nat) (k : Nat) : State :=
  let q := (s.flow k).queue
  let lost := (picked v q).length
  if lost = 0 then s
  else (s.updFlow k fun x => { x with queue := (x.queue.zipIdx.filter fun y => !v.testBit y.2).map Prod.fst }).countFlow
    (k / 64) (k % 64) discPOISON lost

/-- A queue word on the page reads with tag 0b10 (R239). -/
def poisonWord (w : BitVec 64) : BitVec 64 := BitVec.ofNat 64 (2 ^ 63 + w.toNat % 2 ^ 62)

def State.poisonQueue (s : State) (v q : Nat) : State :=
  s.setQueue q (let x := s.queue q
    { x with words := x.words.zipIdx.map fun y => if v.testBit y.2 then poisonWord y.1 else y.1 })

/-- One affected page of a pool is recovered; the entities, as counter references, are listed. -/
def State.recoverPage (s0 : State) (pool : Nat) : List Nat × State :=
  let f := s0.fresh
  let v := f.1
  let s := f.2
  if pool = 0 then
    let ks := picked v s.contextRefs
    (ks, s.each ks fun s k => s.reinit (refCond k))
  else if pool = 1 then
    let ks := picked (v / 2 ^ 64) (s.flows.map Prod.fst)
    (ks.map fun k => ctrKey (k / 64) 6 0 (k % 64) 0 0xFF 0, s.each ks fun s k => s.discardFrames (v % 2 ^ 64) k)
  else if pool = 2 then (picked v s.groupRefs, s)
  else if pool = 3 then
    let ks := picked v s.tribRefs
    (ks, s.each ks fun s k =>
      s.updTrib (tribNum (bitsOf k 56 8) (bitsOf k 40 8) (bitsOf k 16 16)) fun x =>
        { x with ptr := {}, gen := { x.gen with fill := 0 } })
  else if pool = 4 then
    let xs := picked v ((s.grate.egress.filter fun e => e.2.hostOwned).map Prod.fst)
    ([], s.mapEgress fun t => xs.foldl (fun t x => t.store x (s.grate.staged.getD x (t.getD x {})) {}) t)
  else if pool = 5 then (picked v s.contextRefs, s)
  else if pool = 6 then
    ([], { s with obs := { s.obs with
      buffer := (s.obs.buffer.zipIdx.filter fun y => !v.testBit y.2).map Prod.fst } })
  else ([], s.each (List.range 7) fun s q => s.poisonQueue (v / 2 ^ (8 * q)) q)

def State.recoverPages (s : State) (pool : Nat) : List Nat → List Nat × State
  | [] => ([], s)
  | _ :: ps =>
    let r := s.recoverPage pool
    let t := r.2.recoverPages pool ps
    (r.1 ++ t.1, t.2)

def srcBank (b : Nat) : Nat := 332 + b / 16

/-- The affected pages of a bank are recovered and POISON_RECOVERY is raised. -/
def State.recover (s : State) (b : Nat) (pages : List Nat) : State :=
  if pages = [] then s
  else
    let r := s.recoverPages (s.get (STK_BANK.key b) STK_BANK.POOL) pages
    let s1 := r.2.updHealth fun h => { h with poisonList := r.1.eraseDups.map (BitVec.ofNat 64) }
    (s1.put HLT_STATUS.key HLT_STATUS.POISON_HIST 1).event (srcBank b) 0x84 true b

/-! ### Memory banks (R23, R436 to R438) -/

/-- The lowest available spare bank. -/
def State.spareBank (s : State) : Option Nat :=
  (List.range 400).find? fun b => s.on (STK_BANK.key b) STK_BANK.SPARE && s.domainReady (domBank b) &&
    decide (s.leastGrade ≤ s.grade (gBank b)) && !(s.health.copies.any fun c => decide (c.2.1 = b))

/-- A page of a bank, open to the manual. -/
def State.freePage (s : State) : Nat × State := let f := s.fresh; (f.1 % pagesPerBank, f.2)

/-- The commit of a bank: the copy starts; without a spare, CE_THRESHOLD is raised again or the poisoned page is
withdrawn. -/
def State.commitBank (s : State) (b : Nat) : State :=
  if s.copying b || !s.bankServes b then s
  else match s.spareBank with
    | some c => s.updHealth fun h => { h with copies := h.copies ++ [(b, c, [])] }
    | none =>
      if s.on (STK_BANK.key b) STK_BANK.POISONED then
        let f := s.freePage
        if f.2.health.withdrawn.contains (b, f.1) then f.2
        else ((f.2.updHealth fun h => { h with withdrawn := h.withdrawn ++ [(b, f.1)] }).addRepair 6 b f.1).recover b [f.1]
      else s.event (srcBank b) 0x80 true b

/-- Pages of a bank under copy become affected pages. -/
def State.addAffected (s : State) (b : Nat) (pages : List Nat) : State :=
  let cs := s.health.copies.map fun c => if c.1 = b then (c.1, c.2.1, c.2.2 ++ pages) else c
  s.updHealth fun h => { h with copies := cs }

/-- An uncorrectable read, or a failed test of a free page. -/
def State.uncorrectable (s : State) (b : Nat) : State :=
  let s1 := (s.put (STK_BANK.key b) STK_BANK.POISONED 1).event (srcBank b) 0x81 true b
  if s1.copying b then
    let f := s1.freePage
    f.2.addAffected b [f.1]
  else s1.arrive (.trigger (.bank b))

/-- The copy of a bank completes; the pages that hold poisoned words are affected. -/
def State.copyDone (s : State) (b : Nat) (pages : List Nat) : State :=
  if s.copying b && !s.health.copiesDone.contains b then
    (s.addAffected b pages).updHealth fun h => { h with copiesDone := h.copiesDone ++ [b] }
  else s

/-- The spare bank `c` takes the place of bank `b`. -/
def State.placeBank (s : State) (b c : Nat) : State :=
  let pool := s.get (STK_BANK.key b) STK_BANK.POOL
  ((s.put (STK_BANK.key c) STK_BANK.POOL pool).put (STK_BANK.key c) STK_BANK.SPARE 0).put (STK_BANK.key b)
    STK_BANK.RETIRED 1

/-- The switch at step 2 of the tick after the copy (R436). -/
def State.switchBank (s : State) (b : Nat) : State :=
  match s.health.copies.find? fun c => decide (c.1 = b) with
  | none => s
  | some (_, c, pages) =>
    let s1 := s.updHealth fun h => { h with copies := h.copies.filter fun x => decide (x.1 ≠ b)
                                            copiesDone := h.copiesDone.filter fun x => decide (x ≠ b) }
    let s2 := ((s1.placeBank b c).event (srcBank b) 0x82 true b).event (srcBank b) 0x83 true b
    (s2.addRepair 4 b c).recover b pages.eraseDups

/-- Step 2: copies that completed before this tick switch. -/
def State.switchBanks (s : State) : State := s.each s.health.copiesDone State.switchBank

/-- The spare of a unit is committed. -/
def State.commitSpare (s : State) (u : UnitRef) : State :=
  match u with
  | .lane l => s.commitLane l
  | .framer n => s.commitBlock n
  | .mapper n => s.commitBlock (24 + n)
  | .bank b => s.commitBank b

def Entry.spare? (e : Entry) : Option UnitRef :=
  match e.action with
  | .spare u => some u
  | _ => none

/-- The end of step 2: every spare commit of the tick, by kind and number. -/
def State.runSpares (s : State) : State :=
  let us := sortBy unitKey (s.cal.entries.filterMap Entry.spare?).eraseDups
  let s1 := { s with cal := { s.cal with entries := s.cal.entries.filter fun e => e.spare?.isNone } }
  s1.each us State.commitSpare

/-! ### The close of a second and of an hour (R23, R431) -/

/-- Corrected errors of a bank in the closed second. -/
def State.closeBank (s : State) (v b : Nat) : State :=
  let k := STK_BANK.key b
  let n := v / 256 ^ b % 256
  let s1 := s.put k STK_BANK.CE_LAST n
  let thr := s.get HLT_CFG.key HLT_CFG.CE_THR
  if s.bankServes b && s.domainUp (domBank b) && decide (thr ≠ 0 ∧ thr < n) then
    (s1.event (srcBank b) 0x80 true b).arrive (.trigger (.bank b))
  else s1

/-- Step 5 of a second's close for health: corrected errors are counted, and SUBSTITUTED ends. -/
def State.closeHealth (s : State) : State :=
  let f := s.fresh
  let s1 := f.2.each (List.range 400) fun s b => s.closeBank f.1 b
  let s2 := s1.updHealth fun h => { h with mapperSubst := [] }
  { s2 with ports := s2.ports.map fun e => (e.1, { e.2 with substituted := false }) }

def hourTicks : Nat := 28800000

/-- The eye trend of a lane's last 24 hours. -/
def eyeTrend (thr : Nat) (hours : List Nat) : Bool :=
  decide (thr ≠ 0 ∧ 24 ≤ hours.length ∧ hours.sum < 24 * thr) && hours.all fun h => decide (hours.headD 0 ≤ h)

def State.eyeHour (s : State) (l mean : Nat) : State :=
  if s.time.sfn % hourTicks ≠ 0 ∨ s.portCount ≤ l ∨ s.family (s.portOfLane l) = 0 then s
  else
    let hs := (mean :: (s.port l).eyeHours).take 24
    let s1 := s.updPort l fun x => { x with eyeHours := hs }
    if eyeTrend (s.get HLT_CFG.key HLT_CFG.EYE_THR) hs then s1.arrive (.trigger (.lane l)) else s1

/-! ### The smoke test (R425 to R429) -/

/-- A test unit as the extension word of ROUND_FAILED names it: a unit descriptor's KIND and INDEX, with 5 an
engine, 6 a slice, 7 the command processor. -/
def testName (u : TestUnit) : Nat :=
  match u with
  | .spareMacro g => 1 * 2 ^ 24 + 96 + g.val
  | .framer n => 2 * 2 ^ 24 + n.val
  | .mapper n => 3 * 2 ^ 24 + n.val
  | .bank n => 4 * 2 ^ 24 + n.val
  | .engine n => 5 * 2 ^ 24 + n.val
  | .slice n => 6 * 2 ^ 24 + n.val
  | .cp => 7 * 2 ^ 24

def testGrade (u : TestUnit) : Nat :=
  match u with
  | .spareMacro g => gSpare g
  | .framer n => gFramer n
  | .mapper n => gMapper n
  | .bank n => gBank n
  | .engine n => gEngine n
  | .slice n => gSlice n
  | .cp => gCp

def testDomain (u : TestUnit) : Option Nat :=
  match u with
  | .spareMacro g => some (domSpare g)
  | .framer n => some (domFramer n)
  | .mapper n => some (domMapper n)
  | .bank n => some (domBank n)
  | .engine n => some (domEngine n)
  | .slice n => some (domSlice n)
  | .cp => none

/-- The instances of Table 18-2. -/
def State.tested (s : State) (u : TestUnit) : Bool :=
  (match testDomain u with | some d => s.domainUp d | none => true) &&
  match u with
  | .spareMacro g => decide (s.get (LAN_SPARE.key g) LAN_SPARE.STATE = 0)
  | .framer n => !s.health.isolated.contains (.framer n)
  | .mapper n => !s.health.isolated.contains (.mapper n)
  | .bank n => !s.on (STK_BANK.key n) STK_BANK.RETIRED
  | .slice n => !s.grate.isolated.contains n.val
  | .cp => decide (s.dev.boot = .running)
  | _ => true

/-- The grade of a test's outcome, Table 18-1. -/
def gradeOf (u : TestUnit) (r : TestOutcome) : Nat :=
  match u with
  | .spareMacro _ => if r.bitErrors ≠ 0 then 0 else min 7 (r.eye / 8)
  | .bank _ => if r.uncorrectable then 0 else 7 - min 7 r.correctedWords
  | .slice _ => 7
  | _ => if r.pass then 7 else 0

def testFails (u : TestUnit) (r : TestOutcome) : Bool :=
  match u with
  | .spareMacro _ => decide (r.bitErrors ≠ 0)
  | .bank _ => r.uncorrectable
  | _ => !r.pass

def State.roundRuns (s : State) : Bool := s.on HLT_STATUS.key HLT_STATUS.RUNNING

/-- A unit's test ends, in a round or while its domain comes up. -/
def State.testDone (s : State) (u : TestUnit) (r : TestOutcome) : State :=
  let joins := match testDomain u with | some d => s.joining d | none => false
  if s.tested u = false ∨ (s.roundRuns = false ∧ joins = false) then s
  else
    let s1 := s.setGrade (testGrade u) (gradeOf u r)
    if testFails u r && s.roundRuns && !s1.health.failedUnits.contains (testName u) then
      s1.updHealth fun h => { h with failedUnits := h.failedUnits ++ [testName u] }
    else s1

/-- A round is due (R428). -/
def State.roundDue (s : State) : Bool :=
  let gap := s.get HLT_CFG.key HLT_CFG.ROUND_GAP * ticksPerSecond
  decide (s.dev.boot = .running) && !s.roundRuns &&
  (!s.health.everRound || (s.inPair && decide (s.pair.returnStep = 2)) ||
   (s.on HLT_CFG.key HLT_CFG.SMOKE_EN && s.health.roundEnd.all fun e => decide (e + gap ≤ s.dev.ticks)))

def State.roundStart (s : State) : State :=
  if s.roundDue then (s.put HLT_STATUS.key HLT_STATUS.RUNNING 1).updHealth fun h => { h with failedUnits := [] } else s

/-- A free slot of a slice that failed its pattern: which one is open. -/
def State.failedSlot (s : State) (n : Nat) : State :=
  let f := s.fresh
  let slots := (s.freeRuns n s.dev.ticks).flatMap fun r => (List.range r.2).map fun i => n * sliceSlots + r.1 + i
  match slots[f.1 % max 1 slots.length]? with
  | some x => f.2.arrive (.retire x)
  | none => f.2

/-- What a failed unit of the round brings about. -/
def State.failedUnit (s : State) (name : Nat) : State :=
  let kind := name / 2 ^ 24
  let n := name % 2 ^ 24
  if kind = 2 then (if h : n < 28 then s.isolate (.framer ⟨n, h⟩) else s)
  else if kind = 3 then (if h : n < 20 then s.isolate (.mapper ⟨n, h⟩) else s)
  else if kind = 4 then (if s.bankServes n then s.uncorrectable n else s)
  else if kind = 5 then (if h : n < 8 then s.isolate (.engine ⟨n, h⟩) else s)
  else if kind = 6 then s.failedSlot n
  else s

/-- The round completes. -/
def State.roundDone (s : State) : State :=
  if s.roundRuns = false then s
  else
    let bad := s.health.failedUnits
    let s1 := (s.put HLT_STATUS.key HLT_STATUS.RUNNING 0).put HLT_STATUS.key HLT_STATUS.ROUND
      (s.get HLT_STATUS.key HLT_STATUS.ROUND + 1)
    let s2 := s1.event 358 0x80 true 0
    let s3 := if bad = [] then s2 else s2.put HLT_STATUS.key HLT_STATUS.FAILED_HIST 1
    let s4 := (s3.each bad fun s n => s.eventX 358 0x81 true 0 [n]).each bad State.failedUnit
    let s5 := s4.updHealth fun h => { h with everRound := true, roundEnd := some s.dev.ticks, failedUnits := [] }
    (s5.put HLT_STATUS.key HLT_STATUS.DEVICE_GRADE s5.deviceGrade).returnStep (some (decide (bad = [])))

/-! ### Powering domains (R442, R443) -/

def resDomain (d : Nat) : Res := (0x90, 0, d)

/-- Units whose grade a domain holds. -/
def domainGrades (d : Nat) : List Nat :=
  if d < 48 then []
  else if d < 52 then [gSpare (2 * (d - 48)), gSpare (2 * (d - 48) + 1)]
  else if d < 80 then [gFramer (d - 52)]
  else if d < 100 then [gMapper (d - 80)]
  else if d < 108 then [gEngine (d - 100)]
  else if d < 112 then [gSlice (d - 108)]
  else (List.range 16).map fun i => gBank (16 * (d - 112) + i)

/-- The block map index that a domain's block serves at. -/
def State.domainIndex (s : State) (d : Nat) : Option Nat :=
  if 52 ≤ d ∧ d < 80 then s.servedPos 0 24 (d - 52)
  else if 80 ≤ d ∧ d < 100 then (s.servedPos 24 16 (d - 80)).map fun k => 24 + k
  else none

/-- A lane is enabled in either direction. -/
def State.laneOn (s : State) (l : Nat) : Bool :=
  s.on (LAN_CFG.key l) LAN_CFG.RX_EN || s.on (LAN_CFG.key l) LAN_CFG.TX_EN

/-- A power-down finds the domain in use (R442). -/
def State.domainBusy (s : State) (d : Nat) : Bool :=
  if d < 48 then [2 * d, 2 * d + 1].any fun l => s.laneOn l && (s.port l).servedBy.isNone
  else if d < 52 then [2 * (d - 48), 2 * (d - 48) + 1].any fun g =>
    decide (s.get (LAN_SPARE.key g) LAN_SPARE.TARGET ≠ 15) && s.laneOn (s.spareLane g)
  else if d < 80 then
    match s.servedPos 0 24 (d - 52) with
    | some pos => (List.range 4).any fun j => s.family (4 * pos + j) ≠ 0
    | none => false
  else if d < 100 then
    match s.servedPos 24 16 (d - 80) with
    | some pos =>
      (s.tribs.any fun t => decide (t.2.mapper = pos) && (t.2.cfg.ttype ≠ 0 || t.2.staged.ttype ≠ 0)) ||
      (s.containers.any fun c => decide (c.2.mapper = pos) && (c.2.types ≠ [] || c.2.staged ≠ []))
    | none => false
  else if d < 108 then s.flows.any fun f => decide (f.1 / 64 = d - 100) && (f.2.cfg.chKind ≠ 0 || f.2.staged.chKind ≠ 0)
  else if d < 112 then s.grate.runs.any fun r => decide (r.start / sliceSlots = d - 108) && !r.freeBy s.dev.ticks
  else (List.range 16).any fun i =>
    let b := 16 * (d - 112) + i
    s.bankServes b || s.copying b || s.health.copies.any fun c => decide (c.2.1 = b)

def State.powerFault (s : State) (bs : List Byte) : Option Nat :=
  layoutFault bs 4 [such 0 2 fun v => decide (v < domainCount) && !s.fuseHeld v, below 2 1 2, rsv 3 1]

/-- The units of a domain lose what they held. -/
def State.powerDown (s : State) (d : Nat) : State :=
  let s1 := (s.setDomainBit HLT_DOMAIN_UP.key d false).setDomainBit HLT_DOMAIN_REJ.key d false
  let s2 := s1.each (domainGrades d) fun s u => s.setGrade u 0
  match s2.domainIndex d with
  | some i => s2.setBlockState i 3
  | none => s2

/-- The domain is up; its units are not tested yet. -/
def State.powerUp (s : State) (d : Nat) : State :=
  let s1 := (s.setDomainBit HLT_DOMAIN_UP.key d true).each (domainGrades d) fun s u => s.setGrade u 0
  match s1.domainIndex d with
  | some i => if s1.blockState i = 3 then s1.setBlockState i 0 else s1
  | none => s1

def State.powerStart (s : State) (p : Packet) : Done :=
  let d := p.fld 0 2
  if p.fld 2 1 = 1 then
    if s.domainUp d then okDone (s.endLong (resDomain d)) else runsOn s
  else if s.domainUp d && s.domainBusy d then failDone (s.endLong (resDomain d)) stBUSY 0
  else okDone ((s.endLong (resDomain d)).powerDown d)

def State.powerRun (s : State) (p : Packet) (creation : Option Nat) : Done :=
  s.long (resDomain (p.fld 0 2)) p creation fun s => s.powerStart p

/-- A domain that POWER_DOMAIN brings up is up. -/
def State.domainRises (s : State) (d : Nat) : State :=
  if (s.running (resDomain d)).isSome && !s.domainUp d then
    ((s.powerUp d).event 359 0x80 true d).finishLong (resDomain d) stOK 0 []
  else s

/-- The test of a domain that has come up ends. -/
def State.domainJoins (s : State) (d : Nat) : State :=
  if s.joining d then (s.setDomainBit HLT_DOMAIN_REJ.key d true).event 359 0x81 true d else s

/-- The start of the firmware finds every domain up and rejoined but those a fuse holds down (R17). -/
def State.bootDomains (s : State) : State :=
  s.each (List.range domainCount) fun s d =>
    if s.fuseHeld d then s.powerDown d
    else (s.setDomainBit HLT_DOMAIN_UP.key d true).setDomainBit HLT_DOMAIN_REJ.key d true

/-! ### Commands -/

/-- The fields of a unit descriptor at the front of a payload. -/
def State.unitFields (s : State) (bs : List Byte) : List LField :=
  [within 0 1 1 4, rsv 1 1, such 2 2 fun v => s.unitOk (fieldAt bs 0 1) v || !decide (1 ≤ fieldAt bs 0 1 ∧ fieldAt bs 0 1 ≤ 4)]

def unitAt (bs : List Byte) : UnitRef := unitOf (fieldAt bs 0 1) (fieldAt bs 2 2)

def State.spareApproveFault (s : State) (bs : List Byte) : Option Nat :=
  layoutFault bs 8 (s.unitFields bs ++ [below 4 1 2, rsv 5 3])

def State.spareApproveAdmit (s : State) (p : Packet) : Verdict :=
  if s.health.pendingSubs.contains (unitAt p.payload) then .accept s else .refuse stNOT_PRESENT 0 []

/-- SPARE_APPROVE at step 2: DECISION 1 commits at the end of this step 2, DECISION 0 declines. -/
def State.spareApproveRun (s : State) (p : Packet) : Done :=
  let u := unitAt p.payload
  if s.health.pendingSubs.contains u then
    let s1 := (s.setPendingSubs (s.health.pendingSubs.filter fun v => decide (v ≠ u))).markBlock u 1
    okDone (if p.fld 4 1 = 1 then s1.queueSpare u else s1)
  else failDone s stNOT_PRESENT 0

def State.spareRequestFault (s : State) (bs : List Byte) : Option Nat := layoutFault bs 4 (s.unitFields bs)

def State.spareRequestAdmit (s : State) (p : Packet) : Verdict :=
  if s.joining (s.unitDomain (unitAt p.payload)) then .refuse stBUSY 0 [] else .accept s

/-- SPARE_REQUEST at step 2, which is the arrival of its trigger. -/
def State.spareRequestRun (s : State) (p : Packet) : Done :=
  let u := unitAt p.payload
  if s.joining (s.unitDomain u) then failDone s stBUSY 0
  else okDone ((s.setPendingSubs (s.health.pendingSubs.filter fun v => decide (v ≠ u))).queueSpare u)

def repairBytes (r : Repair) : List Byte :=
  beBytes 1 r.kind ++ beBytes 1 (bit r.fused) ++ beBytes 2 r.failed ++ beBytes 2 r.replacement ++ [0, 0]

def State.repairMap (s : State) (_p : Packet) : Verdict := .answer stOK (s.health.repairs.flatMap repairBytes) s

/-- Entry `i` of REPAIR_MAP_APPLY. -/
def repairAt (bs : List Byte) (i : Nat) : Repair :=
  let o := 4 + 8 * i
  ⟨fieldAt bs o 1, fieldAt bs (o + 1) 1 = 1, fieldAt bs (o + 2) 2, fieldAt bs (o + 4) 2⟩

/-- FAILED of a KIND. -/
def State.failedOk (s : State) (kind v : Nat) : Bool :=
  if kind ≤ 4 then decide (kind ≠ 0) && s.unitOk kind v
  else if kind = 5 then decide (v < 49152) else decide (v < 400)

/-- REPLACEMENT of an entry. -/
def replacementOk (r : Repair) (v : Nat) : Bool :=
  if r.kind = 1 then decide (v = 96 + r.failed / 12)
  else if r.kind = 2 then decide (v = spareBlock r.failed)
  else if r.kind = 3 then decide (v = spareBlock (24 + r.failed))
  else if r.kind = 4 then decide (384 ≤ v ∧ v < 400)
  else if r.kind = 5 then decide (v = 0xFFFF) else decide (v < 32)

/-- The entry names a spare in use. -/
def State.spareTaken (s : State) (r : Repair) : Bool :=
  if r.kind = 1 then decide (s.get (LAN_SPARE.key (r.failed / 12)) LAN_SPARE.STATE ≠ 0)
  else if r.kind = 2 then (s.servedPos 0 24 r.replacement).isSome
  else if r.kind = 3 then (s.servedPos 24 16 r.replacement).isSome
  else if r.kind = 4 then !s.on (STK_BANK.key r.replacement) STK_BANK.SPARE
  else false

/-- Two entries name one failed unit, or one spare. -/
def repairClash (a b : Repair) : Bool :=
  decide (a.kind = b.kind) &&
  ((decide (a.failed = b.failed) && (decide (a.kind ≠ 6) || decide (a.replacement = b.replacement))) ||
   (decide (a.kind = 4 ∧ a.replacement = b.replacement)) || (decide (a.kind = 1) && decide (a.replacement = b.replacement)) ||
   (decide (a.kind = 2 ∨ a.kind = 3) && decide (a.replacement = b.replacement)))

def State.repairFault (s : State) (bs : List Byte) : Option Nat :=
  let n := fieldAt bs 0 2
  let fields := (List.range (min n 500)).flatMap fun i =>
    let o := 4 + 8 * i
    let r := repairAt bs i
    [within o 1 1 6, rsv (o + 1) 1, such (o + 2) 2 (s.failedOk r.kind), such (o + 4) 2 (replacementOk r), rsv (o + 6) 2]
  let clash := (List.range (min n 500)).find? fun i =>
    s.spareTaken (repairAt bs i) || (List.range i).any fun j => repairClash (repairAt bs j) (repairAt bs i)
  firstOf [layoutFault bs (4 + 8 * n) ([such 0 2 fun v => decide (v ≤ 500), rsv 2 2] ++ fields),
    clash.map fun i => 4 + 8 * i]

/-- Nothing is configured and nothing allocated (R440). -/
def State.untouched (s : State) : Bool :=
  ((List.range s.portCount).all fun p => decide (s.family p = 0)) && s.grate.runs.isEmpty && s.grate.allocs.isEmpty &&
  s.grate.conns.isEmpty

def State.repairAdmit (s : State) (_p : Packet) : Verdict := if s.untouched then .accept s else .refuse stBUSY 0 []

/-- A stored repair takes effect at once; its spare starts at grade 0. -/
def State.applyRepair (s : State) (r : Repair) : State :=
  let s1 := s.listRepair r
  if r.kind = 1 then
    ((s1.placeMacro r.failed 2).put (LAN_STATUS.key r.failed) LAN_STATUS.ON_SPARE 1).setGrade (gSpare (r.failed / 12)) 0
  else if r.kind = 2 then (s1.placeBlock r.failed).setGrade (gFramer r.replacement) 0
  else if r.kind = 3 then (s1.placeBlock (24 + r.failed)).setGrade (gMapper r.replacement) 0
  else if r.kind = 4 then (s1.placeBank r.failed r.replacement).setGrade (gBank r.replacement) 0
  else if r.kind = 5 then
    (if s1.grate.retired.contains r.failed then s1
     else { s1 with grate := { s1.grate with retired := s1.grate.retired ++ [r.failed] } })
  else if s1.health.withdrawn.contains (r.failed, r.replacement) then s1
  else s1.updHealth fun h => { h with withdrawn := h.withdrawn ++ [(r.failed, r.replacement)] }

def State.repairRun (s : State) (p : Packet) : Done :=
  if s.untouched then
    match s.repairFault p.payload with
    | some k => failDone s stBAD_PARAM (payloadDetail k)
    | none => okDone (s.each ((List.range (p.fld 0 2)).map (repairAt p.payload)) State.applyRepair)
  else failDone s stBUSY 0

def smokeCfgFault (bs : List Byte) : Option Nat := layoutFault bs 4 [such 0 4 (regBitsOk HLT_CFG.key)]

def State.smokeCfgAdmit (s : State) (p : Packet) : Verdict := .accept (s.stageWords p.payload 0 [HLT_CFG.key])
def State.flipSmoke (s : State) : State := s.flipRegs [HLT_CFG.key]
def State.smokeCfgRun (s : State) (_p : Packet) : Done := okDone s.flipSmoke

def hltStatusFault (bs : List Byte) : Option Nat := layoutFault bs 4 [below 0 1 3, rsv 1 3]

/-- The grades of every unit: spares, framers, mappers, engines, banks, slices, the command processor. -/
def State.gradeBytes (s : State) : List Byte :=
  (((List.range 8).map gSpare ++ (List.range 28).map gFramer ++ (List.range 20).map gMapper ++
    (List.range 8).map gEngine ++ (List.range 400).map gBank ++ (List.range 4).map gSlice ++ [gCp]).map fun u =>
      BitVec.ofNat 8 (s.grade u))

def State.hltStatus (s : State) (p : Packet) : Verdict :=
  .answer stOK (if p.fld 0 1 = 0 then s.gradeBytes
    else if p.fld 0 1 = 1 then s.health.pendingSubs.flatMap unitBytes
    else s.health.poisonList.flatMap fun w => beBytes 8 w.toNat) s

/-! ### Rows -/

def execBlockIsolation (b : BlockRef) (s : State) : Host.Outcome State Fault Refusal := .next (s.isolate b).settle

/-- A trigger from outside: an uncorrectable read or a failed free page of a bank, or a unit's own trigger. -/
def execSubstitutionTrigger (u : UnitRef) (s : State) : Host.Outcome State Fault Refusal :=
  .next (if s.unitOk (unitKind u) (unitNum u) then
    (match u with
     | .bank b => if s.bankServes b then s.uncorrectable b else s
     | _ => s.arrive (.trigger u))
  else s).settle

/-- What step 1 and the end of step 2 do for substitutions that wait while the device is not in expert mode. -/
def execPendingSpareCommit (s : State) : Host.Outcome State Fault Refusal :=
  .next (if s.expertMode then s else s.spareArrivals.runSpares).settle

def execSpareCdrLock (g : Fin 8) (s : State) : Host.Outcome State Fault Refusal := .next (s.spareLocks g).settle

def execSpareLockDeadline (g : Fin 8) (s : State) : Host.Outcome State Fault Refusal :=
  .next (s.spareDeadlineEnds g).settle

def execFramerSpareResume (p : Port) (s : State) : Host.Outcome State Fault Refusal := .next (s.framerResumes p).settle

def execMapperSpareResume (pos : Fin 16) (s : State) : Host.Outcome State Fault Refusal :=
  .next (s.mapperResumes pos).settle

def execBankCopyDone (b : Fin 400) (affected : List (Fin 32)) (s : State) : Host.Outcome State Fault Refusal :=
  .next (s.copyDone b (affected.map fun p => p.val)).settle

def execEyeHourClose (lane : Fin 96) (mean : BitVec 7) (s : State) : Host.Outcome State Fault Refusal :=
  .next (s.eyeHour lane mean.toNat).settle

def execSmokeRoundStart (s : State) : Host.Outcome State Fault Refusal := .next s.roundStart.settle

def execSmokeTestDone (u : TestUnit) (r : TestOutcome) (s : State) : Host.Outcome State Fault Refusal :=
  .next (s.testDone u r).settle

def execSmokeRoundDone (s : State) : Host.Outcome State Fault Refusal := .next s.roundDone.settle

def execDomainUp (d : Fin 137) (s : State) : Host.Outcome State Fault Refusal := .next (s.domainRises d).settle

def execDomainRejoined (d : Fin 137) (s : State) : Host.Outcome State Fault Refusal := .next (s.domainJoins d).settle

def execPoisonedContextRead (c : Cond) (retryGood recordGood : Bool) (s : State) : Host.Outcome State Fault Refusal :=
  .next (s.poisonedRead c retryGood recordGood).settle

end Sys2Proof.Machine
end

