-- ==== Sys2Proof/Machine/Obs.lean ====
section
/-! DEFINITION. The observation unit: trace buffer, readout, counters and precise sampling (19_observation). What
captures a record stands in Machine/Ops.lean, beside the events. -/

namespace Sys2Proof.Machine

/-! ### The trace buffer (R446) -/

/-- Bytes of a record: 32 and the body, padded to a multiple of 8. -/
def TraceRec.length (r : TraceRec) : Nat := (32 + r.body.length + 7) / 8 * 8

def recordsBytes (l : List TraceRec) : Nat := (l.map TraceRec.length).sum

/-- The trace buffer is the trace pool. -/
def State.traceCap (s : State) : Nat := 4096 * s.poolPages 6

/-- The oldest whole records that must go so that `need` bytes fit. -/
def makeRoom (cap need : Nat) : List TraceRec → List TraceRec
  | [] => []
  | r :: rs => if recordsBytes (r :: rs) + need ≤ cap then r :: rs else makeRoom cap need rs

def TraceRec.mark (r : TraceRec) : TraceRec := { r with flags := r.flags ||| 1 }

/-- A sample that waited enters the FIFO. -/
def State.admitSample (s : State) : State :=
  match s.obs.waiting with
  | some r => if s.obs.fifo.length < fifoCap then
      s.updObs fun o => { o with fifo := o.fifo ++ [r], waiting := none } else s
  | none => s

/-- A record leaves the FIFO for the buffer: in stop mode a full buffer drops it, in wrap mode the oldest go. -/
def State.storeRecord (s : State) : State :=
  match s.obs.fifo with
  | [] => s
  | r :: rest =>
    let s1 := (s.updObs fun o => { o with fifo := rest }).admitSample
    let r1 := if s.obs.dropBefore then r.mark else r
    let cap := s.traceCap
    if recordsBytes s.obs.buffer + r.length ≤ cap then
      s1.updObs fun o => { o with buffer := o.buffer ++ [r1], dropBefore := false }
    else if s.on OBS_TRACE_CFG.key OBS_TRACE_CFG.MODE ∧ r.length ≤ cap then
      let kept := makeRoom cap r.length s.obs.buffer
      let s2 := s1.put OBS_TRACE_STATUS.key OBS_TRACE_STATUS.DROP_HIST 1
      s2.updObs fun o => { o with buffer := kept ++ [r1], dropBefore := false, moveDrop := true }
    else
      let s2 := s1.dropRecord
      if s2.obs.fullRaised then s2
      else ((s2.updObs fun o => { o with fullRaised := true }).put OBS_TRACE_STATUS.key
        OBS_TRACE_STATUS.FULL_HIST 1).event 372 0x80 true 0

/-! ### The readout (R448) -/

/-- The bytes of Table 19-2. -/
def TraceRec.bytes (r : TraceRec) : List Byte :=
  let head := beBytes 1 r.cls ++ beBytes 1 r.flags ++ beBytes 2 r.length ++ beBytes 4 r.seq ++ beBytes 8 r.time ++
    beBytes 8 r.label ++ beBytes 4 r.cycle ++ [0, 0, 0, 0]
  head ++ r.body ++ List.replicate (r.length - 32 - r.body.length) 0

/-- The oldest record moves into queue 6 when all of it fits. -/
def State.readout (s : State) : State :=
  match s.obs.buffer with
  | [] => s
  | r :: rest =>
    let ws := replyRecord (if s.obs.moveDrop then r.mark else r).bytes
    if s.on OBS_TRACE_CFG.key OBS_TRACE_CFG.READOUT_EN ∧
        s.fill 6 + (owedMarkers (s.queue 6)).length + ws.length + 1 ≤ queueCap 6 then
      ((s.updObs fun o => { o with buffer := rest, moveDrop := false }).insertWords 6 ws).2
    else s

/-! ### Counters (R449) -/

def State.obsFrozen (s : State) : Bool := s.on OBS_CNT_CTRL.key OBS_CNT_CTRL.FREEZE

def State.obsCount (s : State) (i n : Nat) : State :=
  if n = 0 ∨ s.obsFrozen = true then s
  else s.updObs fun o => { o with cnts := o.cnts.store i (addCtr false (o.cnts.getD i {}) n) {} }

def State.filt (s : State) (i : Nat) (f : Fld) : Nat := s.get (OBS_FILT.key i) f

/-- A filter passes a happening of a class: `host` names the command master of a host-originated one. -/
def State.passes (s : State) (i cls : Nat) (host : Option Nat) : Bool :=
  decide (s.filt i OBS_FILT.CLASS = cls) &&
  match host with
  | some m => decide (s.filt i OBS_FILT.PRIV = 0 ∨ s.filt i OBS_FILT.PRIV = 2) &&
      (s.filt i OBS_FILT.CMD_MASTERS).testBit m
  | none => decide (s.filt i OBS_FILT.PRIV = 0 ∨ s.filt i OBS_FILT.PRIV = 1)

/-- A filter passes a bus happening: master number and address too. -/
def State.passesBus (s : State) (i cls bus addr : Nat) (host : Option Nat) : Bool :=
  s.passes i cls host && (s.filt i OBS_FILT.BUS_MASTERS).testBit bus &&
  (decide (s.filt i OBS_FILT.ADDR_EN = 0) ||
    decide ((s.rd (OBS_ADDR_LO.key i)).toNat ≤ addr ∧ addr ≤ (s.rd (OBS_ADDR_HI.key i)).toNat))

def obsFETCH : Nat := 1
def obsREAD : Nat := 2
def obsWRITE : Nat := 3
def obsCOMMAND : Nat := 4
def obsCALENDAR : Nat := 5

/-- Bus happenings of one kind at an address. -/
def State.obsBus (s : State) (write : Bool) (bus addr : Nat) (host : Option Nat) (n : Nat) : State :=
  s.each (List.range 8) fun s i =>
    if s.passesBus i (if write then obsWRITE else obsREAD) bus addr host then s.obsCount i n else s

/-- A packet taken, or an action executed. -/
def State.obsHappens (s : State) (cls : Nat) (host : Option Nat) : State :=
  s.each (List.range 8) fun s i => if s.passes i cls host then s.obsCount i 1 else s

/-- The bus happenings of the firmware's own in a tick are open: counters whose filter admits them add a free
number. -/
def State.firmwareHappens (s : State) : State :=
  s.each (List.range 8) fun s i =>
    if (s.passes i obsFETCH none || s.passes i obsREAD none || s.passes i obsWRITE none) && decide (s.dev.boot ≠ .held) then
      let f := s.fresh
      f.2.obsCount i f.1
    else s

/-- Core cycles of a tick: 100,000, or an open number while the core is on bypass or its spectrum is spread. -/
def State.tickCycles (s : State) : State :=
  if s.obsFrozen then s
  else if s.dev.coreBypass || decide (s.get SYN_SS_CFG.key SYN_SS_CFG.SS_MODE ≠ 0) then
    let f := s.fresh
    f.2.updObs fun o => { o with cycles := (o.cycles + f.1 % 100001) % 2 ^ 64 }
  else s.updObs fun o => { o with cycles := (o.cycles + 100000) % 2 ^ 64 }

/-- The cycle count now: the cycle within the tick is open. -/
def State.cyclesNow (s : State) : Nat × State :=
  if s.obsFrozen then (s.obs.cycles, s)
  else
    let f := s.fresh
    ((s.obs.cycles + f.1 % 100000) % 2 ^ 64, f.2)

def State.obsFreeze (s : State) : State :=
  if s.obsFrozen then s
  else
    let c := s.cyclesNow
    (c.2.updObs fun o => { o with cycles := c.1 }).put OBS_CNT_CTRL.key OBS_CNT_CTRL.FREEZE 1

def State.obsUnfreeze (s : State) : State := s.put OBS_CNT_CTRL.key OBS_CNT_CTRL.FREEZE 0

/-- OBS_CYCLE_LO: the low word, the high word latched. -/
def State.readCycle (s : State) : Word × State :=
  let c := s.cyclesNow
  (BitVec.ofNat 32 c.1, c.2.wr OBS_CYCLE_HI.key (BitVec.ofNat 32 (c.1 / 2 ^ 32)))

/-- OBS_CNT_LO_n: the low word; the high word and OVF latched. -/
def State.readObsCnt (s : State) (i : Nat) : Word × State :=
  let c := s.obs.cnts.getD i {}
  let s1 := s.put (OBS_CNT_HI.key i) OBS_CNT_HI.VALUE_HI (c.value / 2 ^ 32)
  (BitVec.ofNat 32 c.value, s1.put (OBS_CNT_HI.key i) OBS_CNT_HI.OVF
    (max (s1.get (OBS_CNT_HI.key i) OBS_CNT_HI.OVF) (bit c.ovf)))

/-- A write of OBS_CNT_LO_n, with the increments of the same cycle added after it (R278). -/
def State.writeObsCnt (s : State) (i : Nat) (v : Word) (inc : Nat) : State :=
  (s.updObs fun o => { o with cnts := o.cnts.store i { value := v.toNat, ovf := (o.cnts.getD i {}).ovf } {} }).obsCount i inc

/-! ### Precise sampling (R450) -/

def State.preciseSample (s : State) (priv : Bool) (seq : Nat) (pc insn latency : Word) : State :=
  if s.on OBS_SAMPLE_CFG.key OBS_SAMPLE_CFG.SAMPLE_EN = false ∨ s.captures 6 none = false then s
  else if s.obs.waiting.isSome then s.bump OBS_DROP_CNT.key OBS_DROP_CNT.SAMPLE_DROPS 1
  else
    let body := beBytes 1 (s.get OBS_SAMPLE_CFG.key OBS_SAMPLE_CFG.ENGINE) ++ beBytes 1 (bit priv) ++
      beBytes 2 (if priv then seq else 0) ++ beBytes 4 pc.toNat ++ beBytes 4 insn.toNat ++ beBytes 4 latency.toNat
    let r := s.makeRecord 6 false body
    if r.2.obs.fifo.length < fifoCap then r.2.pushRecord r.1 else r.2.updObs fun o => { o with waiting := some r.1 }

/-! ### Commands -/

def resObs : Res := (0x12, 0, 0)

def traceCfgFault (bs : List Byte) : Option Nat := layoutFault bs 4 [such 0 4 (regBitsOk OBS_TRACE_CFG.key)]
def State.traceCfgAdmit (s : State) (p : Packet) : Verdict := .accept (s.stageWords p.payload 0 [OBS_TRACE_CFG.key])

/-- The flip of OBS_TRACE_CFG; with RESTART the buffer and the readout are empty and SEQ starts anew (R447). -/
def State.flipTrace (s : State) : State :=
  let s1 := s.flipRegs [OBS_TRACE_CFG.key]
  if s1.on OBS_TRACE_CFG.key OBS_TRACE_CFG.RESTART then
    let w := OBS_TRACE_CFG.RESTART.set (s1.rdStaged OBS_TRACE_CFG.key) 0
    let s2 := (s1.wrStaged OBS_TRACE_CFG.key w).updObs fun o =>
      { o with fifo := [], buffer := [], seq := 0, dropBefore := false, moveDrop := false, fullRaised := false, waiting := none }
    s2.setQueue 6 { s2.queue 6 with words := [] }
  else s1

def State.traceCfgRun (s : State) (_p : Packet) : Done := okDone s.flipTrace

/-- OBS_FILT, OBS_ADDR_LO and OBS_ADDR_HI of the eight counters. -/
def obsCntRegs : List Nat := (List.range 8).flatMap fun i => [OBS_FILT.key i, OBS_ADDR_LO.key i, OBS_ADDR_HI.key i]

def filtOk (v : Nat) : Bool :=
  regBitsOk (OBS_FILT.key 0) v && decide (fieldOf OBS_FILT.CLASS v ≤ 5 ∧ fieldOf OBS_FILT.PRIV v ≤ 2)

def obsCntFault (bs : List Byte) : Option Nat := layoutFault bs 96 ((List.range 8).map fun i => such (12 * i) 4 filtOk)
def State.obsCntAdmit (s : State) (p : Packet) : Verdict := .accept (s.stageWords p.payload 0 obsCntRegs)
def State.flipObsCnt (s : State) : State := s.flipRegs obsCntRegs
def State.obsCntRun (s : State) (_p : Packet) : Done := okDone s.flipObsCnt

def obsSampleFault (bs : List Byte) : Option Nat := layoutFault bs 4 [such 0 4 (regBitsOk OBS_SAMPLE_CFG.key)]
def State.obsSampleAdmit (s : State) (p : Packet) : Verdict := .accept (s.stageWords p.payload 0 [OBS_SAMPLE_CFG.key])
def State.flipObsSample (s : State) : State := s.flipRegs [OBS_SAMPLE_CFG.key]
def State.obsSampleRun (s : State) (_p : Packet) : Done := okDone s.flipObsSample

/-- OBS_TRACE_STATUS with FILL computed. -/
def State.traceStatus (s : State) : Word :=
  OBS_TRACE_STATUS.FILL.set (s.rd OBS_TRACE_STATUS.key) (recordsBytes s.obs.buffer / 8)

/-- Tables 19-5 to 19-7 in address order; the counters are read as a register read reads them. -/
def State.obsStatus (s : State) (_p : Packet) : Verdict :=
  let word := fun (w : Word) => beBytes 4 w.toNat
  let c := s.readCycle
  let cnt := (List.range 8).foldl (fun (a : List Byte × State) i =>
    let r := a.2.readObsCnt i
    (a.1 ++ word r.1 ++ word (r.2.rd (OBS_CNT_HI.key i)), r.2)) ([], c.2)
  .answer stOK (word (s.rd OBS_TRACE_CFG.key) ++ word s.traceStatus ++ word c.1 ++ word (c.2.rd OBS_CYCLE_HI.key) ++
    word (s.rd OBS_CNT_CTRL.key) ++ obsCntRegs.flatMap (fun k => word (s.rd k)) ++ cnt.1 ++
    word (s.rd OBS_SAMPLE_CFG.key) ++ word (s.rd OBS_DROP_CNT.key)) cnt.2

/-! ### Rows -/

def execObsFreeze (s : State) : Host.Outcome State Fault Refusal := .next s.obsFreeze.settle
def execObsUnfreeze (s : State) : Host.Outcome State Fault Refusal := .next s.obsUnfreeze.settle

def execTraceRecordStore (s : State) : Host.Outcome State Fault Refusal := .next s.storeRecord.settle
def execTraceReadout (s : State) : Host.Outcome State Fault Refusal := .next s.readout.settle

def execPreciseSample (priv : Bool) (seq : BitVec 16) (pc insn latency : Word) (s : State) :
    Host.Outcome State Fault Refusal :=
  .next (s.preciseSample priv seq.toNat pc insn latency).settle

end Sys2Proof.Machine
end

