-- ==== Sys2Proof/Machine/Pins.lean ====
section
/-! DEFINITION. Pins with a read-back monitor (R475 to R479), the ROLE and CLAIM_OUT outputs (R302, R311),
GPIO levels, the die sensor (R490) and the TAP (R463, R464). -/

namespace Sys2Proof.Machine

def State.updPins (s : State) (f : PinSt → PinSt) : State := { s with pins := f s.pins }

/-! ### Read-back monitors: 0 to 7 CLK_OUT, 8 to 11 FP_OUT, 12 CLAIM_OUT, 13 to 20 GPIO -/

def monitorCount : Nat := 21

def condPin (p : Nat) : Cond := ⟨360, p, 0x80⟩

def State.pinGet (s : State) (p : Nat) (f : Fld) : Nat := s.get (PIN_MON.key p) f
def State.pinPut (s : State) (p : Nat) (f : Fld) (v : Nat) : State := s.put (PIN_MON.key p) f v
def State.pinOn (s : State) (p : Nat) (f : Fld) : Bool := s.on (PIN_MON.key p) f

/-- The GPIO that is driven as ROLE. -/
def State.gpioRole (s : State) (k : Nat) : Bool :=
  s.on CLM_CHIMNEY.key CLM_CHIMNEY.ROLE_EN && decide (s.get CLM_CHIMNEY.key CLM_CHIMNEY.ROLE_GPIO = k)

/-- The configuration in force enables the output. -/
def State.pinEnabled (s : State) (p : Nat) : Bool :=
  if p < 8 then s.on (DPL_CLKOUT.key p) DPL_CLKOUT.ENABLE
  else if p < 12 then s.on (DPL_FPOUT.key (p - 8)) DPL_FPOUT.ENABLE
  else if p = 12 then s.inPair && s.pinsOn
  else s.gpioRole (p - 13) || s.on (PIN_GPIO_CFG.key (p - 13)) PIN_GPIO_CFG.DIR

/-- The output releases its level instead of driving it high. -/
def State.pinOpenDrain (s : State) (p : Nat) : Bool :=
  if p < 8 then false
  else if p < 12 then s.on (DPL_FPOUT.key (p - 8)) DPL_FPOUT.OPEN_DRAIN
  else if p = 12 then false
  else !s.gpioRole (p - 13) && s.on (PIN_GPIO_CFG.key (p - 13)) PIN_GPIO_CFG.OPEN_DRAIN

/-- The monitor samples: an enabled output, driven, a CLK_OUT in an LVCMOS format, neither EXTEST nor reset. -/
def State.pinSampled (s : State) (p : Nat) : Bool :=
  s.pinEnabled p && !s.pinOn p PIN_MON.HIGHZ && !s.arrivals.contains (.pinContention p) &&
  (decide (8 ≤ p) || decide (2 ≤ s.get (DPL_CLKOUT.key p) DPL_CLKOUT.FORMAT)) &&
  !s.pins.extest && decide (s.dev.boot ≠ .held)

/-- The third disagreeing sample of a level (R475, R476): on an open-drain output only the released level counts. -/
def State.contention (s : State) (p : Nat) (level : Bool) : State :=
  if s.pinSampled p && (level || !s.pinOpenDrain p) then
    (s.pinPut p PIN_MON.LEVEL (bit level)).arrive (.pinContention p)
  else s

/-- Back-off in ticks. -/
def State.backoff (s : State) (p : Nat) : Nat := max 1 (s.pinGet p PIN_MON.BACKOFF) * ticksPerSecond

/-- Step 1: contention arrives; a failed retry counts and doubles the back-off, without an event (R477). -/
def State.pinContends (s : State) (p : Nat) : State :=
  let s1 := if s.pinOn p PIN_MON.CONTENTION then
      (s.pinPut p PIN_MON.RETRIES (min 15 (s.pinGet p PIN_MON.RETRIES + 1))).pinPut p PIN_MON.BACKOFF
        (min 64 (2 * s.pinGet p PIN_MON.BACKOFF))
    else ((s.pinPut p PIN_MON.CONTENTION 1).pinPut p PIN_MON.HIST 1).cond (condPin p) true
  let s2 := (s1.pinPut p PIN_MON.HIGHZ 1).updPins fun x => { x with redriven := x.redriven.drop p }
  if s2.pinOn p PIN_MON.RETRY_NOW then s2 else s2.startTimer (.pinBackoff p) (s2.backoff p)

/-- The end of a contention: the back-off is 1 s again. -/
def State.pinEnds (s : State) (p : Nat) : State :=
  let s1 := (((s.pinPut p PIN_MON.CONTENTION 0).pinPut p PIN_MON.HIGHZ 0).pinPut p PIN_MON.BACKOFF 1).pinPut p
    PIN_MON.RETRIES 0
  let s2 := ((s1.pinPut p PIN_MON.RETRY_NOW 0).stopTimer (.pinBackoff p)).updPins fun x =>
    { x with redriven := x.redriven.drop p }
  s2.cond (condPin p) false

/-- Step 1 after 1 ms without contention (R477). -/
def State.pinClean (s : State) (p : Nat) : State :=
  if s.pinOn p PIN_MON.CONTENTION && !s.pinOn p PIN_MON.HIGHZ then s.pinEnds p else s

/-- A disabled output cancels its contention (R478). -/
def State.pinCancels (s : State) : State :=
  s.each (List.range monitorCount) fun s p =>
    if s.pinOn p PIN_MON.CONTENTION && !s.pinEnabled p then s.pinEnds p else s

/-- Step 4: the back-off has expired, and the output is driven again (R477). -/
def State.pinDrive (s : State) (p : Nat) : State :=
  if s.timerDue (.pinBackoff p) then
    ((((s.stopTimer (.pinBackoff p)).pinPut p PIN_MON.HIGHZ 0).pinPut p PIN_MON.RETRY_NOW 0).updPins fun x =>
      { x with redriven := x.redriven.put p s.dev.ticks })
  else s

def State.pinRetries (s : State) : State := s.each (List.range monitorCount) State.pinDrive

/-- An output that has run 1 ms since it was driven again. -/
def State.pinRuns (s : State) (p : Nat) : State :=
  match s.pins.redriven.find p with
  | some t => if s.pinSampled p && decide (t + 8 ≤ s.dev.ticks) then s.arrive (.pinClean p) else s
  | none => s

/-- RETRY_NOW: the output is driven at step 4 of the next tick (R478). -/
def State.retryNow (s : State) (p : Nat) : State :=
  if s.pinOn p PIN_MON.HIGHZ || s.arrivals.contains (.pinContention p) then
    (s.pinPut p PIN_MON.RETRY_NOW 1).startTimer (.pinBackoff p) 1
  else s

/-- The pulse CLAIM_OUT sends in the tick: [15:8] of the claim at an even SFN, [7:0] at the next (R311). -/
def State.claimOut (s : State) : State :=
  let claim := s.clm CLM_STATUS.OWN_CLAIM
  let v := if s.time.sfn % 2 = 0 then claim / 256 else claim % 256
  let w := if s.pinEnabled 12 && !s.pinOn 12 PIN_MON.HIGHZ then 8000 + 375 * v else 0
  s.updPins fun x => { x with claimOutNs := w }

/-- The level at a GPIO ball, where the device drives it; else what the board drives, which is open. -/
def State.gpioIn (s : State) (k : Nat) : Nat × State :=
  let c := PIN_GPIO_CFG.key k
  let out := if s.gpioRole k then bit s.pins.role else s.get c PIN_GPIO_CFG.OUT
  if s.pinEnabled (13 + k) && !s.pinOn (13 + k) PIN_MON.HIGHZ && (!s.pinOpenDrain (13 + k) || decide (out = 0)) then (out, s)
  else
    let f := s.fresh
    (f.1 % 2, f.2)

/-- The die reaches 115 °C (R490). -/
def State.dieTemp (s : State) (temp : Byte) : State :=
  let s1 := s.put PIN_TEMP.key PIN_TEMP.TEMP temp.toNat
  if 115 ≤ untwos 8 temp.toNat then s1.put PIN_TEMP.key PIN_TEMP.TJ_HIGH 1 else s1

/-! ### The TAP (R463, R464) -/

def State.tapLocked (s : State) : Bool := s.on SYS_BOOT_STATUS.key SYS_BOOT_STATUS.TAP_LOCKED

/-- Instruction register: 0 BYPASS, 1 IDCODE, 2 SAMPLE, 3 EXTEST; EXTEST stays in force only while it is selected. -/
def State.tapSelect (s : State) (i : Nat) : State := s.updPins fun x => { x with tapInstr := i, extest := decide (i = 3) }

/-- The IDCODE, R463. -/
def State.idcode (s : State) : Nat :=
  (s.dev.stepping.toNat % 16) * 2 ^ 28 + (if s.dev.variant48 then 0x9648 else 0x9600) * 2 ^ 12 + 0x2D7 * 2 + 1

/-- BYPASS, and every instruction a locked TAP does not execute: one bit, captured 0. -/
def State.bypass (s : State) : State := (s.tapSelect 0).updPins fun x => { x with tdo := 0 }

/-- Test-Logic-Reset selects IDCODE, the TAP having one (IEEE 1149.1), and ends EXTEST. -/
def State.tapResets (s : State) : State := s.tapSelect 1

/-! ### Rows -/

def execPinContention (p : Fin 21) (level : Bool) (s : State) : Host.Outcome State Fault Refusal :=
  .next (s.contention p level).settle

def execPinBackoffExpiry (p : Fin 21) (s : State) : Host.Outcome State Fault Refusal := .next (s.pinDrive p).settle

def execPinRetryClean (p : Fin 21) (s : State) : Host.Outcome State Fault Refusal := .next (s.pinRuns p).settle

def execPinRetryNow (p : Fin 21) (s : State) : Host.Outcome State Fault Refusal := .next (s.retryNow p).settle

def execDieTempHigh (temp : Byte) (s : State) : Host.Outcome State Fault Refusal := .next (s.dieTemp temp).settle

def execTapBypass (s : State) : Host.Outcome State Fault Refusal := .next s.bypass.settle

def execTapIdcode (s : State) : Host.Outcome State Fault Refusal :=
  .next ((s.tapSelect 1).updPins fun x => { x with tdo := s.idcode }).settle

/-- SAMPLE takes the levels of the digital pins into the boundary register. -/
def execTapSample (pins : List Bool) (s : State) : Host.Outcome State Fault Refusal :=
  .next (if s.tapLocked then s.bypass
    else (s.tapSelect 2).updPins fun x => { x with sample := pins, boundary := pins }).settle

/-- EXTEST drives the pins from the boundary register. -/
def execTapExtest (drive : List Bool) (s : State) : Host.Outcome State Fault Refusal :=
  .next (if s.tapLocked then s.bypass else (s.tapSelect 3).updPins fun x => { x with boundary := drive }).settle

def execTapReset (s : State) : Host.Outcome State Fault Refusal := .next s.tapResets.settle

end Sys2Proof.Machine
end

