-- ==== Sys2Proof/Machine/Bus.lean ====
section
/-! DEFINITION. The register space, the memory targets and their windows, the bus faults and the check-value
units (17_registers_bus_and_check_units). -/

namespace Sys2Proof.Machine

/-! ### Check-value units (R421 to R424) -/

/-- The 16 system units: 0 to 11 are fixed, 12 to 15 serve the host. -/
def cvuFixed (u : Nat) : Bool := decide (u < 12)

/-- The settings of a unit: a WIDTH outside 8 to 32 acts as 32. -/
def State.cvuCfg (s : State) (u : Nat) : CrcCfg :=
  let k := CVU_S_CFG.key u
  let w0 := s.get k CVU_S_CFG.WIDTH
  let w := if 8 ≤ w0 ∧ w0 ≤ 32 then w0 else 32
  ⟨w, (s.rd (CVU_S_POLY.key u)).toNat % 2 ^ w, (s.rd (CVU_S_INIT.key u)).toNat % 2 ^ w, s.on k CVU_S_CFG.REFIN,
    s.on k CVU_S_CFG.REFOUT, s.on k CVU_S_CFG.XOROUT⟩

def State.cvuReg (s : State) (u : Nat) : Nat := s.bus.cvu.getD u 0

def State.updBus (s : State) (f : BusSt → BusSt) : State := { s with bus := f s.bus }

def State.setCvu (s : State) (u v : Nat) : State := s.updBus fun b => { b with cvu := b.cvu.put u v }

def State.cvuFold (s : State) (u : Nat) : List Byte := beBytes 2 (s.get (CVU_S_FOLD.key u) CVU_S_FOLD.FOLD)

/-- Bytes of the stream enter the register; under FOLD_MODE 2 they wait until the stream field has come, which is
processed before byte 0 and again at its own place. -/
def State.cvuFeed (s : State) (u : Nat) (bs : List Byte) : State :=
  let c := s.cvuCfg u
  if s.bus.cvuHeld.getD u 0 = 0 then s.setCvu u (c.bytes (s.cvuReg u) bs)
  else
    let all := s.bus.cvuBytes.getD u [] ++ bs
    let off := s.get (CVU_S_CFG.key u) CVU_S_CFG.SEQ_OFFSET
    if all.length < off + 2 then s.updBus fun b => { b with cvuBytes := b.cvuBytes.put u all }
    else (s.updBus fun b => { b with cvuBytes := b.cvuBytes.drop u, cvuHeld := b.cvuHeld.drop u }).setCvu u
      (c.bytes (s.cvuReg u) (bytesAt all off 2 ++ all))

/-- START of a general unit: INIT is loaded and the fold-in bytes are processed. -/
def State.cvuStart (s : State) (u : Nat) : State :=
  if cvuFixed u then s
  else
    let c := s.cvuCfg u
    let mode := s.get (CVU_S_CFG.key u) CVU_S_CFG.FOLD_MODE
    let r := if mode = 1 ∨ mode = 2 then c.bytes c.init (s.cvuFold u) else c.init
    let s1 := s.updBus fun b => { b with
      cvuBytes := b.cvuBytes.drop u, cvuHeld := if mode = 2 then b.cvuHeld.put u 1 else b.cvuHeld.drop u }
    s1.setCvu u r

/-- A DATA write: 4 bytes, or LAST_BYTES of them, from [31:24] downward. -/
def State.cvuData (s : State) (u : Nat) (v : Word) : State :=
  if cvuFixed u then s
  else
    let k := CVU_S_CFG.key u
    let n := s.get k CVU_S_CFG.LAST_BYTES
    ((s.cvuFeed u ((beBytes 4 v.toNat).take (if n = 0 then 4 else n)))).put k CVU_S_CFG.LAST_BYTES 0

/-- CVU_S_RESULT: what a fixed unit's stream last gave, and the result while a stream field is awaited, are open. -/
def State.cvuResult (s : State) (u : Nat) : Word × State :=
  if cvuFixed u || decide (s.bus.cvuHeld.getD u 0 ≠ 0) then
    let f := s.fresh
    (BitVec.ofNat 32 f.1, f.2)
  else match s.bus.cvu.find u with
    | some r => (BitVec.ofNat 32 ((s.cvuCfg u).result r), s)
    | none => (0, s)

/-- The settings of the fixed units, which the firmware makes at its start (Table 17-12): CFG, POLY, INIT, FOLD. -/
def State.fixedWords (s : State) (u : Nat) : Nat × Nat × Nat × Nat :=
  if 2 ≤ u ∧ u ≤ 5 then (16, 0x1021, 0xFFFF, 0)
  else if u ≤ 1 then (32 + 7 * 2 ^ 6 + 2 * 2 ^ 9 + 6 * 2 ^ 11, 0x1EDC6F41, 0xFFFFFFFF, s.address)
  else (32 + 7 * 2 ^ 6, 0x1EDC6F41, 0xFFFFFFFF, 0)

/-- A setting of a unit as it reads. -/
def State.cvuShown (s : State) (u : Nat) (k : Nat) (pick : Nat × Nat × Nat × Nat → Nat) : Word :=
  if cvuFixed u && s.fw.started then BitVec.ofNat 32 (pick (s.fixedWords u)) else s.rd k

/-- The port a slot of a physical framer block serves (R422). -/
def State.cvuPort (s : State) (n : Nat) : Option Nat :=
  ((List.range 24).find? fun pos => decide (s.physOf pos = n / 4 ∧ s.blockState pos ≠ 2)).map fun pos => 4 * pos + n % 4

def cvuUse (family : Nat) : Nat := if 4 ≤ family ∧ family ≤ 6 then family - 3 else 0

def State.cvuWord (s : State) (n : Nat) : Word :=
  let w := s.rd (CVU_P.key n)
  match s.cvuPort n with
  | some p => if cvuUse (s.family p) = 0 then CVU_P.PORT.set w 0x7F
      else CVU_P.USE.set (CVU_P.PORT.set w p) (cvuUse (s.family p))
  | none => CVU_P.PORT.set w 0x7F

/-! ### What registers show -/

/-- The mapper position a physical mapper block serves. -/
def State.mapperOf (s : State) (phys : Nat) : Option Nat :=
  (List.range 16).find? fun n => decide (s.physOf (24 + n) = phys)

def State.loadWord (s : State) (phys : Nat) : Word :=
  match s.mapperOf phys with
  | some n => LOM_MB_LOAD.TRIBS.set (LOM_MB_LOAD.CONTAINERS.set (LOM_MB_LOAD.CARRIERS.set 0 (s.carriersAt n))
      (s.used rMAPPER_CONT_POS n)) (s.used rLO_TRIB_POS n)
  | none => 0

/-- The low bits of a status register whose places have codes. -/
def State.liveBits (s : State) (p : Nat) (codes : List Nat) : Nat :=
  ((List.range codes.length).map fun i => bit (s.has (condPort p (codes.getD i 0))) * 2 ^ i).sum

def State.sdhStatusWord (s : State) (p : Nat) : Word :=
  let w := (⟨0, 7⟩ : Fld).set (s.rd (SDH_STATUS.key p)) (s.liveBits p sdhStatusCodes)
  SDH_STATUS.OOF.set (SDH_STATUS.OOF_RUN.set w (s.sdh p).align.oofRun) (bit !(s.sdh p).align.inFrame)

def State.otnStatusWord (s : State) (p : Nat) : Word :=
  let w := (⟨0, 12⟩ : Fld).set (s.rd (OTN_STATUS.key p)) (s.liveBits p otnStatusCodes)
  OTN_STATUS.OOF.set (OTN_STATUS.OOM.set w (bit !(s.otn p).mf.inFrame)) (bit !(s.otn p).align.inFrame)

def State.cmdStatusWord (s : State) : Word :=
  let w := CMD_STATUS.EXPERT_M0.set (s.rd CMD_STATUS.key) (bit s.cmd.m0.expert)
  let w := CMD_STATUS.EXPERT_MODE.set (CMD_STATUS.EXPERT_M1.set w (bit s.cmd.m1.expert)) (bit s.expertMode)
  CMD_STATUS.INBUF_M0.set (CMD_STATUS.INBUF_M1.set w s.cmd.m1.inbuf.length) s.cmd.m0.inbuf.length

def State.timeStatusWord (s : State) : Word :=
  let w := SYS_TIME_STATUS.EPOCH.set (s.rd SYS_TIME_STATUS.key) s.time.epoch
  let w := SYS_TIME_STATUS.LABEL_GEN.set (SYS_TIME_STATUS.RING_ROOT.set w (bit s.isGateway)) s.time.labelGen
  SYS_TIME_STATUS.SET_ARMED.set w (bit s.time.armed.isSome)

def State.sliceWord (s : State) (n : Nat) : Word :=
  let t := s.dev.ticks
  let w := GRT_SLICE_STATUS.FREE.set (s.rd (GRT_SLICE_STATUS.key n)) (s.freeSlots n t)
  let w := GRT_SLICE_STATUS.LARGEST_RUN.set w (s.largestRun n t)
  GRT_SLICE_STATUS.DEFRAG.set w (bit (s.planRuns n))

def State.evtStatusWord (s : State) (m : Nat) : Word :=
  let k := EVT_STATUS.key m
  let w := EVT_STATUS.PENDING.set (s.rd k) (bit (s.pendingBit m))
  let w := EVT_STATUS.INT_ASSERTED.set w (bit (s.pendingBit m && s.on (EVT_CTRL.key m) EVT_CTRL.INT_EN))
  EVT_STATUS.LOWEST.set w (s.lowestSource m)

def State.liveWord (s : State) (k : Nat) : Word :=
  BitVec.ofNat 32 ((List.range 32).map fun i => bit (s.live (32 * k + i)) * 2 ^ i).sum

/-- A domain that serves a port bank is down: the framer block's, or the macro's. -/
def State.portDomainDown (s : State) (p : Nat) : Bool :=
  !s.domainUp (domFramer (s.physOf (framerPos p))) || !s.domainUp (s.laneDomain p)

/-- A domain of a block of the region is down. -/
def State.regionDomainDown (s : State) (m : Nat) : Bool :=
  ((List.range 7).any fun j => !s.domainUp (domFramer (7 * m + j))) ||
  ((List.range 5).any fun j => !s.domainUp (domMapper (5 * m + j))) ||
  ((List.range 2).any fun j => !s.domainUp (domEngine (2 * m + j)))

def State.fluWord (s : State) : Word :=
  FLU_STATUS.ROOT.set (FLU_STATUS.GATEWAY.set (s.rd FLU_STATUS.key) (bit s.bootedGateway)) (bit s.isGateway)

/-- A block of a region carries bandwidth, by its place in R406. -/
def State.blockLoaded (s : State) (m b : Nat) : Bool :=
  if b < 7 then
    (List.range 24).any fun pos => decide (s.physOf pos = 7 * m + b) &&
      (List.range 4).any fun j => s.family (4 * pos + j) ≠ 0
  else if b < 12 then
    match s.mapperOf (5 * m + (b - 7)) with
    | some n => decide (s.used rLO_TRIB_POS n ≠ 0 ∨ s.used rMAPPER_CONT_POS n ≠ 0)
    | none => false
  else decide (s.used rPKT_ENGINE_BW (2 * m + (b - 12)) ≠ 0)

/-- Registers that show what the state holds elsewhere, with what they show; their own bits stay: time, queues and ports. -/
def viewsPorts : List (RegDesc × (State → Nat → Nat → Word)) :=
  [(SYS_SFN_LO.desc, fun s _ _ => BitVec.ofNat 32 s.time.sfn),
   (SYS_TOD_LO.desc, fun s _ _ => BitVec.ofNat 32 s.time.tod),
   (SYS_TIME_STATUS.desc, fun s _ _ => s.timeStatusWord),
   (CAL_STATUS.desc, fun s _ _ => CAL_STATUS.IN_USE.set (s.rd CAL_STATUS.key) s.cal.entries.length),
   (SYS_QSTAT.desc, fun s q _ => SYS_QSTAT.FILL.set (s.rd (SYS_QSTAT.key q)) (s.fill q)),
   (PRT_PFN.desc, fun s p _ => BitVec.ofNat 32 (s.pfn p)),
   (PRT_CNT_LO.desc, fun s p k => BitVec.ofNat 32 (((s.port p).cnts.getD k {}).value)),
   (OBS_CNT_LO.desc, fun s n _ => BitVec.ofNat 32 ((s.obs.cnts.getD n {}).value)),
   (SDH_STATUS.desc, fun s p _ => s.sdhStatusWord p),
   (OTN_STATUS.desc, fun s p _ => s.otnStatusWord p),
   (ALF_STATUS.desc, fun s p _ => s.alfStatusWord p),
   (ALF_DIGEST.desc, fun s p _ => s.alfDigestWord p),
   (ETH_STATUS.desc, fun s p _ => ETH_STATUS.TX_PAUSED.set (s.rd (ETH_STATUS.key p)) (s.eth p).sentPause)]

/-- The same of the groups, the grate, timing, commands and events. -/
def viewsGroups : List (RegDesc × (State → Nat → Nat → Word)) :=
  [(BND_STATUS.desc, fun s g _ => s.bndStatusWord g),
   (HRP_STATUS.desc, fun s g _ => s.hrpStatusWord g),
   (LOM_MB_LOAD.desc, fun s m j => s.loadWord (5 * m + j)),
   (GRT_SLICE_STATUS.desc, fun s n _ => s.sliceWord n),
   (GRT_SLICE_RETIRED.desc, fun s n _ =>
     GRT_SLICE_RETIRED.RETIRED.set (GRT_SLICE_RETIRED.HOST_OWNED.set 0 (s.hostOwnedSlots n)) (s.retiredSlots n)),
   (STK_POOL.desc, fun s i _ => STK_POOL.ALLOCATED.set (s.rd (STK_POOL.key i)) (s.poolUsed i)),
   (STK_STATUS.desc, fun s _ _ => STK_STATUS.MOVES_ACTIVE.set
     (STK_STATUS.CONNS.set (s.rd STK_STATUS.key) s.grate.conns.length) s.movesActive),
   (DPL_REF_STATUS.desc, fun s n _ => s.refStatus n),
   (CMD_STATUS.desc, fun s _ _ => s.cmdStatusWord),
   (CMD_TX.desc, fun s m _ => CMD_TX.FULL.set (s.rd (CMD_TX.key m)) (bit (s.recordFull m))),
   (FLU_STATUS.desc, fun s _ _ => s.fluWord),
   (EVT_LIVE.desc, fun s k _ => s.liveWord k),
   (EVT_STATUS.desc, fun s m _ => s.evtStatusWord m),
   (EVT_RING_STATUS.desc, fun s _ _ => EVT_RING_STATUS.FILL.set (s.rd EVT_RING_STATUS.key) s.evt.ringBuf.length)]

/-- The same of observation, identity, check units and banks. -/
def viewsUnits : List (RegDesc × (State → Nat → Nat → Word)) :=
  [(OBS_TRACE_STATUS.desc, fun s _ _ => s.traceStatus),
   (SYS_FUSE_ID_LO.desc, fun s _ _ => BitVec.ofNat 32 s.dev.fuseId.toNat),
   (SYS_FUSE_ID_HI.desc, fun s _ _ => BitVec.ofNat 32 (s.dev.fuseId.toNat / 2 ^ 32)),
   (SYS_IDENT.desc, fun s _ _ => SYS_IDENT.VARIANT.set
     (SYS_IDENT.STEPPING.set (s.rd SYS_IDENT.key) s.dev.stepping.toNat) (bit s.dev.variant48)),
   (SYS_BOOT_STATUS.desc, fun s _ _ => SYS_BOOT_STATUS.GATEWAY.set (s.rd SYS_BOOT_STATUS.key) (bit s.bootedGateway)),
   (CVU_P.desc, fun s n _ => s.cvuWord n),
   (CVU_S_CFG.desc, fun s u _ => s.cvuShown u (CVU_S_CFG.key u) fun x => x.1),
   (CVU_S_POLY.desc, fun s u _ => s.cvuShown u (CVU_S_POLY.key u) fun x => x.2.1),
   (CVU_S_INIT.desc, fun s u _ => s.cvuShown u (CVU_S_INIT.key u) fun x => x.2.2.1),
   (CVU_S_FOLD.desc, fun s u _ => s.cvuShown u (CVU_S_FOLD.key u) fun x => x.2.2.2),
   (PIN_GPIO_CFG.desc, fun s k _ => PIN_GPIO_CFG.ROLE.set (s.rd (PIN_GPIO_CFG.key k)) (bit (s.gpioRole k))),
   (PRT_BANK_STATUS.desc, fun s p _ =>
     PRT_BANK_STATUS.DOMAIN_DOWN.set (s.rd (PRT_BANK_STATUS.key p)) (bit (s.portDomainDown p))),
   (SYS_RG_STATUS.desc, fun s m _ =>
     SYS_RG_STATUS.DOMAIN_DOWN.set (s.rd (SYS_RG_STATUS.key m)) (bit (s.regionDomainDown m)))]

/-- Every register that shows what the state holds elsewhere. -/
def views : List (RegDesc × (State → Nat → Nat → Word)) := viewsPorts ++ (viewsGroups ++ viewsUnits)

/-- The word a register shows, without what reading it does. -/
def State.shown (s : State) (k : Nat) : Word :=
  match views.find? fun v => (v.1.index k).isSome with
  | some v => match v.1.index k with
    | some (i, j) => v.2 s i j
    | none => s.rd k
  | none => s.rd k

/-! ### Reads that latch or that show an open value (R69, R240, R277, R449) -/

def State.readSfn (s : State) : Word × State :=
  (BitVec.ofNat 32 s.time.sfn, s.wr SYS_SFN_HI.key (BitVec.ofNat 32 (s.time.sfn / 2 ^ 32 % 65536)))

def State.readTod (s : State) : Word × State :=
  (BitVec.ofNat 32 s.time.tod, s.wr SYS_TOD_HI.key (BitVec.ofNat 32 (s.time.tod / 2 ^ 32)))

/-- SYS_QDATA_HI_q removes one word and latches its low half (R240). -/
def State.readQdata (s : State) (q : Nat) : Word × State :=
  let r := s.removeWord q
  (BitVec.ofNat 32 (r.1.toNat / 2 ^ 32), r.2.wr (SYS_QDATA_LO.key q) (BitVec.ofNat 32 r.1.toNat))

/-- PRT_CNT_LO_k latches VALUE[47:32], OVF and WRAP (R277). -/
def State.readPortCnt (s : State) (p k : Nat) : Word × State :=
  let c := (s.port p).cnts.getD k {}
  (BitVec.ofNat 32 c.value, s.wr (PRT_CNT_HI.key p k)
    (PRT_CNT_HI.VALUE_HI.set (PRT_CNT_HI.OVF.set (PRT_CNT_HI.WRAP.set 0 c.wrap) (bit c.ovf)) (c.value / 2 ^ 32)))

/-- A write of PRT_CNT_LO_k: the value, WRAP 0, then the increments of the cycle (R278). -/
def State.writePortCnt (s : State) (p k : Nat) (v : Word) (inc : Nat) : State :=
  (s.updPort p fun x =>
    { x with cnts := x.cnts.store k { value := v.toNat, ovf := (x.cnts.getD k {}).ovf } {} }).countPort p k inc

/-- A field whose value is measured or set by a rule without a number: open where the unit works. -/
def State.openField (s : State) (k : Nat) (f : Fld) (on : Bool) : Word × State :=
  if on then
    let x := s.fresh
    (f.set (s.shown k) x.1, x.2)
  else (s.shown k, s)

/-- Registers whose reading does more than show them. -/
def readers : List (RegDesc × (State → Nat → Nat → Word × State)) :=
  [(SYS_SFN_LO.desc, fun s _ _ => s.readSfn),
   (SYS_TOD_LO.desc, fun s _ _ => s.readTod),
   (SYS_QDATA_HI.desc, fun s q _ => s.readQdata q),
   (PRT_CNT_LO.desc, fun s p k => s.readPortCnt p k),
   (OBS_CYCLE_LO.desc, fun s _ _ => s.readCycle),
   (OBS_CNT_LO.desc, fun s n _ => s.readObsCnt n),
   (CVU_S_RESULT.desc, fun s u _ => s.cvuResult u),
   (LAN_STATUS.desc, fun s p _ => s.openField (LAN_STATUS.key p) LAN_STATUS.EYE_H (s.on (LAN_CFG.key p) LAN_CFG.RX_EN)),
   (OTN_LANE_STATUS.desc, fun s p _ => s.openField (OTN_LANE_STATUS.key p) OTN_LANE_STATUS.SKEW (decide (s.rate p = 3))),
   (SYS_RG_WEIGHT.desc, fun s m b => s.openField (SYS_RG_WEIGHT.key m b) SYS_RG_WEIGHT.WEIGHT (s.blockLoaded m b)),
   (PIN_TEMP.desc, fun s _ _ => s.openField PIN_TEMP.key PIN_TEMP.TEMP true),
   (PIN_GPIO_CFG.desc, fun s k _ =>
     let r := s.gpioIn k
     (PIN_GPIO_CFG.IN.set (r.2.shown (PIN_GPIO_CFG.key k)) r.1, r.2))]

/-- A read of a register. -/
def State.readReg (s : State) (k : Nat) : Word × State :=
  match readers.find? fun v => (v.1.index k).isSome with
  | some v => match v.1.index k with
    | some (i, j) => v.2 s i j
    | none => (s.shown k, s)
  | none => (s.shown k, s)

/-! ### Writes by access type (R408, R409) -/

/-- What a software write leaves in one field. -/
def FldDesc.write (f : FldDesc) (v : Word) (w : Word) : Word :=
  match f.acc with
  | .rw | .rwh | .cnt => f.fld.set w (f.fld.get v)
  | .w1c => f.fld.set w ((w &&& ~~~v).toNat >>> f.fld.lo)
  | .ro | .sc | .wo => w

/-- What a software write leaves in a register. -/
def RegDesc.write (d : RegDesc) (old v : Word) : Word := d.flds.foldl (fun w f => f.write v w) old

/-- The value REG_MODIFY writes, field by field (R413). -/
def RegDesc.modified (d : RegDesc) (old mask v : Word) : Word :=
  d.flds.foldl (fun w f =>
    let x := match f.acc with
      | .rw | .rwh | .cnt => (old &&& ~~~mask) ||| (v &&& mask)
      | .w1c | .sc => v &&& mask
      | .ro | .wo => v
    f.fld.set w (f.fld.get x)) 0

/-- A write that the fields' access types settle alone. -/
def State.writePlain (s : State) (k : Nat) (d : RegDesc) (v : Word) : State := s.wr k (d.write (s.rd k) v)

/-- A write of LEVEL can count as a crossing (R242). -/
def State.levelWrite (s : State) (q level : Nat) : State :=
  let s1 := s.put (SYS_QCFG.key q) SYS_QCFG.LEVEL level
  (s1.setQueue q { s1.queue q with levelArmed := true }).judgeLevel q

/-- A change of LEGACY resets the queue (R243). -/
def State.legacyWrite (s : State) (q : Nat) (on : Bool) : State :=
  if s.on (SYS_QCFG.key q) SYS_QCFG.LEGACY = on then s
  else (s.put (SYS_QCFG.key q) SYS_QCFG.LEGACY (bit on)).resetQueue q

def State.qcfgWrite (s : State) (q : Nat) (v : Word) : State :=
  let s1 := (s.levelWrite q (SYS_QCFG.LEVEL.get v)).legacyWrite q (decide (SYS_QCFG.LEGACY.get v = 1))
  if SYS_QCFG.RESET.get v = 1 then s1.resetQueue q else s1

/-- PEAK_CLR sets PEAK to IN_USE (R52). -/
def State.peakClear (s : State) : State := s.put CAL_STATUS.key CAL_STATUS.PEAK s.cal.entries.length

/-- The packet of a window's first `len` bytes. -/
def packetOf (bs : List Byte) (len : Nat) : Packet :=
  let f := fun off n => fieldAt bs off n
  { ver := BitVec.ofNat 8 (f 0 1), flags := BitVec.ofNat 8 (f 1 1), opcode := BitVec.ofNat 8 (f 2 1),
    source := BitVec.ofNat 8 (f 3 1), dest := BitVec.ofNat 16 (f 4 2), seq := BitVec.ofNat 16 (f 6 2),
    eff := BitVec.ofNat 48 (f 8 6), length := BitVec.ofNat 16 (f 14 2), timeout := BitVec.ofNat 16 (f 16 2),
    frag := BitVec.ofNat 16 (f 18 2), rsv := BitVec.ofNat 32 (f 20 4),
    payload := bytesAt bs 24 (len - 28), check := BitVec.ofNat 32 (f (len - 4) 4) }

/-- GO: a gateway takes the packet in the window; a LENGTH of no packet submits nothing (R367). -/
def State.txGo (s : State) (m : Nat) : State :=
  let len := s.get (CMD_TX.key m) CMD_TX.LENGTH
  if s.bootedGateway = false ∨ len < 28 ∨ 4096 < len then s
  else s.submit m (packetOf ((List.range len).map fun i => (s.master m).window.getD i 0) len)

/-- A write into CMD_TX_WIN_m. -/
def State.winWrite (s : State) (m off : Nat) (v : Word) : State :=
  let bs := beBytes 4 v.toNat
  s.updMaster m fun x => { x with window := (List.range 4).foldl (fun t i => t.store (off + i) (bs.getD i 0) 0) x.window }

/-- REARM sends a further message while PENDING and MSI_EN are set (R400). -/
def State.rearm (s : State) (m : Nat) : State :=
  if s.isGateway && s.pendingBit m && s.on (EVT_CTRL.key m) EVT_CTRL.MSI_EN then s.sendMsi m else s

/-- CVU_S_CFG of a general unit: its fields, then START. -/
def State.cvuCfgWrite (s : State) (u : Nat) (v : Word) : State :=
  if cvuFixed u then s
  else
    let s1 := s.writePlain (CVU_S_CFG.key u) CVU_S_CFG.desc v
    if CVU_S_CFG.START.get v = 1 then s1.cvuStart u else s1

/-- OVF of a port counter: its sticky bit and the latched one. -/
def State.cntHiWrite (s : State) (p k : Nat) (v : Word) : State :=
  let s1 := s.writePlain (PRT_CNT_HI.key p k) PRT_CNT_HI.desc v
  if PRT_CNT_HI.OVF.get v = 1 then
    s1.updPort p fun x => { x with cnts := x.cnts.store k { x.cnts.getD k {} with ovf := false } {} }
  else s1

def State.obsHiWrite (s : State) (n : Nat) (v : Word) : State :=
  let s1 := s.writePlain (OBS_CNT_HI.key n) OBS_CNT_HI.desc v
  if OBS_CNT_HI.OVF.get v = 1 then
    s1.updObs fun o => { o with cnts := o.cnts.store n { o.cnts.getD n {} with ovf := false } {} }
  else s1

/-- Registers whose write does more than settle their fields. -/
def writers : List (RegDesc × (State → Nat → Nat → Word → State)) :=
  [(SYS_QCFG.desc, fun s q _ v => s.qcfgWrite q v),
   (CAL_CTRL.desc, fun s _ _ v =>
     let s1 := s.writePlain CAL_CTRL.key CAL_CTRL.desc v
     if CAL_CTRL.PEAK_CLR.get v = 1 then s1.peakClear else s1),
   (CMD_TX.desc, fun s m _ v =>
     let s1 := s.writePlain (CMD_TX.key m) CMD_TX.desc v
     if CMD_TX.GO.get v = 1 then s1.txGo m else s1),
   (EVT_CTRL.desc, fun s m _ v =>
     let s1 := s.writePlain (EVT_CTRL.key m) EVT_CTRL.desc v
     if EVT_CTRL.REARM.get v = 1 then s1.rearm m else s1),
   (CVU_S_CFG.desc, fun s u _ v => s.cvuCfgWrite u v),
   (CVU_S_POLY.desc, fun s u _ v => if cvuFixed u then s else s.writePlain (CVU_S_POLY.key u) CVU_S_POLY.desc v),
   (CVU_S_INIT.desc, fun s u _ v => if cvuFixed u then s else s.writePlain (CVU_S_INIT.key u) CVU_S_INIT.desc v),
   (CVU_S_FOLD.desc, fun s u _ v => if cvuFixed u then s else s.writePlain (CVU_S_FOLD.key u) CVU_S_FOLD.desc v),
   (CVU_S_DATA.desc, fun s u _ v => s.cvuData u v),
   (PIN_MON.desc, fun s p _ v =>
     let s1 := s.writePlain (PIN_MON.key p) PIN_MON.desc v
     if PIN_MON.RETRY_NOW.get v = 1 then s1.retryNow p else s1),
   (PIN_GPIO_CFG.desc, fun s k _ v => (s.writePlain (PIN_GPIO_CFG.key k) PIN_GPIO_CFG.desc v).pinCancels),
   (PRT_CNT_LO.desc, fun s p k v => s.writePortCnt p k v 0),
   (PRT_CNT_HI.desc, fun s p k v => s.cntHiWrite p k v),
   (OBS_CNT_LO.desc, fun s n _ v => s.writeObsCnt n v 0),
   (OBS_CNT_HI.desc, fun s n _ v => s.obsHiWrite n v),
   (OBS_CNT_CTRL.desc, fun s _ _ v => if OBS_CNT_CTRL.FREEZE.get v = 1 then s.obsFreeze else s.obsUnfreeze)]

/-! ### Active banks (R57, R412) -/

/-- A write of the active bank of one register of a resource: what its flip does happens at once, and the staged
bank stays as it is. -/
def State.activeWrite (s : State) (ks : List Nat) (flip : State → State) (k : Nat) (v : Word) : State :=
  let saved := ks.map fun r => (r, s.rdStaged r)
  let s1 := s.each ks fun s r => s.wrStaged r (s.rd r)
  let s2 := flip (s1.wrStaged k v)
  s2.each saved fun s e => s.wrStaged e.1 e.2

/-- A mode or lane configuration written directly; a member's PRT_CFG takes no write (R76). -/
def State.activeMode (s : State) (k p : Nat) (v : Word) : State :=
  if s.isMember p ∧ k = PRT_CFG.key p then s
  else
    let n := s.portOfLane p
    let ks := PRT_CFG.key n :: (List.range 4).map fun j => LAN_CFG.key (4 * (n / 4) + j)
    s.activeWrite ks (fun s => s.flipMode n) k v

def State.activeOtu (s : State) (k p : Nat) (v : Word) : State :=
  s.activeWrite [OTN_CFG.key p, OTN_SM_DEG.key p]
    (fun s => (s.flipRegs [OTN_CFG.key p, OTN_SM_DEG.key p]).refreshLaneTest p) k v

/-- A profile or PKT_MIN written directly resizes the port from its next frame. -/
def State.activeAlf (s : State) (k p : Nat) (v : Word) : State :=
  let old := s.alfUse p
  let s1 := s.activeWrite (alfPortRegs p) (fun s => s.flipAlfPort p) k v
  if s1.alfUse p = old then s1 else s1.alfResized p ((s1.pfn p + 1) % 2 ^ 32) old

def State.activeBond (s : State) (k g : Nat) (v : Word) : State :=
  let x := s.bond g
  let s1 := s.updBond g fun x => { x with portsStaged := x.ports, pktMinStaged := x.pktMin }
  (s1.activeWrite [BND_CFG.key g] (fun s => s.flipBond g) k v).updBond g fun y =>
    { y with portsStaged := x.portsStaged, pktMinStaged := x.pktMinStaged }

def State.activeEth (s : State) (k p : Nat) (v : Word) : State :=
  s.activeWrite [ETH_CFG.key p, ETH_FC.key p] (fun s =>
    let s1 := s.flipRegs [ETH_CFG.key p, ETH_FC.key p]
    if s1.on (ETH_CFG.key p) ETH_CFG.RX_FC_EN then s1 else (s1.updEth p fun x => { x with held := [] }).showHeld p) k v

def State.activePair (s : State) (k : Nat) (v : Word) : State :=
  let staged := s.pair.lanesStaged
  let s1 := s.updPair fun x => { x with lanesStaged := x.lanes }
  (s1.activeWrite [CLM_CFG.key, CLM_CFG2.key, CLM_CHIMNEY.key] State.flipPair k v).updPair fun x =>
    { x with lanesStaged := staged }

/-- A register of no further consequence: its words change, its staged bank does not. -/
def State.activePlain (s : State) (k : Nat) (v : Word) : State := s.activeWrite [k] (fun s => s.flipRegs [k]) k v

/-- Registers whose active bank is written alike. -/
def alike (ds : List RegDesc) (f : State → Nat → Nat → Nat → Word → State) :
    List (RegDesc × (State → Nat → Nat → Nat → Word → State)) := ds.map fun d => (d, f)

/-- The double-banked registers of the ports, and what a write of their active bank does. -/
def bankedPorts : List (List (RegDesc × (State → Nat → Nat → Nat → Word → State))) :=
  [alike [PRT_CFG.desc, LAN_CFG.desc] fun s k p _ v => s.activeMode k p v,
   alike [PRT_DAMPER.desc] fun s k _ _ v => s.activePlain k v,
   alike [SDH_CFG.desc, SDH_TX_OH.desc, SDH_SF_CFG.desc, SDH_SD_CFG.desc, SDH_PATH_BER.desc, SDH_J0_EXP.desc,
     SDH_J0_TX.desc] fun s k p _ v => s.activeWrite (sdhSectionRegs p) (fun s => s.flipSection p) k v,
   alike [OTN_CFG.desc, OTN_SM_DEG.desc] fun s k p _ v => s.activeOtu k p v,
   alike [ALF_CFG.desc, ALF_PKT_MIN.desc, ALF_PROF.desc] fun s k p _ v => s.activeAlf k p v,
   alike [ETH_CFG.desc, ETH_FC.desc] fun s k p _ v => s.activeEth k p v]

/-- The same of the groups, the pair, timing and the units. -/
def bankedUnits : List (List (RegDesc × (State → Nat → Nat → Nat → Word → State))) :=
  [alike [BND_CFG.desc] fun s k g _ v => s.activeBond k g v,
   alike [HRP_CFG.desc] fun s k g _ v => s.activeWrite [k] (fun s => s.flipHrp g) k v,
   alike [CLM_CFG.desc, CLM_CFG2.desc, CLM_CHIMNEY.desc] fun s k _ _ v => (s.activePair k v).pinCancels,
   alike [DPL_CFG.desc] fun s k _ _ v => s.activePlain k v,
   alike [DPL_REF_CFG.desc, DPL_PAIR_CFG.desc] fun s k n _ v => s.activeWrite (dplRefRegs n) (fun s => s.flipRef n) k v,
   alike [DPL_CLKOUT.desc] fun s k n _ v => (s.activeWrite [k] (fun s => s.flipClock n) k v).pinCancels,
   alike [DPL_FPOUT.desc] fun s k _ _ v => (s.activePlain k v).pinCancels,
   alike [SYN_SS_CFG.desc] fun s k _ _ v => s.activeWrite [k] State.flipSyn k v,
   alike [HLT_CFG.desc] fun s k _ _ v => s.activePlain k v,
   alike [OBS_TRACE_CFG.desc] fun s k _ _ v => s.activeWrite [k] State.flipTrace k v,
   alike [OBS_FILT.desc, OBS_ADDR_LO.desc, OBS_ADDR_HI.desc, OBS_SAMPLE_CFG.desc] fun s k _ _ v => s.activePlain k v]

/-- The double-banked registers, and what a write of their active bank does. -/
def banked : List (RegDesc × (State → Nat → Nat → Nat → Word → State)) := (bankedPorts ++ bankedUnits).flatten

def isBanked (k : Nat) : Bool := banked.any fun b => (b.1.index k).isSome

/-- A write of a register at its access types, with what it does. -/
def State.writeReg (s : State) (k : Nat) (d : RegDesc) (v : Word) : State :=
  match banked.find? fun b => (b.1.index k).isSome, writers.find? fun w => (w.1.index k).isSome with
  | some b, _ => match b.1.index k with
    | some (i, j) => b.2 s k i j (d.write (s.rd k) v)
    | none => s
  | none, some w => match w.1.index k with
    | some (i, j) => w.2 s i j v
    | none => s
  | none, none => s.writePlain k d v

/-! ### Faults (R419) -/

def fDECODE : Nat := 0
def fRIGHT : Nat := 1
def fWINDOW : Nat := 2
def fLEVEL : Nat := 3
def fPARTIAL : Nat := 4

/-- A fault is recorded; its event comes at step 1 of the next tick. `addr` is the 32-bit bus address. -/
def State.busFault (s : State) (cause bus addr : Nat) (write : Bool) (fn : Nat) : State :=
  let target := addr / 2 ^ 28 % 16
  let info := cause + bus * 8 + target * 64 + bit write * 1024 + (if bus = 0 then fn else 0) * 2048
  let where_ := if target = 0 then addr % 2 ^ 24 else addr % 2 ^ 28 / 16
  let code := if cause = fWINDOW ∨ cause = fLEVEL then 0x81 else 0x80
  let s1 := (s.wr BUS_FAULT_INFO.key (BitVec.ofNat 32 info)).wr BUS_FAULT_ADDR.key (BitVec.ofNat 32 addr)
  let s2 := (s1.put BUS_STATUS.key BUS_STATUS.FAULT_HIST 1).bump BUS_FAULT_CNT.key BUS_FAULT_CNT.COUNT 1
  s2.arrive (.event 361 code true 0 (if code = 0x80 then [where_ + bus * 2 ^ 24 + target * 2 ^ 27] else []))

/-! ### Decoding (R403 to R407) -/

/-- Who makes an access: master of Table 17-10, PCIe function, host master it serves, expert level. -/
structure Req where
  bus : Nat
  fn : Nat
  host : Option Nat
  expert : Bool
  deriving DecidableEq, Repr

/-- Where an address of the register space leads. -/
inductive Place where
  /-- A register, by key. -/
  | reg (k : Nat) (d : RegDesc)
  /-- Reserved, or outside what the port's family selects: reads 0, discards writes. -/
  | blank
  /-- In a power domain that is down. -/
  | down
  /-- CMD_TX_WIN_m at a byte offset. -/
  | window (m off : Nat)
  /-- No address. -/
  | none
  deriving DecidableEq, Repr

/-- The chip-space blocks of Table 17-4 whose unnamed registers fill them. -/
def filledBlocks : List (Nat × Nat) := [(0x0, 0x1FC), (0x1000, 0x137C), (0x12000, 0x120FC), (0x13000, 0x1317C)]

/-- The port of an address in a port bank, and its offset. -/
def portBank (addr : Nat) : Option (Nat × Nat) :=
  if 0x200000 ≤ addr ∧ addr < 0x260000 then some ((addr - 0x200000) / 4096, addr % 4096) else none

/-- Keys of the family window: FAMILY 1 and 2 share the SDH registers (R405). -/
def familyKey (family addr : Nat) : Nat := addr + (if family = 2 then 1 else family) * 0x1000000

/-- The power domain of an address is down: the macro's for LAN_ registers, the framer block's for the other
registers of a port bank but PRT_BANK_STATUS, and for CVU_P. -/
def State.domainDownAt (s : State) (addr : Nat) : Bool :=
  match portBank addr with
  | some (p, off) =>
    if off = 0xC then false
    else if off = 0x10 ∨ off = 0x18 then !s.domainUp (s.laneDomain p)
    else !s.domainUp (domFramer (s.physOf (framerPos p)))
  | none => decide (0x11000 ≤ addr ∧ addr < 0x111C0) && !s.domainUp (domFramer ((addr - 0x11000) / 16))

def keyPlace (k : Nat) (other : Place) : Place :=
  match regOf k with
  | some d => .reg k d
  | none => other

def State.locate (s : State) (addr : Nat) : Place :=
  match portBank addr with
  | some (p, off) =>
    if 0xC0 ≤ off then .none
    else if s.domainDownAt addr then .down
    else if 0x40 ≤ off then keyPlace (familyKey (s.family p) addr) .blank
    else keyPlace addr .blank
  | none =>
    if 0x100000 ≤ addr ∧ addr < 0x200000 then
      if addr % 0x40000 < 0x300 then keyPlace addr .blank else .none
    else if 0xC000 ≤ addr ∧ addr < 0xE000 then .window ((addr - 0xC000) / 4096) (addr % 4096)
    else if s.domainDownAt addr then .down
    else if 0x1000000 ≤ addr then .none
    else keyPlace addr (if filledBlocks.any fun b => decide (b.1 ≤ addr ∧ addr ≤ b.2) then .blank else .none)

/-- The port banks the KX9600-48 lacks read 0 and discard writes (R3). -/
def State.absentBank (s : State) (addr : Nat) : Bool :=
  s.dev.variant48 && match portBank addr with
  | some (p, _) => decide (48 ≤ p)
  | none => false

def State.hitDown (s : State) : State := s.put BUS_STATUS.key BUS_STATUS.DOMAIN_DOWN_HIST 1

/-- A read of the register space: the word, whether it faulted, the state. -/
def State.readAddr (s : State) (q : Req) (addr : Nat) : Word × Bool × State :=
  if addr % 4 ≠ 0 then (0, true, s.busFault fPARTIAL q.bus addr false q.fn)
  else if s.absentBank addr then (0, false, s)
  else
    let s1 := s.obsBus false q.bus addr q.host 1
    match s1.locate addr with
    | .reg k _ => let r := s1.readReg k; (r.1, false, r.2)
    | .blank => (0, false, s1)
    | .down => (0, false, s1.hitDown)
    | .window _ _ => (0, false, s1)
    | .none => (0, true, s1.busFault fDECODE q.bus addr false q.fn)

/-- A write of the register space by a function of what the register holds. -/
def State.writeWith (s : State) (q : Req) (addr : Nat) (v : RegDesc → Word → Word) : Bool × State :=
  let s1 := s.obsBus true q.bus addr q.host 1
  match s1.locate addr with
  | .reg k d =>
    if isBanked k && !q.expert then (true, s1.busFault fLEVEL q.bus addr true q.fn)
    else (false, s1.writeReg k d (v d (s1.shown k)))
  | .blank => (false, s1)
  | .down => (false, s1.hitDown)
  | .window m off => (false, s1.winWrite m off (v ⟨0, 1, 0, 1, 0, [fd 0 32 .wo 0]⟩ 0))
  | .none => (true, s1.busFault fDECODE q.bus addr true q.fn)

/-- A write of the register space; a partial write is a fault (R404). -/
def State.writeAddr (s : State) (q : Req) (addr : Nat) (v : Word) (whole : Bool) : Bool × State :=
  if addr % 4 ≠ 0 ∨ whole = false then (true, s.busFault fPARTIAL q.bus addr true q.fn)
  else if s.absentBank addr then (false, s)
  else s.writeWith q addr fun _ _ => v

/-- One locked read and write of a register (R413). -/
def State.modifyAddr (s : State) (q : Req) (addr : Nat) (mask v : Word) : Bool × State :=
  if s.absentBank addr && decide (addr % 4 = 0) then (false, s)
  else
    let r := s.readAddr q addr
    if r.2.1 then (true, r.2.2)
    else r.2.2.writeWith q addr fun d _ => d.modified r.1 mask v

/-- Several words at ascending addresses: the words, how many faulted, the state. -/
def State.readWords (s : State) (q : Req) (addr : Nat) : Nat → List Word × Nat × State
  | 0 => ([], 0, s)
  | n + 1 =>
    let r := s.readAddr q (addr % 0x1000000)
    let t := r.2.2.readWords q (addr + 4) n
    (r.1 :: t.1, bit r.2.1 + t.2.1, t.2.2)

def State.writeWords (s : State) (q : Req) (addr : Nat) : List Word → State
  | [] => s
  | v :: vs => ((s.writeAddr q (addr % 0x1000000) v true).2).writeWords q (addr + 4) vs

/-! ### Memory targets (R415, R416, R420) -/

/-- Bytes of a target. -/
def State.targetSize (s : State) (t : Nat) : Nat :=
  if t = 1 then 4096 * s.poolPages 0
  else if t = 2 then 4096 * s.poolPages 7
  else if t = 3 then 4096 * s.poolPages 5
  else if t = 4 then 4096 * s.poolPages 6
  else if t = 5 then 16 * s.poolPages 1
  else 0

/-- A byte of a memory target as it reads: what the bus last wrote there; else what the units of the device keep
there, or what the memory held at power-on, which is open. Notes: assumption 6. -/
def State.memByte (s : State) (a : Nat) : Byte × State :=
  match Tbl.find s.bus.mem a with
  | some b => (b, s)
  | none => let f := s.fresh; (BitVec.ofNat 8 f.1, f.2)

/-- Bytes of memory from an address. -/
def State.memBytes (s : State) (a : Nat) : Nat → List Byte × State
  | 0 => ([], s)
  | n + 1 =>
    let r := s.memByte a
    let t := r.2.memBytes (a + 1) n
    (r.1 :: t.1, t.2)

/-- Bytes written into memory. -/
def State.memWrite (s : State) (a : Nat) : List Byte → State
  | [] => s
  | b :: bs => ({ s with bus := { s.bus with mem := Tbl.put s.bus.mem a b } }).memWrite (a + 1) bs

/-- The canonical form of the memory targets: addresses strictly rising. -/
def memoryWf (m : List Host.Cell) : Bool := Tbl.sorted m

/-- The bus address of a target's offset. -/
def busAddr (target off : Nat) : Nat := target * 2 ^ 28 + off

/-- The lowest enabled window over an aperture offset: its number, target and target offset (R420). -/
def State.windowAt (s : State) (o : Nat) : Option (Nat × Nat × Nat) :=
  ((List.range 16).find? fun n =>
    let b := s.get (BUS_WIN_BASE.key n) BUS_WIN_BASE.BASE * 65536
    let t := s.get (BUS_WIN_CTRL.key n) BUS_WIN_CTRL.TARGET
    decide (1 ≤ t ∧ t ≤ 5 ∧ b ≤ o ∧ o < b + s.get (BUS_WIN_SIZE.key n) BUS_WIN_SIZE.SIZE * 65536)).map fun n =>
      (n, s.get (BUS_WIN_CTRL.key n) BUS_WIN_CTRL.TARGET,
        s.get (BUS_WIN_TOFF.key n) BUS_WIN_TOFF.TOFF * 65536 + o - s.get (BUS_WIN_BASE.key n) BUS_WIN_BASE.BASE * 65536)

/-- The right of a function at a window. -/
def State.windowRight (s : State) (n fn : Nat) (write : Bool) : Bool :=
  (s.rd (BUS_WIN_CTRL.key n)).getLsbD (4 + 2 * fn + bit write)

/-- An access through the aperture of function `fn`. -/
def State.windowAccess (s : State) (fn off : Nat) (wr : Option Word) : Word × State :=
  match s.windowAt off with
  | none => (0, s.busFault fWINDOW 0 off wr.isSome fn)
  | some (n, t, o) =>
    if s.windowRight n fn wr.isSome = false then (0, s.busFault fWINDOW 0 off wr.isSome fn)
    else
      let s1 := s.obsBus wr.isSome 0 (busAddr t o) (some fn) 1
      let inside := min 4 (s1.targetSize t - o)
      let late := fun (s : State) => if inside < 4 then s.busFault fDECODE 0 (busAddr t o) wr.isSome fn else s
      match wr with
      | some v =>
        if (t = 1 ∨ t = 5) ∧ (s1.master fn).expert = false then (0, s1.busFault fLEVEL 0 (busAddr t o) true fn)
        else (0, late (s1.memWrite (busAddr t o) ((beBytes 4 v.toNat).take inside)))
      | none =>
        let r := s1.memBytes (busAddr t o) inside
        (BitVec.ofNat 32 (beVal (r.1 ++ List.replicate (4 - inside) 0)), late r.2)

/-! ### The expert commands (R413, R414, Table 17-8) -/

/-- The command processor on behalf of a host master. -/
def cmdReq (p : Packet) : Req := ⟨2, 0, some p.master, true⟩

def addrField (off : Nat) : LField := such off 4 fun v => decide (v < 0x1000000)

def regReadFault (bs : List Byte) : Option Nat := layoutFault bs 8 [addrField 0, within 4 2 1 1000, rsv 6 2]

def State.regRead (s : State) (p : Packet) : Verdict :=
  let r := s.readWords (cmdReq p) (p.fld 0 4) (p.fld 4 2)
  .answer stOK (beBytes 4 r.2.1 ++ r.1.flatMap fun (w : Word) => beBytes 4 w.toNat) r.2.2

/-- A list of `size`-byte entries led by a count of 1 to `most` and 2 reserved bytes, each led by an address. -/
def entriesFault (bs : List Byte) (most size : Nat) : Option Nat :=
  layoutFault bs (4 + size * fieldAt bs 0 2)
    ([within 0 2 1 most, rsv 2 2] ++ (List.range (min most (fieldAt bs 0 2))).map fun i => addrField (4 + size * i))

def regWriteFault (bs : List Byte) : Option Nat := entriesFault bs 500 8
def regModifyFault (bs : List Byte) : Option Nat := entriesFault bs 300 12

/-- The entries in payload order, with the count of those that fault. -/
def State.regEntries (s : State) (p : Packet) (one : State → Nat → Bool × State) : Nat × State :=
  (List.range (p.fld 0 2)).foldl (fun (a : Nat × State) i => let r := one a.2 i; (a.1 + bit r.1, r.2)) (0, s)

def State.regWrite (s : State) (p : Packet) : Nat × State :=
  s.regEntries p fun s i => s.writeAddr (cmdReq p) (p.fld (4 + 8 * i) 4) (BitVec.ofNat 32 (p.fld (8 + 8 * i) 4)) true

def State.regModify (s : State) (p : Packet) : Nat × State :=
  s.regEntries p fun s i => s.modifyAddr (cmdReq p) (p.fld (4 + 12 * i) 4)
    (BitVec.ofNat 32 (p.fld (8 + 12 * i) 4)) (BitVec.ofNat 32 (p.fld (12 + 12 * i) 4))

/-- An immediate write is committed in the step 1 that takes it; a scheduled one at step 2 of its tick. -/
def State.regCommit (p : Packet) (s : State) (go : State → Nat × State) : Verdict :=
  if keyOf p = .immediate then
    let r := go s
    .answer stOK (beBytes 4 r.1) r.2
  else .accept s

def State.regWriteAdmit (s : State) (p : Packet) : Verdict := State.regCommit p s fun s => s.regWrite p
def State.regModifyAdmit (s : State) (p : Packet) : Verdict := State.regCommit p s fun s => s.regModify p
def State.regWriteRun (s : State) (p : Packet) : Done := let r := s.regWrite p; okWith r.2 (beBytes 4 r.1)
def State.regModifyRun (s : State) (p : Packet) : Done := let r := s.regModify p; okWith r.2 (beBytes 4 r.1)

/-- PAGE below the pool's size, OFFSET and LENGTH within the page, LENGTH from 1 to `most`. -/
def State.ctxFields (s : State) (bs : List Byte) (most : Nat) : List LField :=
  [such 0 2 fun v => decide (v < 32 * s.poolBanks 0), below 2 2 4096,
   such 4 2 fun v => decide (1 ≤ v ∧ v ≤ most ∧ fieldAt bs 2 2 + v ≤ 4096), rsv 6 2]

def State.ctxReadFault (s : State) (bs : List Byte) : Option Nat := layoutFault bs 8 (s.ctxFields bs 4048)
def State.ctxWriteFault (s : State) (bs : List Byte) : Option Nat :=
  layoutFault bs (8 + fieldAt bs 4 2) (s.ctxFields bs 4060)

def ctxAddr (p : Packet) : Nat := busAddr 1 (4096 * p.fld 0 2 + p.fld 2 2)

/-- Beats of 16 bytes that an access of `n` bytes takes. -/
def beats (off n : Nat) : Nat := (off % 16 + n + 15) / 16

def State.ctxRead (s : State) (p : Packet) : Verdict :=
  let s1 := s.obsBus false 2 (ctxAddr p) (some p.master) (beats (p.fld 2 2) (p.fld 4 2))
  let r := s1.memBytes (ctxAddr p) (p.fld 4 2)
  .answer stOK r.1 r.2

def State.ctxWrite (s : State) (p : Packet) : State :=
  (s.obsBus true 2 (ctxAddr p) (some p.master) (beats (p.fld 2 2) (p.fld 4 2))).memWrite (ctxAddr p)
    ((p.payload.drop 8).take (p.fld 4 2))

def State.ctxWriteAdmit (s : State) (p : Packet) : Verdict :=
  if keyOf p = .immediate then .answer stOK [] (s.ctxWrite p) else .accept s
def State.ctxWriteRun (s : State) (p : Packet) : Done := okDone (s.ctxWrite p)

/-! ### Rows -/

/-- The function whose rights an origin has. -/
def originFn : Origin → Nat
  | .pcie f => f.val
  | .spi => 0

/-- The host port engine on behalf of an origin. -/
def State.hostReq (s : State) (o : Origin) : Req := ⟨0, originFn o, some (originFn o), (s.master (originFn o)).expert⟩

/-- An access that a device held in reset does not see (R452). -/
def State.alive (s : State) (f : State → State) : State := if s.dev.boot = .held then s else f s

/-- What the last host read returned. -/
def State.returns (s : State) (ws : List Word) : State := s.updPins fun x => { x with lastRead := ws }

/-- A read of one register by its key, through the host port. -/
def State.hostRead (s : State) (addr : Nat) : State :=
  s.alive fun s => let r := s.readAddr (s.hostReq (.pcie 0)) addr; r.2.2.returns [r.1]

def State.spiReads (s : State) (addr words : Nat) : State :=
  s.alive fun s => let r := s.readWords (s.hostReq .spi) addr words; r.2.2.returns r.1

/-- SPI writes; a word left incomplete is a fault of cause 4 (R485). -/
def State.spiWrites (s : State) (addr : Nat) (words : List Word) (cut : Bool) : State :=
  s.alive fun s =>
    let s1 := s.writeWords (s.hostReq .spi) addr words
    if cut then (s1.writeAddr (s1.hostReq .spi) ((addr + 4 * words.length) % 0x1000000) 0 false).2 else s1

def execRegisterWrite (o : Origin) (addr : BitVec 24) (v : Word) (byteEn : BitVec 4) (s : State) :
    Host.Outcome State Fault Refusal :=
  .next (s.alive fun s => (s.writeAddr (s.hostReq o) addr.toNat v (decide (byteEn = 0xF))).2).settle

def execQdataHiRead (q : Fin 8) (s : State) : Host.Outcome State Fault Refusal :=
  .next (s.hostRead (SYS_QDATA_HI.key q)).settle

def execSfnLoRead (s : State) : Host.Outcome State Fault Refusal := .next (s.hostRead SYS_SFN_LO.key).settle

def execTodLoRead (s : State) : Host.Outcome State Fault Refusal := .next (s.hostRead SYS_TOD_LO.key).settle

def execPrtCntLoRead (p : Port) (k : Fin 4) (s : State) : Host.Outcome State Fault Refusal :=
  .next (s.hostRead (PRT_CNT_LO.key p k)).settle

/-- The write reaches the counter as any write does; the increments of its cycle are added to it (R278). -/
def execPrtCntLoWrite (p : Port) (k : Fin 4) (v : Word) (inc : Nat) (s : State) : Host.Outcome State Fault Refusal :=
  .next (s.alive fun s => ((s.writeAddr (s.hostReq (.pcie 0)) (PRT_CNT_LO.key p k) v true).2).countPort p k inc).settle

def execObsCycleLoRead (s : State) : Host.Outcome State Fault Refusal := .next (s.hostRead OBS_CYCLE_LO.key).settle

def execObsCntLoRead (n : Fin 8) (s : State) : Host.Outcome State Fault Refusal :=
  .next (s.hostRead (OBS_CNT_LO.key n)).settle

def execObsCntLoWrite (n : Fin 8) (v : Word) (inc : Nat) (s : State) : Host.Outcome State Fault Refusal :=
  .next (s.alive fun s => s.writeObsCnt n v inc).settle

def execQueueLevelWrite (q : Fin 8) (level : BitVec 14) (s : State) : Host.Outcome State Fault Refusal :=
  .next (s.alive fun s => s.levelWrite q level.toNat).settle

def execQueueLegacyChange (q : Fin 8) (on : Bool) (s : State) : Host.Outcome State Fault Refusal :=
  .next (s.alive fun s => s.legacyWrite q on).settle

def execQueueReset (q : Fin 8) (s : State) : Host.Outcome State Fault Refusal :=
  .next (s.alive fun s => s.resetQueue q).settle

def execPeakClr (s : State) : Host.Outcome State Fault Refusal := .next (s.alive State.peakClear).settle

def execCmdTxGo (m : Fin 2) (len : BitVec 13) (s : State) : Host.Outcome State Fault Refusal :=
  .next (s.alive fun s => (s.put (CMD_TX.key m) CMD_TX.LENGTH len.toNat).txGo m).settle

def execEvtRearm (m : Fin 2) (s : State) : Host.Outcome State Fault Refusal :=
  .next (s.alive fun s => s.rearm m).settle

def execEvtMaskWrite (m : Fin 2) (k : Fin 12) (v : Word) (s : State) : Host.Outcome State Fault Refusal :=
  .next (s.alive fun s => s.wr (EVT_MASK.key m k) v).settle

def execCvuStart (u : Fin 16) (s : State) : Host.Outcome State Fault Refusal :=
  .next (s.alive fun s => s.cvuStart u).settle

def execCvuDataWrite (u : Fin 16) (v : Word) (s : State) : Host.Outcome State Fault Refusal :=
  .next (s.alive fun s => s.cvuData u v).settle

def execWindowAccess (fn : Fin 2) (off : BitVec 28) (wr : Option Word) (s : State) : Host.Outcome State Fault Refusal :=
  .next (s.alive fun s =>
    let r := s.windowAccess fn off.toNat wr
    if wr.isSome then r.2 else r.2.returns [r.1]).settle

def execSpiRead (addr : BitVec 24) (words : Nat) (s : State) : Host.Outcome State Fault Refusal :=
  .next (s.spiReads addr.toNat words).settle

def execSpiWrite (addr : BitVec 24) (words : List Word) (cut : Bool) (s : State) : Host.Outcome State Fault Refusal :=
  .next (s.spiWrites addr.toNat words cut).settle

def execSpiQuadRead (addr : BitVec 24) (words : Nat) (s : State) : Host.Outcome State Fault Refusal :=
  .next (s.spiReads addr.toNat words).settle

def execSpiQuadWrite (addr : BitVec 24) (words : List Word) (cut : Bool) (s : State) : Host.Outcome State Fault Refusal :=
  .next (s.spiWrites addr.toNat words cut).settle

/-- PCIE_PERST_N resets the endpoint only: a packet whose GO has not been written is discarded (R484). -/
def execPciePerst (s : State) : Host.Outcome State Fault Refusal :=
  .next (s.each [0, 1] fun s m => s.updMaster m fun x => { x with window := [] }).settle

def execQueuePtrMismatch (q : Fin 8) (s : State) : Host.Outcome State Fault Refusal :=
  .next (s.alive fun s => s.ptrMismatch q).settle

end Sys2Proof.Machine
end

