-- ==== Sys2Proof/Machine/Firmware.lean ====
section
/-! DEFINITION. Start-up and firmware upgrade (20_startup_and_upgrade): reset and the ROM loader (R452 to
R454), the image and its checks (R455, R456), loading (R457, R458), and the restart under traffic (R459 to
R461). -/

namespace Sys2Proof.Machine

def State.updFw (s : State) (f : FwSt → FwSt) : State := { s with fw := f s.fw }

/-! ### Slots -/

def FwSt.slot (f : FwSt) (n : Nat) : Tbl Byte := if n = 0 then f.slot0 else f.slot1
def FwSt.freeSlot (f : FwSt) : Nat := 1 - f.running
def FwSt.setSlot (f : FwSt) (n : Nat) (t : Tbl Byte) : FwSt :=
  if n = 0 then { f with slot0 := t } else { f with slot1 := t }

def slotBytes (t : Tbl Byte) (off n : Nat) : List Byte := (List.range n).map fun i => t.getD (off + i) 0
def slotField (t : Tbl Byte) (off n : Nat) : Nat := beVal (slotBytes t off n)

/-- Bytes written at an offset of a slot. -/
def slotPut (t : Tbl Byte) (off : Nat) : List Byte → Tbl Byte
  | [] => t
  | b :: bs => slotPut (t.store off b 0) (off + 1) bs

/-- Every byte from `at_` up to `len` lies in one of the ranges, taken by rising start. -/
def covered (len at_ : Nat) : List (Nat × Nat) → Bool
  | [] => decide (len ≤ at_)
  | r :: t => if r.1 ≤ at_ then covered len (max at_ (r.1 + r.2)) t else decide (len ≤ at_)

/-! ### Image checks (Tables 20-2, 20-3) -/

def imageMin : Nat := 256
def imageMax : Nat := 196608
def imageLenOk (n : Nat) : Bool := decide (n % 8 = 0 ∧ imageMin ≤ n ∧ n ≤ imageMax)

/-- MAGIC, HDR_VER and the reserved header fields. -/
def headerOk (t : Tbl Byte) : Bool :=
  decide (slotField t 0 4 = 0x52484133 ∧ slotField t 4 1 = 1 ∧ slotField t 5 1 = 0 ∧ slotField t 16 1 < 4 ∧
    slotField t 24 40 = 0)

/-- The image in the slot may run on this device. -/
def State.variantOk (s : State) (t : Tbl Byte) : Bool :=
  (slotField t 16 1).testBit (bit s.dev.variant48) && decide (slotField t 17 1 ≤ s.dev.stepping.toNat)

/-- BODY_CRC over the body: between header and trailer. -/
def bodyCrcOk (t : Tbl Byte) : Bool :=
  decide (crc32c.of (slotBytes t 64 (slotField t 8 4 - 192)) = slotField t 20 4)

/-- The cause of the first failing check, 0 when the image passes; the key and signature outcomes come from
outside. -/
def State.imageCause (s : State) (o : ImageOutcome) : Nat :=
  let t := s.fw.slot s.fw.freeSlot
  let len := slotField t 8 4
  if !headerOk t then 1
  else if !imageLenOk len || decide (len ≠ s.fw.imageLen) then 2
  else if !covered len 0 (sortBy Prod.fst s.fw.written) then 3
  else if !s.variantOk t then 4
  else if slotField t 6 2 / 4096 ≠ 3 then 5
  else if !bodyCrcOk t then 6
  else if !o.keyHashOk then 7
  else if !o.sigOk then 8
  else 0

/-- A failed check leaves its cause and REJECT_HIST. -/
def State.rejectImage (s : State) (cause : Nat) : State :=
  (s.put SYS_FW_STATUS.key SYS_FW_STATUS.REJECT_CAUSE cause).put SYS_FW_STATUS.key SYS_FW_STATUS.REJECT_HIST 1

/-- Source of start-up events and their codes (Table 16-1). -/
def srcFw : Nat := 371
def eRESTART_BEGIN : Nat := 0x80
def eRESTART_DONE : Nat := 0x81
def eIMAGE_REJECTED : Nat := 0x82

/-- The checks that FW_LOAD_END started end (R456, Table 20-5). -/
def State.verifyDone (s : State) (o : ImageOutcome) : State :=
  match s.running resFw with
  | none => s
  | some _ =>
    if s.loadState ≠ fwVerifying then s
    else
      let c := s.imageCause o
      if c = 0 then (s.setLoad fwReady).finishLong resFw stOK 0 []
      else (((s.rejectImage c).setLoad fwIdle).event srcFw eIMAGE_REJECTED true 0).finishLong resFw stBAD_PARAM 0 []

/-! ### Loading -/

def fwBeginFault (bs : List Byte) : Option Nat := layoutFault bs 8 [such 0 4 imageLenOk, rsv 4 4]

/-- FW_LOAD_BEGIN is accepted in idle, loading and ready (Table 20-5). -/
def State.fwBeginAdmit (s : State) (_p : Packet) : Verdict :=
  if s.loadState = fwVerifying ∨ s.loadState = fwActivating then .refuse stBUSY 0 [] else .accept s

def State.fwBeginRun (s : State) (p : Packet) : Done :=
  if (s.running resFw).isSome ∨ s.loadState = fwActivating then failDone s stBUSY 0
  else okDone ((s.updFw fun f =>
    { (f.setSlot f.freeSlot []) with written := [], imageLen := p.fld 0 4 }).setLoad fwLoading)

/-- FW_LOAD_DATA carries 8 to 4,056 bytes of DATA, a multiple of 8. -/
def fwDataFault (bs : List Byte) : Option Nat :=
  firstOf [layoutFault (bs.take 8) 8 [rsv 4 4],
    if bs.length < 16 then some bs.length
    else if 4064 < bs.length then some 4064
    else if bs.length % 8 ≠ 0 then some (bs.length / 8 * 8)
    else none]

def State.fwDataBeyond (s : State) (p : Packet) : Bool :=
  decide (s.fw.imageLen < p.fld 0 4 + (p.payload.length - 8))

def State.fwDataAdmit (s : State) (p : Packet) : Verdict :=
  if s.loadState ≠ fwLoading then .refuse stBUSY 0 []
  else if s.fwDataBeyond p then Verdict.bad 0
  else .accept s

def State.fwDataRun (s : State) (p : Packet) : Done :=
  if (s.running resFw).isSome ∨ (s.loadState ≠ fwLoading ∧ s.loadState ≠ fwVerifying) then failDone s stBUSY 0
  else if s.fwDataBeyond p then failDone s stBAD_PARAM (payloadDetail 0)
  else
    let off := p.fld 0 4
    let bs := p.payload.drop 8
    okDone (s.updFw fun f =>
      { (f.setSlot f.freeSlot (slotPut (f.slot f.freeSlot) off bs)) with written := f.written ++ [(off, bs.length)] })

def fwPlainFault (bs : List Byte) : Option Nat := layoutFault bs 4 [rsv 0 4]

/-- FW_LOAD_END: the state is verifying from its acceptance (Table 20-6). -/
def State.fwEndAdmit (s : State) (_p : Packet) : Verdict :=
  if s.loadState ≠ fwLoading then .refuse stBUSY 0 [] else .accept (s.setLoad fwVerifying)

def State.fwEndRun (s : State) (p : Packet) (creation : Option Nat) : Done :=
  s.long resFw p creation fun s => runsOn (s.setLoad fwVerifying)

/-- FW_ACTIVATE: a running image's STATE_VER must match (R459); the state is activating from acceptance. -/
def State.fwActivateAdmit (s : State) (_p : Packet) : Verdict :=
  if s.loadState ≠ fwReady then .refuse stBUSY 0 []
  else if s.on SYS_FW_STATUS.key SYS_FW_STATUS.RUNNING ∧
      slotField (s.fw.slot s.fw.freeSlot) 18 2 ≠ s.get SYS_FW_STATUS.key SYS_FW_STATUS.STATE_VER then
    .answer stBAD_PARAM [] (s.rejectImage 9)
  else .accept (s.setLoad fwActivating)

def State.fwActivateRun (s : State) (p : Packet) (creation : Option Nat) : Done :=
  s.long resFw p creation fun s => runsOn ((s.updFw fun f => { f with activate := true }).setLoad fwActivating)

/-- FW_STATUS: load state, REJECT_CAUSE, two reserved bytes, the header of each slot. Notes: assumption 10. -/
def State.fwStatus (s : State) (_p : Packet) : Verdict :=
  .answer stOK (beBytes 1 s.loadState ++ beBytes 1 (s.get SYS_FW_STATUS.key SYS_FW_STATUS.REJECT_CAUSE) ++ [0, 0] ++
    slotBytes s.fw.slot0 0 64 ++ slotBytes s.fw.slot1 0 64) s

/-! ### Start and restart -/

/-- The TAP locks at the first activation that starts firmware (R464). -/
def State.lockTap (s : State) : State :=
  if s.tapLocked then s else (s.tapResets).put SYS_BOOT_STATUS.key SYS_BOOT_STATUS.TAP_LOCKED 1

/-- The end of step 2 of tick T: an activation that has fallen due starts the image; where firmware runs, it
stops (R459). -/
def State.fwStart (s : State) : State :=
  if !s.fw.activate then s
  else
    let s1 := (s.updFw fun f =>
      { f with activate := false, starting := true, up := false, startTick := s.dev.ticks }).lockTap
    if s1.on SYS_FW_STATUS.key SYS_FW_STATUS.RUNNING then
      let s2 := (s1.event srcFw eRESTART_BEGIN true 0).put CMD_STATUS.key CMD_STATUS.RESTARTING 1
      { s2 with dev := { s2.dev with boot := .restarting } }
    else s1

/-- Completions held during the restart leave in order (R460). -/
def State.releaseHeld (s : State) : State :=
  let held := s.cmd.held
  ({ s with cmd := { s.cmd with held := [] } }).each held State.emit

/-- The restart ends: RESTART_DONE, the activation's completion, the held completions. -/
def State.restartEnds (s : State) (status : Nat) : State :=
  let s1 := ((s.updFw fun f => { f with starting := false, up := false }).put CMD_STATUS.key CMD_STATUS.RESTARTING 0)
  (((s1.setLoad fwIdle).event srcFw eRESTART_DONE true 0).finishLong resFw status 0 []).releaseHeld

/-- The image in a slot runs. -/
def State.imageRuns (s : State) (n : Nat) : State :=
  let t := s.fw.slot n
  let s1 := s.updFw fun f => { f with running := n, started := true }
  let s2 := ((s1.put SYS_IDENT.key SYS_IDENT.FW_VERSION (slotField t 6 2)).put SYS_FW_STATUS.key
    SYS_FW_STATUS.RUNNING 1).put SYS_FW_STATUS.key SYS_FW_STATUS.STATE_VER (slotField t 18 2)
  { s2 with dev := { s2.dev with boot := .running } }

/-- The first tick after the new image starts (R459). The first start of firmware finds the power domains up. -/
def State.fwDone (s : State) : State :=
  if s.fw.starting && s.fw.up then
    let first := !s.on SYS_FW_STATUS.key SYS_FW_STATUS.RUNNING
    let s1 := s.imageRuns s.fw.freeSlot
    (if first then s1.bootDomains else s1).restartEnds stOK
  else s

/-- The new image starts from its slot. -/
def State.imageStart (s : State) : State :=
  if s.fw.starting then s.updFw fun f => { f with up := true } else s

/-- The old image, or the ROM responder at a first start, serves again; the rejected image stays in the free
slot (R461). -/
def State.fallBack (s : State) : State :=
  if s.fw.starting && !s.fw.up then
    let s1 := s.put SYS_FW_STATUS.key SYS_FW_STATUS.FALLBACK_HIST 1
    let back : Boot := if s1.on SYS_FW_STATUS.key SYS_FW_STATUS.RUNNING then .running else .rom
    let s2 := { s1 with dev := { s1.dev with boot := back } }
    s2.restartEnds stBUSY
  else s

/-- 250 ms of T without a start (R461). -/
def fallbackTicks : Nat := 2000

def State.fallBackDue (s : State) : State :=
  if s.fw.starting && !s.fw.up && decide (s.fw.startTick + fallbackTicks ≤ s.dev.ticks) then s.fallBack else s

/-! ### Reset (R452, R453) -/

/-- RESET_N low: everything but the fuses is at its reset value. The queue of waiting commands and the model's
own counter are no part of the device. -/
def State.resetDevice (s : State) : State :=
  { State.reset with
    pending := s.pending
    dev := { s.dev with boot := .held, ticks := 0, coreBypass := true } }

/-- The rising edge of RESET_N: BOOT_SEL is sampled, and the ROM loader applies the fused repairs. -/
def State.bootRom (s : State) (sel : Nat) : State :=
  if s.dev.boot ≠ .held then s
  else
    let k := SYS_BOOT_STATUS.key
    let s1 := ((s.put k SYS_BOOT_STATUS.BOOT_SEL sel).put k SYS_BOOT_STATUS.GATEWAY (bit (decide (sel = 0 ∨ sel = 2)))).put
      k SYS_BOOT_STATUS.BAD_BOOT_SEL (bit (decide (sel = 3)))
    let s2 := (s1.each s1.dev.fuseRepairs fun s r => s.applyRepair { r with fused := true }).put k
      SYS_BOOT_STATUS.FUSE_REPAIRS (min 255 s1.dev.fuseRepairs.length)
    let next : Boot := if sel = 3 then .stopped else .rom
    { s2 with dev := { s2.dev with boot := next } }

/-! ### Rows -/

def execResetNAssert (s : State) : Host.Outcome State Fault Refusal := .next s.resetDevice.settle

def execResetNRelease (bootSel : BitVec 2) (s : State) : Host.Outcome State Fault Refusal :=
  .next (s.bootRom bootSel.toNat).settle

def execFwVerifyDone (o : ImageOutcome) (s : State) : Host.Outcome State Fault Refusal := .next (s.verifyDone o).settle

def execFwImageStart (s : State) : Host.Outcome State Fault Refusal := .next s.imageStart.fwDone.settle

def execFwFallback (s : State) : Host.Outcome State Fault Refusal := .next s.fallBack.settle

end Sys2Proof.Machine
end

