-- ==== Sys2Proof/Machine/System.lean ====
section
/-! DEFINITION. The system commands (chapters 02 and 14): levels and master claims (R355 to R358), time (R63 to
R67, R495), staged banks (R56), cancels (R53), leases (R360 to R363), the queues by command (R240, R448), the
KX4800 legacy commands (R371), the stoker's query, and the message-signalled interrupt that waited (R400). -/

namespace Sys2Proof.Machine

/-! ### Levels and master claims -/

def setLevelFault (bs : List Byte) : Option Nat := layoutFault bs 4 [below 0 1 2, rsv 1 3]

/-- The level of the sending master. -/
def State.setLevelRun (s : State) (p : Packet) : Done :=
  let on := decide (p.fld 0 1 = 1)
  if (s.master p.master).expert = on then okDone s
  else okDone ((s.updMaster p.master fun x => { x with expert := on }).event 260 0x80 true p.master)

/-- Equal claims are a fault of CLAIM_M1. -/
def setClaimFault (bs : List Byte) : Option Nat :=
  layoutFault bs 4 [below 0 1 16, such 1 1 (fun v => decide (v < 16 ∧ v ≠ fieldAt bs 0 1)), rsv 2 2]

def State.setClaimAdmit (s : State) (p : Packet) : Verdict :=
  if s.highMaster = p.master then .accept s else .refuse stCONFLICT 0 []

def State.setClaimRun (s : State) (p : Packet) : Done :=
  let k := CMD_CFG.key
  let s1 := (s.put k CMD_CFG.CLAIM_M0 (p.fld 0 1)).put k CMD_CFG.CLAIM_M1 (p.fld 1 1)
  okDone (if s1.rd k = s.rd k then s else s1.event 260 0x81 true 0)

/-! ### System time -/

/-- VALUE, MODE, reserved; in mode 1 VALUE is a multiple of 8,000 (R495). -/
def setSfnFault (bs : List Byte) : Option Nat :=
  layoutFault bs 8 [such 0 6 (fun v => decide (fieldAt bs 6 1 = 1 → v % 8000 = 0)), below 6 1 2, rsv 7 1]

def epochFault (bs : List Byte) : Option Nat := layoutFault bs 8 [rsv 6 2]

/-- Only the ring root takes SET_SFN and EPOCH_RESTART (R63). -/
def State.rootAdmit (s : State) (_p : Packet) : Verdict :=
  if s.isGateway then .accept s else .refuse stBAD_PARAM 0 []

/-- The entry is keyed to an SFN from `n` up to but not including `v`. -/
def Entry.keyedIn (e : Entry) (n v : Nat) : Bool :=
  match e.key with
  | .sfn k => decide (n ≤ k ∧ k < v)
  | .port _ _ => false

/-- The entries keyed to skipped values: they execute in this step 2 with SKIPPED (R64). -/
def State.skipTo (s : State) (n v : Nat) : State :=
  let es := s.cal.entries.map fun e => if e.keyedIn n v && !e.armed then { e with skipped := true } else e
  { s with cal := { s.cal with entries := es } }

/-- The second in progress closes where the SFN jumps forward (R288). -/
def State.closeJump (s : State) (n v : Nat) : State :=
  (if n % 8000 = 0 then s.closeSeconds (n / 8000 - 1) v true
   else s.rotateSecond.closeSeconds (n / 8000) v true).closeHealth

/-- The tick carries `v` in place of its natural SFN. -/
def State.jumpSfn (s : State) (v : Nat) : State :=
  let n := s.time.sfn
  let s1 := (s.skipTo n v).closeJump n v
  ({ s1 with time := { s1.time with sfn := v } }).event 257 0x80 true 0

/-- SET_SFN applies (R64). -/
def State.applySfn (s : State) (v : Nat) : Done :=
  if v < s.time.sfn then failDone s stBACKWARD 0
  else if v = s.time.sfn then okDone s
  else okDone (s.jumpSfn v)

/-- A mode 1 SET_SFN is armed, and replaces the one armed before it (R495). -/
def State.armSfn (s : State) (p : Packet) (creation : Option Nat) : State :=
  let s1 := match s.time.armed with
    | some (q, c) =>
      let t := match c with | some n => s.removeEntry n | none => s
      t.complete q c stSUPERSEDED 0 0 []
    | none => s
  { s1 with time := { s1.time with armed := some (p, creation) } }

def State.setSfnRun (s : State) (p : Packet) (creation : Option Nat) : Done :=
  if p.fld 6 1 = 1 then runsOn (s.armSfn p creation) else s.applySfn (p.fld 0 6)

/-- EPOCH_RESTART (R65). -/
def State.epochRun (s : State) (p : Packet) : Done := okDone (s.restartEpoch (s.time.epoch + 1) (p.fld 0 6))

def todFault (bs : List Byte) : Option Nat :=
  layoutFault bs 8 [such 0 8 fun v => decide (v % 2 ^ 30 < 1000000000)]

/-- SET_TOD_LABEL (R67). -/
def State.todRun (s : State) (p : Packet) : Done :=
  okDone (({ s with time := { s.time with tod := p.fld 0 8, labelGen := (s.time.labelGen + 1) % 256 } }).event
    257 0x82 true 0)

/-! ### Resource descriptors -/

/-- A descriptor that names a resource of Table 14-7. -/
def resOk (cls sub index : Nat) : Bool :=
  if cls = 1 then decide (sub = 0 ∧ index < 96)
  else if cls = 2 then decide (sub = 0 ∧ index < 40960)
  else if cls = 3 then decide (1 ≤ sub ∧ sub ≤ 5)
  else if cls = 4 then decide (sub = 0 ∧ index < 12)
  else if cls = 5 then decide (sub = 0 ∧ index < 24)
  else if cls = 6 ∨ cls = 7 then decide (sub < 8 ∧ index < 64)
  else if cls = 8 then decide (sub = 0 ∧ index < 4)
  else if cls = 0x0A then decide (sub = 0 ∧ index < 12)
  else if cls = 0x0B then decide (sub = 0 ∧ index < 8)
  else if cls = 0x0E then decide (sub = 0 ∧ index < 16)
  else decide (9 ≤ cls ∧ cls ≤ 0x13 ∧ sub = 0 ∧ index = 0)

/-- The fields of a descriptor at an offset; `all` admits CLASS 0xFF. -/
def resFields (bs : List Byte) (off : Nat) (all : Bool) : List LField :=
  let cls := fieldAt bs off 1
  let sub := fieldAt bs (off + 1) 1
  let whole := all && decide (cls = 0xFF)
  [such off 1 (fun c => decide (1 ≤ c ∧ c ≤ 0x13) || whole),
   such (off + 1) 1 (fun v => if whole then decide (v = 0)
     else decide (cls = 6 ∨ cls = 7) && decide (v < 8) || decide (cls = 3 ∧ 1 ≤ v ∧ v ≤ 5) ||
       decide (cls ≠ 3 ∧ cls ≠ 6 ∧ cls ≠ 7 ∧ v = 0)),
   such (off + 2) 2 (fun i => if whole then decide (i = 0) else resOk cls sub i)]

/-! ### COMMIT_STAGED (R56, R492) -/

def commitFault (bs : List Byte) : Option Nat :=
  let n := fieldAt bs 2 2
  layoutFault bs (4 + 4 * n) ([below 0 1 2, rsv 1 1, within 2 2 1 500] ++
    (List.range (min n 500)).flatMap fun i => resFields bs (4 + 4 * i) false)

/-- The entities of a port whose staged configuration differs from the active one. -/
def State.stagedPaths (s : State) (p : Nat) : List Nat :=
  (s.paths.filter fun e => decide (e.1 / 256 = p) && decide (e.2.staged ≠ e.2.cfg)).map Prod.fst
def State.stagedOdus (s : State) (p : Nat) : List Nat :=
  (s.odus.filter fun e => decide (e.1 / 256 = p) && decide (e.2.staged ≠ e.2.cfg)).map Prod.fst
def State.stagedContainers (s : State) (p : Nat) : List Nat :=
  (s.containers.filter fun e => decide (e.1 / 256 = p) && decide (e.2.staged ≠ e.2.types)).map Prod.fst
def State.stagedTribs (s : State) (p : Nat) : List Nat :=
  (s.tribs.filter fun e => decide (e.1 / 2 ^ 24 = p) && decide (e.2.staged ≠ e.2.cfg)).map Prod.fst

/-- What a port's staged banks hold flips; the banks of an ALF port that R175 keys to its frames stay. -/
def State.commitPort (s : State) (p : Nat) (tag : Option (Nat × Nat)) : State :=
  let s1 := s.flipMode p
  let s2 := if s1.isSdh p then s1.flipSection p else if s1.isOtn p then s1.flipOtu p
    else if s1.isEth p then (s1.flipEth p tag).flipVlans [p] else s1
  let s3 := s2.each (s2.stagedPaths p) fun s k => (s.flipPath k).dropContainer k
  let s4 := s3.each (s3.stagedOdus p) State.flipOdu
  let s5 := s4.each (s4.stagedContainers p) fun s k => s.flipContainer k tag
  (s5.each (s5.stagedTribs p) fun s k => s.flipTrib k tag).flipDamper p

/-- The flip of one resource (Table 14-7). -/
def State.commitOne (s : State) (tag : Option (Nat × Nat)) (r : Res) : State :=
  let i := r.2.2
  if r.1 = 1 then s.commitPort i tag
  else if r.1 = 3 then
    (let g := r.2.1 * 2 ^ 24 + i
     if s.groupHeld g then s.flipGroup g else s)
  else if r.1 = 4 then
    (let s1 := s.flipBond i
     if (s1.bond i).stagedList = (s1.bond i).txList then s1 else s1.flipBondList i)
  else if r.1 = 5 then s.flipHrp i
  else if r.1 = 6 then s.flipVcat r.2.1 i tag
  else if r.1 = 7 then s.flipFlow r.2.1 i tag
  else if r.1 = 8 then s.flipMap (s.mapDiffers i)
  else if r.1 = 9 then s.flipDpl
  else if r.1 = 0x0A then s.flipRef i
  else if r.1 = 0x0B then s.flipClock i
  else if r.1 = 0x0C then s.flipSyn
  else if r.1 = 0x0D then s.flipPair
  else if r.1 = 0x0E then s.flipSnapSet i
  else if r.1 = 0x11 then s.flipSmoke
  else if r.1 = 0x12 then s.flipTrace.flipObsCnt.flipObsSample
  else s

/-- The registers of a port with two banks. -/
def State.portBanks (s : State) (p : Nat) : List Nat :=
  [PRT_CFG.key p, PRT_DAMPER.key p] ++ (s.lanesOf p).map LAN_CFG.key ++
  (if s.isSdh p then
    [SDH_CFG.key p, SDH_TX_OH.key p, SDH_SF_CFG.key p, SDH_SD_CFG.key p, SDH_PATH_BER.key p] ++
    (List.range 4).map (fun n => SDH_J0_EXP.key p n) ++ (List.range 4).map (fun n => SDH_J0_TX.key p n)
  else if s.isOtn p then [OTN_CFG.key p, OTN_SM_DEG.key p]
  else if s.isEth p then [ETH_CFG.key p, ETH_FC.key p]
  else [])

/-- The discard of a port's staged banks. -/
def State.discardPort (s : State) (p : Nat) : State :=
  let s1 := s.discardRegs (s.portBanks p)
  let s2 := s1.updPort p fun x => { x with
    otn := { x.otn with smExpStaged := x.otn.smExp, smTxStaged := x.otn.smTx }
    eth := { x.eth with egressQuotaStaged := x.eth.egressQuota } }
  let s3 := s2.each (s2.stagedPaths p) fun s k => s.updPath k fun x => { x with staged := x.cfg }
  let s4 := s3.each (s3.stagedOdus p) fun s k => s.updOdu k fun x => { x with staged := x.cfg }
  let s5 := s4.each (s4.stagedContainers p) fun s k => s.updContainer k fun x => { x with staged := x.types }
  let s6 := s5.each (s5.stagedTribs p) fun s k => s.updTrib k fun x => { x with staged := x.cfg }
  let mine := fun (e : Nat × Nat) => decide (e.1 / 4096 = p)
  let rest := s6.vlansStaged.filter fun e => !mine e
  let kept := (s6.vlans.filter mine).foldl (fun (t : Tbl Nat) (e : Nat × Nat) => t.put e.1 e.2) rest
  { s6 with vlansStaged := kept }

/-- The discard of one resource: the active bank is copied over the staged one. -/
def State.discardOne (s : State) (r : Res) : State :=
  let i := r.2.2
  if r.1 = 1 then s.discardPort i
  else if r.1 = 3 then
    (let g := r.2.1 * 2 ^ 24 + i
     if s.groupHeld g then s.updGroup g fun x => { x with staged := x.cfg } else s)
  else if r.1 = 4 then (s.discardRegs [BND_CFG.key i]).updBond i fun x =>
    { x with portsStaged := x.ports, pktMinStaged := x.pktMin, stagedList := x.txList }
  else if r.1 = 5 then s.discardRegs [HRP_CFG.key i]
  else if r.1 = 6 then s.updVcat (engKey r.2.1 i) fun x => { x with staged := x.cfg }
  else if r.1 = 7 then s.updFlow (engKey r.2.1 i) fun x => { x with staged := x.cfg }
  else if r.1 = 8 then s.discardMap i
  else if r.1 = 9 then s.discardRegs (DPL_CFG.key :: (List.range 4).map DPL_FPOUT.key)
  else if r.1 = 0x0A then s.discardRegs ([DPL_REF_CFG.key i] ++ if i < 4 then [DPL_PAIR_CFG.key i] else [])
  else if r.1 = 0x0B then s.discardRegs [DPL_CLKOUT.key i]
  else if r.1 = 0x0C then s.discardRegs [SYN_SS_CFG.key]
  else if r.1 = 0x0D then (s.discardRegs [CLM_CFG.key, CLM_CFG2.key, CLM_CHIMNEY.key]).updPair fun x =>
    { x with lanesStaged := x.lanes }
  else if r.1 = 0x0E then s.updSet i fun x => { x with staged := x.refs }
  else if r.1 = 0x11 then s.discardRegs [HLT_CFG.key]
  else if r.1 = 0x12 then s.discardRegs (OBS_TRACE_CFG.key :: OBS_SAMPLE_CFG.key :: obsCntRegs)
  else s

/-- A port among the resources whose staged mode change its rules refuse (R79). -/
def State.commitBusy (s : State) (rs : List Res) : Bool :=
  rs.any fun r => decide (r.1 = 1) && s.modeBusy r.2.2 (s.rdStaged (PRT_CFG.key r.2.2)).toNat

def State.commitRun (s : State) (p : Packet) : Done :=
  let rs := resourcesOf p
  if p.fld 0 1 = 1 then okDone (s.each rs State.discardOne)
  else if s.commitBusy rs then failDone s stBUSY 0
  else okDone (s.each rs fun s r => s.commitOne (some (tagOf p)) r)

/-! ### CAL_CANCEL (R53) -/

def cancelFault (bs : List Byte) : Option Nat := layoutFault bs 4 [below 0 1 2, rsv 1 1]

/-- The entry or the waiting command of the named originator goes, and completes FLUSHED. -/
def State.cancel (s : State) (p : Packet) : Verdict :=
  let m := p.fld 0 1
  let q := p.fld 2 2
  if m ≠ p.master then .refuse stCONFLICT 0 []
  else match s.cal.entries.find? fun e => decide (e.originator = some (m, q)) with
    | some e => .answer stOK [] (s.flushEntry e 0)
    | none => match s.cmd.slots.find? fun o => decide (tagOf o.packet = (m, q)) with
      | some o => .answer stOK [] (((s.clearSlot o.res).unwind o.packet).complete o.packet o.made stFLUSHED 0 0 [])
      | none => .refuse stNOT_PRESENT 0 []

/-! ### Leases (R363) -/

def leaseFault (bs : List Byte) : Option Nat := layoutFault bs 4 (resFields bs 0 true)

def State.leaseRun (s : State) (p : Packet) : Done :=
  let r : Res := (p.fld 0 1, p.fld 1 1, p.fld 2 2)
  okDone (s.dropLeases fun l => decide (l.master = p.master) && (decide (r.1 = 0xFF) || decide (leaseRes l = r)))

def leaseReadFault (bs : List Byte) : Option Nat :=
  let n := min 500 (bs.length / 4)
  layoutFault bs (4 * n) ((List.range n).flatMap fun i => resFields bs (4 * i) false)

/-- Per descriptor: the holder, whether an operation runs, whether one waits, a reserved byte. Notes:
assumption 10. -/
def State.leaseRead (s : State) (p : Packet) : Verdict :=
  .answer stOK ((List.range (p.payload.length / 4)).flatMap fun i =>
    let r : Res := (p.fld (4 * i) 1, p.fld (4 * i + 1) 1, p.fld (4 * i + 2) 2)
    beBytes 1 (s.holder r) ++ beBytes 1 (bit (s.running r).isSome) ++ beBytes 1 (bit (s.slotOf r).isSome) ++ [0]) s

/-! ### Queues by command -/

/-- Queue 6 serves the holder of the observation lease (R448). -/
def State.queueTaken (s : State) (m q : Nat) : Bool :=
  decide (q = 6) && decide (s.holder (0x12, 0, 0) ≠ 0 ∧ s.holder (0x12, 0, 0) ≠ m + 1)

def State.queueRead (s : State) (p : Packet) : Verdict :=
  if s.queueTaken p.master (p.fld 0 1) then .refuse stCONFLICT 0 [] else s.queueReadAnswer p

def legReadFault (bs : List Byte) : Option Nat := layoutFault bs 2 [below 0 1 7, within 1 1 1 255]

/-- LEG_QUEUE_READ: as QUEUE_READ with a one-byte COUNT. -/
def State.legRead (s : State) (p : Packet) : Verdict :=
  s.queueRead { p with payload := bytesAt p.payload 0 1 ++ [0, 0] ++ bytesAt p.payload 1 1 }

/-- The queue serves the other master. -/
def otherQueue (m q : Nat) : Bool := decide (q < 6 ∧ q % 2 ≠ m)

def legLevelFault (bs : List Byte) : Option Nat :=
  layoutFault bs 4 [below 0 1 7, rsv 1 1, below 2 2 (2 ^ 14)]

def State.legLevel (s : State) (p : Packet) : Verdict :=
  let q := p.fld 0 1
  if otherQueue p.master q ∨ s.queueTaken p.master q = true then .refuse stCONFLICT 0 []
  else .answer stOK [] ((s.levelWrite q (p.fld 2 2)).legacyWrite q true)

def legResetFault (bs : List Byte) : Option Nat := layoutFault bs 4 [below 0 1 7, rsv 1 3]

def State.legReset (s : State) (p : Packet) : Verdict :=
  let q := p.fld 0 1
  if otherQueue p.master q ∨ s.queueTaken p.master q = true then .refuse stCONFLICT 0 []
  else .answer stOK [] (s.resetQueue q)

/-- LEG_STATUS: 16 bytes (Table 14-9). -/
def State.legStatus (s : State) (p : Packet) : Verdict :=
  .answer stOK (beBytes 1 (bit s.dev.variant48) ++ [s.dev.stepping] ++
    beBytes 2 (s.get SYS_IDENT.key SYS_IDENT.FW_VERSION) ++ beBytes 1 s.time.epoch ++ [0, 0, 0] ++
    beBytes 4 s.time.sfn ++ beBytes 2 (s.fill p.master) ++ beBytes 2 (s.fill (2 + p.master))) s

/-! ### STK_QUERY (Table 10-2) -/

/-- Tributary slots of a port's HO ODU left free. -/
def State.freeTs (s : State) (p : Nat) : Nat :=
  let ho := s.hoCfg p
  (if ho.otype = 0 then 0 else tsCount ho.otype ho.ptExp) - (s.tsUsed p 0).length

/-- ALF blocks left free at the largest valid profile. -/
def State.freeBlocks (s : State) (p : Nat) : Nat :=
  s.alfLargest p - fieldOf ALF_PKT_MIN.PKT_MIN (s.rdStaged (ALF_PKT_MIN.key p)).toNat -
    ((s.alf p).staged.map AlfTrib.blocks).sum

/-- Free sinks of the ingress half of a slice that has the most. -/
def State.freeSinks (s : State) (n : Nat) : Nat :=
  16 - (((s.grate.staged.map fun e => e.2.src) ++ (s.grate.staged.map fun e => e.2.src2)).filter fun x =>
    decide (x / sliceSlots = n)).foldl (fun most x => max most (slotSinks s.grate.staged x)) 0

/-- One free count: CODE, SCOPE, FREE. -/
def queryEntry (code scope free : Nat) : List Byte := beBytes 1 code ++ beBytes 1 scope ++ [0, 0] ++ beBytes 4 free

/-- Free units of each code by scope. SPARES: group macros at 0 to 7, framer spares at 8 to 11, mapper spares at
12 to 15. -/
def State.freeUnits (s : State) : List (Nat × Nat × Nat) :=
  let now := s.dev.ticks
  let per := fun (code n : Nat) (f : Nat → Nat) => (List.range n).map fun i => (code, i, f i)
  per rGRATE_SLOTS 4 (fun i => s.freeSlots i now) ++ per rGRATE_RUN 4 (fun i => s.largestRun i now) ++
  per rGRATE_SINKS 4 s.freeSinks ++
  ((List.range s.portCount).filter s.isOtn).map (fun p => (rTRIB_SLOTS, p, s.freeTs p)) ++
  per rLO_TRIB_POS 16 (s.mapperFree rLO_TRIB_POS) ++ per rMAPPER_CONT_POS 16 (s.mapperFree rMAPPER_CONT_POS) ++
  per rMAPPER_CARRIERS 16 (fun i => 96 - s.carriersAt i) ++
  [(rRETIME_UNITS, 0, s.capacity rRETIME_UNITS - s.used rRETIME_UNITS 0),
   (rCONTEXT_PAGES, 0, s.capacity rCONTEXT_PAGES - s.contextPages),
   (rPKT_BUFFER_PAGES, 0, s.capacity rPKT_BUFFER_PAGES - s.used rPKT_BUFFER_PAGES 0),
   (rDELAY_PAGES, 0, s.capacity rDELAY_PAGES - s.used rDELAY_PAGES 0)] ++
  per rPKT_ENGINE_BW 4 (fun m => s.engineFree (2 * m) 0 + s.engineFree (2 * m + 1) 0) ++
  ((List.range s.portCount).filter s.isAlf).map (fun p => (rALF_BLOCKS, p, s.freeBlocks p)) ++
  [(rCALENDAR, 0, calShared - s.sharedHeld), (rCHIMNEY_LINKS, 0, 4 - s.used rCHIMNEY_LINKS 0),
   (rCONN_RECORDS, 0, 40960 - s.grate.conns.length)] ++
  per rVCAT_MEMBERS 8 (fun e => 2048 - s.used rVCAT_MEMBERS e) ++
  per rFLOWS 8 (fun e => ((List.range 64).filter fun f =>
    decide ((s.flow (engKey e f)).cfg.chKind = 0 ∧ (s.flow (engKey e f)).staged.chKind = 0)).length) ++
  per rSPARES 16 (fun i => bit (if i < 8 then s.macroFree i else if i < 12 then s.blockFree (6 * (i - 8))
    else s.blockFree (24 + 4 * (i - 12)))) ++
  [(rPM_RECORDS, 0, 16384 - s.pmRecords)]

/-- FREE and LARGEST_RUN (2 bytes each) of every slice, then the free units. Notes: assumption 10. -/
def State.stkQuery (s : State) (_p : Packet) : Verdict :=
  .answer stOK (((List.range 4).flatMap fun i =>
    beBytes 2 (s.freeSlots i s.dev.ticks) ++ beBytes 2 (s.largestRun i s.dev.ticks)) ++
    s.freeUnits.flatMap fun e => queryEntry e.1 e.2.1 e.2.2) s

/-! ### MSI_GAP_EXPIRY (R400) -/

/-- The gap has ended: the message that waited is sent if PENDING is still 1. -/
def State.msiGap (s : State) (m : Nat) : State :=
  let gap := s.get (EVT_CTRL.key m) EVT_CTRL.MSI_GAP
  let ended := match (s.master m).msiLast with
    | some t => decide (t + gap ≤ s.dev.ticks)
    | none => true
  if (s.master m).msiWaiting && ended then
    let s1 := s.updMaster m fun x => { x with msiWaiting := false }
    if s1.pendingBit m && s1.on (EVT_CTRL.key m) EVT_CTRL.MSI_EN then s1.sendMsi m else s1
  else s

def execMsiGapExpiry (m : Fin 2) (s : State) : Host.Outcome State Fault Refusal := .next (s.msiGap m).settle

end Sys2Proof.Machine
end

