-- ==== Sys2Proof/Machine/Commands.lean ====
section
/-! DEFINITION. A command packet taken in step 1: the acceptance tests of Table 14-5 in their order (R353), what
each command's layout and chapter answer, and what an accepted command leaves behind (R50, R360, R494). -/

namespace Sys2Proof.Machine

/-! ### Opcodes (Table 14-6) -/

/-- The opcodes assigned. -/
def assigned (op : Nat) : Bool :=
  decide (op ≤ 0x0C) || decide (0x10 ≤ op ∧ op ≤ 0x2E) || decide (0x30 ≤ op ∧ op ≤ 0x39) ||
  decide (0x50 ≤ op ∧ op ≤ 0x55) || decide (0x60 ≤ op ∧ op ≤ 0x66) || decide (0x70 ≤ op ∧ op ≤ 0x75) ||
  decide (0x80 ≤ op ∧ op ≤ 0x84) || decide (0x90 ≤ op ∧ op ≤ 0x96) || decide (0xA0 ≤ op ∧ op ≤ 0xA3) ||
  decide (0xE0 ≤ op ∧ op ≤ 0xE4) || decide (0xF0 ≤ op ∧ op ≤ 0xF4)

/-- The opcodes marked (x). -/
def expertOp (op : Nat) : Bool := decide (0x35 ≤ op ∧ op ≤ 0x38) || decide (0x80 ≤ op ∧ op ≤ 0x84) || decide (op = 0x91)

/-- Commands that change no configuration: answered at once, without an entry (R50). -/
def isRead (op : Nat) : Bool :=
  [0x00, 0x01, 0x09, 0x0B, 0x13, 0x14, 0x18, 0x19, 0x1D, 0x1E, 0x22, 0x25, 0x28, 0x2C, 0x30, 0x33, 0x52, 0x55, 0x63,
   0x72, 0x75, 0x80, 0x83, 0x90, 0x93, 0xA3, 0xE0, 0xE1, 0xE4, 0xF4].contains op

/-- Commands that act in step 1: the reads, CAL_CANCEL (R53) and the legacy commands (R371). -/
def actsAtOnce (op : Nat) : Bool := isRead op || [0x08, 0xE2, 0xE3].contains op

/-- Commands of port frames, whose effective time is a port key (R175, R177). -/
def portKeyed (op : Nat) : Bool := [0x1B, 0x1C, 0x1F].contains op

/-- Commands of groups, which no port key fits. -/
def groupKeyed (op : Nat) : Bool := [0x20, 0x21, 0x23].contains op

/-! ### Layouts -/

/-- The first faulty offset of the payload by the layout of the command (R346, R496). -/
def State.payloadFault (s : State) (p : Packet) : Option Nat :=
  let bs := p.payload
  match p.op with
  | 0x00 => noPayload bs
  | 0x01 => s.identifyFault bs
  | 0x02 => setLevelFault bs
  | 0x03 => setClaimFault bs
  | 0x04 => setSfnFault bs
  | 0x05 => epochFault bs
  | 0x06 => todFault bs
  | 0x07 => commitFault bs
  | 0x08 => cancelFault bs
  | 0x09 => queueReadFault bs
  | 0x0A => leaseFault bs
  | 0x0B => leaseReadFault bs
  | 0x0C => setAddressFault bs
  | 0x10 => s.portModeFault bs
  | 0x11 => s.sdhSectionFault bs
  | 0x12 => s.sdhPathFault bs
  | 0x13 => s.sdhPathStatusFault bs
  | 0x14 => s.sdhTraceFault bs
  | 0x15 => s.sdhDccFault bs
  | 0x16 => s.otuCfgFault bs
  | 0x17 => s.oduCfgFault bs
  | 0x18 => s.oduStatusFault bs
  | 0x19 => s.ttiReadFault bs
  | 0x1A => s.dmStartFault bs
  | 0x1B => s.alfCfgFault bs
  | 0x1C => s.alfTribFault bs
  | 0x1D => s.alfReadFault bs
  | 0x1E => s.alfMapFault bs
  | 0x1F => s.alfReadFault bs
  | 0x20 => s.bndGroupFault bs
  | 0x21 => s.bndTribFault bs
  | 0x22 => groupReadFault 12 bs
  | 0x23 => s.hrpGroupFault bs
  | 0x24 => hrpSelectFault bs
  | 0x25 => groupReadFault 24 bs
  | 0x26 => s.containerFault bs
  | 0x27 => s.lomTribFault bs
  | 0x28 => s.lomStatusFault bs
  | 0x29 => s.flowFault bs
  | 0x2A => s.vlanFault bs
  | 0x2B => s.vcatFault bs
  | 0x2C => s.flowStatusFault bs
  | 0x2D => s.ethCfgFault bs
  | 0x2E => s.damperCfgFault bs
  | _ => none

/-- The layouts of the mapping, protection and timing commands. -/
def State.payloadFault2 (s : State) (p : Packet) : Option Nat :=
  let bs := p.payload
  match p.op with
  | 0x30 => noPayload bs
  | 0x31 => s.connectFault bs
  | 0x32 => connIdFault bs
  | 0x33 => connIdFault bs
  | 0x34 => defragFault bs
  | 0x35 => s.runSetFault bs
  | 0x36 => runFreeFault bs
  | 0x37 => s.mapSetFault bs
  | 0x38 => grtMoveFault bs
  | 0x39 => s.poolFault bs
  | 0x50 => s.groupCfgFault bs
  | 0x51 => s.protCommandFault bs
  | 0x52 => s.protStatusFault bs
  | 0x53 => s.pairCfgFault bs
  | 0x54 => s.pairCommandFault bs
  | 0x55 => noPayload bs
  | 0x60 => s.dplRefFault bs
  | 0x61 => dplSelectFault bs
  | 0x62 => dplCfgFault bs
  | 0x63 => noPayload bs
  | 0x64 => noPayload bs
  | 0x65 => clkoutFault bs
  | 0x66 => synFault bs
  | _ => none

/-- The layouts of the remaining commands. -/
def State.payloadFault3 (s : State) (p : Packet) : Option Nat :=
  let bs := p.payload
  match p.op with
  | 0x70 => s.snapCfgFault bs
  | 0x71 => snapshotFault bs
  | 0x72 => snapReadFault bs
  | 0x73 => s.cntClearFault bs
  | 0x74 => s.pmCfgFault bs
  | 0x75 => s.pmReadFault bs
  | 0x80 => regReadFault bs
  | 0x81 => regWriteFault bs
  | 0x82 => regModifyFault bs
  | 0x83 => s.ctxReadFault bs
  | 0x84 => s.ctxWriteFault bs
  | 0x90 => hltStatusFault bs
  | 0x91 => s.spareApproveFault bs
  | 0x92 => s.spareRequestFault bs
  | 0x93 => noPayload bs
  | 0x94 => s.repairFault bs
  | 0x95 => smokeCfgFault bs
  | 0x96 => s.powerFault bs
  | 0xA0 => traceCfgFault bs
  | 0xA1 => obsCntFault bs
  | 0xA2 => obsSampleFault bs
  | 0xA3 => noPayload bs
  | 0xE0 => noPayload bs
  | 0xE1 => legReadFault bs
  | 0xE2 => legLevelFault bs
  | 0xE3 => legResetFault bs
  | 0xE4 => noPayload bs
  | 0xF0 => fwBeginFault bs
  | 0xF1 => fwDataFault bs
  | 0xF2 => fwPlainFault bs
  | 0xF3 => fwPlainFault bs
  | 0xF4 => noPayload bs
  | _ => none

/-- A restriction of a command on its effective time: CAL_CANCEL and the legacy commands are immediate (R53,
R371), the port commands of an ALF port keyed to its frames (R175). -/
def effFault (p : Packet) : Option Nat :=
  let legacy := decide (p.op = 0x08) || decide (0xE0 ≤ p.op ∧ p.op ≤ 0xE4)
  match keyOf p with
  | .immediate => if portKeyed p.op then some 8 else none
  | .sfn _ => if legacy || portKeyed p.op then some 8 else none
  | .port q _ =>
    if legacy || groupKeyed p.op || (portKeyed p.op && decide (q ≠ p.fld 0 1)) then some 8 else none

/-- Row 6 of Table 14-5: DETAIL of the first fault of the header, then of the payload. -/
def State.paramFault (s : State) (p : Packet) : Option Nat :=
  match firstOf [headerFault p, effFault p] with
  | some k => some (0x4000 + k)
  | none =>
    ((if p.op < 0x30 then s.payloadFault p else if p.op < 0x70 then s.payloadFault2 p else s.payloadFault3 p)).map
      payloadDetail

/-! ### Row 9: the command's own chapter -/

/-- The protection port of an MSP group carries no paths and no connections of its own (R295). -/
def State.mspProtects (s : State) (q : Nat) : Bool :=
  s.prot.groups.any fun x => decide (pgKind x.1 = 1 ∧ (x.2.cfg.protPort = q ∨ x.2.staged.protPort = q))

def State.mspBusy (s : State) (p : Packet) : Bool :=
  if p.op = 0x12 then s.mspProtects (p.fld 0 1) && decide (p.fld 2 1 ≠ 0)
  else if p.op = 0x31 then
    s.mspProtects (p.fld 0 1) || s.mspProtects (p.fld 8 1) || (decide (p.fld 25 1 = 1) && s.mspProtects (p.fld 16 1))
  else false

/-- What the reads and the commands of step 1 answer. -/
def State.answers (s : State) (p : Packet) : Verdict :=
  match p.op with
  | 0x01 => s.identify p
  | 0x08 => s.cancel p
  | 0x09 => s.queueRead p
  | 0x0B => s.leaseRead p
  | 0x13 => s.sdhPathStatus p
  | 0x14 => s.sdhTraceRead p
  | 0x18 => s.oduStatus p
  | 0x19 => s.ttiRead p
  | 0x1D => s.alfStatusRead p
  | 0x1E => s.alfMapRead p
  | 0x22 => s.bndStatusRead p
  | 0x25 => s.hrpStatusRead p
  | 0x28 => s.lomStatus p
  | 0x2C => s.flowStatus p
  | 0x30 => s.stkQuery p
  | 0x33 => s.connRead p
  | 0x52 => s.protStatus p
  | 0x55 => s.pairStatus p
  | 0x63 => s.dplStatus p
  | 0x72 => s.snapRead p
  | 0x75 => s.pmRead p
  | 0x80 => s.regRead p
  | 0x83 => s.ctxRead p
  | 0x90 => s.hltStatus p
  | 0x93 => s.repairMap p
  | 0xA3 => s.obsStatus p
  | 0xE1 => s.legRead p
  | 0xE2 => s.legLevel p
  | 0xE3 => s.legReset p
  | 0xE4 => s.legStatus p
  | 0xF4 => s.fwStatus p
  | _ => .answer stOK [] s

/-- What acceptance checks, stages and reserves. -/
def State.admits (s : State) (p : Packet) : Verdict :=
  match p.op with
  | 0x03 => s.setClaimAdmit p
  | 0x04 => s.rootAdmit p
  | 0x05 => s.rootAdmit p
  | 0x0C => s.setAddressAdmit p
  | 0x10 => s.portModeAdmit p
  | 0x11 => s.sdhSectionAdmit p
  | 0x12 => s.sdhPathAdmit p
  | 0x16 => s.otuCfgAdmit p
  | 0x17 => s.oduCfgAdmit p
  | 0x1B => s.alfCfgAdmitBonded p
  | 0x1C => s.alfTribAdmit p
  | 0x20 => s.bndGroupAdmit p
  | 0x21 => s.bndTribAdmit p
  | 0x23 => s.hrpGroupAdmit p
  | 0x26 => s.containerAccept p
  | 0x27 => s.lomTribAdmit p
  | 0x29 => s.flowAccept p
  | 0x2A => s.vlanAdmit p
  | 0x2B => s.vcatAdmit p
  | 0x2D => s.ethCfgAdmit p
  | 0x2E => s.damperCfgAdmit p
  | 0x31 => s.connectAdmit p
  | 0x32 => s.disconnectAdmit p
  | 0x35 => s.runSetAdmit p
  | 0x36 => s.runFreeAdmit p
  | 0x37 => s.mapSetAdmit p
  | 0x38 => s.grtMoveAdmit p
  | 0x39 => s.poolAdmit p
  | 0x50 => s.groupCfgAdmit p
  | 0x53 => s.pairCfgAdmit p
  | 0x54 => s.pairCommandAdmit p
  | 0x60 => s.dplRefAdmit p
  | 0x62 => s.dplCfgAdmit p
  | 0x64 => s.alignAdmit p
  | 0x65 => s.clkoutAdmit p
  | 0x66 => s.synAdmit p
  | 0x70 => s.snapCfgAdmit p
  | 0x74 => s.pmCfgAdmit p
  | 0x81 => s.regWriteAdmit p
  | 0x82 => s.regModifyAdmit p
  | 0x84 => s.ctxWriteAdmit p
  | 0x91 => s.spareApproveAdmit p
  | 0x92 => s.spareRequestAdmit p
  | 0x94 => s.repairAdmit p
  | 0x95 => s.smokeCfgAdmit p
  | 0xA0 => s.traceCfgAdmit p
  | 0xA1 => s.obsCntAdmit p
  | 0xA2 => s.obsSampleAdmit p
  | 0xF0 => s.fwBeginAdmit p
  | 0xF1 => s.fwDataAdmit p
  | 0xF2 => s.fwEndAdmit p
  | 0xF3 => s.fwActivateAdmit p
  | _ => .accept s

/-- Row 9. -/
def State.chapter (s : State) (p : Packet) : Verdict :=
  if actsAtOnce p.op then s.answers p
  else if s.mspBusy p then .refuse stBUSY 0 []
  else s.admits p

/-! ### Row 1: the check and the sequence (R346 to R348) -/

/-- DETAIL of a failed check. -/
def State.checkFault (s : State) (p : Packet) : Option Nat :=
  if p.ver ≠ 0x10 then some 0x0001
  else if maxPayload < p.length.toNat ∨ p.length.toNat ≠ p.payload.length then some 0x0002
  else if p.crc s.address ≠ p.check.toNat then some 0x0003
  else none

/-- The three classes of R348. -/
inductive SeqClass where
  | new | late | replay
  deriving DecidableEq, Repr

/-- `high` is none before the first packet of the master since reset. -/
def seqClass (high : Option Nat) (seen : List Nat) (seq : Nat) : SeqClass :=
  match high with
  | none => .new
  | some h =>
    let ahead := (seq + 65536 - h) % 65536
    let behind := (h + 65536 - seq) % 65536
    if 1 ≤ ahead ∧ ahead ≤ 32767 then .new
    else if 1 ≤ behind ∧ behind ≤ 1023 ∧ seen.contains seq = false then .late
    else .replay

/-- HIGH of a master, once it has sent a packet. -/
def State.high (s : State) (m : Nat) : Option Nat :=
  if s.on (CMD_SEQ.key m) CMD_SEQ.VALID then some (s.highSeq m) else none

def State.classify (s : State) (p : Packet) : SeqClass :=
  seqClass (s.high p.master) (s.master p.master).seen p.seq.toNat

/-- The values at or 1 to 1,023 below a new HIGH that have been accepted. -/
def seenFrom (high : Nat) (seen : List Nat) : List Nat :=
  high :: seen.filter fun x => decide ((high + 65536 - x) % 65536 ≤ 1023 ∧ x ≠ high)

/-- SEQ is recorded as accepted. -/
def State.recordSeq (s : State) (m seq : Nat) (c : SeqClass) : State :=
  match c with
  | .new =>
    let s1 := (s.put (CMD_SEQ.key m) CMD_SEQ.HIGH seq).put (CMD_SEQ.key m) CMD_SEQ.VALID 1
    s1.updMaster m fun x => { x with seen := seenFrom seq x.seen }
  | .late => s.updMaster m fun x => { x with seen := seq :: x.seen }
  | .replay => s

/-- A packet that passes R347 shows its master present (R359); the first one since RESET_N ends no declared
absence. -/
def State.present (s : State) (m : Nat) : State :=
  let s1 := s.updMaster m fun x => { x with lastPacket := s.dev.ticks }
  if s1.absent m then
    let s2 := s1.put CMD_STATUS.key (if m = 0 then CMD_STATUS.ABSENT_M0 else CMD_STATUS.ABSENT_M1) 0
    if (s.master m).seen = [] then s2 else s2.event (258 + m) 0x80 false 0
  else s1

/-- A BAD_CHECK other than a replay. -/
def State.badCheck (s : State) (p : Packet) (detail : Nat) : State :=
  let s1 := (s.bump CMD_ERR_CNT.key CMD_ERR_CNT.BAD_CHECKS 1).put CMD_STATUS.key CMD_STATUS.BAD_CHECK_HIST 1
  (s1.event (258 + p.master) 0x81 true 0).reply0 p stBAD_CHECK detail []

/-- A replay. -/
def State.replayed (s : State) (p : Packet) : State :=
  let s1 := (s.bump CMD_ERR_CNT.key CMD_ERR_CNT.REPLAYS 1).put CMD_STATUS.key CMD_STATUS.REPLAY_HIST 1
  ((s1.put CMD_STATUS.key CMD_STATUS.BAD_CHECK_HIST 1).event (258 + p.master) 0x82 true 0).reply0 p stBAD_CHECK 0x0004 []

/-! ### Rows 2 to 8 -/

/-- The ROM responder executes these alone (R454). -/
def romServes (p : Packet) : Bool :=
  decide (p.op = 0x00) || (decide (p.op = 0x01) && decide (p.fld 0 1 = 0)) || decide (0xF0 ≤ p.op ∧ p.op ≤ 0xF4)

/-- Row 2: no firmware serves the command. -/
def State.restartBusy (s : State) (p : Packet) : Bool :=
  decide (s.dev.boot = .restarting) || (decide (s.dev.boot = .rom) && !romServes p)

/-- Row 4 (R356). -/
def State.levelShort (s : State) (p : Packet) : Bool :=
  (expertOp p.op || p.isExpert) && !(s.master p.master).expert

/-- Row 5: DETAIL of BUSY on a standby, or in SFN_CONFLICT for what would create an entry. -/
def State.roleBusy (s : State) (p : Packet) : Option Nat :=
  if s.standby && !p.isLocal && !isRead p.op then some 0x000A
  else if s.on SYS_TIME_STATUS.key SYS_TIME_STATUS.SFN_CONFLICT ∧ actsAtOnce p.op = false ∧ keyOf p ≠ .immediate then
    some 0x000B
  else none

/-- The resources whose leases a command needs. -/
def needs (p : Packet) : List Res := if isRead p.op || decide (p.op = 0x08) then [] else resourcesOf p

/-- Row 7: the state with leases preempted, or the DETAIL of CONFLICT (R360 to R362). -/
def State.row7 (s : State) (p : Packet) : Option Nat × State :=
  let m := p.master
  if needs p = [] then (none, s)
  else if p.preempt then (if s.highMaster = m then (none, s.preempt m (needs p)) else (some ((s.leaseConflict m (needs p)).getD 0), s))
  else (s.leaseConflict m (needs p), s)

/-! ### Rows 9 to 11 -/

/-- The resources the stoker gave with the acceptance (Table 14-7). -/
def givenRes (s : State) (p : Packet) (r : List Byte) : List Res :=
  if p.op = 0x31 ∧ p.fld 24 1 ≠ 2 then
    let id := beVal (r.take 2)
    (0x02, 0, id) :: (if p.fld 25 1 = 1 ∧ p.fld 28 4 = 0 then
      match s.grate.conns.find id with
      | some c => [(0x03, c.pgroup / 2 ^ 24, c.pgroup % 65536)]
      | none => []
    else [])
  else if p.op = 0x29 then [(0x07, beVal (r.take 1), beVal ((r.drop 1).take 1))]
  else []

/-- The command as it executes: PKT_FLOW_CFG names the engine and flow chosen. -/
def settled (p : Packet) (r : List Byte) : Packet :=
  if p.op = 0x29 then
    { p with payload := (r.take 2) ++ p.payload.drop 2 }
  else p

/-- SET_ADDRESS for a member answers ACCEPTED first (R376). -/
def State.answersFirst (s : State) (p : Packet) : Bool := decide (p.op = 0x0C) && s.assignsMember p

/-- The command joins the immediate commands of the next step 2 (R494). -/
def State.takeImmediate (s : State) (p : Packet) (r : List Byte) : State :=
  let x : Taken := { packet := settled p r, tick := s.dev.ticks }
  let s1 := { s with cmd := { s.cmd with immediates := s.cmd.immediates ++ [x] } }
  if s1.answersFirst p then s1.reply p 1 stACCEPTED 0 noCreation p.eff.toNat 0 r else s1

/-- ALF_ANN and ALF_ANN_PFN show a port-keyed ALF command: the profile in force, ANN_ID 0 (Table 06-15). -/
def State.showKeyed (s : State) (p : Packet) (key : CalKey) : State :=
  match key with
  | .port q n => if portKeyed p.op then s.showAnn q (s.alfProfile q) 0 0 n else s
  | .sfn _ => s

/-- The calendar entry of an accepted command, and ACCEPTED. -/
def State.takeScheduled (s : State) (p : Packet) (key : CalKey) (late : Bool) (r : List Byte) : State :=
  let c := s.cal.nextCreation
  let s1 := (s.addEntry key (.host (settled p r)) late 0 (if late then s.dev.ticks + 1 else 0)).showKeyed p key
  s1.reply p 1 stACCEPTED 0 c p.eff.toNat 0 r

/-- NO_RESOURCE of row 10 raises QUOTA_FULL. -/
def State.quotaFull (s : State) (p : Packet) : State :=
  let short := s.calendarShort p.master
  ((s.noteScarce rCALENDAR).event 256 0x82 true p.master).reply0 p stNO_RESOURCE 0 (noResourceBytes short)

/-- A refusal of row 9; NO_RESOURCE is noted in STK_HIST, raised and traced. -/
def State.refuseChapter (s : State) (p : Packet) (status detail : Nat) (r : List Byte) : State :=
  if status = stNO_RESOURCE then
    ((s.noteScarce (beVal (r.take 1))).traceStoker (some (tagOf p)) 2 (beVal (r.take 1)) (beVal ((r.drop 1).take 1))
      (beVal ((r.drop 4).take 4))).reply0 p status detail r
  else s.reply0 p status detail r

/-- The state-changing command is forwarded in the mirror (R305). -/
def State.mirror (s : State) (p : Packet) (creation : Nat) (r : List Byte) : State :=
  if s.inPair && decide (s.role = 2) && !p.isLocal then
    s.updPair fun x => { x with forward := x.forward ++ [(p, creation, r)] }
  else s

/-- Rows 10 and 11 for a command that its chapter accepted into `s1`; `s` is the state before row 9. -/
def State.enters (s : State) (p : Packet) (s1 : State) (r : List Byte) : State :=
  let held := needs p ++ givenRes s1 p r
  match s.effective p with
  | .scheduled key late =>
    if s.hostRoom p.master = false then s.quotaFull p
    else if s.sfnRoom key = false then s.reply0 p stBUSY 0 []
    else ((s1.takeLeases p.master held).mirror p s1.cal.nextCreation r).takeScheduled p key late r
  | _ => ((s1.takeLeases p.master held).mirror p noCreation r).takeImmediate p r

/-- Rows 8 to 11. -/
def State.accepts (s : State) (p : Packet) : State :=
  if actsAtOnce p.op then
    match s.answers p with
    | .answer st r s1 => (if isRead p.op then s1 else s1.mirror p noCreation []).reply0 p st 0 r
    | .refuse st d r => s.refuseChapter p st d r
    | .accept s1 r => s1.reply0 p stOK 0 r
  else match s.effective p with
    | .refused st => s.reply0 p st 0 []
    | _ => match s.chapter p with
      | .refuse st d r => s.refuseChapter p st d r
      | .answer st r s1 => s1.reply0 p st 0 r
      | .accept s1 r => s.enters p s1 r

/-- Rows 3 to 11 of Table 14-5. -/
def State.rows3 (s : State) (p : Packet) : State :=
  if assigned p.op = false then s.reply0 p stBAD_OPCODE 0 []
  else if s.levelShort p then s.reply0 p stREJECTED_LEVEL 0 []
  else match s.roleBusy p with
    | some d => s.reply0 p stBUSY d []
    | none => match s.paramFault p with
      | some d => s.reply0 p stBAD_PARAM d []
      | none => match s.row7 p with
        | (some d, _) => s.reply0 p stCONFLICT d []
        | (none, s1) => s1.accepts p

/-- A packet that passed its check and its sequence: row 2 and on. -/
def State.rows2 (s : State) (p : Packet) : State :=
  if s.restartBusy p then s.reply0 p stBUSY 0x0009 [] else s.rows3 p

/-- The device answers no packet while it is held in reset or the loader has stopped. -/
def State.answersPackets (s : State) : Bool := decide (s.dev.boot ≠ .held) && decide (s.dev.boot ≠ .stopped)

/-- The packet as bytes, for the trace. -/
def Packet.bytes (p : Packet) : List Byte := p.header ++ p.payload ++ beBytes 4 p.check.toNat

/-- The packet is traced and counted when it is taken (R445, R449). -/
def State.noteTaken (s : State) (p : Packet) : State :=
  (s.tracePacket 0 p.master 0 (Packet.bytes p)).obsHappens obsCOMMAND (some p.master)

/-- A packet is taken in step 1 and answered by the first row of Table 14-5 that applies (R353). -/
def State.takeCommand (s : State) (p : Packet) : State :=
  if s.answersPackets = false then s
  else
    let s0 := s.noteTaken p
    match s0.checkFault p with
    | some d => s0.badCheck p d
    | none =>
      let s1 := s0.present p.master
      match s1.classify p with
      | .replay => s1.replayed p
      | c => (s1.recordSeq p.master p.seq.toNat c).rows2 p

/-! ### The input buffers (R369) -/

/-- The weight of a packet. -/
def packetWeight (p : Packet) : Nat := 1 + ceilDiv (p.length.toNat - 256) 512

/-- Weighted packets that a tick takes: 32 at most, 8 at least. Notes: assumption 3. -/
def State.takeLimit (s : State) : Nat := 8 + Config.takeWeight s.dev.ticks % 25

/-- Packets are taken from two buffers in turn until the limit: the packets taken and what is left of each. -/
def takeInTurn (limit : Nat) : Nat → Nat → List Packet → List Packet → List Packet × List Packet × List Packet
  | 0, _, a, b => ([], a, b)
  | fuel + 1, used, a, b =>
    match a with
    | p :: rest =>
      let w := packetWeight p
      if limit ≤ used ∨ (used ≠ 0 ∧ 32 < used + w) then ([], a, b)
      else
        let r := takeInTurn limit fuel (used + w) b rest
        (p :: r.1, r.2.2, r.2.1)
    | [] => match b with
      | [] => ([], [], [])
      | _ :: _ =>
        let r := takeInTurn limit fuel used b []
        (r.1, r.2.2, r.2.1)

/-- The packets of a step 1, in the order of R258: the higher master's first. -/
def State.takePackets (s : State) : State :=
  let m := s.highMaster
  let r := takeInTurn s.takeLimit 128 0 (s.master m).inbuf (s.master (1 - m)).inbuf
  let s1 := (s.updMaster m fun x => { x with inbuf := r.2.1 }).updMaster (1 - m) fun x => { x with inbuf := r.2.2 }
  let mine := r.1.filter fun p => decide (p.master = m)
  let others := r.1.filter fun p => decide (p.master ≠ m)
  s1.each (mine ++ others) State.takeCommand

/-- At the start of a restart the packets still buffered are answered (R459). -/
def State.drainBuffers (s : State) : State :=
  let all := (s.master 0).inbuf ++ (s.master 1).inbuf
  let s1 := (s.updMaster 0 fun x => { x with inbuf := [] }).updMaster 1 fun x => { x with inbuf := [] }
  s1.each all State.takeCommand

/-! ### The mirror (R305) -/

/-- The standby enters the command under the active's creation number. -/
def State.mirrorEnters (s : State) (p : Packet) (creation : Nat) (r : List Byte) : State :=
  let next := s.cal.nextCreation
  let entry := fun (key : CalKey) =>
    let s1 := { s with cal := { s.cal with nextCreation := creation } }
    let s2 := s1.addEntry key (.host (settled p r)) true 0 0
    { s2 with cal := { s2.cal with nextCreation := max next (creation + 1) } }
  match keyOf p with
  | .immediate =>
    let x : Taken := { packet := settled p r, tick := s.dev.ticks - 1 }
    { s with cmd := { s.cmd with immediates := s.cmd.immediates ++ [x] } }
  | .sfn n => entry (.sfn n)
  | .port q n => entry (.port q n)

/-- The standby takes a forwarded command: no reply, no test of the effective time; a result that differs from
the active's is adopted and raises MIRROR_DIVERGED (R306). A SWITCHOVER is the active unit's own (R318). -/
def State.mirrorTake (s : State) (p : Packet) (creation : Nat) (r : List Byte) : State :=
  if s.standby = false then s
  else
    let m := p.master
    let s0 := if p.preempt then s.preempt m (needs p) else s
    if p.op = 0x54 then s0.takeLeases m (needs p)
    else if actsAtOnce p.op then
      (match s0.answers p with
       | .answer _ _ s1 => s1
       | _ => s0.diverged)
    else match s0.chapter p with
      | .accept s1 own =>
        let s2 := if own = r then s1 else s1.diverged
        (s2.takeLeases m (needs p ++ givenRes s2 p r)).mirrorEnters p creation r
      | _ => ((s0.diverged).takeLeases m (needs p)).mirrorEnters p creation r

/-! ### Timers of step 3 -/

/-- A command has waited in the pending slot for its TIMEOUT (R366). -/
def State.slotExpiry (s : State) (r : Res) : State :=
  match s.slotOf r with
  | none => s
  | some o =>
    if s.dev.ticks < o.due then s
    else
      let s1 := ((s.clearSlot r).unwind o.packet).complete o.packet o.made stBUSY 0x0008 0 []
      (s1.put CMD_STATUS.key CMD_STATUS.TIMEOUT_HIST 1).event (258 + o.packet.master) 0x83 true 0

def State.slotExpiries (s : State) : State := s.each (s.cmd.slots.map LongOp.res) State.slotExpiry

/-- A master from which no packet has passed R347 for MASTER_TIMEOUT seconds is absent (R359). -/
def State.masterAbsence (s : State) (m : Nat) : State :=
  let t := s.get CMD_CFG.key CMD_CFG.MASTER_TIMEOUT
  if t = 0 ∨ s.absent m = true ∨ s.dev.ticks < (s.master m).lastPacket + t * ticksPerSecond then s
  else
    let s1 := s.put CMD_STATUS.key (if m = 0 then CMD_STATUS.ABSENT_M0 else CMD_STATUS.ABSENT_M1) 1
    (s1.dropLeases fun l => decide (l.master = m)).event (258 + m) 0x80 true 0

end Sys2Proof.Machine
end

