-- ==== Sys2Proof/Machine/Execute.lean ====
section
/-! DEFINITION. Step 2 of a tick (R58, R60): immediate commands, calendar actions in creation order, the arming of
port-keyed entries (R54), merging (R61), carried entries, long operations that waited (R366), and the entries that
apply at a port frame boundary (R54, R163). -/

namespace Sys2Proof.Machine

/-! ### What each command does at its moment -/

/-- Execution of the system, port and packet commands. -/
def State.runs1 (s : State) (p : Packet) (creation : Option Nat) : Done :=
  match p.op with
  | 0x02 => s.setLevelRun p
  | 0x03 => s.setClaimRun p
  | 0x04 => s.setSfnRun p creation
  | 0x05 => s.epochRun p
  | 0x06 => s.todRun p
  | 0x07 => s.commitRun p
  | 0x0A => s.leaseRun p
  | 0x0C => s.setAddressRun p creation
  | 0x10 => s.portModeRun p
  | 0x11 => s.sdhSectionRun p
  | 0x12 => s.sdhPathRun p
  | 0x15 => s.sdhDccRun p
  | 0x16 => s.otuCfgRun p
  | 0x17 => s.oduCfgRun p
  | 0x1A => s.dmStartRun p creation
  | 0x1B => okDone (s.flipAlfPort (p.fld 0 1))
  | 0x1C => okDone (s.flipAlfList (p.fld 0 1))
  | 0x1F => match s.bondOf (p.fld 0 1) with
    | some (g, 0) => okDone ((s.alfResync (p.fld 0 1)).bundleResync g)
    | _ => s.alfResyncRun p
  | 0x20 => s.bndGroupRun p
  | 0x21 => s.bndTribRun p
  | 0x23 => s.hrpGroupRun p
  | 0x24 => s.hrpSelectRun p
  | 0x26 => s.containerFlip p
  | 0x27 => s.lomTribRun p
  | 0x29 => s.flowFlip p
  | 0x2A => s.vlanRun p
  | 0x2B => s.vcatRun p
  | 0x2D => s.ethCfgRun p
  | 0x2E => s.damperCfgRun p
  | _ => okDone s

/-- Execution of the mapping, protection and timing commands. -/
def State.runs2 (s : State) (p : Packet) (creation : Option Nat) : Done :=
  match p.op with
  | 0x31 => s.connectRun p
  | 0x32 => s.disconnectRun p
  | 0x34 => s.defragRun p creation
  | 0x35 => s.runSetRun p
  | 0x36 => s.runFreeRun p
  | 0x37 => s.mapSetRun p
  | 0x38 => s.grtMoveRun p creation
  | 0x39 => s.poolRun p creation
  | 0x50 => s.groupCfgRun p
  | 0x51 => s.protCommandRun p
  | 0x53 => s.pairCfgRun p
  | 0x54 => s.pairCommandRun p creation
  | 0x60 => s.dplRefRun p
  | 0x61 => s.dplSelectRun p
  | 0x62 => s.dplCfgRun p
  | 0x64 => s.alignRun p creation
  | 0x65 => s.clkoutRun p
  | 0x66 => s.synRun p
  | _ => okDone s

/-- Execution of the remaining commands. -/
def State.runs3 (s : State) (p : Packet) (creation : Option Nat) : Done :=
  match p.op with
  | 0x70 => s.snapCfgRun p
  | 0x71 => s.snapshotDue p creation
  | 0x73 => s.cntClearRun p
  | 0x74 => s.pmCfgRun p
  | 0x81 => s.regWriteRun p
  | 0x82 => s.regModifyRun p
  | 0x84 => s.ctxWriteRun p
  | 0x91 => s.spareApproveRun p
  | 0x92 => s.spareRequestRun p
  | 0x94 => s.repairRun p
  | 0x95 => s.smokeCfgRun p
  | 0x96 => s.powerRun p creation
  | 0xA0 => s.traceCfgRun p
  | 0xA1 => s.obsCntRun p
  | 0xA2 => s.obsSampleRun p
  | 0xF0 => s.fwBeginRun p
  | 0xF1 => s.fwDataRun p
  | 0xF2 => s.fwEndRun p creation
  | 0xF3 => s.fwActivateRun p creation
  | _ => okDone s

def State.runCommand (s : State) (p : Packet) (creation : Option Nat) : Done :=
  if p.op < 0x30 then s.runs1 p creation else if p.op < 0x70 then s.runs2 p creation else s.runs3 p creation

/-! ### Merging (R61, R62, Table 02-5) -/

/-- Fields of a payload as one number. -/
def keyBytes (p : Packet) (ranges : List (Nat × Nat)) : Nat :=
  beVal (ranges.flatMap fun r => bytesAt p.payload r.1 r.2)

/-- Commands whose effects add up rather than reach one action: they never merge. -/
def addsUp (op : Nat) : Bool := [0x0C, 0x15, 0x31, 0x32, 0x81, 0x82, 0x84, 0xF1].contains op

/-- The action and the resource a command reaches; none where it merges with nothing. Notes: assumption 24. -/
def mergeKey (p : Packet) : Option (Nat × Nat) :=
  let op := p.op
  if addsUp op then none
  else if op = 0x02 then some (op, p.master)
  else if op = 0x0A then some (op, keyBytes p [(0, 4)] * 2 + p.master)
  else if op = 0x04 then some (op, p.fld 6 1)
  else if op = 0x07 then some (op, beVal p.payload)
  else if [0x03, 0x05, 0x06, 0x39, 0x53, 0x61, 0x62, 0x64, 0x66, 0x94, 0x95, 0xA0, 0xA1, 0xA2, 0xF0, 0xF2, 0xF3].contains
      op then some (op, 0)
  else if [0x12, 0x17, 0x26, 0x29, 0x2B].contains op then some (op, keyBytes p [(0, 2)])
  else if op = 0x1A then some (op, keyBytes p [(0, 3)])
  else if op = 0x27 then some (op, keyBytes p [(0, 4)])
  else if op = 0x2A then
    some (op, beVal (((List.range (p.payload.length / 4)).map fun i => p.payload.getD (4 * i) 0).eraseDups))
  else if op = 0x35 then some (op, keyBytes p [(0, 8)])
  else if op = 0x36 ∨ op = 0x38 then some (op, keyBytes p [(0, 4)])
  else if op = 0x37 then some (op, beVal p.payload)
  else if op = 0x50 ∨ op = 0x51 ∨ op = 0x91 ∨ op = 0x92 then some (op, keyBytes p [(0, 4)])
  else if op = 0x73 ∨ op = 0x74 then some (op, keyBytes p [(0, 8)])
  else if op = 0x96 then some (op, keyBytes p [(0, 2)])
  else some (op, p.fld 0 1)

/-- A command that reaches step 2: its packet, and its place in the order of R61 and R494. -/
structure Rival where
  packet : Packet
  ord : Nat
  deriving DecidableEq, Repr

/-- Whether `b` beats `a`, and what `a` then completes with (Table 02-5). -/
def State.beats (s : State) (b a : Rival) : Option Nat :=
  let ra := cmdRank (a.packet.fld 4 1)
  let rb := cmdRank (b.packet.fld 4 1)
  if mergeKey a.packet = none ∨ mergeKey a.packet ≠ mergeKey b.packet ∨ a.ord = b.ord then none
  else if a.packet.op = 0x51 ∧ ra ≠ rb then (if ra < rb then some stSUPERSEDED else none)
  else if a.packet.master ≠ b.packet.master then
    (if s.masterClaim a.packet.master < s.masterClaim b.packet.master ∨
        (s.masterClaim 0 = s.masterClaim 1 ∧ b.packet.master = 0) then some stCONFLICT else none)
  else if a.ord < b.ord then some stSUPERSEDED
  else none

/-- What a command loses with, against those still due and those that have executed in this step 2. -/
def State.losesTo (s : State) (a : Rival) (due ran : List Rival) : Option Nat :=
  match (due ++ ran).findSome? fun b => s.beats b a with
  | some st => some st
  | none => if ran.any fun b => decide (mergeKey a.packet ≠ none ∧ mergeKey b.packet = mergeKey a.packet ∧ b.ord ≠ a.ord)
      then some stSUPERSEDED else none

/-! ### Execution of an entry -/

/-- SKIPPED is shown and raised (R54, R64). -/
def State.noteSkipped (s : State) (e : Entry) : State :=
  if e.skipped then (s.put CAL_STATUS.key CAL_STATUS.SKIPPED 1).event 256 0x81 true 0 else s

/-- An entry held again. -/
def State.holdEntry (s : State) (e : Entry) : State :=
  { s with cal := { s.cal with entries := s.cal.entries ++ [e] } }

/-- The entry was deferred from the frame its command named (R163). -/
def deferredFrom (e : Entry) (p : Packet) : Bool :=
  match e.key, keyOf p with
  | .port q n, .port r m => decide (q = r ∧ n ≠ m)
  | _, _ => false

/-- What stays held after an execution: a repeating SNAPSHOT (R280), an armed SET_SFN (R495), a flip put off. -/
def State.heldAfter (s : State) (e : Entry) (p : Packet) (again : Bool) : State :=
  if again then s.holdEntry { e with notBefore := s.dev.ticks + 1, late := e.late || e.armed }
  else if p.op = 0x71 ∧ p.fld 4 4 ≠ 0 then
    s.holdEntry { e with key := .sfn (s.time.sfn + p.fld 4 4), interval := p.fld 4 4, skipped := false, carried := false }
  else if p.op = 0x04 ∧ p.fld 6 1 = 1 then s.holdEntry { e with armed := true }
  else s

/-- A host entry executes and completes. -/
def State.runHostEntry (s : State) (e : Entry) (p : Packet) : State :=
  let d := s.runCommand p (some e.creation)
  let flags := cflagsOf e.skipped e.carried
  let s1 := d.s.heldAfter e p d.again
  if d.again then s1
  else
    let s2 := ((s1.noteSkipped e).traceEntry e d.status flags).obsHappens obsCALENDAR (some p.master)
    let st := if d.status = stOK ∧ deferredFrom e p = true then stDEFERRED else d.status
    if d.finished then s2.complete p (some e.creation) st d.detail flags d.result else s2

/-- What a device entry does. -/
def State.runDevice (s : State) (a : Action) : State :=
  match a with
  | .host _ => s
  | .alfResize q profile annId => s.alfProfileFlip q profile annId
  | .bridge id => s.bridgeMove id
  | .roll id => s.rollMove id
  | .release id => s.releaseMove id
  | .handover => s.runHandover
  | .spare u => s.commitSpare u

/-- An entry, already removed, executes. -/
def State.runEntry (s : State) (e : Entry) : State :=
  match e.action with
  | .host p => s.runHostEntry e p
  | a => ((s.runDevice a).noteSkipped e |>.traceEntry e stOK (cflagsOf e.skipped e.carried)).obsHappens obsCALENDAR none

/-- An entry that lost a merge completes. -/
def State.loseEntry (s : State) (e : Entry) (p : Packet) (st : Nat) : State :=
  let flags := cflagsOf e.skipped e.carried
  (((s.unwind p).traceEntry e st flags).noteSkipped e).complete p (some e.creation) st 0 flags []

/-! ### Entries at a port frame boundary (R54) -/

def Entry.rival (e : Entry) : Option Rival :=
  match e.action with
  | .host p => some { packet := p, ord := e.creation }
  | _ => none

/-- Armed entries that the port's frame count has reached, or late ones. -/
def State.portReached (s : State) (p : Nat) : List Entry :=
  sortBy Entry.creation (s.cal.entries.filter fun e => e.armed && decide (e.notBefore ≤ s.dev.ticks) && match e.key with
    | .port q n => decide (q = p) && (e.late || atOrBeyond (s.pfn p) n)
    | .sfn _ => false)

/-- The frame an entry is keyed to. -/
def Entry.frame (e : Entry) : Nat := match e.key with
  | .port _ n => n
  | .sfn n => n

/-- The frame count an entry is keyed against. -/
def State.frameOf (s : State) (e : Entry) : Nat := match e.key with
  | .port q _ => s.pfn q
  | .sfn n => n

/-- A later device entry of the same announcement frame wins over an earlier one. -/
def outdone (es : List Entry) (e : Entry) : Bool :=
  match e.action with
  | .alfResize _ _ _ => es.any fun x => match x.action with
    | .alfResize _ _ _ => decide (e.creation < x.creation)
    | _ => false
  | _ => false

/-- One entry applies at the boundary, or loses a merge. -/
def State.applyEntry (s : State) (es : List Entry) (e : Entry) : State :=
  let e1 := { e with skipped := decide (e.frame ≠ s.frameOf e) }
  let rivals := es.filterMap Entry.rival
  match e.rival with
  | some r => match s.losesTo r rivals [] with
    | some st => s.loseEntry e1 r.packet st
    | none => s.runEntry e1
  | none => if outdone es e then s else s.runEntry e1

/-- A resize that falls on the second frame of another waits one frame more (R163). -/
def State.deferResize (s : State) (p : Nat) (e : Entry) : State :=
  let later := (s.pfn p + 1) % 2 ^ 32
  let es := s.cal.entries.map fun x => if x.creation = e.creation then { x with key := .port p later } else x
  let s1 := { s with cal := { s.cal with entries := es } }
  let s2 := s1.updAlf p fun x => { x with anns := x.anns.map fun a =>
    if a.creation = e.creation then { a with eff := later } else a }
  match e.action with
  | .alfResize _ profile annId => s2.showAnn p profile annId 1 later
  | _ => s2.showAnn p (s2.alfProfile p) 0 1 later

/-- The entries that the boundary of frame PFN applies, in creation order; the resizes among them are one resize. -/
def State.applyPort (s : State) (p : Nat) : State :=
  let n := s.pfn p
  let reached := s.portReached p
  let waits := fun (e : Entry) => s.isAlf p && s.alfSecond p n && e.resizes p
  let s1 := s.each (reached.filter waits) fun s e => s.deferResize p e
  let es := reached.filter fun e => !waits e
  let old := s1.alfUse p
  let s2 := s1.each es fun s e => s.removeEntry e.creation
  let s3 := s2.each es fun s e => s.applyEntry es e
  if es.any fun e => e.resizes p then s3.alfResized p n old else s3

/-! ### Arming (R54) -/

/-- Ports whose frames are the ticks themselves (R48). -/
def State.tickFramed (s : State) (p : Nat) : Bool := s.isEth p || s.isChimney p

/-- The entry's frame can begin before the next step 2, or it is late. -/
def State.armable (s : State) (e : Entry) : Bool :=
  match e.key with
  | .sfn _ => false
  | .port p n =>
    !e.armed && (e.late || atOrBeyond (s.pfn p) n ||
      (!s.tickFramed p && decide ((n + 2 ^ 32 - s.pfn p % 2 ^ 32) % 2 ^ 32 ≤ framesPerTick (s.family p) (s.rate p))))

/-- The entry is armed; a late one whose frame has yet to begin waits for it. -/
def State.arm (s : State) (e : Entry) : State :=
  match e.key with
  | .sfn _ => s
  | .port p n =>
    let late := e.late && atOrBeyond (s.pfn p) n
    let es := s.cal.entries.map fun x =>
      if x.creation = e.creation then { x with armed := true, late := late } else x
    { s with cal := { s.cal with entries := es } }

/-- Ports whose frame begins with the tick apply what has been armed for it. -/
def State.applyTickFramed (s : State) : State :=
  let ports := (s.cal.entries.filterMap fun e => match e.key with
    | .port p _ => if e.armed && s.tickFramed p then some p else none
    | .sfn _ => none).eraseDups
  s.each ports State.applyPort

/-! ### The order of a step 2 (R60, R494) -/

/-- The calendar runs: no SFN_CONFLICT (R45). -/
def State.calendarRuns (s : State) : Bool := !s.on SYS_TIME_STATUS.key SYS_TIME_STATUS.SFN_CONFLICT

/-- An SFN-keyed entry due now. -/
def State.dueSfn (s : State) (e : Entry) : Bool :=
  match e.key with
  | .sfn n => !e.armed && decide (n ≤ s.time.sfn) && s.time.nextSfn.isNone
  | .port _ _ => false

/-- Entries to execute or to arm: carried ones, then skipped ones by SFN, then the tick's own, then those to arm. -/
def State.dueEntries (s : State) : List Entry :=
  if s.calendarRuns = false then []
  else
    let live := s.cal.entries.filter fun e => e.spare?.isNone && decide (e.notBefore ≤ s.dev.ticks)
    let due := live.filter s.dueSfn
    let arm := live.filter s.armable
    let carried := sortBy Entry.creation ((due ++ arm).filter fun e => e.carried)
    let skipped := sortBy (fun e : Entry => e.frame * 2 ^ 32 + e.creation)
      (due.filter fun e => !e.carried && e.skipped)
    let own := sortBy Entry.creation (due.filter fun e => !e.carried && !e.skipped)
    carried ++ skipped ++ own ++ sortBy Entry.creation (arm.filter fun e => !e.carried)

/-- Immediate commands of an earlier step 1. -/
def State.dueImmediates (s : State) : List Taken := s.cmd.immediates.filter fun t => decide (t.tick < s.dev.ticks)

/-- Order of an immediate command: after every calendar entry (R494). -/
def immediateOrd (i : Nat) : Nat := 2 ^ 40 + i

def immRivals (ts : List Taken) (from_ : Nat) : List Rival :=
  (ts.zip (List.range ts.length)).map fun x => { packet := x.1.packet, ord := immediateOrd (from_ + x.2) }

/-- An immediate command executes and is answered (R494). -/
def State.runImmediate (s : State) (t : Taken) : State :=
  let d := s.runCommand t.packet none
  if d.again then
    let x : Taken := { t with tick := s.dev.ticks }
    { d.s with cmd := { d.s.cmd with immediates := d.s.cmd.immediates ++ [x] } }
  else
    let s1 := if t.packet.op = 0x71 ∧ t.packet.fld 4 4 ≠ 0 ∧ d.s.hostRoom t.packet.master = true then
        d.s.addEntry (.sfn (s.time.sfn + t.packet.fld 4 4)) (.host t.packet) false (t.packet.fld 4 4) 0
      else d.s
    if d.finished then s1.complete t.packet none d.status d.detail 0 d.result else s1

/-- The immediate commands in the order taken; `ran` collects what executes. -/
def State.runImmediates (s : State) : Nat → Nat → List Rival → List Rival × State
  | 0, _, ran => (ran, s)
  | fuel + 1, i, ran =>
    match s.dueImmediates with
    | [] => (ran, s)
    | t :: rest =>
      let me : Rival := { packet := t.packet, ord := immediateOrd i }
      let others := immRivals rest (i + 1) ++ ((s.dueEntries.take calPerTick).filter fun e => !s.armable e).filterMap
        Entry.rival
      let s1 := { s with cmd := { s.cmd with immediates := s.cmd.immediates.erase t } }
      match s.losesTo me others ran with
      | some st => ((s1.unwind t.packet).complete t.packet none st 0 0 []).runImmediates fuel (i + 1) ran
      | none => (s1.runImmediate t).runImmediates fuel (i + 1) (ran ++ [me])

/-- The entries due, up to `left` of them. -/
def State.runDue (s : State) : Nat → List Rival → State
  | 0, _ => s
  | left + 1, ran =>
    match s.dueEntries.take (left + 1) with
    | [] => s
    | e :: rest =>
      if s.armable e then (s.arm e).runDue left ran
      else
        let s1 := s.removeEntry e.creation
        match e.rival with
        | none => (s1.runEntry e).runDue left ran
        | some me =>
          match s.losesTo me ((rest.filter fun x => !s.armable x).filterMap Entry.rival) ran with
          | some st => (s1.loseEntry e me.packet st).runDue left ran
          | none => (s1.runEntry e).runDue left (ran ++ [me])

/-- What is still due is carried to the next step 2 (R60). -/
def State.carryRest (s : State) : State :=
  let rest := s.dueEntries.map Entry.creation
  if rest = [] then s
  else
    let es := s.cal.entries.map fun e => if rest.contains e.creation then { e with carried := true, notBefore := s.dev.ticks + 1 } else e
    (({ s with cal := { s.cal with entries := es } }).put CAL_STATUS.key CAL_STATUS.CARRIED 1).event 256 0x80 true 0

/-! ### The armed SET_SFN (R495) -/

/-- On the tick of a second marker the armed SET_SFN falls due as one of mode 0. -/
def State.armedFalls (s : State) : State :=
  match s.time.armed with
  | none => s
  | some (p, c) =>
    if s.time.marker = false then s
    else
      let q : Packet := { p with payload := putByte p.payload 6 0 }
      let s1 := { s with time := { s.time with armed := none } }
      match c with
      | none =>
        let x : Taken := { packet := q, tick := s.dev.ticks - 1 }
        { s1 with cmd := { s1.cmd with immediates := x :: s1.cmd.immediates } }
      | some n =>
        let es := s1.cal.entries.map fun e =>
          if e.creation = n then { e with action := .host q, armed := false, key := .sfn s.time.sfn } else e
        { s1 with cal := { s1.cal with entries := es } }

/-! ### Pending operations (R366) -/

/-- The pending command starts, once nothing runs on its resource. -/
def State.startPending (s : State) (r : Res) : State :=
  match s.slotOf r with
  | none => s
  | some o =>
    if (s.running r).isSome ∨ (r.1 = 8 ∧ s.planRuns r.2.2 = true) ∨
        (r.1 = 0x0D ∧ s.pair.handover.isSome) then s
    else
      let d := (s.clearSlot r).runCommand o.packet o.made
      if d.finished then d.s.complete o.packet o.made d.status d.detail 0 d.result else d.s

def State.startAllPending (s : State) : State := s.each (s.cmd.slots.map LongOp.res) State.startPending

/-! ### Step 2 -/

/-- The commands and entries of a step 2. -/
def State.step2Commands (s : State) : State :=
  let s1 := s.armedFalls
  let r := s1.runImmediates (s1.cmd.immediates.length + 1) 0 []
  (r.2.runDue calPerTick r.1).carryRest.applyTickFramed

/-- What the commands of a step 2 bring about in it: requests in force, resources given back, plans that have
ended, banks, spares, the start of an image. -/
def State.endStep2 (s : State) : State :=
  let s2 := s.runGroups.sweepInternal.sweepReleased.settlePlans
  let s3 := s2.switchBanks.pinCancels.runSpares
  let s4 := s3.fwStart
  if s4.dev.boot = .restarting ∧ s3.dev.boot ≠ .restarting then s4.drainBuffers else s4

/-- Step 2 of a tick (R58). -/
def State.step2 (s : State) : State := s.startAllPending.runGroups.step2Commands.endStep2

end Sys2Proof.Machine
end

