-- ==== Sys2Proof/Machine/Frames.lean ====
section
/-! DEFINITION. Frames received, and the port frame boundaries they make: the PFN (R48), entries at a frame (R54),
ALF markers and frames (R171, R173), tributaries, bundles, HRP groups, and packets (09_packet_mapping). -/

namespace Sys2Proof.Machine

/-! ### Frame boundaries (R48) -/

/-- A port frame starts: the PFN moves by 1, a spare block resumes the port (R434), a resize goes on (R163), a
bundle member's start is counted (R180), and armed entries apply (R54). -/
def State.frameStart (s : State) (p : Nat) : State :=
  let s1 := (s.updPort p fun x => { x with pfn := (x.pfn + 1) % 2 ^ 32 }).framerResumes p
  (if s1.isAlf p then (s1.alfBoundary p).countStart p else s1).applyPort p

/-- A port whose frames are counted here, not by the SFN (R48). -/
def State.countsFrames (s : State) (p : Nat) : Bool := s.isSdh p || s.isOtn p || s.isAlf p

/-! ### SDH, OTN and low-order tributaries -/

def State.sdhArrives (s : State) (p : Nat) (f : SdhRx) : State :=
  let s1 := if s.isSdh p then s.frameStart p else s
  (s1.sdhReceive p f).fopFrame p

def execSdhFrameReceive (p : Port) (f : SdhRx) (s : State) : Host.Outcome State Fault Refusal :=
  .next (s.datapath fun s => s.sdhArrives p f).settle

def State.otuArrives (s : State) (p : Nat) (f : OtuRx) : State :=
  if s.isOtn p then (s.frameStart p).otuReceive p f else s

def execOtuFrameReceive (p : Port) (f : OtuRx) (s : State) : Host.Outcome State Fault Refusal :=
  .next (s.datapath fun s => s.otuArrives p f).settle

def execDmTimeout (p : Port) (index : Nat) (layer : Fin 7) (s : State) : Host.Outcome State Fault Refusal :=
  .next (s.datapath fun s => s.dmTimeout p index layer).settle

def execTuMultiframeReceive (k : TribKey) (f : TuRx) (s : State) : Host.Outcome State Fault Refusal :=
  .next (s.datapath fun s => s.tuReceive k.port k.head.toNat k.pos.toNat f).settle

/-! ### ALF markers (R173) -/

/-- The marker makes the port's next frame. -/
def State.markerFrame (s : State) (p profile : Nat) : State := (s.frameStart p).alfGoodMarker p profile

/-- A marker of logical lane 0; those of other lanes serve deskew alone (R157). -/
def State.alfMarker (s : State) (p : Nat) (m : Marker) : State :=
  let n := m.pfn.toNat
  if s.isAlf p = false ∨ m.lane ≠ 0 then s
  else if m.checkOk = false then s.countPort p 2 1
  else if n = (s.pfn p + 1) % 2 ^ 32 then s.markerFrame p m.profile
  else if (s.alf p).candidate = some ((n + 2 ^ 32 - 1) % 2 ^ 32) then
    let s1 := s.updPort p fun x => { x with pfn := (n + 2 ^ 32 - 1) % 2 ^ 32 }
    (s1.event p ePFN_DISCONTINUITY true 0).markerFrame p m.profile
  else s.updAlf p fun x => { x with candidate := some n }

def execAlfMarkerReceive (p : Port) (m : Marker) (s : State) : Host.Outcome State Fault Refusal :=
  .next (s.datapath fun s => s.alfMarker p m).settle

/-- A boundary produced by local timing: an interval of an ALF port without a valid marker. -/
def State.flywheel (s : State) (p : Nat) : State :=
  if s.countsFrames p = false then s
  else
    let s1 := s.frameStart p
    if s1.isAlf p then s1.alfMissed p else s1

def execPfnFlywheelBoundary (p : Port) (s : State) : Host.Outcome State Fault Refusal :=
  .next (s.datapath fun s => s.flywheel p).settle

/-- PORT_ENTRY_APPLY: what is armed for the frame that now starts. -/
def execPortEntryApply (p : Port) (s : State) : Host.Outcome State Fault Refusal := .next (s.applyPort p).settle

/-- ALF_RESIZE_APPLY: the resizes of frame N. -/
def execAlfResizeApply (p : Port) (s : State) : Host.Outcome State Fault Refusal :=
  .next (if s.isAlf p then s.applyPort p else s).settle

def execAlfRestoreAisEnd (p : Port) (s : State) : Host.Outcome State Fault Refusal := .next (s.alfRestoreEnd p).settle

/-! ### ALF frames (R171) -/

/-- The frame is accepted: its SEQ. -/
def State.alfTakes (s : State) (p : Nat) (f : AlfRx) : Option Nat :=
  let expected := ((s.alf p).lastSeq + 1) % 2 ^ 32
  if (s.alf p).started = false then (if f.present ∧ f.hecOk ∧ f.okSeq then some f.seq.toNat else none)
  else match alfTake expected f with
    | .accept => some expected
    | .slip _ => some f.seq.toNat
    | _ => none

/-- What a group port's accepted frame tells its group (R178, R181). -/
def State.groupFrame (s : State) (p : Nat) (f : AlfRx) (seq : Nat) : State :=
  let s1 := s.groupCheck p f.flags.toNat
  match s1.bondOf p with
  | some (g, _) => if seq % 64 = 14 then s1.bundleDigest g f.ohc.toNat else s1
  | none => s1

def State.alfArrives (s : State) (p : Nat) (f : AlfRx) : State :=
  if s.isAlf p = false then s
  else match s.alfTakes p f with
    | some seq => (s.alfFrame p f).groupFrame p f seq
    | none => s.alfFrame p f

def execAlfFrameReceive (p : Port) (f : AlfRx) (s : State) : Host.Outcome State Fault Refusal :=
  .next (s.datapath fun s => s.alfArrives p f).settle

def execAlfAnnounce (p : Port) (profile annId : Fin 16) (effPfn framePfn : BitVec 32) (s : State) :
    Host.Outcome State Fault Refusal :=
  .next (s.datapath fun s => s.announceOn p profile annId effPfn.toNat framePfn.toNat).settle

def execAlfQuality (p : Port) (content : BitVec 40) (s : State) : Host.Outcome State Fault Refusal :=
  .next (s.datapath fun s => s.alfQuality p content.toNat).settle

def execAlfIdent (p : Port) (part : Fin 4) (word : Word) (s : State) : Host.Outcome State Fault Refusal :=
  .next (s.datapath fun s => s.alfIdent p part word.toNat).settle

/-! ### Groups -/

def execBundlePlayout (g : Fin 12) (shares : List BcbRx) (s : State) : Host.Outcome State Fault Refusal :=
  .next (s.datapath fun s => s.bundlePlayout g shares).settle

def execRejoinWtrExpiry (g : Fin 12) (m : Fin 8) (s : State) : Host.Outcome State Fault Refusal :=
  .next (s.rejoinExpiry g m).settle

def execHrpPlayout (g : Fin 24) (mainOk otherOk : Option Bool) (lagUs : Int) (s : State) :
    Host.Outcome State Fault Refusal :=
  .next (s.datapath fun s => s.hrpPlayout g mainOk otherOk lagUs).settle

/-! ### Packets -/

def execEthFrameReceive (p : Port) (f : EthFrame) (s : State) : Host.Outcome State Fault Refusal :=
  .next (s.datapath fun s => s.ethReceive p f).settle

def execPauseFrameReceive (p : Port) (pfc : Bool) (enable : Byte) (quanta : List (BitVec 16)) (s : State) :
    Host.Outcome State Fault Refusal :=
  .next (s.datapath fun s => s.pauseReceive p pfc enable.toNat quanta).settle

def execRxPauseExpiry (p : Port) (prio : Fin 8) (s : State) : Host.Outcome State Fault Refusal :=
  .next (s.datapath fun s => s.pauseExpiry p prio).settle

def execGfpFrameReceive (e : Fin 8) (n : Fin 64) (f : GfpRx) (s : State) : Host.Outcome State Fault Refusal :=
  .next (s.datapath fun s => s.gfpReceive e n f).settle

def execGfpFrameTransmit (e : Fin 8) (n : Fin 64) (s : State) : Host.Outcome State Fault Refusal :=
  .next (s.datapath fun s => s.gfpTransmit e n).settle

def execEthEgressTransmit (p : Port) (s : State) : Host.Outcome State Fault Refusal :=
  .next (s.datapath fun s => s.ethTransmit p).settle

def execDrainEval (e : Fin 8) (s : State) : Host.Outcome State Fault Refusal :=
  .next (s.datapath fun s => s.drainEval e).settle

def execFlowControlSend (p : Port) (s : State) : Host.Outcome State Fault Refusal :=
  .next (s.datapath fun s => s.flowControl p).settle

def execPauseRefresh (p : Port) (s : State) : Host.Outcome State Fault Refusal :=
  .next (s.datapath fun s => s.pauseRefresh p).settle

def execCsfSend (e : Fin 8) (f : Fin 64) (s : State) : Host.Outcome State Fault Refusal :=
  .next (s.datapath fun s => s.csfSend e f).settle

def execLcasHoldoffExpiry (e : Fin 8) (g : Fin 64) (m : Fin 256) (s : State) : Host.Outcome State Fault Refusal :=
  .next (s.lcasHoldoffExpiry e g m).settle

def execLcasWtrExpiry (e : Fin 8) (g : Fin 64) (m : Fin 256) (s : State) : Host.Outcome State Fault Refusal :=
  .next (s.lcasWtrExpiry e g m).settle

end Sys2Proof.Machine
end

