-- ==== Sys2Proof/Machine/Host.lean ====
section
/-! DEFINITION. The host commands: each row is one packet of its opcode (Table 14-6), and of the form its row names,
taken in step 1 of the current tick and answered by the first row of Table 14-5 that applies (R353). What an accepted
command does at its moment is in the file of its chapter, reached through `State.runCommand`. -/

namespace Sys2Proof.Machine

/-- NOP (R354), opcode 0x00. -/
def execNop (p : Packet) (s : State) : Host.Outcome State Fault Refusal :=
  .next (s.takeCommand (p.forOp 0x00)).settle

/-- IDENTIFY_SELF (R388), opcode 0x01. -/
def execIdentifySelf (p : Packet) (s : State) : Host.Outcome State Fault Refusal :=
  .next (s.takeCommand (p.forByte 0x01 0 0)).settle

/-- IDENTIFY_PARTNER (R388), opcode 0x01. -/
def execIdentifyPartner (p : Packet) (s : State) : Host.Outcome State Fault Refusal :=
  .next (s.takeCommand (p.forByte 0x01 0 1)).settle

/-- IDENTIFY_RING_TABLE (R388), opcode 0x01. -/
def execIdentifyRingTable (p : Packet) (s : State) : Host.Outcome State Fault Refusal :=
  .next (s.takeCommand (p.forByte 0x01 0 2)).settle

/-- SET_LEVEL (R355), opcode 0x02. -/
def execSetLevel (p : Packet) (s : State) : Host.Outcome State Fault Refusal :=
  .next (s.takeCommand (p.forOp 0x02)).settle

/-- SET_MASTER_CLAIM (R358), opcode 0x03. -/
def execSetMasterClaim (p : Packet) (s : State) : Host.Outcome State Fault Refusal :=
  .next (s.takeCommand (p.forOp 0x03)).settle

/-- SET_SFN (R495), opcode 0x04. -/
def execSetSfn (p : Packet) (s : State) : Host.Outcome State Fault Refusal :=
  .next (s.takeCommand (p.forByte 0x04 6 0)).settle

/-- SET_SFN_AT_MARKER (R495), opcode 0x04. -/
def execSetSfnAtMarker (p : Packet) (s : State) : Host.Outcome State Fault Refusal :=
  .next (s.takeCommand (p.forByte 0x04 6 1)).settle

/-- EPOCH_RESTART (R65), opcode 0x05. -/
def execEpochRestart (p : Packet) (s : State) : Host.Outcome State Fault Refusal :=
  .next (s.takeCommand (p.forOp 0x05)).settle

/-- SET_TOD_LABEL (R67), opcode 0x06. -/
def execSetTodLabel (p : Packet) (s : State) : Host.Outcome State Fault Refusal :=
  .next (s.takeCommand (p.forOp 0x06)).settle

/-- COMMIT_STAGED (R56), opcode 0x07. -/
def execCommitStaged (p : Packet) (s : State) : Host.Outcome State Fault Refusal :=
  .next (s.takeCommand (p.forByte 0x07 0 0)).settle

/-- COMMIT_STAGED_DISCARD (R56), opcode 0x07. -/
def execCommitStagedDiscard (p : Packet) (s : State) : Host.Outcome State Fault Refusal :=
  .next (s.takeCommand (p.forByte 0x07 0 1)).settle

/-- CAL_CANCEL (R53), opcode 0x08. -/
def execCalCancel (p : Packet) (s : State) : Host.Outcome State Fault Refusal :=
  .next (s.takeCommand (p.forOp 0x08)).settle

/-- QUEUE_READ (R240), opcode 0x09. -/
def execQueueRead (p : Packet) (s : State) : Host.Outcome State Fault Refusal :=
  .next (s.takeCommand (p.forOp 0x09)).settle

/-- LEASE_RELEASE (R363), opcode 0x0A. -/
def execLeaseRelease (p : Packet) (s : State) : Host.Outcome State Fault Refusal :=
  .next (s.takeCommand (p.forOp 0x0A)).settle

/-- LEASE_READ (R363), opcode 0x0B. -/
def execLeaseRead (p : Packet) (s : State) : Host.Outcome State Fault Refusal :=
  .next (s.takeCommand (p.forOp 0x0B)).settle

/-- SET_ADDRESS (R376), opcode 0x0C. -/
def execSetAddress (p : Packet) (s : State) : Host.Outcome State Fault Refusal :=
  .next (s.takeCommand (p.forOp 0x0C)).settle

/-- PORT_MODE (R79), opcode 0x10. -/
def execPortMode (p : Packet) (s : State) : Host.Outcome State Fault Refusal :=
  .next (s.takeCommand (p.forOp 0x10)).settle

/-- SDH_SECTION_CFG (R55), opcode 0x11. -/
def execSdhSectionCfg (p : Packet) (s : State) : Host.Outcome State Fault Refusal :=
  .next (s.takeCommand (p.forOp 0x11)).settle

/-- SDH_PATH_CFG (R122), opcode 0x12. -/
def execSdhPathCfg (p : Packet) (s : State) : Host.Outcome State Fault Refusal :=
  .next (s.takeCommand (p.forOp 0x12)).settle

/-- SDH_PATH_STATUS (R123), opcode 0x13. -/
def execSdhPathStatus (p : Packet) (s : State) : Host.Outcome State Fault Refusal :=
  .next (s.takeCommand (p.forOp 0x13)).settle

/-- SDH_TRACE_READ (R104), opcode 0x14. -/
def execSdhTraceRead (p : Packet) (s : State) : Host.Outcome State Fault Refusal :=
  .next (s.takeCommand (p.forOp 0x14)).settle

/-- SDH_DCC_SEND (R108), opcode 0x15. -/
def execSdhDccSend (p : Packet) (s : State) : Host.Outcome State Fault Refusal :=
  .next (s.takeCommand (p.forOp 0x15)).settle

/-- OTN_OTU_CFG (R151), opcode 0x16. -/
def execOtnOtuCfg (p : Packet) (s : State) : Host.Outcome State Fault Refusal :=
  .next (s.takeCommand (p.forOp 0x16)).settle

/-- OTN_ODU_CFG (R152), opcode 0x17. -/
def execOtnOduCfg (p : Packet) (s : State) : Host.Outcome State Fault Refusal :=
  .next (s.takeCommand (p.forOp 0x17)).settle

/-- OTN_ODU_STATUS (R153), opcode 0x18. -/
def execOtnOduStatus (p : Packet) (s : State) : Host.Outcome State Fault Refusal :=
  .next (s.takeCommand (p.forOp 0x18)).settle

/-- OTN_TTI_READ (R134), opcode 0x19. -/
def execOtnTtiRead (p : Packet) (s : State) : Host.Outcome State Fault Refusal :=
  .next (s.takeCommand (p.forOp 0x19)).settle

/-- OTN_DM_START (R138), opcode 0x1A. -/
def execOtnDmStart (p : Packet) (s : State) : Host.Outcome State Fault Refusal :=
  .next (s.takeCommand (p.forOp 0x1A)).settle

/-- ALF_PORT_CFG (R175), opcode 0x1B. -/
def execAlfPortCfg (p : Packet) (s : State) : Host.Outcome State Fault Refusal :=
  .next (s.takeCommand (p.forOp 0x1B)).settle

/-- ALF_TRIB_CFG_REPLACE (R176), opcode 0x1C. -/
def execAlfTribCfgReplace (p : Packet) (s : State) : Host.Outcome State Fault Refusal :=
  .next (s.takeCommand (p.forByte 0x1C 1 0)).settle

/-- ALF_TRIB_CFG_APPEND (R176), opcode 0x1C. -/
def execAlfTribCfgAppend (p : Packet) (s : State) : Host.Outcome State Fault Refusal :=
  .next (s.takeCommand (p.forByte 0x1C 1 1)).settle

/-- ALF_TRIB_CFG_REMOVE (R176), opcode 0x1C. -/
def execAlfTribCfgRemove (p : Packet) (s : State) : Host.Outcome State Fault Refusal :=
  .next (s.takeCommand (p.forByte 0x1C 1 2)).settle

/-- ALF_TRIB_CFG_CHANGE (R176), opcode 0x1C. -/
def execAlfTribCfgChange (p : Packet) (s : State) : Host.Outcome State Fault Refusal :=
  .next (s.takeCommand (p.forByte 0x1C 1 3)).settle

/-- ALF_STATUS_READ (R174), opcode 0x1D. -/
def execAlfStatusRead (p : Packet) (s : State) : Host.Outcome State Fault Refusal :=
  .next (s.takeCommand (p.forOp 0x1D)).settle

/-- ALF_MAP_READ (R492), opcode 0x1E. -/
def execAlfMapRead (p : Packet) (s : State) : Host.Outcome State Fault Refusal :=
  .next (s.takeCommand (p.forOp 0x1E)).settle

/-- ALF_MAP_RESYNC (R170), opcode 0x1F. -/
def execAlfMapResync (p : Packet) (s : State) : Host.Outcome State Fault Refusal :=
  .next (s.takeCommand (p.forOp 0x1F)).settle

/-- BND_GROUP_CFG (R194), opcode 0x20. -/
def execBndGroupCfg (p : Packet) (s : State) : Host.Outcome State Fault Refusal :=
  .next (s.takeCommand (p.forOp 0x20)).settle

/-- BND_TRIB_CFG_REPLACE (R194), opcode 0x21. -/
def execBndTribCfgReplace (p : Packet) (s : State) : Host.Outcome State Fault Refusal :=
  .next (s.takeCommand (p.forByte 0x21 1 0)).settle

/-- BND_TRIB_CFG_APPEND (R194), opcode 0x21. -/
def execBndTribCfgAppend (p : Packet) (s : State) : Host.Outcome State Fault Refusal :=
  .next (s.takeCommand (p.forByte 0x21 1 1)).settle

/-- BND_TRIB_CFG_REMOVE (R194), opcode 0x21. -/
def execBndTribCfgRemove (p : Packet) (s : State) : Host.Outcome State Fault Refusal :=
  .next (s.takeCommand (p.forByte 0x21 1 2)).settle

/-- BND_TRIB_CFG_CHANGE (R194), opcode 0x21. -/
def execBndTribCfgChange (p : Packet) (s : State) : Host.Outcome State Fault Refusal :=
  .next (s.takeCommand (p.forByte 0x21 1 3)).settle

/-- BND_STATUS_READ (R186), opcode 0x22. -/
def execBndStatusRead (p : Packet) (s : State) : Host.Outcome State Fault Refusal :=
  .next (s.takeCommand (p.forOp 0x22)).settle

/-- HRP_GROUP_CFG (R195), opcode 0x23. -/
def execHrpGroupCfg (p : Packet) (s : State) : Host.Outcome State Fault Refusal :=
  .next (s.takeCommand (p.forOp 0x23)).settle

/-- HRP_SELECT_AUTO (R192), opcode 0x24. -/
def execHrpSelectAuto (p : Packet) (s : State) : Host.Outcome State Fault Refusal :=
  .next (s.takeCommand (p.forByte 0x24 1 0)).settle

/-- HRP_SELECT_FORCE_MAIN (R192), opcode 0x24. -/
def execHrpSelectForceMain (p : Packet) (s : State) : Host.Outcome State Fault Refusal :=
  .next (s.takeCommand (p.forByte 0x24 1 1)).settle

/-- HRP_SELECT_FORCE_OTHER (R192), opcode 0x24. -/
def execHrpSelectForceOther (p : Packet) (s : State) : Host.Outcome State Fault Refusal :=
  .next (s.takeCommand (p.forByte 0x24 1 2)).settle

/-- HRP_STATUS_READ (R191), opcode 0x25. -/
def execHrpStatusRead (p : Packet) (s : State) : Host.Outcome State Fault Refusal :=
  .next (s.takeCommand (p.forOp 0x25)).settle

/-- LOM_CONTAINER_CFG (R219), opcode 0x26. -/
def execLomContainerCfg (p : Packet) (s : State) : Host.Outcome State Fault Refusal :=
  .next (s.takeCommand (p.forOp 0x26)).settle

/-- LOM_TRIB_CFG (R220), opcode 0x27. -/
def execLomTribCfg (p : Packet) (s : State) : Host.Outcome State Fault Refusal :=
  .next (s.takeCommand (p.forOp 0x27)).settle

/-- LOM_TRIB_STATUS (R221), opcode 0x28. -/
def execLomTribStatus (p : Packet) (s : State) : Host.Outcome State Fault Refusal :=
  .next (s.takeCommand (p.forOp 0x28)).settle

/-- PKT_FLOW_CFG (R244), opcode 0x29. -/
def execPktFlowCfg (p : Packet) (s : State) : Host.Outcome State Fault Refusal :=
  .next (s.takeCommand (p.forOp 0x29)).settle

/-- PKT_VLAN_CFG (R230), opcode 0x2A. -/
def execPktVlanCfg (p : Packet) (s : State) : Host.Outcome State Fault Refusal :=
  .next (s.takeCommand (p.forOp 0x2A)).settle

/-- PKT_VCAT_CFG (R228), opcode 0x2B. -/
def execPktVcatCfg (p : Packet) (s : State) : Host.Outcome State Fault Refusal :=
  .next (s.takeCommand (p.forOp 0x2B)).settle

/-- PKT_FLOW_STATUS (R233), opcode 0x2C. -/
def execPktFlowStatus (p : Packet) (s : State) : Host.Outcome State Fault Refusal :=
  .next (s.takeCommand (p.forOp 0x2C)).settle

/-- ETH_PORT_CFG (R234), opcode 0x2D. -/
def execEthPortCfg (p : Packet) (s : State) : Host.Outcome State Fault Refusal :=
  .next (s.takeCommand (p.forOp 0x2D)).settle

/-- PRT_DAMPER_CFG (R273), opcode 0x2E. -/
def execPrtDamperCfg (p : Packet) (s : State) : Host.Outcome State Fault Refusal :=
  .next (s.takeCommand (p.forOp 0x2E)).settle

/-- STK_QUERY (R251), opcode 0x30. -/
def execStkQuery (p : Packet) (s : State) : Host.Outcome State Fault Refusal :=
  .next (s.takeCommand (p.forOp 0x30)).settle

/-- CONNECT (R257), opcode 0x31. -/
def execConnect (p : Packet) (s : State) : Host.Outcome State Fault Refusal :=
  .next (s.takeCommand (p.forByte 0x31 24 0)).settle

/-- CONNECT_UNIDIR (R257), opcode 0x31. -/
def execConnectUnidir (p : Packet) (s : State) : Host.Outcome State Fault Refusal :=
  .next (s.takeCommand (p.forByte 0x31 24 1)).settle

/-- CONNECT_ADD_SINK (R250), opcode 0x31. -/
def execConnectAddSink (p : Packet) (s : State) : Host.Outcome State Fault Refusal :=
  .next (s.takeCommand (p.forByte 0x31 24 2)).settle

/-- DISCONNECT (R257), opcode 0x32. -/
def execDisconnect (p : Packet) (s : State) : Host.Outcome State Fault Refusal :=
  .next (s.takeCommand (p.forOp 0x32)).settle

/-- CONN_READ (R257), opcode 0x33. -/
def execConnRead (p : Packet) (s : State) : Host.Outcome State Fault Refusal :=
  .next (s.takeCommand (p.forOp 0x33)).settle

/-- GRT_DEFRAG (R262), opcode 0x34. -/
def execGrtDefrag (p : Packet) (s : State) : Host.Outcome State Fault Refusal :=
  .next (s.takeCommand (p.forOp 0x34)).settle

/-- GRT_RUN_SET (R265), opcode 0x35. -/
def execGrtRunSet (p : Packet) (s : State) : Host.Outcome State Fault Refusal :=
  .next (s.takeCommand (p.forOp 0x35)).settle

/-- GRT_RUN_FREE (R265), opcode 0x36. -/
def execGrtRunFree (p : Packet) (s : State) : Host.Outcome State Fault Refusal :=
  .next (s.takeCommand (p.forOp 0x36)).settle

/-- GRT_MAP_SET (R265), opcode 0x37. -/
def execGrtMapSet (p : Packet) (s : State) : Host.Outcome State Fault Refusal :=
  .next (s.takeCommand (p.forOp 0x37)).settle

/-- GRT_MOVE (R260), opcode 0x38. -/
def execGrtMove (p : Packet) (s : State) : Host.Outcome State Fault Refusal :=
  .next (s.takeCommand (p.forOp 0x38)).settle

/-- STK_POOL_CFG (R266), opcode 0x39. -/
def execStkPoolCfg (p : Packet) (s : State) : Host.Outcome State Fault Refusal :=
  .next (s.takeCommand (p.forOp 0x39)).settle

/-- PROT_GROUP_CFG (R319), opcode 0x50. -/
def execProtGroupCfg (p : Packet) (s : State) : Host.Outcome State Fault Refusal :=
  .next (s.takeCommand (p.forByte 0x50 4 1)).settle

/-- PROT_GROUP_REMOVE (R319), opcode 0x50. -/
def execProtGroupRemove (p : Packet) (s : State) : Host.Outcome State Fault Refusal :=
  .next (s.takeCommand (p.forByte 0x50 4 0)).settle

/-- PROT_CLEAR (R294), opcode 0x51. -/
def execProtClear (p : Packet) (s : State) : Host.Outcome State Fault Refusal :=
  .next (s.takeCommand (p.forByte 0x51 4 0)).settle

/-- PROT_LOCKOUT (R294), opcode 0x51. -/
def execProtLockout (p : Packet) (s : State) : Host.Outcome State Fault Refusal :=
  .next (s.takeCommand (p.forByte 0x51 4 1)).settle

/-- PROT_FORCED (R294), opcode 0x51. -/
def execProtForced (p : Packet) (s : State) : Host.Outcome State Fault Refusal :=
  .next (s.takeCommand (p.forByte 0x51 4 2)).settle

/-- PROT_MANUAL (R294), opcode 0x51. -/
def execProtManual (p : Packet) (s : State) : Host.Outcome State Fault Refusal :=
  .next (s.takeCommand (p.forByte 0x51 4 3)).settle

/-- PROT_MANUAL_W (R294), opcode 0x51. -/
def execProtManualW (p : Packet) (s : State) : Host.Outcome State Fault Refusal :=
  .next (s.takeCommand (p.forByte 0x51 4 4)).settle

/-- PROT_EXERCISE (R294), opcode 0x51. -/
def execProtExercise (p : Packet) (s : State) : Host.Outcome State Fault Refusal :=
  .next (s.takeCommand (p.forByte 0x51 4 5)).settle

/-- PROT_STATUS (R290), opcode 0x52. -/
def execProtStatus (p : Packet) (s : State) : Host.Outcome State Fault Refusal :=
  .next (s.takeCommand (p.forOp 0x52)).settle

/-- PAIR_CFG (R301), opcode 0x53. -/
def execPairCfg (p : Packet) (s : State) : Host.Outcome State Fault Refusal :=
  .next (s.takeCommand (p.forOp 0x53)).settle

/-- PAIR_CLEAR (R318), opcode 0x54. -/
def execPairClear (p : Packet) (s : State) : Host.Outcome State Fault Refusal :=
  .next (s.takeCommand (p.forByte 0x54 0 0)).settle

/-- PAIR_SWITCHOVER (R318), opcode 0x54. -/
def execPairSwitchover (p : Packet) (s : State) : Host.Outcome State Fault Refusal :=
  .next (s.takeCommand (p.forByte 0x54 0 1)).settle

/-- PAIR_CHANNEL_OVERRIDE (R318), opcode 0x54. -/
def execPairChannelOverride (p : Packet) (s : State) : Host.Outcome State Fault Refusal :=
  .next (s.takeCommand (p.forByte 0x54 0 2)).settle

/-- PAIR_STATUS (R313), opcode 0x55. -/
def execPairStatus (p : Packet) (s : State) : Host.Outcome State Fault Refusal :=
  .next (s.takeCommand (p.forOp 0x55)).settle

/-- DPL_REF_CFG (R345), opcode 0x60. -/
def execDplRefCfg (p : Packet) (s : State) : Host.Outcome State Fault Refusal :=
  .next (s.takeCommand (p.forOp 0x60)).settle

/-- DPL_SELECT (R330), opcode 0x61. -/
def execDplSelect (p : Packet) (s : State) : Host.Outcome State Fault Refusal :=
  .next (s.takeCommand (p.forOp 0x61)).settle

/-- DPL_CFG (R332), opcode 0x62. -/
def execDplCfg (p : Packet) (s : State) : Host.Outcome State Fault Refusal :=
  .next (s.takeCommand (p.forOp 0x62)).settle

/-- DPL_STATUS_READ (R331), opcode 0x63. -/
def execDplStatusRead (p : Packet) (s : State) : Host.Outcome State Fault Refusal :=
  .next (s.takeCommand (p.forOp 0x63)).settle

/-- ALIGN_FRAME_OUTPUTS (R336), opcode 0x64. -/
def execAlignFrameOutputs (p : Packet) (s : State) : Host.Outcome State Fault Refusal :=
  .next (s.takeCommand (p.forOp 0x64)).settle

/-- CLKOUT_CFG (R339), opcode 0x65. -/
def execClkoutCfg (p : Packet) (s : State) : Host.Outcome State Fault Refusal :=
  .next (s.takeCommand (p.forOp 0x65)).settle

/-- SYN_CFG (R343), opcode 0x66. -/
def execSynCfg (p : Packet) (s : State) : Host.Outcome State Fault Refusal :=
  .next (s.takeCommand (p.forOp 0x66)).settle

/-- SNAP_SET_CFG_REPLACE (R279), opcode 0x70. -/
def execSnapSetCfgReplace (p : Packet) (s : State) : Host.Outcome State Fault Refusal :=
  .next (s.takeCommand (p.forByte 0x70 1 0)).settle

/-- SNAP_SET_CFG_APPEND (R279), opcode 0x70. -/
def execSnapSetCfgAppend (p : Packet) (s : State) : Host.Outcome State Fault Refusal :=
  .next (s.takeCommand (p.forByte 0x70 1 1)).settle

/-- SNAPSHOT (R280), opcode 0x71. -/
def execSnapshot (p : Packet) (s : State) : Host.Outcome State Fault Refusal :=
  .next (s.takeCommand (p.forOp 0x71)).settle

/-- SNAP_READ (R282), opcode 0x72. -/
def execSnapRead (p : Packet) (s : State) : Host.Outcome State Fault Refusal :=
  .next (s.takeCommand (p.forOp 0x72)).settle

/-- CNT_CLEAR (R278), opcode 0x73. -/
def execCntClear (p : Packet) (s : State) : Host.Outcome State Fault Refusal :=
  .next (s.takeCommand (p.forOp 0x73)).settle

/-- PM_ENABLE (R287), opcode 0x74. -/
def execPmEnable (p : Packet) (s : State) : Host.Outcome State Fault Refusal :=
  .next (s.takeCommand (p.forByte 0x74 8 1)).settle

/-- PM_DISABLE (R287), opcode 0x74. -/
def execPmDisable (p : Packet) (s : State) : Host.Outcome State Fault Refusal :=
  .next (s.takeCommand (p.forByte 0x74 8 0)).settle

/-- PM_READ (R288), opcode 0x75. -/
def execPmRead (p : Packet) (s : State) : Host.Outcome State Fault Refusal :=
  .next (s.takeCommand (p.forOp 0x75)).settle

/-- REG_READ (R413), opcode 0x80. -/
def execRegRead (p : Packet) (s : State) : Host.Outcome State Fault Refusal :=
  .next (s.takeCommand (p.forOp 0x80)).settle

/-- REG_WRITE (R413), opcode 0x81. -/
def execRegWrite (p : Packet) (s : State) : Host.Outcome State Fault Refusal :=
  .next (s.takeCommand (p.forOp 0x81)).settle

/-- REG_MODIFY (R413), opcode 0x82. -/
def execRegModify (p : Packet) (s : State) : Host.Outcome State Fault Refusal :=
  .next (s.takeCommand (p.forOp 0x82)).settle

/-- CTX_READ (R413), opcode 0x83. -/
def execCtxRead (p : Packet) (s : State) : Host.Outcome State Fault Refusal :=
  .next (s.takeCommand (p.forOp 0x83)).settle

/-- CTX_WRITE (R414), opcode 0x84. -/
def execCtxWrite (p : Packet) (s : State) : Host.Outcome State Fault Refusal :=
  .next (s.takeCommand (p.forOp 0x84)).settle

/-- HLT_STATUS_GRADES (R425), opcode 0x90. -/
def execHltStatusGrades (p : Packet) (s : State) : Host.Outcome State Fault Refusal :=
  .next (s.takeCommand (p.forByte 0x90 0 0)).settle

/-- HLT_STATUS_PENDING (R432), opcode 0x90. -/
def execHltStatusPending (p : Packet) (s : State) : Host.Outcome State Fault Refusal :=
  .next (s.takeCommand (p.forByte 0x90 0 1)).settle

/-- HLT_STATUS_POISON_LIST (R436), opcode 0x90. -/
def execHltStatusPoisonList (p : Packet) (s : State) : Host.Outcome State Fault Refusal :=
  .next (s.takeCommand (p.forByte 0x90 0 2)).settle

/-- SPARE_APPROVE (R432), opcode 0x91. -/
def execSpareApprove (p : Packet) (s : State) : Host.Outcome State Fault Refusal :=
  .next (s.takeCommand (p.forByte 0x91 4 1)).settle

/-- SPARE_DECLINE (R432), opcode 0x91. -/
def execSpareDecline (p : Packet) (s : State) : Host.Outcome State Fault Refusal :=
  .next (s.takeCommand (p.forByte 0x91 4 0)).settle

/-- SPARE_REQUEST (R430), opcode 0x92. -/
def execSpareRequest (p : Packet) (s : State) : Host.Outcome State Fault Refusal :=
  .next (s.takeCommand (p.forOp 0x92)).settle

/-- REPAIR_MAP_READ (R439), opcode 0x93. -/
def execRepairMapRead (p : Packet) (s : State) : Host.Outcome State Fault Refusal :=
  .next (s.takeCommand (p.forOp 0x93)).settle

/-- REPAIR_MAP_APPLY (R440), opcode 0x94. -/
def execRepairMapApply (p : Packet) (s : State) : Host.Outcome State Fault Refusal :=
  .next (s.takeCommand (p.forOp 0x94)).settle

/-- SMOKE_CFG (R428), opcode 0x95. -/
def execSmokeCfg (p : Packet) (s : State) : Host.Outcome State Fault Refusal :=
  .next (s.takeCommand (p.forOp 0x95)).settle

/-- POWER_DOMAIN_UP (R443), opcode 0x96. -/
def execPowerDomainUp (p : Packet) (s : State) : Host.Outcome State Fault Refusal :=
  .next (s.takeCommand (p.forByte 0x96 2 1)).settle

/-- POWER_DOMAIN_DOWN (R442), opcode 0x96. -/
def execPowerDomainDown (p : Packet) (s : State) : Host.Outcome State Fault Refusal :=
  .next (s.takeCommand (p.forByte 0x96 2 0)).settle

/-- OBS_TRACE_CFG (R447), opcode 0xA0. -/
def execObsTraceCfg (p : Packet) (s : State) : Host.Outcome State Fault Refusal :=
  .next (s.takeCommand (p.forOp 0xA0)).settle

/-- OBS_CNT_CFG (R449), opcode 0xA1. -/
def execObsCntCfg (p : Packet) (s : State) : Host.Outcome State Fault Refusal :=
  .next (s.takeCommand (p.forOp 0xA1)).settle

/-- OBS_SAMPLE_CFG (R450), opcode 0xA2. -/
def execObsSampleCfg (p : Packet) (s : State) : Host.Outcome State Fault Refusal :=
  .next (s.takeCommand (p.forOp 0xA2)).settle

/-- OBS_STATUS (R449), opcode 0xA3. -/
def execObsStatus (p : Packet) (s : State) : Host.Outcome State Fault Refusal :=
  .next (s.takeCommand (p.forOp 0xA3)).settle

/-- LEG_NOP (R371), opcode 0xE0. -/
def execLegNop (p : Packet) (s : State) : Host.Outcome State Fault Refusal :=
  .next (s.takeCommand (p.forOp 0xE0)).settle

/-- LEG_QUEUE_READ (R371), opcode 0xE1. -/
def execLegQueueRead (p : Packet) (s : State) : Host.Outcome State Fault Refusal :=
  .next (s.takeCommand (p.forOp 0xE1)).settle

/-- LEG_QUEUE_LEVEL (R371), opcode 0xE2. -/
def execLegQueueLevel (p : Packet) (s : State) : Host.Outcome State Fault Refusal :=
  .next (s.takeCommand (p.forOp 0xE2)).settle

/-- LEG_QUEUE_RESET (R371), opcode 0xE3. -/
def execLegQueueReset (p : Packet) (s : State) : Host.Outcome State Fault Refusal :=
  .next (s.takeCommand (p.forOp 0xE3)).settle

/-- LEG_STATUS (R371), opcode 0xE4. -/
def execLegStatus (p : Packet) (s : State) : Host.Outcome State Fault Refusal :=
  .next (s.takeCommand (p.forOp 0xE4)).settle

/-- FW_LOAD_BEGIN (R457), opcode 0xF0. -/
def execFwLoadBegin (p : Packet) (s : State) : Host.Outcome State Fault Refusal :=
  .next (s.takeCommand (p.forOp 0xF0)).settle

/-- FW_LOAD_DATA (R457), opcode 0xF1. -/
def execFwLoadData (p : Packet) (s : State) : Host.Outcome State Fault Refusal :=
  .next (s.takeCommand (p.forOp 0xF1)).settle

/-- FW_LOAD_END (R456), opcode 0xF2. -/
def execFwLoadEnd (p : Packet) (s : State) : Host.Outcome State Fault Refusal :=
  .next (s.takeCommand (p.forOp 0xF2)).settle

/-- FW_ACTIVATE (R459), opcode 0xF3. -/
def execFwActivate (p : Packet) (s : State) : Host.Outcome State Fault Refusal :=
  .next (s.takeCommand (p.forOp 0xF3)).settle

/-- FW_STATUS (R457), opcode 0xF4. -/
def execFwStatus (p : Packet) (s : State) : Host.Outcome State Fault Refusal :=
  .next (s.takeCommand (p.forOp 0xF4)).settle

end Sys2Proof.Machine
end

