-- ==== Sys2Proof/Machine/Transmit.lean ====
section
/-! DEFINITION. Frames sent: SDH and SONET (Table 04-4, R103 to R108, R114), OTU (Table 05-2, R133 to R140), ALF
(R156 to R163, R178), and the low-order tributaries in them (R206, R207). Payload bytes are not part of the model. -/

namespace Sys2Proof.Machine

/-! ### What is sent in place of traffic (R271) -/

/-- A port's transmitters send nothing: squelched, or a standby's pair lane (R302). -/
def State.silent (s : State) (p : Nat) : Bool := s.txSilent p || s.pairSilent p

/-- The damper's output for an entity of the port: a hold acts at its own moment, the rest from step 4. -/
def State.sentOut (s : State) (p kind n : Nat) : DamperOut := if s.portHold p then .hold else s.damper kind n

/-- The layer's AIS goes out. -/
def DamperOut.isAis : DamperOut → Bool
  | .hold => true
  | .defect => true
  | _ => false

def State.rdiOff (s : State) (p : Nat) : Bool := s.on (PRT_DAMPER.key p) PRT_DAMPER.RDI_DIS
def State.reiOff (s : State) (p : Nat) : Bool := s.on (PRT_DAMPER.key p) PRT_DAMPER.REI_DIS

/-! ### Pointer generators (R114, R206) -/

/-- What a generator sends in one frame: all ones, or its pointer with a justification at most once in 4 frames
when the fill leaves `room` around its centre. `true` is a positive justification. -/
def GenSt.send (ss top room : Nat) (x : GenSt) (ais : Bool) (drift : Int) (new : Nat) : GenSt × Option Bool :=
  let word := fun ndf v => ndf * 4096 + ss * 1024 + v
  let idle := min 4 (x.since + 1)
  if ais then ({ x with ndf := true, since := idle, lastWord := 0xFFFF }, none)
  else if x.ndf then
    let v := new % (top + 1)
    ({ x with value := v, ndf := false, since := 0, fill := 0, lastWord := word 9 v }, none)
  else
    let fill := x.fill + drift
    if x.since + 1 < 4 ∨ fill.natAbs ≤ room then
      ({ x with fill := fill, since := idle, lastWord := word 6 x.value }, none)
    else if fill < 0 then
      ({ x with value := (x.value + 1) % (top + 1), fill := fill + 1, since := 0,
                lastWord := word 6 (x.value ^^^ 0x2AA) }, some true)
    else
      ({ x with value := (x.value + top) % (top + 1), fill := fill - 1, since := 0,
                lastWord := word 6 (x.value ^^^ 0x155) }, some false)

/-- A step of drift: -1, 0 or 1, as the clocks give it. Notes: assumption 2. -/
def driftOf (n : Nat) : Int := (n % 3 : Nat) - 1

/-! ### Low-order tributaries (R206, R207) -/

/-- SS bits of a TU (Table 08-4). -/
def tuSs (t : Nat) : Nat := [0, 3, 2, 0].getD t 0

/-- A quarter of one direction of the retiming store (R205, R206). -/
def tuRoom (t : Nat) : Nat := 16 * retimeUnits t

/-- The TU multiframe of one tributary. -/
def State.sendTrib (s : State) (p h pos : Nat) : State :=
  let k := tribNum p h pos
  let x := s.trib k
  let out := s.sentOut p dkTribTx k
  let t := x.cfg.ttype
  if out = .unconnected then s.updTrib k fun x => { x with gen := { x.gen with lastWord := 6 * 4096 + tuSs t * 1024 } }
  else
    let a := s.fresh
    let b := a.2.fresh
    let r := x.gen.send (tuSs t) (tuTop t) (tuRoom t) out.isAis (driftOf a.1) b.1
    b.2.updTrib k fun x => { x with
      gen := r.1, outPj := x.outPj + bit (r.2 = some true), outNj := x.outNj + bit (r.2 = some false) }

/-- The tributaries of a port, at the first frame of a TU multiframe. -/
def State.sendTribs (s : State) (p : Nat) (keep : Nat → Bool) : State :=
  let ks := (s.tribs.filter fun e => decide (e.1 / 2 ^ 24 = p ∧ e.2.cfg.ttype ≠ 0) && keep e.1).map Prod.fst
  s.each ks fun s k => s.sendTrib p (k / 65536 % 256) (k % 65536)

/-! ### SDH and SONET -/

/-- RDI-L is ordered (Table 04-9). -/
def State.lineRdi (s : State) (p : Nat) : Bool :=
  let line := if s.isSdh p then
      s.losOf p || (s.portHas p [dTIM_S] && s.on (SDH_CFG.key p) SDH_CFG.TIM_S_AIS) || s.sdhOn p SDH_CFG.FORCE_RDI_L
    else false
  !s.rdiOff p && (line || s.portHas p [dLOF, dAIS_L])

/-- RDI-P is ordered on a terminated path (Table 04-9). -/
def State.pathRdi (s : State) (p h : Nat) : Bool :=
  let a := (s.path (pathKey p h)).cfg.actions
  !s.rdiOff p && (s.pathHas p h [dAIS_P, dLOP_P] || (a.testBit 0 && s.pathHas p h [dUNEQ_P]) ||
    (a.testBit 1 && s.pathHas p h [dPLM_P]) || (a.testBit 2 && s.pathHas p h [dTIM_P]))

/-- Whether AIS-L goes out in place of the frame. -/
def State.lineAisSent (s : State) (p : Nat) : Bool :=
  let out := s.sentOut p dkPort p
  out.isAis || decide (out = .forced)

/-- The group whose K bytes the port sends: that of a protection port, and of a working port with K_SRC 0
(R105, R296). -/
def State.kGroup (s : State) (p : Nat) : Option Nat :=
  if ¬ s.isSdh p then none
  else match s.mspOf p with
    | some g => some g
    | none => if s.get (SDH_TX_OH.key p) SDH_TX_OH.K_SRC = 0 then s.mspWorking p else none

/-- K1 and K2 before RDI-L and AIS-L. With K_SRC 0 and no group they are open. Notes: assumption 2. -/
def State.kSource (s : State) (p : Nat) : Nat × Nat × State :=
  match s.kGroup p with
  | some g => ((s.pgroup g).txK1, (s.pgroup g).txK2, s)
  | none =>
    let k2 := s.sdhGet p (SDH_TX_OH.key p) SDH_TX_OH.K2_TX
    if s.isSdh p ∧ s.get (SDH_TX_OH.key p) SDH_TX_OH.K_SRC = 0 then
      let f := s.fresh
      (f.1 % 256, f.1 / 256 % 32 * 8 + k2 % 8, f.2)
    else (s.sdhGet p (SDH_TX_OH.key p) SDH_TX_OH.K1_TX, k2, s)

/-- K2 as sent (R105). -/
def k2Sent (k2 : Nat) (ais rdi : Bool) : Nat := if ais then k2 / 8 * 8 + 7 else if rdi then k2 / 8 * 8 + 6 else k2

/-- S1 as sent (R106). -/
def State.s1Sent (s : State) (p : Nat) : Nat :=
  if s.isSdh p ∧ s.get (SDH_TX_OH.key p) SDH_TX_OH.S1_SRC = 1 then s.get (SDH_TX_OH.key p) SDH_TX_OH.S1_TX
  else rankCode (s.family p) (s.portRank p)

/-- J0 as sent (R104); a client framer sends 0x01 (R145). -/
def State.j0Sent (s : State) (p : Nat) : Nat :=
  let body := s.traceRegs fun j => SDH_J0_TX.key p j
  let i := (s.sdh p).txCount % 16
  if ¬ s.isSdh p then 1
  else if s.sdhOn p SDH_CFG.J0_MODE then (if i = 0 then traceHead (body.drop 1) else body.getD i 0).toNat
  else (body.getD 0 0).toNat

/-- The next bytes of a DCC buffer, and what it keeps (R108). -/
def dccSent (on : Bool) (n : Nat) (buf : List Byte) : List Byte × List Byte :=
  if on then ((buf ++ List.replicate n 0x7E).take n, buf.drop n) else (List.replicate n 0x7E, buf)

/-- The J1 byte of a terminated path (R117). -/
def PathSt.j1Sent (x : PathSt) (i : Nat) : Byte :=
  if x.cfg.trace = 1 then (if i % 16 = 0 then traceHead ((x.cfg.j1Tx.take 16).drop 1) else x.cfg.j1Tx.getD (i % 16) 0)
  else if x.cfg.trace = 2 then x.cfg.j1Tx.getD (i % 64) 0
  else 0

/-- A terminated path's H4: the multiframe phase of a mapped container (R202); a packet engine's is open. -/
def State.h4Sent (s : State) (p h : Nat) : Nat × State :=
  if (s.container (pathKey p h)).types ≠ [] then (0xFC + (s.sdh p).txCount % 4, s)
  else
    let f := s.fresh
    (f.1 % 256, f.2)

/-- The overhead of one path (Table 04-8). -/
def State.pathOverSent (s : State) (p h : Nat) (out : DamperOut) : List Byte × State :=
  let x := s.path (pathKey p h)
  if out.isAis then (List.replicate 8 0xFF, s)
  else if x.cfg.mode = 0 then (if out = .unconnected then List.replicate 8 0 else [], s)
  else
    let h4 := s.h4Sent p h
    let rei := if s.reiOff p then 0 else min 8 x.lastB3
    ([x.j1Sent (s.sdh p).txCount, BitVec.ofNat 8 x.cfg.c2Tx, BitVec.ofNat 8 (rei * 16 + bit (s.pathRdi p h) * 8), 0,
      BitVec.ofNat 8 h4.1, 0, 0, 0], h4.2)

/-- One path of the frame: its pointer and its overhead. -/
def State.sendPath (s : State) (p h : Nat) : State :=
  let k := pathKey p h
  let out := s.sentOut p dkPathTx k
  let a := s.fresh
  let b := a.2.fresh
  let ss := if s.family p = 2 then 0 else 2
  let r := (s.path k).gen.send ss ptrTop 0 out.isAis (driftOf a.1) b.1
  let o := b.2.pathOverSent p h out
  o.2.updPath k fun x => { x with
    gen := r.1, txOver := o.1, outPj := x.outPj + bit (r.2 = some true), outNj := x.outNj + bit (r.2 = some false) }

/-- A frame of a port or client framer. -/
def State.sdhTransmit (s : State) (p : Nat) : State :=
  if ¬ s.hasStm p then s
  else if s.silent p then s.updSdh p fun x => { x with txSquelched := true, txCount := (x.txCount + 1) % 64 }
  else
    let ais := s.lineAisSent p
    let k := s.kSource p
    let x := s.sdh p
    let rs := dccSent (s.sdhOn p SDH_CFG.DCC_RS_EN) 3 x.rsTx
    let ms := dccSent (s.sdhOn p SDH_CFG.DCC_MS_EN) 9 x.msTx
    let s1 := k.2.2.updSdh p fun x => { x with
      txJ0 := s.j0Sent p, txK1 := k.1, txK2 := k2Sent k.2.1 ais (s.lineRdi p), txS1 := s.s1Sent p,
      txM := if s.reiOff p then 0 else min (s.reiMax p) x.lastB2,
      txRs := rs.1, rsTx := rs.2, txMs := ms.1, msTx := ms.2, txAis := ais, txSquelched := false }
    let s2 := s1.each (s1.heads p) fun s h => s.sendPath p h
    let s3 := if x.txCount % 4 = 0 then s2.sendTribs p (fun k => !posAlf (k % 65536)) else s2
    s3.updSdh p fun x => { x with txCount := (x.txCount + 1) % 64 }

def execSdhFrameTransmit (p : Port) (s : State) : Host.Outcome State Fault Refusal :=
  .next (s.datapath fun s => s.sdhTransmit p).settle

/-! ### OTN -/

/-- SM BDI (Table 05-6). -/
def State.smBdi (s : State) (p : Nat) : Bool :=
  !s.rdiOff p && (s.losOf p || s.portHas p [dOTU_LOF, dLOL, dLOM] || s.smTimActs p ||
    s.on (OTN_CFG.key p) OTN_CFG.FORCE_SM_BDI)

/-- PM BDI of a terminated ODU. -/
def State.pmBdi (s : State) (p i : Nat) : Bool := !s.rdiOff p && (s.pmFails p i || s.oduHas p i 0 [dLOFLOM])

/-- BDI of an operational TCM (R137). -/
def State.tcmBdi (s : State) (p i l : Nat) : Bool :=
  !s.rdiOff p && (s.oduHas p i l [dLTC, dODU_AIS, dLCK, dOCI] || (s.oduHas p i l [dTIM] && s.timAct p i l))

/-- A layer that the device sources: TTI, BEI, BDI and STAT. -/
def State.sourceLayer (s : State) (p i l mfas : Nat) (tti : List Byte) (bdi : Bool) (stat : Nat) : State :=
  let bei := if s.reiOff p then 0 else min 8 (s.layer p i l).bei
  s.updLayer p i l fun x =>
    { x with txTti := (tti.getD (mfas % 64) 0).toNat, txStatus := bei * 16 + bit bdi * 8 + stat }

/-- The maintenance signal sent in place of an ODU: its repeated byte (G.709). PRESUMED; Notes: assumption 14. -/
def oduSignal (out : DamperOut) : Option Nat :=
  match out with
  | .hold => some 0xFF
  | .defect => some 0xFF
  | .forced => some 0x55
  | .unconnected => some 0x66
  | _ => none

/-- The DM bit of a layer: looped, or that of the source (R138). -/
def State.dmOut (s : State) (p i l : Nat) : State :=
  if s.dmLoop p i l then s.updLayer p i l fun x => { x with dmTx := x.dmRx } else s.dmSent p i l

/-- The overhead of one ODU. -/
def State.sendOdu (s : State) (p i mfas : Nat) : State :=
  let c := (s.odu (oduKey p i)).cfg
  let s0 := s.each ((List.range 7).filter fun l => s.monitored p i l) fun s l => s.dmOut p i l
  let forcedAis := decide (i = 0) && s.on (OTN_CFG.key p) OTN_CFG.FORCE_ODU_AIS
  let out := s.sentOut p dkOduTx (oduKey p i)
  match (if forcedAis then some 0xFF else oduSignal out) with
  | some b => s0.each (List.range 7) fun s l => s.updLayer p i l fun x => { x with txTti := b, txStatus := b }
  | none =>
    let s1 := if c.mode = 1 then s0.sourceLayer p i 0 mfas c.pmTx (s.pmBdi p i) 1 else s0
    let s2 := s1.each ((List.range 6).filter fun j => decide ((c.tcm.getD j (0, 0, 0)).1 = 2)) fun s j =>
      s.sourceLayer p i (j + 1) mfas (c.tcmTx.getD j []) (s.tcmBdi p i (j + 1)) 1
    if s2.justifies p i = 2 then
      let f := s2.fresh
      f.2.updOdu (oduKey p i) fun x => { x with cmTx := f.1 % 2 ^ 14 }
    else s2

/-- The PSI byte of a frame: PT at MFAS 0, and the MSI from MFAS 2 (Table 05-2, R140). -/
def State.psiSent (s : State) (p mfas : Nat) : Nat :=
  let c := (s.odu (oduKey p 0)).cfg
  if c.otype = 0 ∨ c.mode = 0 then 0
  else if mfas = 0 then c.ptTx
  else if (c.ptTx = 0x20 ∨ c.ptTx = 0x21) ∧ 2 ≤ mfas ∧ mfas < 2 + tsCount c.otype c.ptTx then
    msiByte c.otype c.ptTx (mfas - 1) (s.loCfgs p)
  else 0

/-- An OTU frame. -/
def State.otuTransmit (s : State) (p : Nat) : State :=
  if ¬ s.isOtn p then s
  else
    let m := ((s.otn p).txMfas + 1) % 256
    if s.silent p then s.updOtn p fun x => { x with txMfas := m, txSquelched := true }
    else
      let out := s.sentOut p dkPort p
      let s1 := s.updOtn p fun x => { x with
        txMfas := m, txPsi := s.psiSent p m, txAis := out.isAis || decide (out = .forced), txSquelched := false }
      (s1.sourceLayer p 0 smLayer m (s1.otn p).smTx (s1.smBdi p) 0).each (s1.oduList p) fun s i => s.sendOdu p i m

def execOtuFrameTransmit (p : Port) (s : State) : Host.Outcome State Fault Refusal :=
  .next (s.datapath fun s => s.otuTransmit p).settle

/-! ### ALF -/

/-- The announcement that applies next. -/
def State.nextAnn (s : State) (p : Nat) : Option Ann :=
  let n := s.pfn p
  (sortBy (fun a : Ann => (a.eff + 2 ^ 32 - n) % 2 ^ 32) (s.alf p).anns).head?

/-- OHC words 13 to 15 of a group port (Table 07-1). -/
def State.groupOhc (s : State) (p mfi : Nat) : Nat :=
  match s.bondOf p, s.hrpOf p with
  | some (g, _), _ =>
    if mfi = 13 then g * 256 + ((s.bondMembers g).map fun e => 2 ^ e.1).sum
    else if mfi = 14 then (s.bundleTxMap g).digest
    else (s.bundleTxCand g).digest
  | none, some (g, _) => if mfi = 13 then g * 256 + 3 else 0
  | none, none => 0

/-- The overhead channel word of a frame (Table 06-5). -/
def State.ohcSent (s : State) (p mfi : Nat) : Nat :=
  let a := s.nextAnn p
  if mfi = 0 then (s.alfUse p).digest
  else if mfi = 1 then (s.alfCand p).digest
  else if mfi = 2 then (match a with | some x => x.profile * 4096 | none => 0xF000)
  else if mfi = 3 then (match a with | some x => x.eff / 65536 | none => 0)
  else if mfi = 4 then (match a with | some x => x.eff % 65536 | none => 0)
  else if mfi = 5 then s.address
  else if mfi = 6 then p
  else if mfi = 7 then s.get (ALF_CFG.key p) ALF_CFG.LINK_ID
  else if mfi = 13 ∨ mfi = 14 ∨ mfi = 15 then s.groupOhc p mfi
  else 0

/-- RDI of an ALF frame (Table 06-9). -/
def State.alfRdi (s : State) (p : Nat) : Bool :=
  !s.rdiOff p && (s.losOf p || s.portHas p [dLOAF, dAFE] || s.on (ALF_CFG.key p) ALF_CFG.FORCE_RDI)

/-- FLAGS of an ALF frame (Tables 06-4 and 07-1). -/
def State.alfFlags (s : State) (p : Nat) : Nat :=
  let group := match s.bondOf p, s.hrpOf p with
    | some (g, m), _ => m * 2 ^ 11 + 2 ^ 9 + bit ((s.get (BND_STATUS.key g) BND_STATUS.ACT_TX).testBit m) * 256
    | none, some (_, other) => bit other * 2 ^ 11 + 2 ^ 10
    | none, none => 0
  bit (s.alfRdi p) * 2 ^ 15 + bit (s.alfFrozen p) * 2 ^ 14 + group

/-- The channel of a port's packet region: engine and number. -/
def State.regionChan (s : State) (p : Nat) : Option Nat :=
  (s.chans.find? fun x => decide (x.2.kind = 1 ∧ x.2.ref = p) || (decide (x.2.kind = 2) && match s.bondOf p with
    | some (g, _) => decide (x.2.ref = g)
    | none => false)).map Prod.fst

/-- FLOW: packet region blocks, backlog in percent of the quota, pause per priority (Table 06-6). -/
def State.flowWord (s : State) (p : Nat) : CtlWord :=
  let blocks := match s.bondOf p with
    | some (g, _) => (s.bundleTxMap g).pktBlocks
    | none => (s.alfUse p).pktBlocks
  let r := match s.regionChan p with
    | some k =>
      let e := k / 64
      let quota := ((s.chanFlows e (k % 64)).map fun f => (s.flow (engKey e f)).cfg.quota * packetPage).sum
      (if quota = 0 then 0 else min 255 (100 * s.backlog e (k % 64) 0 / quota), (s.chan k).paused)
    | none => (0, 0)
  ⟨0x85, blocks * 2 ^ 22 + r.1 * 256 + r.2⟩

/-- DIGEST (Table 06-6). -/
def State.digestWord (s : State) (p : Nat) : CtlWord :=
  ⟨0x84, (s.alfUse p).digest * 2 ^ 24 + s.get (ALF_DIGEST_RX.key p) ALF_DIGEST_RX.D_USE * 2 ^ 8 +
    bit (s.alfFrozen p) * 4 + bit (s.portHas p [dAFE]) * 2 + bit (s.portHas p [dLOAF])⟩

/-- The DIGEST or IDENT word that the frame's MFI calls for (R162, R387). -/
def State.calledWord (s : State) (p mfi : Nat) : List CtlWord :=
  if mfi = 0 then [s.digestWord p]
  else if 1 ≤ mfi ∧ mfi ≤ 4 then
    [⟨0x86, (mfi - 1) * 2 ^ 36 + fieldAt (identBytes (s.ownIdent p)) (4 * (mfi - 1)) 4⟩]
  else []

/-- The control words of a frame: at most four, in the order of R162. -/
def State.sendWords (s : State) (p mfi : Nat) : State :=
  let x := s.alf p
  let first := x.firstReplies.take 4
  let due := x.heldWords ++ s.calledWord p mfi
  let called := due.take (4 - first.length)
  let sent := (first ++ called ++ [s.flowWord p] ++ x.repeats).take 4
  s.updAlf p fun x => { x with
    sentWords := sent, firstReplies := x.firstReplies.drop 4, heldWords := due.drop called.length, repeats := [] }

/-- An ALF frame with its marker and control words (R156). -/
def State.alfTransmit (s : State) (p : Nat) : State :=
  if ¬ s.isAlf p then s
  else
    let n := s.pfn p
    let mfi := n % 64
    let s1 := s.updAlf p fun x => { x with
      lastTxPfn := n, lastTxProfile := s.alfProfile p, lastTxBlocks := (s.alfUse p).n, lastTxOhc := s.ohcSent p mfi,
      lastTxBsn := (match s.bondOf p with | some (g, _) => (s.bond g).lastBsn | none => 0),
      lastTxFlags := s.alfFlags p, lastTxGen := x.listGen, lastTxSilent := s.silent p }
    let s2 := s1.sendWords p mfi
    if n % 4 = 0 then s2.sendTribs p (fun k => posAlf (k % 65536)) else s2

def execAlfFrameTransmit (p : Port) (s : State) : Host.Outcome State Fault Refusal :=
  .next (s.datapath fun s => s.alfTransmit p).settle

end Sys2Proof.Machine
end

