-- ==== Sys2Proof/Machine/Tick.lean ====
section
/-! DEFINITION. The SFN tick and its five steps (R58), and the rows that stand for parts of one: the arrival of
defects, immediate commands, calendar entries, the armed SET_SFN, pending operations, the close of a second. -/

namespace Sys2Proof.Machine

/-! ### Step 1: arrivals (Table 02-4) -/

/-- A change of a defect reaches its entity (R97, R269). One declared counts for the second even if it clears in
the same step (R283). -/
def State.takeDefect (s : State) (c : Cond) (set : Bool) : State :=
  let s1 := s.cond c set
  if set then s1.markDefects else s1

/-- One arrival. -/
def State.takeArrival (s : State) (a : Arrival) : State :=
  match a with
  | .defect c set => s.takeDefect c set
  | .kBytes p k1 k2 => s.kArrival p k1 k2
  | .event source code set entity ext => s.eventX source code set entity ext
  | .trigger u => s.takeTrigger u
  | .spareIn u => s.spareInService u
  | .pinContention p => s.pinContends p
  | .pinClean p => s.pinClean p
  | .refFail n check feed phase failing => s.refArrival n check feed phase failing
  | .chimney down => s.chimneyArrives down
  | .mateHandover h => s.mateHandover h
  | .notPresent addr => s.dropAwaited addr
  | .linkReport addr east good => s.takeLinkReport addr east good
  | .announce i hop => s.takeAnnounce i hop
  | .beacon i hop => s.takeBeacon i hop
  | .ringEvents record => (s.forwardRecord 0 record).forwardRecord 1 record
  | .retire slot => s.retireSlot slot

def Arrival.isDefect : Arrival → Bool
  | .defect _ _ => true
  | _ => false

/-- The arrivals that a test picks are taken in their order; the rest, and those they cause, wait. -/
def State.takeArrivals (s : State) (pick : Arrival → Bool) : State :=
  let mine := s.arrivals.filter pick
  let rest := s.arrivals.filter fun a => !pick a
  ({ s with arrivals := rest }).each mine State.takeArrival

/-- What follows from the defects of a step 1: protection, VCAT members, bonding and HRP groups. -/
def State.defectRules (s : State) : State :=
  let s1 := s.markDefects.protArrivals.vcatStates
  (s1.each (List.range groupsBonding) State.bondStates).each (List.range groupsHrp) State.hrpStates

/-- A second that ends with this tick is told from the one that begins, then the errors found since the last tick
arrive in the new one (R283). -/
def State.secondArrivals (s : State) (given : Bool) : State :=
  (if decide (s.time.sfn % 8000 = 0) && !given then s.rotateSecond else s).absorbErrors

/-- Step 1. `given` tells that the SFN of this tick did not follow from the last. -/
def State.step1 (s : State) (given : Bool) : State :=
  let s1 := ((s.secondArrivals given).takeArrivals fun _ => true).spareArrivals.countBeacons
  let s2 := s1.csfClears.defectRules.pairArrivals.timingArrivals.replanRetired
  (s2.each (List.range 4) State.startMoves).takePackets

/-! ### Step 3: timers (R59) -/

def State.protTimers (s : State) : State :=
  s.each (s.prot.groups.map Prod.fst) fun s g => (s.holdoffExpiry g).protWtrExpiry g

def State.lcasTimers (s : State) : State :=
  s.each s.timers fun s t => match t.kind with
    | .lcasHoldoff e g m => s.lcasHoldoffExpiry e g m
    | .lcasWtr e g m => s.lcasWtrExpiry e g m
    | .rejoin g m => s.rejoinExpiry g m
    | .spareLock g => s.spareDeadlineEnds g
    | _ => s

def State.step3 (s : State) : State :=
  let s1 := s.protTimers.lcasTimers.timingStep.alignStep
  let s2 := s1.pairTimers.ringTimers.slotExpiries
  let s3 := (((s2.masterAbsence 0).masterAbsence 1).msiGap 0).msiGap 1
  (s3.each (List.range groupsBonding) State.startRejoins).roundStart.fallBackDue

/-! ### Step 4: consequent actions (R270) -/

/-- A port has acquired its signal after a mode change (R79). -/
def State.acquired (s : State) (p : Nat) : Bool :=
  if s.isSdh p then (s.sdh p).align.inFrame
  else if s.isOtn p then
    (s.otn p).align.inFrame && (s.otn p).mf.inFrame && (decide (s.rate p ≠ 3) || !s.portHas p [dLOL])
  else if s.isEth p then
    s.on (ETH_STATUS.key p) ETH_STATUS.BLOCK_LOCK && (decide (s.rate p ≠ 2) || (s.port p).aligned)
  else if s.isAlf p then (s.alf p).started
  else if s.isChimney p then [0, 1].any fun k => s.chimOn k && decide (s.chimPort k = p ∧ 1 ≤ (s.link k).good)
  else false

/-- The hold of a mode change ends (R79), and an OTN port in signal failure marks its second (R136). -/
def State.portStep4 (s : State) (p : Nat) : State :=
  let s1 := if (s.port p).modeHold && s.acquired p then s.updPort p fun x => { x with modeHold := false } else s
  if s1.isOtn p then s1.markSecSf p else s1

def State.step4 (s : State) : State :=
  let s1 := (s.each (List.range s.portCount) State.portStep4).mapperResumeStep.damperStep
  let s2 := s1.decideRole.claimOut.endHandover.pinRetries
  s2.each (List.range groupsBonding) State.bundleDeal

/-! ### Step 5: the close of a second, snapshots, the tick's events (R280, R283, R395) -/

/-- SECOND_CLOSE: step 5 of a tick whose SFN ends a second. -/
def State.secondClose (s : State) : State :=
  if decide (s.time.sfn % 8000 = 0) && s.pm.closing then
    (s.closeSeconds (s.time.sfn / 8000 - 1) s.time.sfn false).closeHealth
  else s

def State.step5 (s : State) (carried : List Nat) : State := (s.secondClose.takeSnapshots carried).closeTickEvents

/-! ### The tick -/

/-- The label advances by 125,000 ns: seconds in [63:30] wrap at 2^34, nanoseconds in [29:0] at 10^9. -/
def todNext (tod : Nat) : Nat :=
  let ns := tod % 2 ^ 30 + 125000
  if ns < 1000000000 then tod / 2 ^ 30 * 2 ^ 30 + ns
  else (tod / 2 ^ 30 + 1) % 2 ^ 34 * 2 ^ 30 + (ns - 1000000000)

/-- The SFN that the next tick carries. -/
def State.sfnNext (s : State) : Nat := s.time.nextSfn.getD ((s.time.sfn + 1) % 2 ^ 48)

/-- A ring SFN ahead of the own one is adopted as a forward set: the second in progress closes, and the entries
keyed to skipped values run with SKIPPED (R45). -/
def State.adoptJump (s : State) : State :=
  if s.time.jump then
    let n := s.time.sfn + 1
    (((s.skipTo n s.sfnNext).rotateSecond).closeSeconds (s.time.sfn / 8000) s.sfnNext true).closeHealth
  else s

/-- The tick begins: SFN and label advance, and what restarts with a tick does. -/
def State.beginTick (s : State) : State :=
  let s0 := s.adoptJump
  let t := { s0.time with sfn := s.sfnNext, tod := todNext s0.time.tod, nextSfn := none, jump := false }
  let s1 : State := { s0 with dev := { s0.dev with ticks := s0.dev.ticks + 1 }, time := t }
  let s2 := s1.coreRestart.ringUnwrap.fwDone
  let s3 := s2.each (List.range 8) State.clkRestart
  let s4 := s3.frameOutputs.tickCycles.firmwareHappens
  s4.each ((List.range s4.portCount).filter s4.tickFramed) State.framerResumes

/-- The five steps in their order. -/
def State.runTick (s : State) : State :=
  let given := s.time.nextSfn.isSome
  let carried := s.pm.due.map Prod.fst
  let s1 := ((s.beginTick.step1 given).step2.step3.step4).step5 carried
  { s1 with time := { s1.time with marker := false } }

/-- SFN_TICK: nothing in reset or where the loader stopped; a suppressed tick runs none of the steps (R45). -/
def State.sfnTick (s : State) : State :=
  if s.answersPackets = false then s
  else if 0 < s.time.suppress then { s with time := { s.time with suppress := s.time.suppress - 1 } }
  else s.runTick

/-! ### Rows -/

def execSfnTick (s : State) : Host.Outcome State Fault Refusal := .next s.sfnTick.settle

/-- DEFECT_ARRIVAL: the defect changes that wait reach their entities. -/
def execDefectArrival (s : State) : Host.Outcome State Fault Refusal :=
  .next ((s.takeArrivals Arrival.isDefect).defectRules).settle

/-- IMMEDIATE_EXECUTE: the immediate commands of an earlier step 1 run in the order taken. -/
def execImmediateExecute (s : State) : Host.Outcome State Fault Refusal :=
  .next ((s.runImmediates (s.cmd.immediates.length + 1) 0 []).2.endStep2).settle

/-- SCHEDULED_ENTRY_EXECUTE: the entries due run in creation order, up to 128. -/
def execScheduledEntryExecute (s : State) : Host.Outcome State Fault Refusal :=
  .next ((s.runDue calPerTick []).carryRest.applyTickFramed.endStep2).settle

/-- SET_SFN_MARKER_APPLY: the tick lies on a second marker, and the armed SET_SFN applies in its step 2. -/
def execSetSfnMarkerApply (s : State) : Host.Outcome State Fault Refusal :=
  .next (if s.time.armed.isSome && s.time.marker then s.step2Commands.endStep2 else s).settle

def execPendingOperationStart (cls sub : Byte) (index : BitVec 16) (s : State) : Host.Outcome State Fault Refusal :=
  .next (s.startPending (cls.toNat, sub.toNat, index.toNat)).settle

def execPendingSlotTimeout (cls sub : Byte) (index : BitVec 16) (s : State) : Host.Outcome State Fault Refusal :=
  .next (s.slotExpiry (cls.toNat, sub.toNat, index.toNat)).settle

def execMasterAbsence (m : Fin 2) (s : State) : Host.Outcome State Fault Refusal := .next (s.masterAbsence m).settle

def execCommandPacketBuffer (p : Packet) (s : State) : Host.Outcome State Fault Refusal :=
  .next (if s.answersPackets then s.bufferPacket p else s).settle

def execMirrorCommandTake (p : Packet) (creation : Nat) (result : List Byte) (s : State) :
    Host.Outcome State Fault Refusal :=
  .next (s.mirrorTake p creation result).settle

def execSecondClose (s : State) : Host.Outcome State Fault Refusal := .next s.secondClose.settle

end Sys2Proof.Machine
end

