-- ==== Sys2Proof/Machine/Dispatch.lean ====
section
/-! DEFINITION. The meaning of each command: one arm per row of spec/opcode_table.json. -/

namespace Sys2Proof.Machine

def exec (i : Instr) (s : State) : Host.Outcome State Fault Refusal :=
  match i with
  | .nop p => Sys2Proof.Machine.execNop p s
  | .identifySelf p => Sys2Proof.Machine.execIdentifySelf p s
  | .identifyPartner p => Sys2Proof.Machine.execIdentifyPartner p s
  | .identifyRingTable p => Sys2Proof.Machine.execIdentifyRingTable p s
  | .setLevel p => Sys2Proof.Machine.execSetLevel p s
  | .setMasterClaim p => Sys2Proof.Machine.execSetMasterClaim p s
  | .setSfn p => Sys2Proof.Machine.execSetSfn p s
  | .setSfnAtMarker p => Sys2Proof.Machine.execSetSfnAtMarker p s
  | .epochRestart p => Sys2Proof.Machine.execEpochRestart p s
  | .setTodLabel p => Sys2Proof.Machine.execSetTodLabel p s
  | .commitStaged p => Sys2Proof.Machine.execCommitStaged p s
  | .commitStagedDiscard p => Sys2Proof.Machine.execCommitStagedDiscard p s
  | .calCancel p => Sys2Proof.Machine.execCalCancel p s
  | .queueRead p => Sys2Proof.Machine.execQueueRead p s
  | .leaseRelease p => Sys2Proof.Machine.execLeaseRelease p s
  | .leaseRead p => Sys2Proof.Machine.execLeaseRead p s
  | .setAddress p => Sys2Proof.Machine.execSetAddress p s
  | .portMode p => Sys2Proof.Machine.execPortMode p s
  | .sdhSectionCfg p => Sys2Proof.Machine.execSdhSectionCfg p s
  | .sdhPathCfg p => Sys2Proof.Machine.execSdhPathCfg p s
  | .sdhPathStatus p => Sys2Proof.Machine.execSdhPathStatus p s
  | .sdhTraceRead p => Sys2Proof.Machine.execSdhTraceRead p s
  | .sdhDccSend p => Sys2Proof.Machine.execSdhDccSend p s
  | .otnOtuCfg p => Sys2Proof.Machine.execOtnOtuCfg p s
  | .otnOduCfg p => Sys2Proof.Machine.execOtnOduCfg p s
  | .otnOduStatus p => Sys2Proof.Machine.execOtnOduStatus p s
  | .otnTtiRead p => Sys2Proof.Machine.execOtnTtiRead p s
  | .otnDmStart p => Sys2Proof.Machine.execOtnDmStart p s
  | .alfPortCfg p => Sys2Proof.Machine.execAlfPortCfg p s
  | .alfTribCfgReplace p => Sys2Proof.Machine.execAlfTribCfgReplace p s
  | .alfTribCfgAppend p => Sys2Proof.Machine.execAlfTribCfgAppend p s
  | .alfTribCfgRemove p => Sys2Proof.Machine.execAlfTribCfgRemove p s
  | .alfTribCfgChange p => Sys2Proof.Machine.execAlfTribCfgChange p s
  | .alfStatusRead p => Sys2Proof.Machine.execAlfStatusRead p s
  | .alfMapRead p => Sys2Proof.Machine.execAlfMapRead p s
  | .alfMapResync p => Sys2Proof.Machine.execAlfMapResync p s
  | .bndGroupCfg p => Sys2Proof.Machine.execBndGroupCfg p s
  | .bndTribCfgReplace p => Sys2Proof.Machine.execBndTribCfgReplace p s
  | .bndTribCfgAppend p => Sys2Proof.Machine.execBndTribCfgAppend p s
  | .bndTribCfgRemove p => Sys2Proof.Machine.execBndTribCfgRemove p s
  | .bndTribCfgChange p => Sys2Proof.Machine.execBndTribCfgChange p s
  | .bndStatusRead p => Sys2Proof.Machine.execBndStatusRead p s
  | .hrpGroupCfg p => Sys2Proof.Machine.execHrpGroupCfg p s
  | .hrpSelectAuto p => Sys2Proof.Machine.execHrpSelectAuto p s
  | .hrpSelectForceMain p => Sys2Proof.Machine.execHrpSelectForceMain p s
  | .hrpSelectForceOther p => Sys2Proof.Machine.execHrpSelectForceOther p s
  | .hrpStatusRead p => Sys2Proof.Machine.execHrpStatusRead p s
  | .lomContainerCfg p => Sys2Proof.Machine.execLomContainerCfg p s
  | .lomTribCfg p => Sys2Proof.Machine.execLomTribCfg p s
  | .lomTribStatus p => Sys2Proof.Machine.execLomTribStatus p s
  | .pktFlowCfg p => Sys2Proof.Machine.execPktFlowCfg p s
  | .pktVlanCfg p => Sys2Proof.Machine.execPktVlanCfg p s
  | .pktVcatCfg p => Sys2Proof.Machine.execPktVcatCfg p s
  | .pktFlowStatus p => Sys2Proof.Machine.execPktFlowStatus p s
  | .ethPortCfg p => Sys2Proof.Machine.execEthPortCfg p s
  | .prtDamperCfg p => Sys2Proof.Machine.execPrtDamperCfg p s
  | .stkQuery p => Sys2Proof.Machine.execStkQuery p s
  | .connect p => Sys2Proof.Machine.execConnect p s
  | .connectUnidir p => Sys2Proof.Machine.execConnectUnidir p s
  | .connectAddSink p => Sys2Proof.Machine.execConnectAddSink p s
  | .disconnect p => Sys2Proof.Machine.execDisconnect p s
  | .connRead p => Sys2Proof.Machine.execConnRead p s
  | .grtDefrag p => Sys2Proof.Machine.execGrtDefrag p s
  | .grtRunSet p => Sys2Proof.Machine.execGrtRunSet p s
  | .grtRunFree p => Sys2Proof.Machine.execGrtRunFree p s
  | .grtMapSet p => Sys2Proof.Machine.execGrtMapSet p s
  | .grtMove p => Sys2Proof.Machine.execGrtMove p s
  | .stkPoolCfg p => Sys2Proof.Machine.execStkPoolCfg p s
  | .protGroupCfg p => Sys2Proof.Machine.execProtGroupCfg p s
  | .protGroupRemove p => Sys2Proof.Machine.execProtGroupRemove p s
  | .protClear p => Sys2Proof.Machine.execProtClear p s
  | .protLockout p => Sys2Proof.Machine.execProtLockout p s
  | .protForced p => Sys2Proof.Machine.execProtForced p s
  | .protManual p => Sys2Proof.Machine.execProtManual p s
  | .protManualW p => Sys2Proof.Machine.execProtManualW p s
  | .protExercise p => Sys2Proof.Machine.execProtExercise p s
  | .protStatus p => Sys2Proof.Machine.execProtStatus p s
  | .pairCfg p => Sys2Proof.Machine.execPairCfg p s
  | .pairClear p => Sys2Proof.Machine.execPairClear p s
  | .pairSwitchover p => Sys2Proof.Machine.execPairSwitchover p s
  | .pairChannelOverride p => Sys2Proof.Machine.execPairChannelOverride p s
  | .pairStatus p => Sys2Proof.Machine.execPairStatus p s
  | .dplRefCfg p => Sys2Proof.Machine.execDplRefCfg p s
  | .dplSelect p => Sys2Proof.Machine.execDplSelect p s
  | .dplCfg p => Sys2Proof.Machine.execDplCfg p s
  | .dplStatusRead p => Sys2Proof.Machine.execDplStatusRead p s
  | .alignFrameOutputs p => Sys2Proof.Machine.execAlignFrameOutputs p s
  | .clkoutCfg p => Sys2Proof.Machine.execClkoutCfg p s
  | .synCfg p => Sys2Proof.Machine.execSynCfg p s
  | .snapSetCfgReplace p => Sys2Proof.Machine.execSnapSetCfgReplace p s
  | .snapSetCfgAppend p => Sys2Proof.Machine.execSnapSetCfgAppend p s
  | .snapshot p => Sys2Proof.Machine.execSnapshot p s
  | .snapRead p => Sys2Proof.Machine.execSnapRead p s
  | .cntClear p => Sys2Proof.Machine.execCntClear p s
  | .pmEnable p => Sys2Proof.Machine.execPmEnable p s
  | .pmDisable p => Sys2Proof.Machine.execPmDisable p s
  | .pmRead p => Sys2Proof.Machine.execPmRead p s
  | .regRead p => Sys2Proof.Machine.execRegRead p s
  | .regWrite p => Sys2Proof.Machine.execRegWrite p s
  | .regModify p => Sys2Proof.Machine.execRegModify p s
  | .ctxRead p => Sys2Proof.Machine.execCtxRead p s
  | .ctxWrite p => Sys2Proof.Machine.execCtxWrite p s
  | .hltStatusGrades p => Sys2Proof.Machine.execHltStatusGrades p s
  | .hltStatusPending p => Sys2Proof.Machine.execHltStatusPending p s
  | .hltStatusPoisonList p => Sys2Proof.Machine.execHltStatusPoisonList p s
  | .spareApprove p => Sys2Proof.Machine.execSpareApprove p s
  | .spareDecline p => Sys2Proof.Machine.execSpareDecline p s
  | .spareRequest p => Sys2Proof.Machine.execSpareRequest p s
  | .repairMapRead p => Sys2Proof.Machine.execRepairMapRead p s
  | .repairMapApply p => Sys2Proof.Machine.execRepairMapApply p s
  | .smokeCfg p => Sys2Proof.Machine.execSmokeCfg p s
  | .powerDomainUp p => Sys2Proof.Machine.execPowerDomainUp p s
  | .powerDomainDown p => Sys2Proof.Machine.execPowerDomainDown p s
  | .obsTraceCfg p => Sys2Proof.Machine.execObsTraceCfg p s
  | .obsCntCfg p => Sys2Proof.Machine.execObsCntCfg p s
  | .obsSampleCfg p => Sys2Proof.Machine.execObsSampleCfg p s
  | .obsStatus p => Sys2Proof.Machine.execObsStatus p s
  | .legNop p => Sys2Proof.Machine.execLegNop p s
  | .legQueueRead p => Sys2Proof.Machine.execLegQueueRead p s
  | .legQueueLevel p => Sys2Proof.Machine.execLegQueueLevel p s
  | .legQueueReset p => Sys2Proof.Machine.execLegQueueReset p s
  | .legStatus p => Sys2Proof.Machine.execLegStatus p s
  | .fwLoadBegin p => Sys2Proof.Machine.execFwLoadBegin p s
  | .fwLoadData p => Sys2Proof.Machine.execFwLoadData p s
  | .fwLoadEnd p => Sys2Proof.Machine.execFwLoadEnd p s
  | .fwActivate p => Sys2Proof.Machine.execFwActivate p s
  | .fwStatus p => Sys2Proof.Machine.execFwStatus p s
  | .registerWrite o addr v byteEn => Sys2Proof.Machine.execRegisterWrite o addr v byteEn s
  | .qdataHiRead q => Sys2Proof.Machine.execQdataHiRead q s
  | .sfnLoRead => Sys2Proof.Machine.execSfnLoRead s
  | .todLoRead => Sys2Proof.Machine.execTodLoRead s
  | .prtCntLoRead p k => Sys2Proof.Machine.execPrtCntLoRead p k s
  | .prtCntLoWrite p k v inc => Sys2Proof.Machine.execPrtCntLoWrite p k v inc s
  | .obsCycleLoRead => Sys2Proof.Machine.execObsCycleLoRead s
  | .obsCntLoRead n => Sys2Proof.Machine.execObsCntLoRead n s
  | .obsCntLoWrite n v inc => Sys2Proof.Machine.execObsCntLoWrite n v inc s
  | .obsFreeze => Sys2Proof.Machine.execObsFreeze s
  | .obsUnfreeze => Sys2Proof.Machine.execObsUnfreeze s
  | .queueLevelWrite q level => Sys2Proof.Machine.execQueueLevelWrite q level s
  | .queueLegacyChange q on => Sys2Proof.Machine.execQueueLegacyChange q on s
  | .queueReset q => Sys2Proof.Machine.execQueueReset q s
  | .peakClr => Sys2Proof.Machine.execPeakClr s
  | .cmdTxGo m len => Sys2Proof.Machine.execCmdTxGo m len s
  | .evtRearm m => Sys2Proof.Machine.execEvtRearm m s
  | .evtMaskWrite m k v => Sys2Proof.Machine.execEvtMaskWrite m k v s
  | .cvuStart u => Sys2Proof.Machine.execCvuStart u s
  | .cvuDataWrite u v => Sys2Proof.Machine.execCvuDataWrite u v s
  | .pinRetryNow p => Sys2Proof.Machine.execPinRetryNow p s
  | .windowAccess fn off wr => Sys2Proof.Machine.execWindowAccess fn off wr s
  | .resetNAssert => Sys2Proof.Machine.execResetNAssert s
  | .resetNRelease bootSel => Sys2Proof.Machine.execResetNRelease bootSel s
  | .pciePerst => Sys2Proof.Machine.execPciePerst s
  | .spiRead addr words => Sys2Proof.Machine.execSpiRead addr words s
  | .spiWrite addr words cut => Sys2Proof.Machine.execSpiWrite addr words cut s
  | .spiQuadRead addr words => Sys2Proof.Machine.execSpiQuadRead addr words s
  | .spiQuadWrite addr words cut => Sys2Proof.Machine.execSpiQuadWrite addr words cut s
  | .tapBypass => Sys2Proof.Machine.execTapBypass s
  | .tapIdcode => Sys2Proof.Machine.execTapIdcode s
  | .tapSample pins => Sys2Proof.Machine.execTapSample pins s
  | .tapExtest drive => Sys2Proof.Machine.execTapExtest drive s
  | .tapReset => Sys2Proof.Machine.execTapReset s
  | .fpInPulse highNs offsetNs => Sys2Proof.Machine.execFpInPulse highNs offsetNs s
  | .fpInMissing => Sys2Proof.Machine.execFpInMissing s
  | .claimInPulse riseErrNs widthNs => Sys2Proof.Machine.execClaimInPulse riseErrNs widthNs s
  | .pinChannelLoss => Sys2Proof.Machine.execPinChannelLoss s
  | .pinContention p level => Sys2Proof.Machine.execPinContention p level s
  | .pinBackoffExpiry p => Sys2Proof.Machine.execPinBackoffExpiry p s
  | .pinRetryClean p => Sys2Proof.Machine.execPinRetryClean p s
  | .dieTempHigh temp => Sys2Proof.Machine.execDieTempHigh temp s
  | .sfnTick => Sys2Proof.Machine.execSfnTick s
  | .immediateExecute => Sys2Proof.Machine.execImmediateExecute s
  | .scheduledEntryExecute => Sys2Proof.Machine.execScheduledEntryExecute s
  | .portEntryApply p => Sys2Proof.Machine.execPortEntryApply p s
  | .setSfnMarkerApply => Sys2Proof.Machine.execSetSfnMarkerApply s
  | .secondClose => Sys2Proof.Machine.execSecondClose s
  | .snapshotExecute => Sys2Proof.Machine.execSnapshotExecute s
  | .defectDecided c set => Sys2Proof.Machine.execDefectDecided c set s
  | .defectArrival => Sys2Proof.Machine.execDefectArrival s
  | .holdoffExpiry pg => Sys2Proof.Machine.execHoldoffExpiry pg s
  | .protWtrExpiry pg => Sys2Proof.Machine.execProtWtrExpiry pg s
  | .apsKArrival p k1 k2 => Sys2Proof.Machine.execApsKArrival p k1 k2 s
  | .berWindowEnd w => Sys2Proof.Machine.execBerWindowEnd w s
  | .squelchProbe p => Sys2Proof.Machine.execSquelchProbe p s
  | .laneFaultRetry p held => Sys2Proof.Machine.execLaneFaultRetry p held s
  | .spareCdrLock g => Sys2Proof.Machine.execSpareCdrLock g s
  | .spareLockDeadline g => Sys2Proof.Machine.execSpareLockDeadline g s
  | .sdhFrameReceive p f => Sys2Proof.Machine.execSdhFrameReceive p f s
  | .sdhFrameTransmit p => Sys2Proof.Machine.execSdhFrameTransmit p s
  | .otuFrameReceive p f => Sys2Proof.Machine.execOtuFrameReceive p f s
  | .otuFrameTransmit p => Sys2Proof.Machine.execOtuFrameTransmit p s
  | .dmTimeout p index layer => Sys2Proof.Machine.execDmTimeout p index layer s
  | .tuMultiframeReceive k f => Sys2Proof.Machine.execTuMultiframeReceive k f s
  | .alfMarkerReceive p m => Sys2Proof.Machine.execAlfMarkerReceive p m s
  | .alfFrameReceive p f => Sys2Proof.Machine.execAlfFrameReceive p f s
  | .alfAnnounce p profile annId effPfn framePfn => Sys2Proof.Machine.execAlfAnnounce p profile annId effPfn framePfn s
  | .alfQuality p content => Sys2Proof.Machine.execAlfQuality p content s
  | .alfIdent p part word => Sys2Proof.Machine.execAlfIdent p part word s
  | .alfFrameTransmit p => Sys2Proof.Machine.execAlfFrameTransmit p s
  | .alfResizeApply p => Sys2Proof.Machine.execAlfResizeApply p s
  | .alfRestoreAisEnd p => Sys2Proof.Machine.execAlfRestoreAisEnd p s
  | .bundlePlayout g shares => Sys2Proof.Machine.execBundlePlayout g shares s
  | .rejoinWtrExpiry g m => Sys2Proof.Machine.execRejoinWtrExpiry g m s
  | .hrpPlayout g mainOk otherOk lagUs => Sys2Proof.Machine.execHrpPlayout g mainOk otherOk lagUs s
  | .ethFrameReceive p f => Sys2Proof.Machine.execEthFrameReceive p f s
  | .pauseFrameReceive p pfc enable quanta => Sys2Proof.Machine.execPauseFrameReceive p pfc enable quanta s
  | .gfpFrameReceive engine channel f => Sys2Proof.Machine.execGfpFrameReceive engine channel f s
  | .gfpFrameTransmit engine channel => Sys2Proof.Machine.execGfpFrameTransmit engine channel s
  | .ethEgressTransmit p => Sys2Proof.Machine.execEthEgressTransmit p s
  | .drainEval engine => Sys2Proof.Machine.execDrainEval engine s
  | .flowControlSend p => Sys2Proof.Machine.execFlowControlSend p s
  | .pauseRefresh p => Sys2Proof.Machine.execPauseRefresh p s
  | .csfSend engine flow => Sys2Proof.Machine.execCsfSend engine flow s
  | .lcasHoldoffExpiry engine group member => Sys2Proof.Machine.execLcasHoldoffExpiry engine group member s
  | .lcasWtrExpiry engine group member => Sys2Proof.Machine.execLcasWtrExpiry engine group member s
  | .slotParityError slot => Sys2Proof.Machine.execSlotParityError slot s
  | .sliceFailure slice => Sys2Proof.Machine.execSliceFailure slice s
  | .moveStart slice => Sys2Proof.Machine.execMoveStart slice s
  | .moveBridge id => Sys2Proof.Machine.execMoveBridge id s
  | .moveRoll id => Sys2Proof.Machine.execMoveRoll id s
  | .moveRelease id => Sys2Proof.Machine.execMoveRelease id s
  | .poolPageSwitch page => Sys2Proof.Machine.execPoolPageSwitch page s
  | .poisonedContextRead c retryGood recordGood => Sys2Proof.Machine.execPoisonedContextRead c retryGood recordGood s
  | .blockIsolation b => Sys2Proof.Machine.execBlockIsolation b s
  | .substitutionTrigger u => Sys2Proof.Machine.execSubstitutionTrigger u s
  | .pendingSpareCommit => Sys2Proof.Machine.execPendingSpareCommit s
  | .framerSpareResume p => Sys2Proof.Machine.execFramerSpareResume p s
  | .mapperSpareResume pos => Sys2Proof.Machine.execMapperSpareResume pos s
  | .bankCopyDone b affected => Sys2Proof.Machine.execBankCopyDone b affected s
  | .eyeHourClose lane mean => Sys2Proof.Machine.execEyeHourClose lane mean s
  | .smokeRoundStart => Sys2Proof.Machine.execSmokeRoundStart s
  | .smokeTestDone u r => Sys2Proof.Machine.execSmokeTestDone u r s
  | .smokeRoundDone => Sys2Proof.Machine.execSmokeRoundDone s
  | .domainUp d => Sys2Proof.Machine.execDomainUp d s
  | .domainRejoined d => Sys2Proof.Machine.execDomainRejoined d s
  | .chimneyFrameReceive link f => Sys2Proof.Machine.execChimneyFrameReceive link f s
  | .chimneyFrameTransmit => Sys2Proof.Machine.execChimneyFrameTransmit s
  | .mirrorCommandTake p creation result => Sys2Proof.Machine.execMirrorCommandTake p creation result s
  | .mirrorSweepDone => Sys2Proof.Machine.execMirrorSweepDone s
  | .mateHoldExpiry => Sys2Proof.Machine.execMateHoldExpiry s
  | .pairWtrExpiry => Sys2Proof.Machine.execPairWtrExpiry s
  | .handover => Sys2Proof.Machine.execHandover s
  | .refCheckChange n check feed phaseNs failing => Sys2Proof.Machine.execRefCheckChange n check feed phaseNs failing s
  | .refWtrExpiry n => Sys2Proof.Machine.execRefWtrExpiry n s
  | .dpllLockFound => Sys2Proof.Machine.execDpllLockFound s
  | .dpllBwStep => Sys2Proof.Machine.execDpllBwStep s
  | .dpllLocked => Sys2Proof.Machine.execDpllLocked s
  | .dpllLockLost => Sys2Proof.Machine.execDpllLockLost s
  | .dpllHistValid => Sys2Proof.Machine.execDpllHistValid s
  | .dpllTakeover => Sys2Proof.Machine.execDpllTakeover s
  | .synLockLoss u refLost => Sys2Proof.Machine.execSynLockLoss u refLost s
  | .synRelock u => Sys2Proof.Machine.execSynRelock u s
  | .clkoutRestart n => Sys2Proof.Machine.execClkoutRestart n s
  | .ringFrameReceive east h => Sys2Proof.Machine.execRingFrameReceive east h s
  | .ringFrameTransmit => Sys2Proof.Machine.execRingFrameTransmit s
  | .ringLinkDown east => Sys2Proof.Machine.execRingLinkDown east s
  | .ringLinkUp east => Sys2Proof.Machine.execRingLinkUp east s
  | .ringLinkReport addr east good => Sys2Proof.Machine.execRingLinkReport addr east good s
  | .unwrapHoldExpiry east => Sys2Proof.Machine.execUnwrapHoldExpiry east s
  | .ringUnwrap => Sys2Proof.Machine.execRingUnwrap s
  | .ringAnnounce u hop => Sys2Proof.Machine.execRingAnnounce u hop s
  | .ringBeacon u hop => Sys2Proof.Machine.execRingBeacon u hop s
  | .beaconMissing pos => Sys2Proof.Machine.execBeaconMissing pos s
  | .memberAssign fuse addr valid => Sys2Proof.Machine.execMemberAssign fuse addr valid s
  | .setAddressTimeout => Sys2Proof.Machine.execSetAddressTimeout s
  | .ringEventPacket record => Sys2Proof.Machine.execRingEventPacket record s
  | .gatewayReplyReceive m seq bytes => Sys2Proof.Machine.execGatewayReplyReceive m seq bytes s
  | .gatewayReplyTimeout m seq => Sys2Proof.Machine.execGatewayReplyTimeout m seq s
  | .ringSfnLoss => Sys2Proof.Machine.execRingSfnLoss s
  | .ringSfnReturn sfn epoch => Sys2Proof.Machine.execRingSfnReturn sfn epoch s
  | .commandPacketBuffer p => Sys2Proof.Machine.execCommandPacketBuffer p s
  | .pendingOperationStart cls sub index => Sys2Proof.Machine.execPendingOperationStart cls sub index s
  | .pendingSlotTimeout cls sub index => Sys2Proof.Machine.execPendingSlotTimeout cls sub index s
  | .masterAbsence m => Sys2Proof.Machine.execMasterAbsence m s
  | .msiGapExpiry m => Sys2Proof.Machine.execMsiGapExpiry m s
  | .queuePtrMismatch q => Sys2Proof.Machine.execQueuePtrMismatch q s
  | .traceReadout => Sys2Proof.Machine.execTraceReadout s
  | .preciseSample priv seq pc insn latency => Sys2Proof.Machine.execPreciseSample priv seq pc insn latency s
  | .fwVerifyDone o => Sys2Proof.Machine.execFwVerifyDone o s
  | .fwImageStart => Sys2Proof.Machine.execFwImageStart s
  | .fwFallback => Sys2Proof.Machine.execFwFallback s
  | .rxPauseExpiry p prio => Sys2Proof.Machine.execRxPauseExpiry p prio s
  | .pfnFlywheelBoundary p => Sys2Proof.Machine.execPfnFlywheelBoundary p s
  | .dpllDiverged => Sys2Proof.Machine.execDpllDiverged s
  | .dpllMirrorCheckFail => Sys2Proof.Machine.execDpllMirrorCheckFail s
  | .traceRecordStore => Sys2Proof.Machine.execTraceRecordStore s

end Sys2Proof.Machine
end

