-- ==== Sys2Proof/WellFormed.lean ====
section
/-! DEFINITION. What a well-formed command is: a host command carries a packet of its row's opcode (Table 14-6) whose
payload is as long as LENGTH says and fits a packet (R346); a line event carries fields within the bounds of their tables. -/

namespace Sys2Proof

/-- A host command row: the packet it carries, its opcode, and where the row names one form of a command, the offset and
value of the payload byte that selects the form. -/
structure HostRow where
  packet : Packet
  opcode : Nat
  selector : Option (Nat × Nat)
  deriving DecidableEq, Repr

/-- The host command rows of the table; none for the other rows. -/
def Instr.hostRow : Instr → Option HostRow
  | .nop p => some ⟨p, 0x00, none⟩
  | .identifySelf p => some ⟨p, 0x01, some (0, 0)⟩
  | .identifyPartner p => some ⟨p, 0x01, some (0, 1)⟩
  | .identifyRingTable p => some ⟨p, 0x01, some (0, 2)⟩
  | .setLevel p => some ⟨p, 0x02, none⟩
  | .setMasterClaim p => some ⟨p, 0x03, none⟩
  | .setSfn p => some ⟨p, 0x04, some (6, 0)⟩
  | .setSfnAtMarker p => some ⟨p, 0x04, some (6, 1)⟩
  | .epochRestart p => some ⟨p, 0x05, none⟩
  | .setTodLabel p => some ⟨p, 0x06, none⟩
  | .commitStaged p => some ⟨p, 0x07, some (0, 0)⟩
  | .commitStagedDiscard p => some ⟨p, 0x07, some (0, 1)⟩
  | .calCancel p => some ⟨p, 0x08, none⟩
  | .queueRead p => some ⟨p, 0x09, none⟩
  | .leaseRelease p => some ⟨p, 0x0A, none⟩
  | .leaseRead p => some ⟨p, 0x0B, none⟩
  | .setAddress p => some ⟨p, 0x0C, none⟩
  | .portMode p => some ⟨p, 0x10, none⟩
  | .sdhSectionCfg p => some ⟨p, 0x11, none⟩
  | .sdhPathCfg p => some ⟨p, 0x12, none⟩
  | .sdhPathStatus p => some ⟨p, 0x13, none⟩
  | .sdhTraceRead p => some ⟨p, 0x14, none⟩
  | .sdhDccSend p => some ⟨p, 0x15, none⟩
  | .otnOtuCfg p => some ⟨p, 0x16, none⟩
  | .otnOduCfg p => some ⟨p, 0x17, none⟩
  | .otnOduStatus p => some ⟨p, 0x18, none⟩
  | .otnTtiRead p => some ⟨p, 0x19, none⟩
  | .otnDmStart p => some ⟨p, 0x1A, none⟩
  | .alfPortCfg p => some ⟨p, 0x1B, none⟩
  | .alfTribCfgReplace p => some ⟨p, 0x1C, some (1, 0)⟩
  | .alfTribCfgAppend p => some ⟨p, 0x1C, some (1, 1)⟩
  | .alfTribCfgRemove p => some ⟨p, 0x1C, some (1, 2)⟩
  | .alfTribCfgChange p => some ⟨p, 0x1C, some (1, 3)⟩
  | .alfStatusRead p => some ⟨p, 0x1D, none⟩
  | .alfMapRead p => some ⟨p, 0x1E, none⟩
  | .alfMapResync p => some ⟨p, 0x1F, none⟩
  | .bndGroupCfg p => some ⟨p, 0x20, none⟩
  | .bndTribCfgReplace p => some ⟨p, 0x21, some (1, 0)⟩
  | .bndTribCfgAppend p => some ⟨p, 0x21, some (1, 1)⟩
  | .bndTribCfgRemove p => some ⟨p, 0x21, some (1, 2)⟩
  | .bndTribCfgChange p => some ⟨p, 0x21, some (1, 3)⟩
  | .bndStatusRead p => some ⟨p, 0x22, none⟩
  | .hrpGroupCfg p => some ⟨p, 0x23, none⟩
  | .hrpSelectAuto p => some ⟨p, 0x24, some (1, 0)⟩
  | .hrpSelectForceMain p => some ⟨p, 0x24, some (1, 1)⟩
  | .hrpSelectForceOther p => some ⟨p, 0x24, some (1, 2)⟩
  | .hrpStatusRead p => some ⟨p, 0x25, none⟩
  | .lomContainerCfg p => some ⟨p, 0x26, none⟩
  | .lomTribCfg p => some ⟨p, 0x27, none⟩
  | .lomTribStatus p => some ⟨p, 0x28, none⟩
  | .pktFlowCfg p => some ⟨p, 0x29, none⟩
  | .pktVlanCfg p => some ⟨p, 0x2A, none⟩
  | .pktVcatCfg p => some ⟨p, 0x2B, none⟩
  | .pktFlowStatus p => some ⟨p, 0x2C, none⟩
  | .ethPortCfg p => some ⟨p, 0x2D, none⟩
  | .prtDamperCfg p => some ⟨p, 0x2E, none⟩
  | .stkQuery p => some ⟨p, 0x30, none⟩
  | .connect p => some ⟨p, 0x31, some (24, 0)⟩
  | .connectUnidir p => some ⟨p, 0x31, some (24, 1)⟩
  | .connectAddSink p => some ⟨p, 0x31, some (24, 2)⟩
  | .disconnect p => some ⟨p, 0x32, none⟩
  | .connRead p => some ⟨p, 0x33, none⟩
  | .grtDefrag p => some ⟨p, 0x34, none⟩
  | .grtRunSet p => some ⟨p, 0x35, none⟩
  | .grtRunFree p => some ⟨p, 0x36, none⟩
  | .grtMapSet p => some ⟨p, 0x37, none⟩
  | .grtMove p => some ⟨p, 0x38, none⟩
  | .stkPoolCfg p => some ⟨p, 0x39, none⟩
  | .protGroupCfg p => some ⟨p, 0x50, some (4, 1)⟩
  | .protGroupRemove p => some ⟨p, 0x50, some (4, 0)⟩
  | .protClear p => some ⟨p, 0x51, some (4, 0)⟩
  | .protLockout p => some ⟨p, 0x51, some (4, 1)⟩
  | .protForced p => some ⟨p, 0x51, some (4, 2)⟩
  | .protManual p => some ⟨p, 0x51, some (4, 3)⟩
  | .protManualW p => some ⟨p, 0x51, some (4, 4)⟩
  | .protExercise p => some ⟨p, 0x51, some (4, 5)⟩
  | .protStatus p => some ⟨p, 0x52, none⟩
  | .pairCfg p => some ⟨p, 0x53, none⟩
  | .pairClear p => some ⟨p, 0x54, some (0, 0)⟩
  | .pairSwitchover p => some ⟨p, 0x54, some (0, 1)⟩
  | .pairChannelOverride p => some ⟨p, 0x54, some (0, 2)⟩
  | .pairStatus p => some ⟨p, 0x55, none⟩
  | .dplRefCfg p => some ⟨p, 0x60, none⟩
  | .dplSelect p => some ⟨p, 0x61, none⟩
  | .dplCfg p => some ⟨p, 0x62, none⟩
  | .dplStatusRead p => some ⟨p, 0x63, none⟩
  | .alignFrameOutputs p => some ⟨p, 0x64, none⟩
  | .clkoutCfg p => some ⟨p, 0x65, none⟩
  | .synCfg p => some ⟨p, 0x66, none⟩
  | .snapSetCfgReplace p => some ⟨p, 0x70, some (1, 0)⟩
  | .snapSetCfgAppend p => some ⟨p, 0x70, some (1, 1)⟩
  | .snapshot p => some ⟨p, 0x71, none⟩
  | .snapRead p => some ⟨p, 0x72, none⟩
  | .cntClear p => some ⟨p, 0x73, none⟩
  | .pmEnable p => some ⟨p, 0x74, some (8, 1)⟩
  | .pmDisable p => some ⟨p, 0x74, some (8, 0)⟩
  | .pmRead p => some ⟨p, 0x75, none⟩
  | .regRead p => some ⟨p, 0x80, none⟩
  | .regWrite p => some ⟨p, 0x81, none⟩
  | .regModify p => some ⟨p, 0x82, none⟩
  | .ctxRead p => some ⟨p, 0x83, none⟩
  | .ctxWrite p => some ⟨p, 0x84, none⟩
  | .hltStatusGrades p => some ⟨p, 0x90, some (0, 0)⟩
  | .hltStatusPending p => some ⟨p, 0x90, some (0, 1)⟩
  | .hltStatusPoisonList p => some ⟨p, 0x90, some (0, 2)⟩
  | .spareApprove p => some ⟨p, 0x91, some (4, 1)⟩
  | .spareDecline p => some ⟨p, 0x91, some (4, 0)⟩
  | .spareRequest p => some ⟨p, 0x92, none⟩
  | .repairMapRead p => some ⟨p, 0x93, none⟩
  | .repairMapApply p => some ⟨p, 0x94, none⟩
  | .smokeCfg p => some ⟨p, 0x95, none⟩
  | .powerDomainUp p => some ⟨p, 0x96, some (2, 1)⟩
  | .powerDomainDown p => some ⟨p, 0x96, some (2, 0)⟩
  | .obsTraceCfg p => some ⟨p, 0xA0, none⟩
  | .obsCntCfg p => some ⟨p, 0xA1, none⟩
  | .obsSampleCfg p => some ⟨p, 0xA2, none⟩
  | .obsStatus p => some ⟨p, 0xA3, none⟩
  | .legNop p => some ⟨p, 0xE0, none⟩
  | .legQueueRead p => some ⟨p, 0xE1, none⟩
  | .legQueueLevel p => some ⟨p, 0xE2, none⟩
  | .legQueueReset p => some ⟨p, 0xE3, none⟩
  | .legStatus p => some ⟨p, 0xE4, none⟩
  | .fwLoadBegin p => some ⟨p, 0xF0, none⟩
  | .fwLoadData p => some ⟨p, 0xF1, none⟩
  | .fwLoadEnd p => some ⟨p, 0xF2, none⟩
  | .fwActivate p => some ⟨p, 0xF3, none⟩
  | .fwStatus p => some ⟨p, 0xF4, none⟩
  | .registerWrite _ _ _ _ => none
  | .qdataHiRead _ => none
  | .sfnLoRead => none
  | .todLoRead => none
  | .prtCntLoRead _ _ => none
  | .prtCntLoWrite _ _ _ _ => none
  | .obsCycleLoRead => none
  | .obsCntLoRead _ => none
  | .obsCntLoWrite _ _ _ => none
  | .obsFreeze => none
  | .obsUnfreeze => none
  | .queueLevelWrite _ _ => none
  | .queueLegacyChange _ _ => none
  | .queueReset _ => none
  | .peakClr => none
  | .cmdTxGo _ _ => none
  | .evtRearm _ => none
  | .evtMaskWrite _ _ _ => none
  | .cvuStart _ => none
  | .cvuDataWrite _ _ => none
  | .pinRetryNow _ => none
  | .windowAccess _ _ _ => none
  | .resetNAssert => none
  | .resetNRelease _ => none
  | .pciePerst => none
  | .spiRead _ _ => none
  | .spiWrite _ _ _ => none
  | .spiQuadRead _ _ => none
  | .spiQuadWrite _ _ _ => none
  | .tapBypass => none
  | .tapIdcode => none
  | .tapSample _ => none
  | .tapExtest _ => none
  | .tapReset => none
  | .fpInPulse _ _ => none
  | .fpInMissing => none
  | .claimInPulse _ _ => none
  | .pinChannelLoss => none
  | .pinContention _ _ => none
  | .pinBackoffExpiry _ => none
  | .pinRetryClean _ => none
  | .dieTempHigh _ => none
  | .sfnTick => none
  | .immediateExecute => none
  | .scheduledEntryExecute => none
  | .portEntryApply _ => none
  | .setSfnMarkerApply => none
  | .secondClose => none
  | .snapshotExecute => none
  | .defectDecided _ _ => none
  | .defectArrival => none
  | .holdoffExpiry _ => none
  | .protWtrExpiry _ => none
  | .apsKArrival _ _ _ => none
  | .berWindowEnd _ => none
  | .squelchProbe _ => none
  | .laneFaultRetry _ _ => none
  | .spareCdrLock _ => none
  | .spareLockDeadline _ => none
  | .sdhFrameReceive _ _ => none
  | .sdhFrameTransmit _ => none
  | .otuFrameReceive _ _ => none
  | .otuFrameTransmit _ => none
  | .dmTimeout _ _ _ => none
  | .tuMultiframeReceive _ _ => none
  | .alfMarkerReceive _ _ => none
  | .alfFrameReceive _ _ => none
  | .alfAnnounce _ _ _ _ _ => none
  | .alfQuality _ _ => none
  | .alfIdent _ _ _ => none
  | .alfFrameTransmit _ => none
  | .alfResizeApply _ => none
  | .alfRestoreAisEnd _ => none
  | .bundlePlayout _ _ => none
  | .rejoinWtrExpiry _ _ => none
  | .hrpPlayout _ _ _ _ => none
  | .ethFrameReceive _ _ => none
  | .pauseFrameReceive _ _ _ _ => none
  | .gfpFrameReceive _ _ _ => none
  | .gfpFrameTransmit _ _ => none
  | .ethEgressTransmit _ => none
  | .drainEval _ => none
  | .flowControlSend _ => none
  | .pauseRefresh _ => none
  | .csfSend _ _ => none
  | .lcasHoldoffExpiry _ _ _ => none
  | .lcasWtrExpiry _ _ _ => none
  | .slotParityError _ => none
  | .sliceFailure _ => none
  | .moveStart _ => none
  | .moveBridge _ => none
  | .moveRoll _ => none
  | .moveRelease _ => none
  | .poolPageSwitch _ => none
  | .poisonedContextRead _ _ _ => none
  | .blockIsolation _ => none
  | .substitutionTrigger _ => none
  | .pendingSpareCommit => none
  | .framerSpareResume _ => none
  | .mapperSpareResume _ => none
  | .bankCopyDone _ _ => none
  | .eyeHourClose _ _ => none
  | .smokeRoundStart => none
  | .smokeTestDone _ _ => none
  | .smokeRoundDone => none
  | .domainUp _ => none
  | .domainRejoined _ => none
  | .chimneyFrameReceive _ _ => none
  | .chimneyFrameTransmit => none
  | .mirrorCommandTake _ _ _ => none
  | .mirrorSweepDone => none
  | .mateHoldExpiry => none
  | .pairWtrExpiry => none
  | .handover => none
  | .refCheckChange _ _ _ _ _ => none
  | .refWtrExpiry _ => none
  | .dpllLockFound => none
  | .dpllBwStep => none
  | .dpllLocked => none
  | .dpllLockLost => none
  | .dpllHistValid => none
  | .dpllTakeover => none
  | .synLockLoss _ _ => none
  | .synRelock _ => none
  | .clkoutRestart _ => none
  | .ringFrameReceive _ _ => none
  | .ringFrameTransmit => none
  | .ringLinkDown _ => none
  | .ringLinkUp _ => none
  | .ringLinkReport _ _ _ => none
  | .unwrapHoldExpiry _ => none
  | .ringUnwrap => none
  | .ringAnnounce _ _ => none
  | .ringBeacon _ _ => none
  | .beaconMissing _ => none
  | .memberAssign _ _ _ => none
  | .setAddressTimeout => none
  | .ringEventPacket _ => none
  | .gatewayReplyReceive _ _ _ => none
  | .gatewayReplyTimeout _ _ => none
  | .ringSfnLoss => none
  | .ringSfnReturn _ _ => none
  | .commandPacketBuffer _ => none
  | .pendingOperationStart _ _ _ => none
  | .pendingSlotTimeout _ _ _ => none
  | .masterAbsence _ => none
  | .msiGapExpiry _ => none
  | .queuePtrMismatch _ => none
  | .traceReadout => none
  | .preciseSample _ _ _ _ _ => none
  | .fwVerifyDone _ => none
  | .fwImageStart => none
  | .fwFallback => none
  | .rxPauseExpiry _ _ => none
  | .pfnFlywheelBoundary _ => none
  | .dpllDiverged => none
  | .dpllMirrorCheckFail => none
  | .traceRecordStore => none

/-- The packet is one of the row: its opcode, and the selecting byte where the payload reaches it. -/
def HostRow.matchesRow (h : HostRow) : Bool :=
  decide (h.packet.opcode.toNat = h.opcode) &&
  match h.selector with
  | none => true
  | some (off, v) => match h.packet.payload[off]? with
    | some b => decide (b.toNat = v)
    | none => true

/-- LENGTH counts the payload, and the payload fits a packet (R346). -/
def Packet.fits (p : Packet) : Bool :=
  decide (p.payload.length = p.length.toNat) && decide (p.payload.length ≤ 4068)

def SdhRx.wellFormed (f : SdhRx) : Bool :=
  decide (f.rsDcc.length = 3) && decide (f.msDcc.length = 9) &&
  f.paths.all fun x => decide (x.head < 192)

def OtuRx.wellFormed (f : OtuRx) : Bool :=
  f.layers.all fun l => decide (l.layer ≤ 7) && decide (l.index < 256)

def Marker.wellFormed (m : Marker) : Bool := decide (m.lane < 4) && decide (m.profile < 16)

def AlfRx.wellFormed (f : AlfRx) : Bool := decide (f.profile < 16)

/-- Bounds on what a row takes from outside. -/
def Instr.operandsOk : Instr → Bool
  | .nop _ => true
  | .identifySelf _ => true
  | .identifyPartner _ => true
  | .identifyRingTable _ => true
  | .setLevel _ => true
  | .setMasterClaim _ => true
  | .setSfn _ => true
  | .setSfnAtMarker _ => true
  | .epochRestart _ => true
  | .setTodLabel _ => true
  | .commitStaged _ => true
  | .commitStagedDiscard _ => true
  | .calCancel _ => true
  | .queueRead _ => true
  | .leaseRelease _ => true
  | .leaseRead _ => true
  | .setAddress _ => true
  | .portMode _ => true
  | .sdhSectionCfg _ => true
  | .sdhPathCfg _ => true
  | .sdhPathStatus _ => true
  | .sdhTraceRead _ => true
  | .sdhDccSend _ => true
  | .otnOtuCfg _ => true
  | .otnOduCfg _ => true
  | .otnOduStatus _ => true
  | .otnTtiRead _ => true
  | .otnDmStart _ => true
  | .alfPortCfg _ => true
  | .alfTribCfgReplace _ => true
  | .alfTribCfgAppend _ => true
  | .alfTribCfgRemove _ => true
  | .alfTribCfgChange _ => true
  | .alfStatusRead _ => true
  | .alfMapRead _ => true
  | .alfMapResync _ => true
  | .bndGroupCfg _ => true
  | .bndTribCfgReplace _ => true
  | .bndTribCfgAppend _ => true
  | .bndTribCfgRemove _ => true
  | .bndTribCfgChange _ => true
  | .bndStatusRead _ => true
  | .hrpGroupCfg _ => true
  | .hrpSelectAuto _ => true
  | .hrpSelectForceMain _ => true
  | .hrpSelectForceOther _ => true
  | .hrpStatusRead _ => true
  | .lomContainerCfg _ => true
  | .lomTribCfg _ => true
  | .lomTribStatus _ => true
  | .pktFlowCfg _ => true
  | .pktVlanCfg _ => true
  | .pktVcatCfg _ => true
  | .pktFlowStatus _ => true
  | .ethPortCfg _ => true
  | .prtDamperCfg _ => true
  | .stkQuery _ => true
  | .connect _ => true
  | .connectUnidir _ => true
  | .connectAddSink _ => true
  | .disconnect _ => true
  | .connRead _ => true
  | .grtDefrag _ => true
  | .grtRunSet _ => true
  | .grtRunFree _ => true
  | .grtMapSet _ => true
  | .grtMove _ => true
  | .stkPoolCfg _ => true
  | .protGroupCfg _ => true
  | .protGroupRemove _ => true
  | .protClear _ => true
  | .protLockout _ => true
  | .protForced _ => true
  | .protManual _ => true
  | .protManualW _ => true
  | .protExercise _ => true
  | .protStatus _ => true
  | .pairCfg _ => true
  | .pairClear _ => true
  | .pairSwitchover _ => true
  | .pairChannelOverride _ => true
  | .pairStatus _ => true
  | .dplRefCfg _ => true
  | .dplSelect _ => true
  | .dplCfg _ => true
  | .dplStatusRead _ => true
  | .alignFrameOutputs _ => true
  | .clkoutCfg _ => true
  | .synCfg _ => true
  | .snapSetCfgReplace _ => true
  | .snapSetCfgAppend _ => true
  | .snapshot _ => true
  | .snapRead _ => true
  | .cntClear _ => true
  | .pmEnable _ => true
  | .pmDisable _ => true
  | .pmRead _ => true
  | .regRead _ => true
  | .regWrite _ => true
  | .regModify _ => true
  | .ctxRead _ => true
  | .ctxWrite _ => true
  | .hltStatusGrades _ => true
  | .hltStatusPending _ => true
  | .hltStatusPoisonList _ => true
  | .spareApprove _ => true
  | .spareDecline _ => true
  | .spareRequest _ => true
  | .repairMapRead _ => true
  | .repairMapApply _ => true
  | .smokeCfg _ => true
  | .powerDomainUp _ => true
  | .powerDomainDown _ => true
  | .obsTraceCfg _ => true
  | .obsCntCfg _ => true
  | .obsSampleCfg _ => true
  | .obsStatus _ => true
  | .legNop _ => true
  | .legQueueRead _ => true
  | .legQueueLevel _ => true
  | .legQueueReset _ => true
  | .legStatus _ => true
  | .fwLoadBegin _ => true
  | .fwLoadData _ => true
  | .fwLoadEnd _ => true
  | .fwActivate _ => true
  | .fwStatus _ => true
  | .registerWrite _ _ _ _ => true
  | .qdataHiRead _ => true
  | .sfnLoRead => true
  | .todLoRead => true
  | .prtCntLoRead _ _ => true
  | .prtCntLoWrite _ _ _ _ => true
  | .obsCycleLoRead => true
  | .obsCntLoRead _ => true
  | .obsCntLoWrite _ _ _ => true
  | .obsFreeze => true
  | .obsUnfreeze => true
  | .queueLevelWrite _ _ => true
  | .queueLegacyChange _ _ => true
  | .queueReset _ => true
  | .peakClr => true
  | .cmdTxGo _ _ => true
  | .evtRearm _ => true
  | .evtMaskWrite _ _ _ => true
  | .cvuStart _ => true
  | .cvuDataWrite _ _ => true
  | .pinRetryNow _ => true
  | .windowAccess _ _ _ => true
  | .resetNAssert => true
  | .resetNRelease _ => true
  | .pciePerst => true
  | .spiRead _ words => decide (1 ≤ words)
  | .spiWrite _ _ _ => true
  | .spiQuadRead _ words => decide (1 ≤ words)
  | .spiQuadWrite _ _ _ => true
  | .tapBypass => true
  | .tapIdcode => true
  | .tapSample _ => true
  | .tapExtest _ => true
  | .tapReset => true
  | .fpInPulse _ _ => true
  | .fpInMissing => true
  | .claimInPulse _ _ => true
  | .pinChannelLoss => true
  | .pinContention _ _ => true
  | .pinBackoffExpiry _ => true
  | .pinRetryClean _ => true
  | .dieTempHigh _ => true
  | .sfnTick => true
  | .immediateExecute => true
  | .scheduledEntryExecute => true
  | .portEntryApply _ => true
  | .setSfnMarkerApply => true
  | .secondClose => true
  | .snapshotExecute => true
  | .defectDecided _ _ => true
  | .defectArrival => true
  | .holdoffExpiry _ => true
  | .protWtrExpiry _ => true
  | .apsKArrival _ _ _ => true
  | .berWindowEnd _ => true
  | .squelchProbe _ => true
  | .laneFaultRetry _ _ => true
  | .spareCdrLock _ => true
  | .spareLockDeadline _ => true
  | .sdhFrameReceive _ f => f.wellFormed
  | .sdhFrameTransmit _ => true
  | .otuFrameReceive _ f => f.wellFormed
  | .otuFrameTransmit _ => true
  | .dmTimeout _ index _ => decide (index < 256)
  | .tuMultiframeReceive _ _ => true
  | .alfMarkerReceive _ m => m.wellFormed
  | .alfFrameReceive _ f => f.wellFormed
  | .alfAnnounce _ _ _ _ _ => true
  | .alfQuality _ _ => true
  | .alfIdent _ _ _ => true
  | .alfFrameTransmit _ => true
  | .alfResizeApply _ => true
  | .alfRestoreAisEnd _ => true
  | .bundlePlayout _ shares => decide ((shares.map BcbRx.member).Nodup)
  | .rejoinWtrExpiry _ _ => true
  | .hrpPlayout _ _ _ _ => true
  | .ethFrameReceive _ _ => true
  | .pauseFrameReceive _ _ _ quanta => decide (quanta.length = 8 ∨ quanta.length = 1)
  | .gfpFrameReceive _ _ _ => true
  | .gfpFrameTransmit _ _ => true
  | .ethEgressTransmit _ => true
  | .drainEval _ => true
  | .flowControlSend _ => true
  | .pauseRefresh _ => true
  | .csfSend _ _ => true
  | .lcasHoldoffExpiry _ _ _ => true
  | .lcasWtrExpiry _ _ _ => true
  | .slotParityError _ => true
  | .sliceFailure _ => true
  | .moveStart _ => true
  | .moveBridge _ => true
  | .moveRoll _ => true
  | .moveRelease _ => true
  | .poolPageSwitch _ => true
  | .poisonedContextRead _ _ _ => true
  | .blockIsolation _ => true
  | .substitutionTrigger _ => true
  | .pendingSpareCommit => true
  | .framerSpareResume _ => true
  | .mapperSpareResume _ => true
  | .bankCopyDone _ _ => true
  | .eyeHourClose _ _ => true
  | .smokeRoundStart => true
  | .smokeTestDone _ _ => true
  | .smokeRoundDone => true
  | .domainUp _ => true
  | .domainRejoined _ => true
  | .chimneyFrameReceive _ _ => true
  | .chimneyFrameTransmit => true
  | .mirrorCommandTake p _ _ => p.fits
  | .mirrorSweepDone => true
  | .mateHoldExpiry => true
  | .pairWtrExpiry => true
  | .handover => true
  | .refCheckChange _ _ _ _ _ => true
  | .refWtrExpiry _ => true
  | .dpllLockFound => true
  | .dpllBwStep => true
  | .dpllLocked => true
  | .dpllLockLost => true
  | .dpllHistValid => true
  | .dpllTakeover => true
  | .synLockLoss _ _ => true
  | .synRelock _ => true
  | .clkoutRestart _ => true
  | .ringFrameReceive _ _ => true
  | .ringFrameTransmit => true
  | .ringLinkDown _ => true
  | .ringLinkUp _ => true
  | .ringLinkReport _ _ _ => true
  | .unwrapHoldExpiry _ => true
  | .ringUnwrap => true
  | .ringAnnounce _ _ => true
  | .ringBeacon _ _ => true
  | .beaconMissing _ => true
  | .memberAssign _ _ _ => true
  | .setAddressTimeout => true
  | .ringEventPacket _ => true
  | .gatewayReplyReceive _ _ _ => true
  | .gatewayReplyTimeout _ _ => true
  | .ringSfnLoss => true
  | .ringSfnReturn _ _ => true
  | .commandPacketBuffer p => p.fits
  | .pendingOperationStart _ _ _ => true
  | .pendingSlotTimeout _ _ _ => true
  | .masterAbsence _ => true
  | .msiGapExpiry _ => true
  | .queuePtrMismatch _ => true
  | .traceReadout => true
  | .preciseSample _ _ _ _ _ => true
  | .fwVerifyDone _ => true
  | .fwImageStart => true
  | .fwFallback => true
  | .rxPauseExpiry _ _ => true
  | .pfnFlywheelBoundary _ => true
  | .dpllDiverged => true
  | .dpllMirrorCheckFail => true
  | .traceRecordStore => true

/-- A command as it can come from outside. -/
def wellFormed (i : Instr) : Bool :=
  (match i.hostRow with
   | some h => h.matchesRow && h.packet.fits
   | none => true) && i.operandsOk

end Sys2Proof
end

