-- ==== Sys2Proof/Safety.lean ====
section
/-! DEFINITION. What counts as a safe run, and the relations between states that statements about commands use:
what stays as it was, in terms of the fields of State and of register reads. -/

namespace Sys2Proof

/-- `k` steps from `s` all answer a next state. -/
def runsSafely : Nat → Machine.State → Prop
  | 0, _ => True
  | k + 1, s => ∃ t, Machine.step s = .next t ∧ runsSafely k t

end Sys2Proof

namespace Sys2Proof.Machine

/-- PENDING of both masters has been evaluated since the state last changed (R394, R400). -/
def State.interruptsSeen (s : State) : Prop :=
  s.cmd.m0.wasPending = s.pendingBit 0 ∧ s.cmd.m1.wasPending = s.pendingBit 1

/-- `y` is the master record `x` but for its interrupt output: PENDING as last evaluated and the message-signalled
interrupts sent (R400). -/
def Master.sameButMsi (x y : Master) : Prop :=
  y = { x with msiLast := y.msiLast, msiSent := y.msiSent, msiWaiting := y.msiWaiting, wasPending := y.wasPending }

/-- `t` is `x` with both interrupt outputs evaluated: nothing else differs. -/
def Settled (x t : State) : Prop :=
  t = { x with cmd := { x.cmd with m0 := t.cmd.m0, m1 := t.cmd.m1 } } ∧
  x.cmd.m0.sameButMsi t.cmd.m0 ∧ x.cmd.m1.sameButMsi t.cmd.m1 ∧ t.interruptsSeen

/-- Registers that only the record of events and of trace drops writes: the sticky bits (R393), the trace's drop
counter and its DROP_HIST (R446). -/
def noteReg (k : Nat) : Bool :=
  (decide (0xF040 ≤ k ∧ k < 0xF0B0)) || decide (k = OBS_DROP_CNT.key) || decide (k = OBS_TRACE_STATUS.key)

/-- `x` is `s` but for trace capture (R445, R446): the observation unit, the free-value counter that the trace uses and
the trace's own registers. -/
def ButTrace (s x : State) : Prop :=
  x = { s with regs := x.regs, obs := x.obs, dev := { s.dev with freeCtr := x.dev.freeCtr } } ∧
  ∀ k, k ≠ OBS_DROP_CNT.key → k ≠ OBS_TRACE_STATUS.key → x.rd k = s.rd k

/-- `x` is `s` with the events `es` recorded in the tick (R393, R395), their sources' sticky bits set for both masters,
and for trace capture. -/
def Raised (s x : State) (es : List EventRec) : Prop :=
  x = { s with regs := x.regs, obs := x.obs, evt := { s.evt with tick := s.evt.tick ++ es },
               dev := { s.dev with freeCtr := x.dev.freeCtr } } ∧
  (∀ k, noteReg k = false → x.rd k = s.rd k) ∧
  ∀ e ∈ es, ∀ m, m < 2 → e.source < 384 → x.sticky m e.source = true

/-- Registers that reporting to the host writes: `noteReg`, SYS_QSTAT_q of the eight queues, and CMD_STATUS. -/
def reportReg (k : Nat) : Bool :=
  noteReg k || (List.range 8).any (fun q => decide (k = SYS_QSTAT.key q)) || decide (k = CMD_STATUS.key)

/-- `x` is `s` but for what reports to the host: the queues and their status, events, trace capture, replies held or
sent over the ring. Events are only added; of CMD_STATUS, REPLY_LOST_HIST alone can change. -/
def Reported (s x : State) : Prop :=
  x = { s with regs := x.regs, queues := x.queues, obs := x.obs, evt := { s.evt with tick := x.evt.tick },
               dev := { s.dev with freeCtr := x.dev.freeCtr },
               cmd := { s.cmd with held := x.cmd.held, sent := x.cmd.sent } } ∧
  (∀ k, reportReg k = false → x.rd k = s.rd k) ∧
  (∀ f : Fld, f.lo + f.width ≤ 32 →
    (f.lo + f.width ≤ CMD_STATUS.REPLY_LOST_HIST.lo ∨
      CMD_STATUS.REPLY_LOST_HIST.lo + CMD_STATUS.REPLY_LOST_HIST.width ≤ f.lo) →
    x.get CMD_STATUS.key f = s.get CMD_STATUS.key f) ∧
  s.evt.tick <+: x.evt.tick

/-- The command answers a next state: some `x` of which `P` holds, with both interrupt outputs evaluated. -/
def Answers (c : Instr) (s : State) (P : State → Prop) : Prop := ∃ x t, exec c s = .next t ∧ Settled x t ∧ P x

/-- `x` is `s` but for the registers named. -/
def OnlyRegs (s x : State) (ks : List Nat) : Prop :=
  x = { s with regs := x.regs } ∧ ∀ k, k ∉ ks → x.rd k = s.rd k

/-- `x` is `s` but for the registers named, for events and lasting conditions (R393, R395), which are only added to the
tick, and for trace capture. -/
def Noted (s x : State) (ks : List Nat) : Prop :=
  x = { s with regs := x.regs, obs := x.obs, evt := { s.evt with tick := x.evt.tick, conds := x.evt.conds },
               dev := { s.dev with freeCtr := x.dev.freeCtr } } ∧
  (∀ k, k ∉ ks → noteReg k = false → x.rd k = s.rd k) ∧ s.evt.tick <+: x.evt.tick

/-- `x` is `s` but for the registers named, the observation counters, which a bus access can advance (R449), and what
the host read returned. -/
def HostAccess (s x : State) (ks : List Nat) (words : List Word) : Prop :=
  x = { s with regs := x.regs, obs := { s.obs with cnts := x.obs.cnts }, pins := { s.pins with lastRead := words } } ∧
  ∀ k, k ∉ ks → x.rd k = s.rd k

/-- An event of this source, code and sense is among those of the tick. -/
def State.raised (x : State) (source code : Nat) (set : Bool) : Prop :=
  ∃ e ∈ x.evt.tick, e.source = source ∧ e.code = code ∧ e.set = set

/-! ### Host commands -/

/-- The state in which row 2 of Table 14-5 meets a packet: taken, its master present, its SEQ recorded (R348, R359). -/
def State.passed (s : State) (p : Packet) : State :=
  let s1 := (s.noteTaken p).present p.master
  s1.recordSeq p.master p.seq.toNat (s1.classify p)

/-- The packet passes its check and its sequence: row 1 of Table 14-5. -/
def Passes1 (s : State) (p : Packet) : Prop :=
  s.answersPackets = true ∧ (s.noteTaken p).checkFault p = none ∧
  ((s.noteTaken p).present p.master).classify p ≠ .replay

/-- The packet passes rows 1 to 7 of Table 14-5. -/
def Passes7 (s : State) (p : Packet) : Prop :=
  Passes1 s p ∧ (s.passed p).restartBusy p = false ∧ (s.passed p).levelShort p = false ∧ (s.passed p).roleBusy p = none ∧
  (s.passed p).paramFault p = none ∧ ((s.passed p).row7 p).1 = none

/-- The state in which row 8 meets a packet: a PREEMPT has taken its leases (R361). -/
def State.leased (s : State) (p : Packet) : State := ((s.passed p).row7 p).2

/-- Nothing waits for the end of a step 2: no protection group, reservation, connection, running operation, completed
copy, calendar entry, activated image or contending output. -/
def State.quiet (s : State) : Prop :=
  s.prot.groups = [] ∧ s.grate.runs = [] ∧ s.grate.allocs = [] ∧ s.grate.conns = [] ∧ s.cmd.running = [] ∧
  s.health.copiesDone = [] ∧ s.cal.entries = [] ∧ s.fw.activate = false ∧
  ∀ p, p < monitorCount → s.pinOn p PIN_MON.CONTENTION = false

/-! ### Frames -/

/-- The datapath works: the core loop is not on bypass, and the device is out of reset (R42, R452). -/
def State.carrying (s : State) : Prop := s.dev.coreBypass = false ∧ s.dev.boot ≠ .held

/-- No entry of the calendar is held, and the port waits for no spare: its next boundary only moves the frame number. -/
def State.plainPort (s : State) (p : Nat) : Prop := s.cal.entries = [] ∧ (s.port p).awaitResume = false

/-- `x` is `s` but for the work of a frame of one port: its own record, the registers named, counters and performance
records, defects on their way to the next tick, events, and trace capture. -/
def PortWork (s x : State) (p : Nat) (ks : List Nat) : Prop :=
  (∃ y, Noted s y ks ∧ x = { y with ports := x.ports, pm := x.pm, arrivals := x.arrivals }) ∧
  (∀ q, q ≠ p → x.port q = s.port q) ∧ s.arrivals <+: x.arrivals

/-- The value of a raw counter after an increment (R275); none for an increment of 0. -/
def counted (wrap : Bool) (c : Ctr) (n : Nat) : Ctr := if n = 0 then c else addCtr wrap c n

/-- Port counter `k` of `x` is that of `s` with `n` added, by the port's WRAP_MODE. -/
def CountsUp (s x : State) (p k n : Nat) : Prop :=
  (x.port p).cnts.getD k {} =
    counted ((s.get (PRT_CNT_CFG.key p) PRT_CNT_CFG.WRAP_MODE).testBit k) ((s.port p).cnts.getD k {}) n

end Sys2Proof.Machine
end

