-- ==== Sys2Proof/Certificates/Slice0/Obligations.lean ====
section
/-! DEFINITION. The statements for the provers, from the numbered rules of the manual. `Answers c s P` says that the
command `c` answers a next state: one of which `P` holds before the interrupt outputs are evaluated. A frame is written
as an equation that rebuilds the new state from the old one with the fields that may differ. -/

open Sys2Proof Sys2Proof.Machine

/-! ### The queue of commands, reset, invariants -/

/-- A step takes the command at the front of the queue. Where the manual leaves room, this is the model's reading: log
entry 1. -/
def Obligations.StepTakesFrontCommand : Prop :=
  ∀ (c : Instr) (rest : List Instr) (s : State),
    step { s with pending := c :: rest } = exec c { s with pending := rest }

/-- R12: at the release of RESET_N every register, active and staged bank, holds its Reset value; Table values written
out for registers of the command processor, the events, the calendar and the queues. Nothing is scheduled, queued,
leased, connected or stored. Where the manual leaves room, this is the model's reading: log entry 4. -/
def Obligations.ResetHoldsResetColumn : Prop :=
  (∀ k, State.reset.rd k = regReset k ∧ State.reset.rdStaged k = regReset k) ∧
  State.reset.get CMD_CFG.key CMD_CFG.CLAIM_M0 = 2 ∧ State.reset.get CMD_CFG.key CMD_CFG.CLAIM_M1 = 1 ∧
  State.reset.get CMD_CFG.key CMD_CFG.MASTER_TIMEOUT = 10 ∧ State.reset.get CMD_CFG.key CMD_CFG.DEF_TIMEOUT = 8000 ∧
  State.reset.get CAL_CTRL.key CAL_CTRL.QUOTA_M0 = 1792 ∧
  (∀ m : Fin 2, State.reset.get (EVT_CTRL.key m) EVT_CTRL.BURST = 16 ∧
    State.reset.get (EVT_CTRL.key m) EVT_CTRL.MSI_GAP = 8 ∧
    State.reset.get (EVT_CTRL.key m) EVT_CTRL.QUEUE_EN = 1) ∧
  (∀ g : Fin 8, State.reset.get (LAN_SPARE.key g) LAN_SPARE.TARGET = 15) ∧
  State.reset.pending = [] ∧ State.reset.cal.entries = [] ∧ State.reset.cmd.leases = [] ∧
  State.reset.grate.conns = [] ∧ State.reset.bus.mem = [] ∧ ∀ q, (State.reset.queue q).words = []

/-- The state at reset has evaluated its interrupt outputs and holds its memory in canonical form. -/
def Obligations.ResetMeetsInvariants : Prop := State.reset.interruptsSeen ∧ memoryWf State.reset.bus.mem = true

/-- R394, R400: whatever command runs, the machine has evaluated PENDING of both masters when the step ends, so that a
rise is never missed. -/
def Obligations.StepKeepsInterruptsSeen : Prop :=
  ∀ s t : State, s.interruptsSeen → step s = .next t → t.interruptsSeen

/-- Every command answers a next state: no fault of the type `Fault` and no refusal (R353, R419: errors are answered
by replies and fault records). Where the manual leaves room, this is the model's reading: log entry 26. -/
def Obligations.EveryCommandCompletes : Prop := ∀ (c : Instr) (s : State), ∃ t, exec c s = .next t

/-! ### Packets and check values -/

/-- Table 14-1: the packet read from the bytes of a packet is that packet, for every header, CHECK and payload of at
most 4,068 bytes. -/
def Obligations.PacketRoundTrip : Prop :=
  ∀ p : Packet, p.payload.length ≤ 4068 → packetOf (Packet.bytes p) (Packet.bytes p).length = p

/-! ### The TAP (R463, R464) -/

/-- BYPASS captures 0; IDCODE shifts out version, part 0x9600 or 0x9648 and manufacturer 0x2D7; SAMPLE captures the
pins; EXTEST drives the boundary; a locked TAP acts on SAMPLE and EXTEST as on BYPASS; Test-Logic-Reset ends EXTEST.
Only the pin state changes. A declared contention is an arrival of the next tick with its level latched; an expired
back-off drives the output again; an output clean for 1 ms since is an arrival; RETRY_NOW on a high-impedance output
runs the back-off out at the next tick; a die temperature of 115 °C or more sets TJ_HIGH. Where the manual leaves
room, this is the model's reading: log entries 68 and 69. -/
def Obligations.TapAndMonitors : Prop :=
  (∀ s : State,
    let by0 : PinSt := { s.pins with tapInstr := 0, extest := false, tdo := 0 }
    let sampled : List Bool → PinSt := fun pins =>
      { s.pins with tapInstr := 2, extest := false, sample := pins, boundary := pins }
    let driven : List Bool → PinSt := fun drive => { s.pins with tapInstr := 3, extest := true, boundary := drive }
    Answers .tapBypass s (fun x => x = { s with pins := by0 }) ∧
    Answers .tapIdcode s (fun x => x = { s with pins := { s.pins with
      tapInstr := 1, extest := false,
      tdo := (s.dev.stepping.toNat % 16) * 2 ^ 28 + (if s.dev.variant48 then 0x9648 else 0x9600) * 2 ^ 12 + 0x2D7 * 2 + 1 } }) ∧
    (∀ pins, Answers (.tapSample pins) s (fun x =>
      x = { s with pins := if s.on SYS_BOOT_STATUS.key SYS_BOOT_STATUS.TAP_LOCKED then by0 else sampled pins })) ∧
    (∀ drive, Answers (.tapExtest drive) s (fun x =>
      x = { s with pins := if s.on SYS_BOOT_STATUS.key SYS_BOOT_STATUS.TAP_LOCKED then by0 else driven drive })) ∧
    Answers .tapReset s (fun x => x = { s with pins := { s.pins with tapInstr := 1, extest := false } })) ∧
  (∀ s : State,
    (∀ (p : Fin 21) (level : Bool), s.pinSampled p = true → (level = true ∨ s.pinOpenDrain p = false) →
      Answers (.pinContention p level) s (fun x =>
        (∃ y, OnlyRegs s y [PIN_MON.key p] ∧ x = { y with arrivals := s.arrivals ++ [.pinContention p] }) ∧
        x.pinOn p PIN_MON.LEVEL = level)) ∧
    (∀ p : Fin 21, s.timerDue (.pinBackoff p) = true → Answers (.pinBackoffExpiry p) s (fun x =>
      (∃ y, OnlyRegs s y [PIN_MON.key p] ∧ x = { y with
        timers := (s.stopTimer (.pinBackoff p)).timers
        pins := { s.pins with redriven := x.pins.redriven } }) ∧ x.pinOn p PIN_MON.HIGHZ = false ∧ x.pinOn p PIN_MON.RETRY_NOW = false ∧
      x.hasTimer (.pinBackoff p) = false ∧ x.pins.redriven.find p = some s.dev.ticks)) ∧
    (∀ (p : Fin 21) (t : Nat), s.pins.redriven.find p = some t → t + 8 ≤ s.dev.ticks → s.pinSampled p = true →
      Answers (.pinRetryClean p) s (fun x => x = { s with arrivals := s.arrivals ++ [.pinClean p] })) ∧
    (∀ p : Fin 21, s.pinOn p PIN_MON.HIGHZ = true → Answers (.pinRetryNow p) s (fun x =>
      (∃ y, OnlyRegs s y [PIN_MON.key p] ∧ x = { y with timers := (s.startTimer (.pinBackoff p) 1).timers }) ∧
      x.pinOn p PIN_MON.RETRY_NOW = true ∧ ⟨.pinBackoff p, s.dev.ticks + 1⟩ ∈ x.timers)) ∧
    (∀ temp : Byte, Answers (.dieTempHigh temp) s (fun x =>
      OnlyRegs s x [PIN_TEMP.key] ∧
      x.get PIN_TEMP.key PIN_TEMP.TEMP = temp.toNat ∧
      (115 ≤ untwos 8 temp.toNat → x.on PIN_TEMP.key PIN_TEMP.TJ_HIGH = true) ∧
      (untwos 8 temp.toNat < 115 → x.on PIN_TEMP.key PIN_TEMP.TJ_HIGH = s.on PIN_TEMP.key PIN_TEMP.TJ_HIGH))))

/-! ### Reset, boot and the firmware image -/

/-- R452, R453, R484. RESET_N low returns everything to its reset value but the fuses; its release samples BOOT_SEL,
and 0b11 stops the loader; PCIE_PERST_N clears both transmit windows and nothing else. Where the manual leaves room,
this is the model's reading: log entry 5. -/
def Obligations.ResetAndBoot : Prop :=
  ∀ s : State,
    Answers .resetNAssert s (fun x =>
      x = { State.reset with pending := s.pending, dev := x.dev } ∧ x.dev.boot = .held ∧ x.dev.fuseId = s.dev.fuseId ∧
      x.dev.variant48 = s.dev.variant48 ∧ x.dev.stepping = s.dev.stepping ∧ x.dev.fuseRepairs = s.dev.fuseRepairs ∧
      ∀ k, x.rd k = regReset k) ∧
    (∀ sel : BitVec 2, s.dev.boot ≠ .held → Answers (.resetNRelease sel) s (fun x => x = s)) ∧
    (∀ sel : BitVec 2, s.dev.boot = .held → s.dev.fuseRepairs = [] → Answers (.resetNRelease sel) s (fun x =>
      (∃ y, OnlyRegs s y [SYS_BOOT_STATUS.key] ∧
        x = { y with dev := { s.dev with boot := if sel = 3 then .stopped else .rom } }) ∧
      x.get SYS_BOOT_STATUS.key SYS_BOOT_STATUS.BOOT_SEL = sel.toNat ∧
      x.get SYS_BOOT_STATUS.key SYS_BOOT_STATUS.GATEWAY = (if sel = 0 ∨ sel = 2 then 1 else 0) ∧
      x.get SYS_BOOT_STATUS.key SYS_BOOT_STATUS.BAD_BOOT_SEL = (if sel = 3 then 1 else 0) ∧
      x.get SYS_BOOT_STATUS.key SYS_BOOT_STATUS.FUSE_REPAIRS = 0)) ∧
    Answers .pciePerst s (fun x => x = { s with cmd := { s.cmd with
      m0 := { s.cmd.m0 with window := [] }, m1 := { s.cmd.m1 with window := [] } } })

/-- R456, R459, R461. The end of a running verification makes the image ready, or leaves the cause, REJECT_HIST and
IMAGE_REJECTED and the load state idle; the long operation ends. The start of an activated image makes it the running
one; a fallback returns to the old image, or to the ROM responder, with FALLBACK_HIST. Both end the restart. Where the
manual leaves room, this is the model's reading: log entries 62 and 63. -/
def Obligations.FirmwareOutcomes : Prop :=
  ∀ s : State,
    (∀ o : ImageOutcome, (s.running resFw).isSome → s.loadState = fwVerifying → Answers (.fwVerifyDone o) s (fun x =>
      x.running resFw = none ∧ x.fw = s.fw ∧ x.cal = s.cal ∧ x.grate = s.grate ∧ x.ports = s.ports ∧
      (s.imageCause o = 0 → x.loadState = fwReady) ∧
      (s.imageCause o ≠ 0 → x.loadState = fwIdle ∧
        x.get SYS_FW_STATUS.key SYS_FW_STATUS.REJECT_CAUSE = s.imageCause o % 16 ∧
        x.on SYS_FW_STATUS.key SYS_FW_STATUS.REJECT_HIST = true ∧
        ∃ e ∈ x.evt.tick, e.source = 371 ∧ e.code = 0x82 ∧ e.set = true))) ∧
    (s.fw.starting = true → s.on SYS_FW_STATUS.key SYS_FW_STATUS.RUNNING = true → s.cmd.held = [] →
      Answers .fwImageStart s (fun x =>
        x.dev.boot = .running ∧ x.fw.running = 1 - s.fw.running ∧ x.fw.starting = false ∧ x.loadState = fwIdle ∧
        x.on CMD_STATUS.key CMD_STATUS.RESTARTING = false ∧ x.running resFw = none ∧
        x.ports = s.ports ∧ x.cal = s.cal ∧ x.grate = s.grate)) ∧
    (s.fw.starting = true → s.fw.up = false → s.cmd.held = [] →
      Answers .fwFallback s (fun x =>
        x.dev.boot = (if s.on SYS_FW_STATUS.key SYS_FW_STATUS.RUNNING then .running else .rom) ∧
        x.fw.running = s.fw.running ∧ x.fw.starting = false ∧ x.loadState = fwIdle ∧
        x.on SYS_FW_STATUS.key SYS_FW_STATUS.FALLBACK_HIST = true ∧
        x.on CMD_STATUS.key CMD_STATUS.RESTARTING = false ∧ x.running resFw = none ∧
        x.ports = s.ports ∧ x.cal = s.cal ∧ x.grate = s.grate))

/-! ### Reads that latch, and writes of counters (R69, R240, R277, R278, R449) -/

/-- Reading a low word returns it and latches the rest. R69: SFN and time of day. R277: a port counter's VALUE[47:32],
OVF and WRAP; an increment changes no register, so none of the latched ones; the banks that the KX9600-48 lacks read
0. R449: with the counters frozen, the core cycles and an observation counter. -/
def Obligations.LowWordsLatch : Prop :=
  ∀ s : State, s.dev.boot ≠ .held →
    Answers .sfnLoRead s (fun x =>
      HostAccess s x [SYS_SFN_HI.key] [BitVec.ofNat 32 s.time.sfn] ∧
      (x.rd SYS_SFN_HI.key).toNat = s.time.sfn / 2 ^ 32 % 2 ^ 16) ∧
    Answers .todLoRead s (fun x =>
      HostAccess s x [SYS_TOD_HI.key] [BitVec.ofNat 32 s.time.tod] ∧
      x.rd SYS_TOD_HI.key = BitVec.ofNat 32 (s.time.tod / 2 ^ 32)) ∧
    (∀ (p : Port) (k : Fin 4), s.dev.variant48 = false ∨ p.val < 48 →
      s.domainUp (domFramer (s.physOf (framerPos p))) = true →
      let c := (s.port p).cnts.getD k {}
      Answers (.prtCntLoRead p k) s (fun x =>
        HostAccess s x [PRT_CNT_HI.key p k] [BitVec.ofNat 32 c.value] ∧
        x.get (PRT_CNT_HI.key p k) PRT_CNT_HI.VALUE_HI = c.value / 2 ^ 32 % 2 ^ 16 ∧
        x.on (PRT_CNT_HI.key p k) PRT_CNT_HI.OVF = c.ovf ∧
        x.get (PRT_CNT_HI.key p k) PRT_CNT_HI.WRAP = c.wrap % 16)) ∧
    (∀ (p : Port) (k : Fin 4), s.dev.variant48 = true → 48 ≤ p.val →
      Answers (.prtCntLoRead p k) s (fun x => x = { s with pins := { s.pins with lastRead := [0] } })) ∧
    (∀ p j n : Nat, ∀ key, (s.countPort p j n).rd key = s.rd key) ∧
    (s.obsFrozen = true →
      Answers .obsCycleLoRead s (fun x =>
        HostAccess s x [OBS_CYCLE_HI.key] [BitVec.ofNat 32 s.obs.cycles] ∧
        x.rd OBS_CYCLE_HI.key = BitVec.ofNat 32 (s.obs.cycles / 2 ^ 32)) ∧
      ∀ n : Fin 8, Answers (.obsCntLoRead n) s (fun x =>
        HostAccess s x [OBS_CNT_HI.key n] [BitVec.ofNat 32 (s.obs.cnts.getD n {}).value] ∧
        x.get (OBS_CNT_HI.key n) OBS_CNT_HI.VALUE_HI =
          (s.obs.cnts.getD n {}).value / 2 ^ 32 % 2 ^ OBS_CNT_HI.VALUE_HI.width))

/-- R240: SYS_QDATA_HI_q removes the oldest word of the queue and latches its low half; an empty queue gives tag 0b00.
A word stored poisoned sets POISON_HIST and raises POISON. Nothing changes but the queue, what reports a crossing of
its level, the latch and the observation counters. -/
def Obligations.QueueReadRemovesWord : Prop :=
  ∀ (s : State) (q : Fin 8), s.dev.boot ≠ .held →
    ((s.queue q).words = [] → Answers (.qdataHiRead q) s (fun x =>
      HostAccess s x [SYS_QDATA_LO.key q] [0] ∧ x.rd (SYS_QDATA_LO.key q) = 0)) ∧
    ∀ w ws, (s.queue q).words = w :: ws → Answers (.qdataHiRead q) s (fun x =>
      (∃ y, Reported s y ∧ x = { y with
        regs := x.regs, pins := { s.pins with lastRead := [BitVec.ofNat 32 (w.toNat / 2 ^ 32)] } } ∧
        ∀ k, k ≠ SYS_QDATA_LO.key q → x.rd k = y.rd k) ∧
      x.rd (SYS_QDATA_LO.key q) = BitVec.ofNat 32 w.toNat ∧ (x.queue q).words = ws ∧
      (∀ j, j ≠ q.val → x.queue j = s.queue j) ∧
      (w.toNat / 2 ^ 62 = 2 → x.on (SYS_QSTAT.key q) SYS_QSTAT.POISON_HIST = true ∧ x.raised (363 + q) 0x82 true))

/-- R278: a write of PRT_CNT_LO_k, or of OBS_CNT_LO_n with the counters running, sets the counter to the value, WRAP
0, and then adds the increments of the cycle; a port counter that would pass its top wraps or holds there with OVF, as
WRAP_MODE says (R275). No other counter and no register changes. -/
def Obligations.CounterWrites : Prop :=
  ∀ s : State, s.dev.boot ≠ .held →
    (∀ (p : Port) (k : Fin 4) (v : Word) (inc : Nat), s.dev.variant48 = false ∨ p.val < 48 →
      s.domainUp (domFramer (s.physOf (framerPos p))) = true →
      Answers (.prtCntLoWrite p k v inc) s (fun x =>
        (∃ y, HostAccess s y [] s.pins.lastRead ∧ x = { y with ports := x.ports }) ∧
        (∀ q, q ≠ p.val → x.port q = s.port q) ∧
        (∀ j, j ≠ k.val → (x.port p).cnts.getD j {} = (s.port p).cnts.getD j {}) ∧
        (v.toNat + inc < 2 ^ 48 → (x.port p).cnts.getD k {} =
          { value := v.toNat + inc, ovf := ((s.port p).cnts.getD k {}).ovf }) ∧
        (2 ^ 48 ≤ v.toNat + inc → (s.get (PRT_CNT_CFG.key p) PRT_CNT_CFG.WRAP_MODE).testBit k = false →
          (x.port p).cnts.getD k {} = { value := 2 ^ 48 - 1, ovf := true }))) ∧
    (∀ (n : Fin 8) (v : Word) (inc : Nat), s.obsFrozen = false → v.toNat + inc < 2 ^ 48 →
      Answers (.obsCntLoWrite n v inc) s (fun x =>
        x = { s with obs := { s.obs with cnts := x.obs.cnts } } ∧
        x.obs.cnts.getD n {} = { value := v.toNat + inc, ovf := (s.obs.cnts.getD n {}).ovf } ∧
        ∀ j, j ≠ n.val → x.obs.cnts.getD j {} = s.obs.cnts.getD j {}))

/-! ### The host-visible queues (R241 to R243) -/

/-- R241: a queue of C words takes C - 1 and keeps its last slot for a marker. A record that fits is inserted whole,
after the markers it owes; one that does not is lost whole, counted, and begins or continues a run of losses. -/
def Obligations.QueueInsertion : Prop :=
  ∀ (s : State) (q : Fin 8) (ws : List (BitVec 64)),
    ((s.queue q).words.length + ws.length + 1 ≤ queueCap q →
      (s.insertWords q ws).1 = true ∧ Reported s (s.insertWords q ws).2 ∧
      ((s.insertWords q ws).2.queue q).words = (s.queue q).words ++ owedMarkers (s.queue q) ++ ws ∧
      ((s.insertWords q ws).2.queue q).lostRun = 0 ∧ ((s.insertWords q ws).2.queue q).inRun = false) ∧
    (queueCap q < (s.queue q).words.length + ws.length + 1 →
      (s.insertWords q ws).1 = false ∧ Reported s (s.insertWords q ws).2 ∧
      ((s.insertWords q ws).2.queue q).words = (s.queue q).words ∧
      ((s.insertWords q ws).2.queue q).lostRun = (s.queue q).lostRun + ws.length ∧
      (s.insertWords q ws).2.on (SYS_QSTAT.key q) SYS_QSTAT.OVERFLOW_HIST = true ∧
      ((s.queue q).inRun = false → (s.insertWords q ws).2.raised (363 + q) 0x81 true)) ∧
    ∀ j, j ≠ q.val → (s.insertWords q ws).2.queue j = s.queue j

/-- R242, R243. A write of LEVEL can count as a crossing. A change of LEGACY and a reset discard every word, and owe a
reset marker that counts them with the losses not yet reported; a LEGACY unchanged does nothing. A pointer mismatch of
a legacy queue resets it with MISMATCH_HIST and its event; of another queue it is none. Where the manual leaves room,
this is the model's reading: log entry 9. -/
def Obligations.QueueRegisterWrites : Prop :=
  ∀ (s : State) (q : Fin 8), s.dev.boot ≠ .held →
    let qu := s.queue q
    let empty : Queue := { qu with
      words := [], lostRun := 0, inRun := false,
      resetOwed := some (qu.words.length + qu.lostRun + qu.resetOwed.getD 0), levelArmed := true }
    (∀ level : BitVec 14, Answers (.queueLevelWrite q level) s (fun x =>
      x.get (SYS_QCFG.key q) SYS_QCFG.LEVEL = level.toNat ∧
      (level.toNat = 0 ∨ qu.words.length < level.toNat →
        ∃ y, OnlyRegs s y [SYS_QCFG.key q] ∧ x = y.setQueue q { qu with levelArmed := true }) ∧
      (level.toNat ≠ 0 → level.toNat ≤ qu.words.length →
        x.queue q = { qu with levelArmed := false } ∧ (∀ j, j ≠ q.val → x.queue j = s.queue j) ∧
        x.on (SYS_QSTAT.key q) SYS_QSTAT.LEVEL_HIST = true ∧ x.raised (363 + q) 0x80 true ∧
        x.ports = s.ports ∧ x.cal = s.cal ∧ x.cmd = s.cmd ∧ x.grate = s.grate))) ∧
    (∀ on : Bool, s.on (SYS_QCFG.key q) SYS_QCFG.LEGACY = on → Answers (.queueLegacyChange q on) s (fun x => x = s)) ∧
    (∀ on : Bool, s.on (SYS_QCFG.key q) SYS_QCFG.LEGACY ≠ on → Answers (.queueLegacyChange q on) s (fun x =>
      (∃ y, OnlyRegs s y [SYS_QCFG.key q] ∧ x = y.setQueue q empty) ∧ x.on (SYS_QCFG.key q) SYS_QCFG.LEGACY = on)) ∧
    Answers (.queueReset q) s (fun x => x = s.setQueue q empty) ∧
    (s.on (SYS_QCFG.key q) SYS_QCFG.LEGACY = false → Answers (.queuePtrMismatch q) s (fun x => x = s)) ∧
    (s.on (SYS_QCFG.key q) SYS_QCFG.LEGACY = true → Answers (.queuePtrMismatch q) s (fun x =>
      Reported s x ∧ x.queue q = empty ∧ (∀ j, j ≠ q.val → x.queue j = s.queue j) ∧
      x.on (SYS_QSTAT.key q) SYS_QSTAT.MISMATCH_HIST = true ∧ x.raised (363 + q) 0x83 true))

/-! ### Interrupts (R394, R400) -/

/-- A mask word is what was written. REARM on the root, with PENDING and MSI_EN set, sends a message, or leaves one
waiting within MSI_GAP; elsewhere it does nothing. At the end of the gap the waiting message leaves while PENDING and
MSI_EN are set, and is forgotten otherwise. Where the manual leaves room, this is the model's reading: log entry 38.
-/
def Obligations.InterruptRows : Prop :=
  ∀ (s : State) (m : Fin 2),
    let sent : Master → Master := fun y =>
      { y with msiLast := some s.dev.ticks, msiSent := y.msiSent + 1, msiWaiting := false }
    let wants := s.pendingBit m && s.on (EVT_CTRL.key m) EVT_CTRL.MSI_EN
    (s.dev.boot ≠ .held → ∀ (k : Fin 12) (v : Word), Answers (.evtMaskWrite m k v) s (fun x =>
      OnlyRegs s x [EVT_MASK.key m k] ∧ x.rd (EVT_MASK.key m k) = v)) ∧
    (s.dev.boot ≠ .held → Answers (.evtRearm m) s (fun x =>
      x = if (s.isGateway && wants) = false then s
          else s.updMaster m fun y => if s.msiHeld m then { y with msiWaiting := true } else sent y)) ∧
    (∀ t, (s.master m).msiWaiting = true → (s.master m).msiLast = some t →
      t + s.get (EVT_CTRL.key m) EVT_CTRL.MSI_GAP ≤ s.dev.ticks → Answers (.msiGapExpiry m) s (fun x =>
        x = s.updMaster m fun y => if wants then sent y else { y with msiWaiting := false })) ∧
    (∀ t, (s.master m).msiLast = some t → s.dev.ticks < t + s.get (EVT_CTRL.key m) EVT_CTRL.MSI_GAP →
      Answers (.msiGapExpiry m) s (fun x => x = s))

/-! ### Timing (R44, R323 to R345) -/

/-- R44, R335, R472: on the root a pulse of a valid width is measured against the tick once the divider is aligned,
and a wide one marks the second; the first valid pulse aligns it. A pulse that is missing, or of neither width, sets
FP_IN_LOST and its condition. A member, and a divider not yet aligned, miss nothing. R323, R328. A change of a
reference's check is an arrival of the next tick. The end of a wait-to-restore qualifies a reference that does not
fail, if its PRIORITY is not 0; a timer that is not due does nothing. R42, R339, R342. A loop that loses lock or its
reference falls back to its bypass clock, with its history bit and its event; loop 0 stops the datapath. Lock declared
again ends the bypass. A clock output held by a flip restarts, with its event. Where the manual leaves room, this is
the model's reading: log entries 27 and 60. -/
def Obligations.TimingRows : Prop :=
  (∀ (s : State) (w : Nat) (off : Int),
    let misaligned : Int → Bool := fun v => decide (10 * s.get DPL_CFG.key DPL_CFG.ALIGN_TOL < v.natAbs)
    (s.isGateway = true → framePulse w = true ∨ markerPulse w = true → Answers (.fpInPulse w off) s (fun x =>
      let v := if s.time.fpAligned then off else 0
      (∃ y, Noted s y [DPL_FRAME_OFFSET.key, DPL_STATUS.key, SYS_TIME_STATUS.key] ∧ x = { y with
        time := { s.time with marker := markerPulse w, fpAligned := true, fpOffsetNs := v } }) ∧
      x.has ⟨177, 0, 0x80⟩ = false ∧ x.has ⟨177, 0, 0x81⟩ = misaligned v ∧
      x.on DPL_STATUS.key DPL_STATUS.FRAME_MISALIGNED = misaligned v ∧
      x.get DPL_FRAME_OFFSET.key DPL_FRAME_OFFSET.OFFSET = twos 32 v ∧
      (s.time.fpAligned = false → x.on SYS_TIME_STATUS.key SYS_TIME_STATUS.FP_IN_VALID = true) ∧
      (s.time.fpAligned = true → x.rd SYS_TIME_STATUS.key = s.rd SYS_TIME_STATUS.key))) ∧
    (s.isGateway = true → s.time.fpAligned = true → s.get DPL_STATUS.key DPL_STATUS.ALIGNING = 0 →
      let lost : State → Prop := fun x =>
        Noted s x [SYS_TIME_STATUS.key] ∧ x.on SYS_TIME_STATUS.key SYS_TIME_STATUS.FP_IN_VALID = false ∧
        x.on SYS_TIME_STATUS.key SYS_TIME_STATUS.FP_IN_LOST = true ∧ x.has ⟨177, 0, 0x80⟩ = true
      Answers .fpInMissing s lost ∧
      (framePulse w = false → markerPulse w = false → Answers (.fpInPulse w off) s lost)) ∧
    (s.isGateway = false ∨ s.time.fpAligned = false → Answers .fpInMissing s (fun x => x = s))) ∧
  (∀ (s : State) (n : Fin 12),
    (∀ (c : Fin 6) (feed : Fin 2) (phase : Nat) (failing : Bool), Answers (.refCheckChange n c feed phase failing) s
      (fun x => x = { s with arrivals := s.arrivals ++ [.refFail n c feed phase failing] })) ∧
    (s.timerDue (.refWtr n) = false → Answers (.refWtrExpiry n) s (fun x => x = s)) ∧
    (s.timerDue (.refWtr n) = true → Answers (.refWtrExpiry n) s (fun x =>
      (∃ y, Noted s y [DPL_REF_STATUS.key n] ∧
        x = { y with timers := s.timers.filter fun t => decide (t.kind ≠ .refWtr n) }) ∧
      x.on (DPL_REF_STATUS.key n) DPL_REF_STATUS.QUALIFIED =
        (!s.refFailed n && decide (s.get (DPL_REF_CFG.key n) DPL_REF_CFG.PRIORITY ≠ 0)) ∧
      (s.refFailed n = false → s.get (DPL_REF_CFG.key n) DPL_REF_CFG.PRIORITY ≠ 0 →
        s.on (DPL_REF_STATUS.key n) DPL_REF_STATUS.QUALIFIED = false →
        x.raised (if n.val < 4 then 171 + n else if n.val < 8 then 175 else 176) (if n.val < 4 then 0x83 else 0x81) true)))) ∧
  (∀ s : State,
    (∀ (i : Fin 6) (refLost : Bool), Answers (.synLockLoss i refLost) s (fun x =>
      (∃ y, Noted s y [SYN_STATUS.key] ∧
        x = { y with dev := { y.dev with coreBypass := s.dev.coreBypass || decide (i.val = 0) } }) ∧
      (x.get SYN_STATUS.key SYN_STATUS.LOCK).testBit i = false ∧
      (x.get SYN_STATUS.key SYN_STATUS.BYPASS).testBit i = true ∧
      (x.get SYN_STATUS.key (if refLost then SYN_STATUS.REF_LOSS_HIST else SYN_STATUS.LOL_HIST)).testBit i = true ∧
      x.raised (180 + i) (if refLost then 0x81 else 0x80) true ∧ x.has ⟨180 + i, i, 0x82⟩ = true)) ∧
    (∀ i : Fin 6, (s.get SYN_STATUS.key SYN_STATUS.LOCK).testBit i = true → Answers (.synRelock i) s (fun x => x = s)) ∧
    (∀ i : Fin 6, (s.get SYN_STATUS.key SYN_STATUS.LOCK).testBit i = false → Answers (.synRelock i) s (fun x =>
      Noted s x [SYN_STATUS.key] ∧ (x.get SYN_STATUS.key SYN_STATUS.LOCK).testBit i = true ∧
      (x.get SYN_STATUS.key SYN_STATUS.BYPASS).testBit i = false ∧ x.has ⟨180 + i, i, 0x82⟩ = false ∧
      x.raised (180 + i) 0x83 true)) ∧
    (∀ n : Fin 8, n.val ∉ s.sync.clkHold → Answers (.clkoutRestart n) s (fun x => x = s)) ∧
    (∀ n : Fin 8, n.val ∈ s.sync.clkHold → Answers (.clkoutRestart n) s (fun x =>
      (∃ y, Noted s y [] ∧ x = { y with
        sync := { s.sync with clkHold := s.sync.clkHold.filter fun k => decide (k ≠ n.val) } }) ∧
      x.raised (186 + n / 4) 0x81 true)))

/-- R331, R332 and Tables 13-6 and 13-7. In ACQUIRING, lock found is noted; bandwidth steps follow at 2, 4 and 6 s and
LOCKED at 8 s. In LOCKED, a lost lock returns to ACQUIRING on the same reference. The frequency history is valid once
the DPLL has been locked for HIST_WIN + 1 s. Outside these states nothing happens. R337. A takeover puts the mirror in
service, with its history bit and event, and re-synchronises; without a mirror the DPLL has failed: banked, on no
reference. Divergence counts only while banked or free-run. A mirror that fails its checks within 1 s of its last re-
synchronising is isolated, and is re-synchronised otherwise. Where the manual leaves room, this is the model's
reading: log entry 60. -/
def Obligations.DpllRows : Prop :=
  (∀ s : State,
    let st := s.get DPL_STATUS.key DPL_STATUS.STATE
    (Answers .dpllLockFound s (fun x =>
      x = if st = 1 ∧ s.sync.lockFound = none then { s with sync := { s.sync with lockFound := some s.dev.ticks } } else s)) ∧
    (st ≠ 1 → Answers .dpllBwStep s (fun x => x = s) ∧ Answers .dpllLocked s (fun x => x = s)) ∧
    (st ≠ 2 → Answers .dpllLockLost s (fun x => x = s)) ∧
    (∀ t, st = 1 → s.sync.lockFound = some t →
      Answers .dpllBwStep s (fun x => OnlyRegs s x [DPL_STATUS.key] ∧
        x.get DPL_STATUS.key DPL_STATUS.BW_STEP = min 3 ((s.dev.ticks - t) / 16000) ∧
        x.get DPL_STATUS.key DPL_STATUS.STATE = 1) ∧
      (s.dev.ticks < t + 64000 → Answers .dpllLocked s (fun x => x = s)) ∧
      (t + 64000 ≤ s.dev.ticks → Answers .dpllLocked s (fun x =>
        (∃ y, OnlyRegs s y [DPL_STATUS.key] ∧ x = { y with
          sync := { s.sync with lockedSince := some s.dev.ticks }
          arrivals := s.arrivals ++ [.event 168 0x80 true 0 []] }) ∧
        x.get DPL_STATUS.key DPL_STATUS.STATE = 2 ∧ x.get DPL_STATUS.key DPL_STATUS.BW_STEP = 4 ∧
        (x.get DPL_STATUS.key DPL_STATUS.STATE_HIST).testBit 2 = true))) ∧
    (st = 2 → Answers .dpllLockLost s (fun x =>
      (∃ y, OnlyRegs s y [DPL_STATUS.key] ∧ x = { y with
        sync := { s.sync with lockFound := none, lockedSince := none }
        arrivals := s.arrivals ++ [.event 168 0x80 true 0 [], .event 168 0x81 true 0 []] }) ∧
      x.get DPL_STATUS.key DPL_STATUS.STATE = 1 ∧ x.get DPL_STATUS.key DPL_STATUS.BW_STEP = 0 ∧
      x.get DPL_STATUS.key DPL_STATUS.IN_USE = s.get DPL_STATUS.key DPL_STATUS.IN_USE)) ∧
    (∀ t, s.sync.lockedSince = some t →
      t + (max 1 (s.get DPL_CFG.key DPL_CFG.HIST_WIN) + 1) * 8000 ≤ s.dev.ticks → Answers .dpllHistValid s (fun x =>
        OnlyRegs s x [DPL_STATUS.key] ∧ x.get DPL_STATUS.key DPL_STATUS.HIST_VALID = 1))) ∧
  (∀ s : State,
    let st := s.get DPL_STATUS.key DPL_STATUS.STATE
    let recent := s.sync.resynced.any fun t => decide (s.dev.ticks ≤ t + 8000)
    (s.sync.failed = false → s.sync.mirror = true → Answers .dpllTakeover s (fun x =>
      (∃ y, Noted s y [DPL_STATUS.key] ∧ x = { y with sync := { s.sync with resynced := some s.dev.ticks } }) ∧
      x.get DPL_STATUS.key DPL_STATUS.B_IN_SERVICE = 1 - s.get DPL_STATUS.key DPL_STATUS.B_IN_SERVICE ∧
      x.on DPL_STATUS.key DPL_STATUS.TAKEOVER_HIST = true ∧ x.raised 170 0x80 true)) ∧
    (s.sync.failed = false → s.sync.mirror = false → Answers .dpllTakeover s (fun x =>
      x.get DPL_STATUS.key DPL_STATUS.STATE = 3 ∧ x.get DPL_STATUS.key DPL_STATUS.IN_USE = 12 ∧
      x.sync.failed = true ∧ x.has ⟨170, 0, 0x83⟩ = true ∧ x.ports = s.ports ∧ x.cmd = s.cmd ∧ x.cal = s.cal)) ∧
    (s.sync.failed = true → Answers .dpllTakeover s (fun x => x = s)) ∧
    (s.sync.mirror = true → st = 0 ∨ st = 3 → Answers .dpllDiverged s (fun x =>
      (∃ y, Noted s y [DPL_STATUS.key] ∧ x = { y with sync := { s.sync with resynced := some s.dev.ticks } }) ∧
      x.on DPL_STATUS.key DPL_STATUS.DIVERGED_HIST = true ∧ x.raised 170 0x81 true)) ∧
    (s.sync.mirror = false ∨ (st ≠ 0 ∧ st ≠ 3) → Answers .dpllDiverged s (fun x => x = s)) ∧
    (s.sync.mirror = true → recent = true → Answers .dpllMirrorCheckFail s (fun x =>
      (∃ y, Noted s y [] ∧ x = { y with sync := { s.sync with mirror := false } }) ∧ x.has ⟨170, 0, 0x82⟩ = true)) ∧
    (s.sync.mirror = true → recent = false → Answers .dpllMirrorCheckFail s (fun x =>
      x = { s with sync := { s.sync with resynced := some s.dev.ticks } })))

/-! ### The flue ring (R45, R377 to R385) -/

/-- R381, Table 15-6. A header that fails its check is counted and ends the run of good ones; before the third in a
row nothing else happens. An accepted header without FAR_FAIL on a port whose link is up counts as good; on the west
path of a member that has adopted the ring SFN and agrees with it, the delay of the link, CUM_DELAY, HOP and the
root's fuse ID are taken, and time goes on as it was. On a root of the lower fuse ID, the delay is all that is taken.
R380. A frame carries whole packets: on the root those that wait, in order, up to 16,384 bytes, and the others wait;
on a member only what may go into any frame, unless the frame is one of those its HOP gives it. In the frame before an
unwrap no packet leaves. Where the manual leaves room, this is the model's reading: log entry 61. -/
def Obligations.RingHeadersAndFrames : Prop :=
  (∀ (s : State) (east : Bool) (h : RingHdr),
    let port := if east then s.ring.east else s.ring.west
    let withPort : RingPort → RingSt := fun p =>
      if east then { s.ring with east := p } else { s.ring with west := p }
    let goodPort : RingPort := { good := port.good + 1, miss := 0, far := 0 }
    (h.checkOk = false → port.miss < 2 → Answers (.ringFrameReceive east h) s (fun x =>
      (∃ y, OnlyRegs s y [FLU_ERR_CNT.key] ∧
        x = { y with ring := withPort { port with good := 0, miss := port.miss + 1 } }) ∧
      x.get FLU_ERR_CNT.key FLU_ERR_CNT.HDR_ERR =
        min (2 ^ FLU_ERR_CNT.HDR_ERR.width - 1) (s.get FLU_ERR_CNT.key FLU_ERR_CNT.HDR_ERR + 1))) ∧
    (h.checkOk = true → h.flags.toNat.testBit 6 = false → s.ringUp east = true → east = false ∨ s.ringUp false = false →
      s.isGateway = true → s.dev.fuseId.toNat ≤ h.rootFuse.toNat → Answers (.ringFrameReceive east h) s (fun x =>
        (∃ y, OnlyRegs s y [FLU_DELAY.key] ∧ x = { y with ring := withPort goodPort }) ∧
        x.get FLU_DELAY.key (if east then FLU_DELAY.LINK_E else FLU_DELAY.LINK_W) = h.linkDelayNs % 2 ^ 16)) ∧
    (h.checkOk = true → h.flags.toNat.testBit 6 = false → h.flags.toNat.testBit 5 = false → east = false →
      s.ringUp false = true → s.isGateway = false → s.ring.adopted = true →
      s.on SYS_TIME_STATUS.key SYS_TIME_STATUS.SFN_CONFLICT = false → h.epoch.toNat = s.time.epoch →
      h.sfn.toNat = s.time.nextSfn.getD (s.time.sfn + 1) → Answers (.ringFrameReceive false h) s (fun x =>
        (∃ y, OnlyRegs s y [FLU_DELAY.key, FLU_CUM_DELAY.key, FLU_STATUS.key] ∧ x = { y with ring := { s.ring with
          west := goodPort, rootFuse := h.rootFuse, ringNo := h.ring.toNat } }) ∧
        x.get FLU_DELAY.key FLU_DELAY.LINK_W = h.linkDelayNs % 2 ^ 16 ∧
        x.get FLU_CUM_DELAY.key FLU_CUM_DELAY.CUM_DELAY =
          (h.cumDelay.toNat + 10 * h.linkDelayNs) % 2 ^ FLU_CUM_DELAY.CUM_DELAY.width ∧
        x.get FLU_STATUS.key FLU_STATUS.HOP = (h.hop.toNat + 1) % 2 ^ FLU_STATUS.HOP.width ∧
        (s.get FLU_STATUS.key FLU_STATUS.ADDR_VALID ≠ 0 →
          x.get FLU_STATUS.key FLU_STATUS.ADDR = h.ring.toNat * 64 + s.address % 64)))) ∧
  (∀ s : State,
    let free := s.ring.tx.filter RingPkt.free
    let bound := s.ring.tx.filter fun p => !p.free
    (s.unwrapNext = true → Answers .ringFrameTransmit s (fun x =>
      x.ring.sent = [] ∧ x.ring.tx = s.ring.tx ∧ x.cmd = s.cmd ∧ x.evt = s.evt ∧ x.ports = s.ports)) ∧
    (s.unwrapNext = false → s.isGateway = true → Answers .ringFrameTransmit s (fun x =>
      (∃ y, OnlyRegs s y [FLU_STATUS.key] ∧ x = { y with ring := { s.ring with
        sent := x.ring.sent, tx := x.ring.tx, sentFlags := x.ring.sentFlags } }) ∧
      x.get FLU_STATUS.key FLU_STATUS.HOP = 0 ∧
      ∃ out, x.ring.sent = free ++ out ∧ bound = out ++ x.ring.tx ∧ (out.map RingPkt.len).sum ≤ 16384 ∧
        ∀ p, x.ring.tx.head? = some p → 16384 < (out.map RingPkt.len).sum + p.len)) ∧
    (s.unwrapNext = false → s.isGateway = false → s.time.sfn % 2 ≠ s.get FLU_STATUS.key FLU_STATUS.HOP % 2 →
      Answers .ringFrameTransmit s (fun x => x = { s with ring := { s.ring with
        sent := free ++ s.beaconPkts, tx := bound, sentFlags := x.ring.sentFlags } })))

/-- R381 to R383. A port that goes down wraps, with its bits, its condition and its report; one that comes up ends the
condition, and starts UNWRAP_HOLD if it is wrapped. The hold run out, the port reports good. From the frame U on,
wrapped ports whose link is up unwrap, with the event. What is already so, not due, or not yet U changes nothing.
R376, R384, R385 and R399. A link report, an announce, a beacon and a member's record are arrivals of the next tick. A
member that has missed three beacons leaves the ring table and FLU_MEMBERS, with the event, and is an arrival that
ends what is awaited of it. A member takes or drops the address assigned to its own fuse ID. A SET_ADDRESS without its
beacon ends NOT_PRESENT. Where the manual leaves room, this is the model's reading: log entry 61. -/
def Obligations.RingLinksAndMembers : Prop :=
  (∀ (s : State) (east : Bool),
    let up := if east then FLU_STATUS.EAST_UP else FLU_STATUS.WEST_UP
    let wrap := if east then FLU_STATUS.WRAP_E else FLU_STATUS.WRAP_W
    let k := FLU_STATUS.key
    (s.on k up = false → Answers (.ringLinkDown east) s (fun x => x = s)) ∧
    (s.on k up = true → Answers (.ringLinkDown east) s (fun x =>
      (∃ y, Noted s y [k] ∧ x = { y with ring := x.ring, arrivals := x.arrivals, timers := x.timers }) ∧
      x.on k up = false ∧ x.on k wrap = true ∧ (x.get k FLU_STATUS.HIST).testBit (if east then 1 else 0) = true ∧
      (x.get k FLU_STATUS.HIST).testBit 2 = true ∧ x.has ⟨288, 0, if east then 0x81 else 0x80⟩ = true ∧
      x.hasTimer (.unwrap east) = false ∧
      x.arrivals = s.arrivals ++ (if s.isGateway then [.linkReport s.address east false] else []) ∧
      x.ring.tx = s.ring.tx ++ (if s.isGateway then [] else [⟨7, s.ring.ringNo * 64, 8⟩]))) ∧
    (s.on k up = true → Answers (.ringLinkUp east) s (fun x => x = s)) ∧
    (s.on k up = false → Answers (.ringLinkUp east) s (fun x =>
      (∃ y, Noted s y [k] ∧ x = { y with timers := x.timers }) ∧ x.on k up = true ∧
      x.has ⟨288, 0, if east then 0x81 else 0x80⟩ = false ∧
      (s.on k wrap = false → x.timers = s.timers) ∧
      (s.on k wrap = true → ⟨.unwrap east, s.dev.ticks + max 1 (s.get FLU_CFG.key FLU_CFG.UNWRAP_HOLD) * 8000⟩ ∈
        x.timers))) ∧
    (s.timerDue (.unwrap east) = false → Answers (.unwrapHoldExpiry east) s (fun x => x = s)) ∧
    (s.timerDue (.unwrap east) = true → s.on k up = true → s.on k wrap = true →
      Answers (.unwrapHoldExpiry east) s (fun x => x = { s with
        timers := s.timers.filter fun t => decide (t.kind ≠ .unwrap east)
        arrivals := s.arrivals ++ (if s.isGateway then [.linkReport s.address east true] else [])
        ring := { s.ring with tx := s.ring.tx ++ (if s.isGateway then [] else [⟨7, s.ring.ringNo * 64, 8⟩]) } })) ∧
    (∀ u, s.ring.unwrapAt = some u → s.time.sfn < u → Answers .ringUnwrap s (fun x => x = s)) ∧
    (∀ u, s.ring.unwrapAt = some u → u ≤ s.time.sfn → Answers .ringUnwrap s (fun x =>
      (∃ y, Noted s y [k] ∧ x = { y with
        ring := { s.ring with unwrapAt := none, wrapped := [], goodReports := [] } }) ∧
      (s.on k up = true → x.on k wrap = false) ∧ (s.on k up = false → x.on k wrap = s.on k wrap) ∧
      x.raised 288 0x83 true))) ∧
  (∀ s : State,
    (∀ (addr : BitVec 10) (east good : Bool), Answers (.ringLinkReport addr east good) s (fun x =>
      x = { s with arrivals := s.arrivals ++ [.linkReport addr.toNat east good] })) ∧
    (∀ (i : Ident) (hop : Byte), Answers (.ringAnnounce i hop) s (fun x =>
      x = { s with arrivals := s.arrivals ++ [.announce i hop.toNat] })) ∧
    (∀ (i : Ident) (hop : Byte), Answers (.ringBeacon i hop) s (fun x =>
      x = { s with arrivals := s.arrivals ++ [.beacon i hop.toNat] })) ∧
    (∀ r, Answers (.ringEventPacket r) s (fun x => x = { s with arrivals := s.arrivals ++ [.ringEvents r] })) ∧
    (∀ (pos : Fin 64) (e : RingEntry), s.ring.table = [e] → e.present = true → e.ident.addr.toNat % 64 = pos.val →
      (e.missing < 3 → Answers (.beaconMissing pos) s (fun x => x = s)) ∧
      (3 ≤ e.missing → Answers (.beaconMissing pos) s (fun x =>
        (∃ y, Noted s y [FLU_MEMBERS.key (pos.val / 32)] ∧ x = { y with
          ring := { s.ring with table := [] }, arrivals := s.arrivals ++ [.notPresent e.ident.addr.toNat] }) ∧
        (x.get (FLU_MEMBERS.key (pos.val / 32)) FLU_MEMBERS.PRESENT).testBit (pos.val % 32) = false ∧
        x.raised 289 0x81 true))) ∧
    (∀ (f : BitVec 64) (addr : BitVec 10) (valid : Bool), s.isGateway = true ∨ f ≠ s.dev.fuseId →
      Answers (.memberAssign f addr valid) s (fun x => x = s)) ∧
    (∀ (addr : BitVec 10) (valid : Bool), s.isGateway = false → Answers (.memberAssign s.dev.fuseId addr valid) s
      (fun x => OnlyRegs s x [FLU_STATUS.key] ∧ x.on FLU_STATUS.key FLU_STATUS.ADDR_VALID = valid ∧
        x.get FLU_STATUS.key FLU_STATUS.ADDR = if valid then addr.toNat else 0)) ∧
    ((∀ a ∈ s.ring.assigns, s.dev.ticks < a.due) → Answers .setAddressTimeout s (fun x => x = s)) ∧
    (∀ a, s.ring.assigns = [a] → a.due ≤ s.dev.ticks → Answers .setAddressTimeout s (fun x =>
      Reported { s with ring := { s.ring with assigns := [] } } x)))

/-- R45, R384. A member that loses the ring SFN flywheels on its own DPLL, with the condition; the root has none to
lose. The first ring SFN is adopted whatever the own one is. On its return: an equal one ends the flywheel, one ahead
is taken at the next tick, one up to 64 behind suppresses ticks, and one further behind is SFN_CONFLICT. Where the
manual leaves room, this is the model's reading: log entry 61. -/
def Obligations.RingTime : Prop :=
  ∀ (s : State) (v : BitVec 48) (epoch : Byte),
    let fly := s.on SYS_TIME_STATUS.key SYS_TIME_STATUS.FLYWHEEL
    let next := s.time.nextSfn.getD (s.time.sfn + 1)
    let k := SYS_TIME_STATUS.key
    let back : TimeSt → State → Prop := fun time x =>
      (∃ y, Noted s y [k] ∧ x = { y with time := time, ring := { s.ring with adopted := true } }) ∧
      x.on k SYS_TIME_STATUS.FLYWHEEL = false ∧ x.has ⟨290, 0, 0x80⟩ = false
    (s.isGateway = true → Answers .ringSfnLoss s (fun x => x = s) ∧ Answers (.ringSfnReturn v epoch) s (fun x => x = s)) ∧
    (s.isGateway = false → fly = true → Answers .ringSfnLoss s (fun x => x = s)) ∧
    (s.isGateway = false → fly = false → Answers .ringSfnLoss s (fun x =>
      (∃ y, Noted s y [k] ∧ x = { y with ring := { s.ring with adopted := false } }) ∧
      x.on k SYS_TIME_STATUS.FLYWHEEL = true ∧ x.has ⟨290, 0, 0x80⟩ = true)) ∧
    (s.isGateway = false → fly = false → s.ring.adopted = false → Answers (.ringSfnReturn v epoch) s (fun x =>
      x = { s with ring := { s.ring with adopted := true }, time := { s.time with
        epoch := epoch.toNat, nextSfn := some v.toNat, jump := decide (next < v.toNat) } })) ∧
    (s.isGateway = false → fly = true → epoch.toNat = s.time.epoch →
      s.on k SYS_TIME_STATUS.SFN_CONFLICT = false →
      (next = v.toNat → Answers (.ringSfnReturn v epoch) s (back s.time)) ∧
      (next < v.toNat → Answers (.ringSfnReturn v epoch) s (back { s.time with nextSfn := some v.toNat, jump := true })) ∧
      (v.toNat < next → next ≤ v.toNat + 64 → s.time.suppress = 0 →
        Answers (.ringSfnReturn v epoch) s (back { s.time with suppress := next - v.toNat })) ∧
      (v.toNat + 64 < next → Answers (.ringSfnReturn v epoch) s (fun x => back s.time x ∧
        x.on k SYS_TIME_STATUS.SFN_CONFLICT = true ∧ x.has ⟨290, 0, 0x81⟩ = true)))

/-- R368, R370. A reply that no record awaits enters the reply queue as it came; the last reply of a command ends its
record. A command without its first reply by its TIMEOUT is answered for, keeps its record as timed out, and sets
TIMEOUT_HIST with the event; one not yet due stays. Where the manual leaves room, this is the model's reading: log
entry 35. -/
def Obligations.GatewayReplies : Prop :=
  ∀ (s : State) (m : Fin 2) (seq : BitVec 16) (bytes : List Byte),
    let q := 2 + m.val
    let delivered : List Await → Prop := fun kept => Answers (.gatewayReplyReceive m seq bytes) s (fun x =>
      Reported (s.updMaster m fun y => { y with awaiting := kept }) x ∧
      ((s.queue q).words.length + (replyRecord bytes).length + 1 ≤ queueCap q →
        (x.queue q).words = (s.queue q).words ++ owedMarkers (s.queue q) ++ replyRecord bytes))
    ((∀ a ∈ (s.master m).awaiting, a.packet.seq ≠ seq) → delivered (s.master m).awaiting) ∧
    (∀ a, (s.master m).awaiting = [a] → a.packet.seq = seq → a.timedOut = false → fieldAt bytes 18 2 < 2 ^ 15 →
      fieldAt bytes 25 1 ≠ 1 → delivered []) ∧
    (∀ a, (s.master m).awaiting = [a] → a.packet.seq = seq → a.answered = false → a.timedOut = false →
      (s.dev.ticks < a.due → Answers (.gatewayReplyTimeout m seq) s (fun x => x = s)) ∧
      (a.due ≤ s.dev.ticks → Answers (.gatewayReplyTimeout m seq) s (fun x =>
        (∃ y, Reported (s.updMaster m fun z => { z with awaiting := [{ a with timedOut := true }] }) y ∧
          Noted y x [CMD_STATUS.key]) ∧
        x.on CMD_STATUS.key CMD_STATUS.TIMEOUT_HIST = true ∧ x.raised (258 + m) 0x83 true)))

/-! ### Host commands: acceptance (R346 to R362, Tables 02-3 and 14-5) -/

/-- R348. From HIGH, the next 32,767 SEQ values are new, the 1,023 below it are late if unseen, and every other one is
a replay; a SEQ recorded as new is then itself a replay, and the first packet of a master since RESET_N is new. -/
def Obligations.SequenceClasses : Prop :=
  ∀ (h seq : Nat) (seen : List Nat), h < 65536 → seq < 65536 →
    seqClass none seen seq = .new ∧
    ((∃ k, 1 ≤ k ∧ k ≤ 32767 ∧ seq = (h + k) % 65536) → seqClass (some h) seen seq = .new) ∧
    ((∃ k, 1 ≤ k ∧ k ≤ 1023 ∧ h = (seq + k) % 65536) → seqClass (some h) seen seq =
      if seq ∈ seen then .replay else .late) ∧
    ((¬ ∃ k, 1 ≤ k ∧ k ≤ 32767 ∧ seq = (h + k) % 65536) → (¬ ∃ k, 1 ≤ k ∧ k ≤ 1023 ∧ h = (seq + k) % 65536) →
      seqClass (some h) seen seq = .replay) ∧
    seqClass (some seq) (seenFrom seq seen) seq = .replay ∧
    (∀ x ∈ seenFrom seq seen, x = seq ∨ (x ∈ seen ∧ (seq + 65536 - x) % 65536 ≤ 1023))

/-- R50, Table 02-3: the row that an effective time meets, with the limits of its example, and of R47 for a port key.
-/
def Obligations.EffectiveTimes : Prop :=
  (∀ now e, effSfn now e false = if e < now + 2 then .refused stLATE
    else if now + 2 ^ 24 < e then .refused stTOO_FAR else .scheduled (.sfn e) false) ∧
  (∀ now e, e < now + 2 → effSfn now e true = .scheduled (.sfn (now + 1)) false) ∧
  effSfn 5000000 5000001 false = .refused stLATE ∧ effSfn 5000000 5000002 false = .scheduled (.sfn 5000002) false ∧
  effSfn 5000000 21777216 false = .scheduled (.sfn 21777216) false ∧
  effSfn 5000000 21777217 false = .refused stTOO_FAR ∧
  ∀ q pfn lead n, pfn < 2 ^ 32 → n < 2 ^ 32 → 0 < lead → lead ≤ 2 ^ 24 →
    (∀ k, k < lead → n = (pfn + k) % 2 ^ 32 → effPort q pfn lead n false = .refused stLATE ∧
      effPort q pfn lead n true = .scheduled (.port q n) true) ∧
    (∀ k, lead ≤ k → k ≤ 2 ^ 24 → n = (pfn + k) % 2 ^ 32 → ∀ late, effPort q pfn lead n late = .scheduled (.port q n) false) ∧
    (∀ k, 2 ^ 24 < k → k < 2 ^ 31 → n = (pfn + k) % 2 ^ 32 → ∀ late, effPort q pfn lead n late = .refused stTOO_FAR) ∧
    (∀ k, 1 ≤ k → k ≤ 2 ^ 31 - 1 → pfn = (n + k) % 2 ^ 32 → effPort q pfn lead n false = .refused stLATE)

/-- Table 14-5: a host command is answered by the first row that applies, and has no other effect than that answer and
the record of its arrival. Rows 1 to 7: a failed check, a replay, a restart, a level, a role, a fault of the header or
the payload, a lease. Where the manual leaves room, this is the model's reading: log entries 31, 32 and 33. -/
def Obligations.HostCommandsRefused : Prop :=
  ∀ (c : Instr) (h : HostRow) (s : State), c.hostRow = some h → h.matchesRow = true → s.answersPackets = true →
    let p := h.packet
    let t := s.passed p
    let refused : Nat → Nat → Prop := fun status detail => Answers c s (fun x => x = t.reply0 p status detail [])
    (∀ d, (s.noteTaken p).checkFault p = some d → Answers c s (fun x => x = (s.noteTaken p).badCheck p d)) ∧
    ((s.noteTaken p).checkFault p = none → ((s.noteTaken p).present p.master).classify p = .replay →
      Answers c s (fun x => x = ((s.noteTaken p).present p.master).replayed p)) ∧
    (Passes1 s p →
      (t.restartBusy p = true → refused stBUSY 0x0009) ∧
      (t.restartBusy p = false → t.levelShort p = true → refused stREJECTED_LEVEL 0) ∧
      (t.restartBusy p = false → t.levelShort p = false → ∀ d, t.roleBusy p = some d → refused stBUSY d) ∧
      (t.restartBusy p = false → t.levelShort p = false → t.roleBusy p = none → ∀ d, t.paramFault p = some d →
        refused stBAD_PARAM d) ∧
      (t.restartBusy p = false → t.levelShort p = false → t.roleBusy p = none → t.paramFault p = none →
        ∀ d, (t.row7 p).1 = some d → refused stCONFLICT d))

/-- R50, R371: a command that changes no configuration, a cancel and a legacy command are answered at once. The reply,
of PHASE 0, carries the status and the result that the command's chapter gives in the state that rows 1 to 7 leave; on
a gateway it enters the reply queue of its master whole if it fits. Nothing but what the chapter's answer changes, and
what reports to the host, differs. The rows: NOP, IDENTIFY_SELF, IDENTIFY_PARTNER, IDENTIFY_RING_TABLE, CAL_CANCEL,
QUEUE_READ, LEASE_READ, SDH_PATH_STATUS, SDH_TRACE_READ, OTN_ODU_STATUS, OTN_TTI_READ, ALF_STATUS_READ, ALF_MAP_READ,
BND_STATUS_READ, HRP_STATUS_READ, LOM_TRIB_STATUS, PKT_FLOW_STATUS, STK_QUERY, CONN_READ, PROT_STATUS, PAIR_STATUS,
DPL_STATUS_READ, SNAP_READ, PM_READ, REG_READ, CTX_READ, HLT_STATUS_GRADES, HLT_STATUS_PENDING,
HLT_STATUS_POISON_LIST, REPAIR_MAP_READ, OBS_STATUS, LEG_NOP, LEG_QUEUE_READ, LEG_QUEUE_LEVEL, LEG_QUEUE_RESET,
LEG_STATUS, FW_STATUS. Where the manual leaves room, this is the model's reading: log entries 26 and 32. -/
def Obligations.HostReadsAnswer : Prop :=
  ∀ (c : Instr) (h : HostRow) (s s1 : State) (st : Nat) (r : List Byte), c.hostRow = some h → h.matchesRow = true →
    let p := h.packet
    Passes7 s p → actsAtOnce p.op = true → (s.leased p).answers p = .answer st r s1 →
    Answers c s (fun x =>
      let y := if isRead p.op then s1 else s1.mirror p noCreation []
      let q := 2 + p.master
      let words := replyRecord (replyBytes y.address y.time.epoch
        (y.makeReply p 0 st 0 noCreation p.eff.toNat 0 r) 0 r)
      Reported y x ∧
      (y.isGateway = true → p.noReply = false → r.length ≤ 4052 →
        (y.queue q).words.length + words.length + 1 ≤ queueCap q →
        (x.queue q).words = (y.queue q).words ++ owedMarkers (y.queue q) ++ words))

/-- R494, R360: an immediate command that its chapter accepts joins the immediate commands of the next step 2, in the
order taken, with no calendar entry and, but for a member's SET_ADDRESS, no reply yet; its master holds every lease it
needs. The rows: SET_LEVEL, SET_MASTER_CLAIM, SET_SFN, SET_SFN_AT_MARKER, EPOCH_RESTART, SET_TOD_LABEL, COMMIT_STAGED,
COMMIT_STAGED_DISCARD, LEASE_RELEASE, SET_ADDRESS, PORT_MODE, SDH_SECTION_CFG, SDH_PATH_CFG, SDH_DCC_SEND,
OTN_OTU_CFG, OTN_ODU_CFG, OTN_DM_START, ALF_PORT_CFG, ALF_TRIB_CFG_REPLACE, ALF_TRIB_CFG_APPEND, ALF_TRIB_CFG_REMOVE,
ALF_TRIB_CFG_CHANGE, ALF_MAP_RESYNC, BND_GROUP_CFG, BND_TRIB_CFG_REPLACE, BND_TRIB_CFG_APPEND, BND_TRIB_CFG_REMOVE,
BND_TRIB_CFG_CHANGE, HRP_GROUP_CFG, HRP_SELECT_AUTO, HRP_SELECT_FORCE_MAIN, HRP_SELECT_FORCE_OTHER, LOM_CONTAINER_CFG,
LOM_TRIB_CFG, PKT_FLOW_CFG, PKT_VLAN_CFG, PKT_VCAT_CFG, ETH_PORT_CFG, PRT_DAMPER_CFG, CONNECT, CONNECT_UNIDIR,
CONNECT_ADD_SINK, DISCONNECT, GRT_DEFRAG, GRT_RUN_SET, GRT_RUN_FREE, GRT_MAP_SET, GRT_MOVE, STK_POOL_CFG,
PROT_GROUP_CFG, PROT_GROUP_REMOVE, PROT_CLEAR, PROT_LOCKOUT, PROT_FORCED, PROT_MANUAL, PROT_MANUAL_W, PROT_EXERCISE,
PAIR_CFG, PAIR_CLEAR, PAIR_SWITCHOVER, PAIR_CHANNEL_OVERRIDE, DPL_REF_CFG, DPL_SELECT, DPL_CFG, ALIGN_FRAME_OUTPUTS,
CLKOUT_CFG, SYN_CFG, SNAP_SET_CFG_REPLACE, SNAP_SET_CFG_APPEND, SNAPSHOT, CNT_CLEAR, PM_ENABLE, PM_DISABLE, REG_WRITE,
REG_MODIFY, CTX_WRITE, SPARE_APPROVE, SPARE_DECLINE, SPARE_REQUEST, REPAIR_MAP_APPLY, SMOKE_CFG, POWER_DOMAIN_UP,
POWER_DOMAIN_DOWN, OBS_TRACE_CFG, OBS_CNT_CFG, OBS_SAMPLE_CFG, FW_LOAD_BEGIN, FW_LOAD_DATA, FW_LOAD_END, FW_ACTIVATE.
Where the manual leaves room, this is the model's reading: log entries 26 and 31. -/
def Obligations.ImmediateCommandsTaken : Prop :=
  ∀ (c : Instr) (h : HostRow) (s s1 : State) (r : List Byte), c.hostRow = some h → h.matchesRow = true →
    let p := h.packet
    Passes7 s p → actsAtOnce p.op = false → (s.leased p).effective p = .immediate →
    (s.leased p).chapter p = .accept s1 r → (s.leased p).answersFirst p = false → s1.cmd.leases = (s.leased p).cmd.leases →
    Answers c s (fun x =>
      x = { s1 with
        pair := x.pair
        cmd := { s1.cmd with leases := x.cmd.leases, immediates := s1.cmd.immediates ++ [⟨settled p r, s1.dev.ticks⟩] } } ∧
      s1.cmd.leases <+: x.cmd.leases ∧ ∀ res ∈ needs p, x.holder res = p.master + 1)

/-- R49, R52, R54, R60: a scheduled command that its chapter accepts, with calendar room, makes one entry under the
next creation number, keyed as Table 02-3 says, and is answered ACCEPTED; its master holds every lease it needs.
Without room it returns NO_RESOURCE, and as the 65th entry of one SFN BUSY. The rows are those of
ImmediateCommandsTaken; the entry is stated for those other than ALF_PORT_CFG, ALF_TRIB_CFG and ALF_MAP_RESYNC, which
also show ALF_ANN. Where the manual leaves room, this is the model's reading: log entries 26 and 31. -/
def Obligations.ScheduledCommandsTaken : Prop :=
  ∀ (c : Instr) (h : HostRow) (s s1 : State) (r : List Byte) (key : CalKey) (late : Bool), c.hostRow = some h →
    h.matchesRow = true →
    let p := h.packet
    let t := s.leased p
    Passes7 s p → actsAtOnce p.op = false → t.effective p = .scheduled key late → t.chapter p = .accept s1 r →
    (t.hostRoom p.master = true → t.sfnRoom key = true → portKeyed p.op = false →
      s1.cmd.leases = t.cmd.leases → Answers c s (fun x =>
        ∃ y, OnlyRegs s1 y [CAL_STATUS.key] ∧
          Reported { y with
            pair := x.pair, cmd := { y.cmd with leases := x.cmd.leases }
            cal := { entries := s1.cal.entries ++ [{ creation := s1.cal.nextCreation, key := key, late := late
                                                     action := .host (settled p r)
                                                     notBefore := if late then s1.dev.ticks + 1 else 0 }]
                     nextCreation := s1.cal.nextCreation + 1 } } x ∧
          s1.cmd.leases <+: x.cmd.leases ∧ ∀ res ∈ needs p, x.holder res = p.master + 1)) ∧
    (t.hostRoom p.master = false → Answers c s (fun x => x = t.quotaFull p)) ∧
    (t.hostRoom p.master = true → t.sfnRoom key = false → Answers c s (fun x => x = t.reply0 p stBUSY 0 []))

/-! ### Execution (R55, R61, R366, R494) -/

/-- R494: in a state where nothing else is due, the one immediate command of an earlier tick executes and completes.
Shown for SET_LEVEL (R355): the level of the master that sent it, and nothing of another kind, changes. R494 and R54
for a calendar entry that falls due: SET_TOD_LABEL (R67) sets the label, and the label generation advances modulo 256.
An immediate command of the same tick, and an entry of a later SFN, wait. Where the manual leaves room, this is the
model's reading: log entry 26. -/
def Obligations.CommandsExecute : Prop :=
  ∀ s : State,
    let idle := { s with cmd := { s.cmd with immediates := [] } }
    let free := { s with cal := { s.cal with entries := [] } }
    (s.quiet → (∀ t ∈ s.cmd.immediates, s.dev.ticks ≤ t.tick) → Answers .immediateExecute s (fun x => x = s)) ∧
    (∀ t, s.quiet → s.cmd.immediates = [t] → t.tick < s.dev.ticks → t.packet.opcode = 0x02 →
      Answers .immediateExecute s (fun x => Reported (idle.updMaster t.packet.master fun y =>
        { y with expert := decide (t.packet.fld 0 1 = 1) }) x)) ∧
    (∀ (e : Entry) (n : Nat), free.quiet → s.cal.entries = [e] → e.key = .sfn n → s.time.sfn < n →
      e.action = .handover → Answers .scheduledEntryExecute s (fun x => x = s)) ∧
    (∀ (e : Entry) (n : Nat) (p : Packet), free.quiet → s.cal.entries = [e] → e.key = .sfn n → n ≤ s.time.sfn →
      e.action = .host p → p.opcode = 0x06 → e.armed = false → e.skipped = false → e.notBefore ≤ s.dev.ticks →
      s.time.nextSfn = none → s.time.armed = none →
      s.on SYS_TIME_STATUS.key SYS_TIME_STATUS.SFN_CONFLICT = false → Answers .scheduledEntryExecute s (fun x => Reported { free with
        time := { s.time with tod := p.fld 0 8, labelGen := (s.time.labelGen + 1) % 256 } } x))

/-- R55: a flip copies the staged bank of the registers it names into the active bank and leaves the staged bank equal
to it; other registers keep both banks. Where the manual leaves room, this is the model's reading: log entry 41. -/
def Obligations.FlipsCopyStagedBanks : Prop :=
  ∀ (s : State) (ks : List Nat),
    OnlyRegs s (s.flipRegs ks) ks ∧ (∀ k ∈ ks, (s.flipRegs ks).rd k = s.rdStaged k) ∧
    (∀ k ∈ ks, (s.flipRegs ks).rdStaged k = (s.flipRegs ks).rd k) ∧ ∀ k, (s.flipRegs ks).rdStaged k = s.rdStaged k

/-! ### The gateway's window, buffers and the commands' timers (R359, R366 to R369) -/

/-- R367, R369. GO on a gateway submits the packet in the window; one for the device itself enters the input buffer of
its master. A packet that finds 32 in the buffer returns BUSY 0x0006. A device held in reset, or stopped, takes none.
Where the manual leaves room, this is the model's reading: log entry 73. -/
def Obligations.PacketsSubmitted : Prop :=
  ∀ s : State,
    (∀ p : Packet, s.answersPackets = true → (s.master p.master).inbuf.length < 32 →
      Answers (.commandPacketBuffer p) s (fun x => x = s.updMaster p.master fun y => { y with inbuf := y.inbuf ++ [p] })) ∧
    (∀ p : Packet, s.answersPackets = true → 32 ≤ (s.master p.master).inbuf.length →
      Answers (.commandPacketBuffer p) s (fun x => x = s.reply0 p stBUSY 0x0006 [])) ∧
    (∀ p : Packet, s.answersPackets = false → Answers (.commandPacketBuffer p) s (fun x => x = s)) ∧
    (∀ (m : Fin 2) (len : BitVec 13), s.dev.boot ≠ .held →
      let p := packetOf ((List.range len.toNat).map fun i => (s.master m).window.getD i 0) len.toNat
      (s.bootedGateway = false ∨ len.toNat < 28 ∨ 4096 < len.toNat → Answers (.cmdTxGo m len) s (fun x =>
        OnlyRegs s x [CMD_TX.key m] ∧ x.get (CMD_TX.key m) CMD_TX.LENGTH = len.toNat)) ∧
      (s.bootedGateway = true → 28 ≤ len.toNat → len.toNat ≤ 4096 → s.cmd.demoted = false → p.master = m.val →
        p.srcRing = s.address / 64 → p.dest.toNat % 1024 = s.address → (s.master m).inbuf.length < 32 →
        Answers (.cmdTxGo m len) s (fun x =>
          (∃ y, OnlyRegs s y [CMD_TX.key m] ∧ x = y.updMaster m fun z => { z with inbuf := z.inbuf ++ [p] }) ∧
          x.get (CMD_TX.key m) CMD_TX.LENGTH = len.toNat)))

/-- R359, R366. A master unheard for MASTER_TIMEOUT is absent: its bit and its event, and its leases are free. A
command that waits in the pending slot starts once nothing runs on its resource (shown for ALIGN_FRAME_OUTPUTS), and
at its TIMEOUT it completes BUSY, with TIMEOUT_HIST and its event. Before their time, neither happens. Where the
manual leaves room, this is the model's reading: log entry 34. -/
def Obligations.CommandTimers : Prop :=
  ∀ s : State,
    (∀ m : Fin 2,
      let t := s.get CMD_CFG.key CMD_CFG.MASTER_TIMEOUT
      let due := t ≠ 0 ∧ s.absent m = false ∧ (s.master m).lastPacket + t * 8000 ≤ s.dev.ticks
      (¬ due → Answers (.masterAbsence m) s (fun x => x = s)) ∧
      (due → Answers (.masterAbsence m) s (fun x =>
        (∃ y, Noted s y [CMD_STATUS.key] ∧ x = { y with cmd := { s.cmd with
          leases := s.cmd.leases.filter fun l => decide (l.master ≠ m.val) } }) ∧
        x.absent m = true ∧ x.raised (258 + m) 0x80 true))) ∧
    (∀ (cls sub : Byte) (index : BitVec 16) (o : LongOp), s.cmd.slots = [o] →
      o.res = (cls.toNat, sub.toNat, index.toNat) →
      (s.dev.ticks < o.due → Answers (.pendingSlotTimeout cls sub index) s (fun x => x = s)) ∧
      (o.due ≤ s.dev.ticks → o.packet.opcode = 0x64 → s.grate.conns = [] → s.grate.runs = [] → s.grate.allocs = [] →
        Answers (.pendingSlotTimeout cls sub index) s (fun x =>
          (∃ y, Reported { s with cmd := { s.cmd with slots := [] } } y ∧ Noted y x [CMD_STATUS.key]) ∧
          x.on CMD_STATUS.key CMD_STATUS.TIMEOUT_HIST = true ∧ x.raised (258 + o.packet.master) 0x83 true)) ∧
      ((s.running o.res).isSome → Answers (.pendingOperationStart cls sub index) s (fun x => x = s)) ∧
      (s.running o.res = none → o.res = (9, 0, 0) → o.packet.opcode = 0x64 → s.time.fpAligned = true →
        s.has ⟨177, 0, 0x80⟩ = false → Answers (.pendingOperationStart cls sub index) s (fun x =>
          (∃ y, OnlyRegs s y [DPL_STATUS.key] ∧ x = { y with cmd := { s.cmd with
            slots := [], running := s.cmd.running ++ [{ o with since := s.dev.ticks, due := 0 }] } }) ∧
          x.on DPL_STATUS.key DPL_STATUS.ALIGNING = true)))

/-! ### The register space (R403 to R409, R412, R419, R485) -/

/-- R404: every access to the register space is a whole, aligned word. A write with partial byte enables, one that the
SPI master cuts short, and any access at an address that is not a multiple of 4 is discarded or reads 0, and is
recorded as a fault of cause 4, with its address, its history bit, its count and the event of the next tick (R419). -/
def Obligations.PartialAccessesFault : Prop :=
  ∀ (s : State) (o : Origin) (addr : BitVec 24) (v : Word) (be : BitVec 4), s.dev.boot ≠ .held →
    let faulted : List Word → State → Prop := fun read x =>
      (∃ y, OnlyRegs s y [BUS_FAULT_INFO.key, BUS_FAULT_ADDR.key, BUS_STATUS.key, BUS_FAULT_CNT.key] ∧
        x = { y with arrivals := x.arrivals, pins := { s.pins with lastRead := read } }) ∧
      (∃ ext, x.arrivals = s.arrivals ++ [.event 361 0x80 true 0 ext]) ∧
      x.get BUS_FAULT_INFO.key BUS_FAULT_INFO.CAUSE = 4 ∧ x.rd BUS_FAULT_ADDR.key = BitVec.ofNat 32 addr.toNat ∧
      x.on BUS_STATUS.key BUS_STATUS.FAULT_HIST = true ∧
      x.get BUS_FAULT_CNT.key BUS_FAULT_CNT.COUNT = min (2 ^ 32 - 1) (s.get BUS_FAULT_CNT.key BUS_FAULT_CNT.COUNT + 1)
    (be ≠ 0xF ∨ addr.toNat % 4 ≠ 0 → Answers (.registerWrite o addr v be) s (faulted s.pins.lastRead)) ∧
    Answers (.spiWrite addr [] true) s (faulted s.pins.lastRead) ∧
    Answers (.spiQuadWrite addr [] true) s (faulted s.pins.lastRead) ∧
    (addr.toNat % 4 ≠ 0 → Answers (.spiRead addr 1) s (faulted [0]) ∧ Answers (.spiQuadRead addr 1) s (faulted [0]) ∧
      Answers (.spiWrite addr [v] false) s (faulted s.pins.lastRead) ∧
      Answers (.spiQuadWrite addr [v] false) s (faulted s.pins.lastRead))

/-- Table 17-5, R408, R409: what a software write leaves, field by field, in every register of the map. RW, RWH and
CNT fields take the value; W1C fields lose the bits written 1; RO, SC and WO fields, and bits of no field, keep what
they hold. -/
def Obligations.AccessTypes : Prop :=
  ∀ d ∈ allRegs, ∀ old v : Word,
    (∀ f ∈ d.flds, f.fld.get (d.write old v) = match f.acc with
      | .rw | .rwh | .cnt => f.fld.get v
      | .w1c => f.fld.get (old &&& ~~~v)
      | .ro | .sc | .wo => f.fld.get old) ∧
    ∀ i, (∀ f ∈ d.flds, i < f.fld.lo ∨ f.fld.lo + f.fld.width ≤ i) → (d.write old v).getLsbD i = old.getLsbD i

/-- R403, R408, R412. A whole, aligned write by the host port or the SPI slave, at an address that leads to a register
with one bank and no further effect, writes it by its access types and nothing else. One to the active bank of a
double- banked register needs expert level (R57), and is otherwise a fault of cause 3 that writes nothing. A SPI read
returns the word the register shows; a read of a reserved place returns 0. R412, R57. With expert level, a write of
the active bank of a double-banked register acts at once and leaves every staged bank as it was. Shown for PRT_DAMPER,
DPL_CFG, HLT_CFG and OBS_SAMPLE_CFG, whose flips do nothing more. Where the manual leaves room, this is the model's
reading: log entries 7 and 9. -/
def Obligations.RegisterAccess : Prop :=
  (∀ (s : State) (o : Origin) (addr : BitVec 24) (v : Word) (k : Nat) (d : RegDesc), s.dev.boot ≠ .held →
    addr.toNat % 4 = 0 → s.absentBank addr.toNat = false →
    let fn := originFn o
    let plainWrite : State → Prop := fun x =>
      HostAccess s x [k] s.pins.lastRead ∧ x.rd k = d.write (s.rd k) v
    let readsAs : Word → State → Prop := fun w x => HostAccess s x [] [w]
    (s.locate addr.toNat = .reg k d → isBanked k = false → (writers.all fun w => (w.1.index k).isNone) = true →
      Answers (.registerWrite o addr v 0xF) s plainWrite ∧ Answers (.spiWrite addr [v] false) s plainWrite ∧
      Answers (.spiQuadWrite addr [v] false) s plainWrite) ∧
    (s.locate addr.toNat = .reg k d → isBanked k = true → (s.master fn).expert = false →
      Answers (.registerWrite o addr v 0xF) s (fun x =>
        (∃ y, HostAccess s y [BUS_FAULT_INFO.key, BUS_FAULT_ADDR.key, BUS_STATUS.key, BUS_FAULT_CNT.key] s.pins.lastRead ∧
          x = { y with arrivals := s.arrivals ++ [.event 361 0x81 true 0 []] }) ∧
        x.get BUS_FAULT_INFO.key BUS_FAULT_INFO.CAUSE = 3)) ∧
    (s.locate addr.toNat = .reg k d → (readers.all fun w => (w.1.index k).isNone) = true →
      (views.all fun w => (w.1.index k).isNone) = true →
      Answers (.spiRead addr 1) s (readsAs (s.rd k)) ∧ Answers (.spiQuadRead addr 1) s (readsAs (s.rd k))) ∧
    (s.locate addr.toNat = .blank → Answers (.spiRead addr 1) s (readsAs 0) ∧ Answers (.spiQuadRead addr 1) s (readsAs 0) ∧
      Answers (.registerWrite o addr v 0xF) s (fun x => HostAccess s x [] s.pins.lastRead))) ∧
  (∀ (s : State) (m : Fin 2) (addr : BitVec 24) (v : Word) (d : RegDesc), s.dev.boot ≠ .held →
    (s.master m).expert = true → s.absentBank addr.toNat = false → s.locate addr.toNat = .reg addr.toNat d →
    addr.toNat = DPL_CFG.key ∨ addr.toNat = HLT_CFG.key ∨ addr.toNat = OBS_SAMPLE_CFG.key ∨
      (∃ p : Port, addr.toNat = PRT_DAMPER.key p) →
    Answers (.registerWrite (.pcie m) addr v 0xF) s (fun x =>
      x.rd addr.toNat = d.write (s.rd addr.toNat) v ∧ (∀ k, k ≠ addr.toNat → x.rd k = s.rd k) ∧
      (∀ k, x.rdStaged k = s.rdStaged k) ∧
      x = { s with regs := x.regs, staged := x.staged, obs := { s.obs with cnts := x.obs.cnts } }))

/-! ### Memory windows (R415, R419, R420) -/

/-- R415, R419, R420. A write through a window, by a function with the right, to four bytes inside a target other than
the contexts and the pattern memory, or by a master with expert level, stores them most significant first and no other
byte; a read of bytes that have been written returns them. The memory keeps its canonical form. An offset that no
window covers, and an access without the right, is a fault of cause 2. Where the manual leaves room, this is the
model's reading: log entry 6. -/
def Obligations.MemoryWindows : Prop :=
  ∀ (s : State) (fn : Fin 2) (off : BitVec 28) (wr : Option Word), s.dev.boot ≠ .held →
    let missed : State → Prop := fun x =>
      (∃ y, OnlyRegs s y [BUS_FAULT_INFO.key, BUS_FAULT_ADDR.key, BUS_STATUS.key, BUS_FAULT_CNT.key] ∧
        x = { y with
          arrivals := s.arrivals ++ [.event 361 0x81 true 0 []]
          pins := { s.pins with lastRead := if wr.isSome then s.pins.lastRead else [0] } }) ∧
      x.get BUS_FAULT_INFO.key BUS_FAULT_INFO.CAUSE = 2
    (s.windowAt off.toNat = none → Answers (.windowAccess fn off wr) s missed) ∧
    ∀ n t o, s.windowAt off.toNat = some (n, t, o) →
      (s.windowRight n fn wr.isSome = false → Answers (.windowAccess fn off wr) s missed) ∧
      (s.windowRight n fn wr.isSome = true → o + 4 ≤ s.targetSize t →
        (∀ v, wr = some v → (t ≠ 1 ∧ t ≠ 5) ∨ (s.master fn).expert = true → Answers (.windowAccess fn off wr) s (fun x =>
          x = { s with bus := { s.bus with mem := x.bus.mem }, obs := { s.obs with cnts := x.obs.cnts } } ∧
          (∀ i, i < 4 → Tbl.find x.bus.mem (busAddr t o + i) = some ((beBytes 4 v.toNat).getD i 0)) ∧
          (∀ a, a < busAddr t o ∨ busAddr t o + 4 ≤ a → Tbl.find x.bus.mem a = Tbl.find s.bus.mem a) ∧
          (memoryWf s.bus.mem = true → memoryWf x.bus.mem = true))) ∧
        (∀ b0 b1 b2 b3 : Byte, wr = none → Tbl.find s.bus.mem (busAddr t o) = some b0 →
          Tbl.find s.bus.mem (busAddr t o + 1) = some b1 → Tbl.find s.bus.mem (busAddr t o + 2) = some b2 →
          Tbl.find s.bus.mem (busAddr t o + 3) = some b3 → Answers (.windowAccess fn off wr) s (fun x =>
            HostAccess s x [] [b0 ++ b1 ++ b2 ++ b3])))

/-! ### Check-value units (R421, R423, R424) and PEAK_CLR (R52) -/

/-- R421, R424, and the check values of their example. START of a general unit loads INIT and, by FOLD_MODE, takes the
fold bytes; a DATA write takes four bytes, or LAST_BYTES of them, and clears LAST_BYTES. The fixed units take neither.
PEAK_CLR sets PEAK to the entries in use. -/
def Obligations.CheckUnits : Prop :=
  (crc32c.of [0x31, 0x32, 0x33, 0x34, 0x35, 0x36, 0x37, 0x38, 0x39] = 0xE3069283 ∧
   crc16.of [0x31, 0x32, 0x33, 0x34, 0x35, 0x36, 0x37, 0x38, 0x39] = 0x29B1) ∧
  ∀ (s : State) (u : Fin 16) (v : Word), s.dev.boot ≠ .held →
    let c := s.cvuCfg u
    let mode := s.get (CVU_S_CFG.key u) CVU_S_CFG.FOLD_MODE
    let n := s.get (CVU_S_CFG.key u) CVU_S_CFG.LAST_BYTES
    let taken := (beBytes 4 v.toNat).take (if n = 0 then 4 else n)
    Answers .peakClr s (fun x => OnlyRegs s x [CAL_STATUS.key] ∧
      x.get CAL_STATUS.key CAL_STATUS.PEAK = s.cal.entries.length % 2 ^ 13) ∧
    (u.val < 12 → Answers (.cvuStart u) s (fun x => x = s) ∧ Answers (.cvuDataWrite u v) s (fun x => x = s)) ∧
    (12 ≤ u.val →
      Answers (.cvuStart u) s (fun x =>
        x = { s with bus := { s.bus with cvu := x.bus.cvu, cvuBytes := x.bus.cvuBytes, cvuHeld := x.bus.cvuHeld } } ∧
        x.bus.cvu.find u = some (if mode = 1 ∨ mode = 2 then c.bytes c.init (s.cvuFold u) else c.init) ∧
        x.bus.cvuHeld.getD u 0 = (if mode = 2 then 1 else 0) ∧
        ∀ j, j ≠ u.val → x.bus.cvu.find j = s.bus.cvu.find j) ∧
      (s.bus.cvuHeld.getD u 0 = 0 → Answers (.cvuDataWrite u v) s (fun x =>
        (∃ y, OnlyRegs s y [CVU_S_CFG.key u] ∧ x = { y with bus := { s.bus with cvu := x.bus.cvu } }) ∧
        x.bus.cvu.find u = some (c.bytes (s.bus.cvu.getD u 0) taken) ∧
        x.get (CVU_S_CFG.key u) CVU_S_CFG.LAST_BYTES = 0 ∧
        ∀ j, j ≠ u.val → x.bus.cvu.find j = s.bus.cvu.find j)))

/-! ### Observation (R445 to R450) -/

/-- R449: FREEZE stops the cycle count at a value of the current tick, a second FREEZE changes nothing, and clearing
it lets the counters run on. A read of the running count latches one value of the current tick. R447: a record leaves
the FIFO for the buffer while it fits, marked if one was dropped before it; the oldest record moves to queue 6 whole
with READOUT_EN. R450: a precise sample enters the FIFO where sampling and its class are enabled. Where the manual
leaves room, this is the model's reading: log entry 67. -/
def Obligations.ObservationRows : Prop :=
  ∀ s : State,
    (s.obsFrozen = true → Answers .obsFreeze s (fun x => x = s)) ∧
    (s.obsFrozen = false → Answers .obsFreeze s (fun x =>
      (∃ y, OnlyRegs s y [OBS_CNT_CTRL.key] ∧ x = { y with
        dev := { s.dev with freeCtr := s.dev.freeCtr + 1 }, obs := { s.obs with cycles := x.obs.cycles } }) ∧
      x.obsFrozen = true ∧ ∃ n, n < 100000 ∧ x.obs.cycles = (s.obs.cycles + n) % 2 ^ 64)) ∧
    Answers .obsUnfreeze s (fun x => OnlyRegs s x [OBS_CNT_CTRL.key] ∧ x.obsFrozen = false) ∧
    (s.obsFrozen = false → s.dev.boot ≠ .held → Answers .obsCycleLoRead s (fun x =>
      ∃ n, n < 100000 ∧ let c := (s.obs.cycles + n) % 2 ^ 64
        x.pins.lastRead = [BitVec.ofNat 32 c] ∧ x.rd OBS_CYCLE_HI.key = BitVec.ofNat 32 (c / 2 ^ 32) ∧
        ∀ k, k ≠ OBS_CYCLE_HI.key → x.rd k = s.rd k)) ∧
    (s.obs.fifo = [] → Answers .traceRecordStore s (fun x => x = s)) ∧
    (∀ r rest, s.obs.fifo = r :: rest → s.obs.waiting = none →
      recordsBytes s.obs.buffer + r.length ≤ s.traceCap → Answers .traceRecordStore s (fun x =>
        x = { s with obs := { s.obs with
          fifo := rest, buffer := s.obs.buffer ++ [if s.obs.dropBefore then r.mark else r], dropBefore := false } })) ∧
    (s.obs.buffer = [] ∨ s.on OBS_TRACE_CFG.key OBS_TRACE_CFG.READOUT_EN = false →
      Answers .traceReadout s (fun x => x = s)) ∧
    (∀ r rest, s.obs.buffer = r :: rest → s.on OBS_TRACE_CFG.key OBS_TRACE_CFG.READOUT_EN = true →
      let words := replyRecord (if s.obs.moveDrop then r.mark else r).bytes
      (s.queue 6).words.length + (owedMarkers (s.queue 6)).length + words.length + 1 ≤ queueCap 6 →
      Answers .traceReadout s (fun x =>
        Reported { s with obs := { s.obs with buffer := rest, moveDrop := false } } x ∧
        (x.queue 6).words = (s.queue 6).words ++ owedMarkers (s.queue 6) ++ words)) ∧
    (∀ (priv : Bool) (seq : BitVec 16) (pc insn latency : Word),
      (s.on OBS_SAMPLE_CFG.key OBS_SAMPLE_CFG.SAMPLE_EN = false ∨ s.captures 6 none = false →
        Answers (.preciseSample priv seq pc insn latency) s (fun x => x = s)) ∧
      (s.on OBS_SAMPLE_CFG.key OBS_SAMPLE_CFG.SAMPLE_EN = true → s.captures 6 none = true → s.obs.waiting = none →
        s.obs.fifo.length < 256 → Answers (.preciseSample priv seq pc insn latency) s (fun x =>
          ∃ r : TraceRec, r.cls = 6 ∧ r.seq = s.obs.seq ∧ r.cycle < 100000 ∧
            r.body.drop 4 = beBytes 4 pc.toNat ++ beBytes 4 insn.toNat ++ beBytes 4 latency.toNat ∧
            x = { s with
              dev := { s.dev with freeCtr := s.dev.freeCtr + 1 }
              obs := { s.obs with fifo := s.obs.fifo ++ [r], seq := (s.obs.seq + 1) % 2 ^ 32 } })))

/-! ### Defects, lanes and squelch (R84 to R88, R97, R267, R269, R273) -/

/-- R97, R267. A defect of a port whose integration has run sets its sticky bit at a declaration and is an arrival of
the next tick; a decision for the state that stands changes nothing. Shown for the section defects of an SDH port and
for LOS of a lane, whose LAN_STATUS follows at once. R269, R58: what arrives in step 1 is declared or clears then,
once. Where the manual leaves room, this is the model's reading: log entry 38. -/
def Obligations.DefectRows : Prop :=
  ∀ s : State,
    (∀ (c : Cond) (set : Bool), 168 ≤ c.source → s.decided c = set → Answers (.defectDecided c set) s (fun x => x = s)) ∧
    (∀ (c : Cond) (set : Bool), 168 ≤ c.source → s.decided c ≠ set → Answers (.defectDecided c set) s (fun x =>
      x = { s with arrivals := s.arrivals ++ [.defect c set] })) ∧
    (∀ (p : Port) (i : Fin 7), s.isSdh p = true →
      let c := condPort p (sdhStatusCodes.getD i 0)
      s.decided c = false → Answers (.defectDecided c true) s (fun x =>
        (∃ y, OnlyRegs s y [SDH_STATUS.key p] ∧ x = { y with arrivals := s.arrivals ++ [.defect c true] }) ∧
        (x.get (SDH_STATUS.key p) SDH_STATUS.HIST).testBit i = true)) ∧
    (∀ (p : Port) (set : Bool), s.isQuad p = false → s.isMember p = false → s.family p ≠ 0 → s.laneTest p = false →
      s.isAlf p = false → s.isSdh p = true → s.on (LAN_STATUS.key p) LAN_STATUS.SUBSTITUTING = false →
      s.decided (condPort p dLOS) ≠ set → Answers (.defectDecided (condPort p dLOS) set) s (fun x =>
        (∃ y, OnlyRegs s y [LAN_STATUS.key p] ∧ x = { y with arrivals := s.arrivals ++ [.defect (condPort p dLOS) set] }) ∧
        x.on (LAN_STATUS.key p) LAN_STATUS.LOS = set ∧
        (set = true → x.on (LAN_STATUS.key p) LAN_STATUS.LOS_HIST = true))) ∧
    (∀ (c : Cond) (set : Bool), s.arrivals = [.defect c set] → c.source < 384 → s.pm.recs = [] → s.prot.groups = [] →
      s.vcats = [] → (∀ g, g < groupsBonding → s.bondOn g = false) → (∀ g, g < groupsHrp → s.hrpOn g = false) →
      Answers .defectArrival s (fun x => Noted { s with arrivals := [] } x [] ∧ x.has c = set ∧
        (s.has c ≠ set → x.raised c.source c.code set) ∧ (s.has c = set → x = { s with arrivals := [] })))

/-- R85, R88, R273. A lane in LANE_FAULT counts a retry and waits 1, 2, 4 to 64 s for the next, or ends the fault and
the squelch if the fault is gone. A spare that locks in time puts the lane in service from the next tick; one that has
not by its deadline has failed, and the lane stays on it. A squelched port sends in the probe window, or while it
hears its far end, and the squelch ends with its cause. Where none of this is due, nothing changes. Where the manual
leaves room, this is the model's reading: log entry 64. -/
def Obligations.LaneRows : Prop :=
  ∀ s : State,
    (∀ (p : Port) (held : Bool), s.on (LAN_STATUS.key p) LAN_STATUS.LANE_FAULT = false ∨
      s.timerDue (.laneRetry p) = false → Answers (.laneFaultRetry p held) s (fun x => x = s)) ∧
    (∀ p : Port, s.on (LAN_STATUS.key p) LAN_STATUS.LANE_FAULT = true → s.timerDue (.laneRetry p) = true →
      let n := min (2 ^ LAN_STATUS.RETRIES.width - 1) (s.get (LAN_STATUS.key p) LAN_STATUS.RETRIES + 1)
      Answers (.laneFaultRetry p false) s (fun x =>
        (∃ y, OnlyRegs s y [LAN_STATUS.key p] ∧ x = { y with
          timers := (s.timers.filter fun t => decide (t.kind ≠ .laneRetry p)) ++
            [⟨.laneRetry p, s.dev.ticks + min 64 (2 ^ n) * 8000⟩] }) ∧
        x.get (LAN_STATUS.key p) LAN_STATUS.RETRIES = n) ∧
      (s.family (s.portOfLane p) = 0 → Answers (.laneFaultRetry p true) s (fun x =>
        (∃ y, OnlyRegs s y [LAN_STATUS.key p] ∧ x = { y with
          ports := x.ports, timers := s.timers.filter fun t => decide (t.kind ≠ .laneRetry p) }) ∧
        x.port p = { s.port p with squelched := false } ∧ (∀ q, q ≠ p.val → x.port q = s.port q) ∧
        x.on (LAN_STATUS.key p) LAN_STATUS.LANE_FAULT = false))) ∧
    (∀ g : Fin 8, s.get (LAN_SPARE.key g) LAN_SPARE.STATE ≠ 1 ∨ s.hasTimer (.spareLock g) = false →
      Answers (.spareCdrLock g) s (fun x => x = s)) ∧
    (∀ g : Fin 8, s.get (LAN_SPARE.key g) LAN_SPARE.STATE = 1 → s.hasTimer (.spareLock g) = true →
      let l := 12 * g.val + s.get (LAN_SPARE.key g) LAN_SPARE.TARGET
      Answers (.spareCdrLock g) s (fun x =>
        (∃ y, OnlyRegs s y [LAN_STATUS.key l] ∧ x = { y with
          timers := s.timers.filter fun t => decide (t.kind ≠ .spareLock g)
          arrivals := s.arrivals ++ [.spareIn (.lane l)] }) ∧
        x.on (LAN_STATUS.key l) LAN_STATUS.CDR_LOCK = true)) ∧
    (∀ g : Fin 8, s.timerDue (.spareLock g) = false → Answers (.spareLockDeadline g) s (fun x => x = s)) ∧
    (∀ g : Fin 8, s.timerDue (.spareLock g) = true →
      let l := 12 * g.val + s.get (LAN_SPARE.key g) LAN_SPARE.TARGET
      Answers (.spareLockDeadline g) s (fun x =>
        (∃ y, Noted s y [LAN_STATUS.key l, LAN_SPARE.key g] ∧
          x = { y with timers := s.timers.filter fun t => decide (t.kind ≠ .spareLock g) }) ∧
        x.on (LAN_STATUS.key l) LAN_STATUS.SUBSTITUTING = false ∧ x.on (LAN_STATUS.key l) LAN_STATUS.ON_SPARE = true ∧
        x.get (LAN_SPARE.key g) LAN_SPARE.STATE = 3 ∧ x.raised (320 + g) 0x81 true)) ∧
    (∀ p : Port, (s.port p).squelchSince = none → Answers (.squelchProbe p) s (fun x => x = s)) ∧
    (∀ (p : Port) (t : Nat), (s.port p).squelchSince = some t →
      let fails := s.squelches p && s.receiveFails p
      let sends := decide (8176 ≤ (s.dev.ticks - t) % 8192) || s.hearing p
      Answers (.squelchProbe p) s (fun x =>
        x = { s with ports := x.ports } ∧ (∀ q, q ≠ p.val → x.port q = s.port q) ∧
        x.port p = { s.port p with
          squelchSince := if fails then some t else none, probing := fails && sends }))

/-! ### Protection (R290 to R299) and the detection windows (R109, R119, R211) -/

/-- R290, R293, R297. A hold-off that has run raises the condition if it still holds. At the end of WTR the request in
force becomes NR, with the REQUEST event, unless the far end's is in force. Accepted K bytes reach the MSP group of
the port; a K1 of no meaning, or a channel that the group has not, is APS_INVALID and leaves the far request. Timers
not due, and ports of no group, change nothing. Where the manual leaves room, this is the model's reading: log entry
57. -/
def Obligations.ProtectionRows : Prop :=
  ∀ (s : State) (g : BitVec 32),
    let x0 := s.pgroup g.toNat
    let others : State → Prop := fun x => ∀ h, h ≠ g.toNat → x.pgroup h = s.pgroup h
    (s.timers = [] → Answers (.holdoffExpiry g) s (fun x => x = s) ∧ Answers (.protWtrExpiry g) s (fun x => x = s)) ∧
    (∀ ch due, s.timers = [⟨.holdoff g.toNat ch false, due⟩] →
      (s.dev.ticks < due → Answers (.holdoffExpiry g) s (fun x => x = s)) ∧
      (due ≤ s.dev.ticks → Answers (.holdoffExpiry g) s (fun x =>
        x = { s with timers := [], prot := x.prot } ∧ others x ∧
        x.pgroup g.toNat = { x0 with sfUp := if ch ∈ x0.sf ∧ ch ∉ x0.sfUp then x0.sfUp ++ [ch] else x0.sfUp }))) ∧
    (s.timerDue (.protWtr g.toNat) = true → protSource g.toNat < 384 → Answers (.protWtrExpiry g) s (fun x =>
      (∃ y, Noted s y [] ∧ x = { y with
        prot := x.prot, timers := s.timers.filter fun t => decide (t.kind ≠ .protWtr g.toNat) }) ∧ others x ∧
      x.pgroup g.toNat = { x0 with
        lrank := 0, lchan := 0, rank := if x0.farInForce then x0.rank else 0, chan := if x0.farInForce then x0.chan else 0 } ∧
      (x0.farInForce = false → x.raised (protSource g.toNat) 0x81 true))) ∧
    (∀ (p : Port) (k1 k2 : Byte), s.mspOf p = none → Answers (.apsKArrival p k1 k2) s (fun x => x = s)) ∧
    (∀ (p : Port) (k1 k2 : Byte), s.mspOf p = some g.toNat → protSource g.toNat < 384 →
      let bad := (farRequest k1.toNat).isNone || decide (x0.cfg.n < k1.toNat % 16)
      Answers (.apsKArrival p k1 k2) s (fun x =>
        (∃ y, Noted s y [] ∧ x = { y with prot := x.prot }) ∧ others x ∧
        (x.pgroup g.toNat).farK1 = (if bad then x0.farK1 else k1.toNat) ∧ (x.pgroup g.toNat).farK2 = k2.toNat ∧
        (x.pgroup g.toNat).invalid = (x0.invalid || bad) ∧
        x.has ⟨protSource g.toNat, pgIndex g.toNat, eAPS_MODE⟩ = (x.pgroup g.toNat).mode ∧
        (bad = true → x.raised (protSource g.toNat) eAPS_INVALID true)))

/-- R109, R119, R211. At the end of a detection window its defect is declared at the threshold, cleared below an
eighth of it and otherwise left, and the window starts anew. A window that is not full, or disabled, does nothing. -/
def Obligations.DetectionWindows : Prop :=
  ∀ (s : State) (p : Port),
    let decides : Cond → Nat → Nat → State → Prop := fun c t n x =>
      x.decided c = if t ≤ n then true else if 8 * n < t then false else s.decided c
    let kSf := SDH_SF_CFG.key p
    let kSd := SDH_SD_CFG.key p
    let kP := SDH_PATH_BER.key p
    (s.isSdh p = true →
      (s.get kSf SDH_SF_CFG.WINDOW = 0 ∨ (s.sdh p).sf.len < s.get kSf SDH_SF_CFG.WINDOW →
        Answers (.berWindowEnd (.lineSf p)) s (fun x => x = s)) ∧
      (s.get kSf SDH_SF_CFG.WINDOW ≠ 0 → s.get kSf SDH_SF_CFG.WINDOW ≤ (s.sdh p).sf.len →
        Answers (.berWindowEnd (.lineSf p)) s (fun x =>
          (∃ y, OnlyRegs s y [SDH_STATUS.key p] ∧ x = { y with ports := x.ports, arrivals := x.arrivals }) ∧
          x.sdh p = { s.sdh p with sf := {} } ∧ (∀ q, q ≠ p.val → x.port q = s.port q) ∧
          decides (condPort p dEXC_L) (s.get kSf SDH_SF_CFG.THRESH) (s.sdh p).sf.count x)) ∧
      (s.get kSd SDH_SD_CFG.WINDOW ≠ 0 → s.get kSd SDH_SD_CFG.WINDOW ≤ (s.sdh p).sd.len →
        Answers (.berWindowEnd (.lineSd p)) s (fun x =>
          (∃ y, OnlyRegs s y [SDH_STATUS.key p] ∧ x = { y with ports := x.ports, arrivals := x.arrivals }) ∧
          x.sdh p = { s.sdh p with sd := {} } ∧ (∀ q, q ≠ p.val → x.port q = s.port q) ∧
          decides (condPort p dDEG_L) (s.get kSd SDH_SD_CFG.THRESH) (s.sdh p).sd.count x)) ∧
      (∀ head : Fin 192, s.get kP SDH_PATH_BER.WINDOW8 ≠ 0 → s.get kP SDH_PATH_BER.SF_THRESH ≠ 0 →
        s.get kP SDH_PATH_BER.SD_THRESH = 0 →
        8 * s.get kP SDH_PATH_BER.WINDOW8 ≤ (s.path (pathKey p head)).win.len →
        Answers (.berWindowEnd (.path p head)) s (fun x =>
          x = { s with paths := x.paths, arrivals := x.arrivals } ∧ (x.path (pathKey p head)).win = {} ∧
          (∀ k, k ≠ pathKey p head → x.path k = s.path k) ∧
          decides (condPath p head dEXC_P) (s.get kP SDH_PATH_BER.SF_THRESH) (s.path (pathKey p head)).win.count x))) ∧
    (∀ k : TribKey,
      let n := tribNum k.port k.head.toNat k.pos.toNat
      let t := s.trib n
      bitsOf t.cfg.ber 0 10 ≠ 0 → bitsOf t.cfg.ber 10 11 ≠ 0 → bitsOf t.cfg.ber 21 11 = 0 →
      8 * bitsOf t.cfg.ber 0 10 ≤ t.win.len → Answers (.berWindowEnd (.trib k)) s (fun x =>
        x = { s with tribs := x.tribs, arrivals := x.arrivals } ∧ (x.trib n).win = {} ∧
        (∀ j, j ≠ n → x.trib j = s.trib j) ∧
        decides (condTrib k.port k.head.toNat k.pos.toNat dEXC_V) (bitsOf t.cfg.ber 10 11) t.win.count x))

/-! ### The tick, the second, snapshots, entries at a frame (R45, R54, R58, R280, R283, R495) -/

/-- R45, R66, R58. A device in reset, or stopped, has no tick, and a suppressed tick runs no step. Any other tick
first advances the SFN, to the value given for it if one is, and the label by 125,000 ns, and then runs the five steps
in their order over that state. -/
def Obligations.TickRunsFiveSteps : Prop :=
  ∀ s : State,
    (s.answersPackets = false → Answers .sfnTick s (fun x => x = s)) ∧
    (s.answersPackets = true → 0 < s.time.suppress → Answers .sfnTick s (fun x =>
      x = { s with time := { s.time with suppress := s.time.suppress - 1 } })) ∧
    (s.answersPackets = true → s.time.suppress = 0 → s.time.jump = false → Answers .sfnTick s (fun x => ∃ b : State,
      b.time = { s.time with sfn := s.time.nextSfn.getD ((s.time.sfn + 1) % 2 ^ 48), tod := todNext s.time.tod,
                             nextSfn := none } ∧
      b.dev.ticks = s.dev.ticks + 1 ∧ (s.fw.starting = false → b.cal = s.cal ∧ b.prot = s.prot ∧ b.grate = s.grate) ∧
      let y := ((b.step1 s.time.nextSfn.isSome).step2.step3.step4).step5 (s.pm.due.map Prod.fst)
      x = { y with time := { y.time with marker := false } })) ∧
    (s.answersPackets = true → s.time.suppress = 0 → Answers .sfnTick s (fun x => ∃ b : State,
      b.time.sfn = s.time.nextSfn.getD ((s.time.sfn + 1) % 2 ^ 48) ∧ b.dev.ticks = s.dev.ticks + 1 ∧
      let y := ((b.step1 s.time.nextSfn.isSome).step2.step3.step4).step5 (s.pm.due.map Prod.fst)
      x = { y with time := { y.time with marker := false } })) ∧
    todNext (5 * 2 ^ 30 + 999875000) = 6 * 2 ^ 30 ∧ todNext (5 * 2 ^ 30 + 999750000) = 5 * 2 ^ 30 + 999875000

/-- R283, R284. The close of a second, at the tick whose SFN ends it and at no other, shows the position in the bins
and ends SUBSTITUTED; shown where no entity has performance records and no port carries OTN. R280, R282. A snapshot
that is due fills the older buffer of its set under the next SEQ with the time word, the label and the counters at
this moment, and sets SET_VALID. A repeating one reports nothing; another completes. Where the manual leaves room,
this is the model's reading: log entries 25 and 48. -/
def Obligations.SecondsAndSnapshots : Prop :=
  (∀ s : State,
    (s.time.sfn % 8000 ≠ 0 ∨ s.pm.closing = false → Answers .secondClose s (fun x => x = s)) ∧
    (s.time.sfn % 8000 = 0 → s.pm.closing = true → s.pm.recs = [] → (∀ p, p < 96 → s.isOtn p = false) →
      Answers .secondClose s (fun x =>
        (∃ y, Noted s y (SYS_PM_STATUS.key :: (List.range 400).map STK_BANK.key) ∧ x = { y with
          pm := { s.pm with closing := false }, health := { s.health with mapperSubst := [] }
          ports := x.ports, arrivals := x.arrivals }) ∧
        s.arrivals <+: x.arrivals ∧ (∀ p, x.port p = { s.port p with substituted := false }) ∧
        x.get SYS_PM_STATUS.key SYS_PM_STATUS.SECOND = s.time.sfn / 8000 % 900 ∧
        x.get SYS_PM_STATUS.key SYS_PM_STATUS.QUARTER = s.time.sfn / 8000 / 900 % 96))) ∧
  (∀ s : State,
    (s.pm.due = [] → Answers .snapshotExecute s (fun x => x = s)) ∧
    (∀ n p c, s.pm.due = [(n, p, c)] → n < 16 →
      let old := s.snapSet n
      let idle : State := { s with pm := { s.pm with due := [] } }
      let taken : SnapSet := { old with
        older := old.newer, seq := (old.seq + 1) % 65536
        newer := some { seq := (old.seq + 1) % 65536, time := s.timeWord, label := s.time.tod
                        words := old.refs.map idle.snapWord } }
      let holds : State → Prop := fun y => ∃ z, OnlyRegs s z [SYS_SNAP_STATUS.key] ∧ y = { z with pm := y.pm } ∧
        y.pm.due = [] ∧ y.pm.recs = s.pm.recs ∧ y.pm.ctrs = s.pm.ctrs ∧ y.snapSet n = taken ∧
        (∀ j, j ≠ n → y.snapSet j = s.snapSet j) ∧
        (y.get SYS_SNAP_STATUS.key SYS_SNAP_STATUS.SET_VALID).testBit n = true
      (repeats p c = true → Answers .snapshotExecute s holds) ∧
      Answers .snapshotExecute s (fun x => ∃ y, holds y ∧ Reported y x)))

/-- R54, R162, R169. A port frame applies the entries armed for it and no other. Shown for an ALF list whose flip
applies at the frame on a frozen port: the staged list becomes the candidate, and LIST_GEN counts it. R495, R64. An
armed SET_SFN applies in the step 2 of the tick on a second marker, and at no other. A value below the SFN changes
nothing but that it is no longer armed, and so does one equal to it. A value ahead becomes the SFN of the tick, the
second in progress closes, and SFN_JUMP is raised. Shown for an immediate one where nothing else is due. Where the
manual leaves room, this is the model's reading: log entries 28 and 30. -/
def Obligations.EntriesAtPortFrames : Prop :=
  (∀ (s : State) (p : Port),
    (s.portReached p = [] → Answers (.portEntryApply p) s (fun x => x = s)) ∧
    (∀ (e : Entry) (c : Packet), s.cal.entries = [e] → e.key = .port p (s.pfn p) → e.armed = true → e.skipped = false →
      e.notBefore ≤ s.dev.ticks → e.action = .host c → c.opcode = 0x1C → c.fld 0 1 = p.val → s.isAlf p = true →
      s.alfFrozen p = true → s.on (ALF_STATUS.key p) ALF_STATUS.RESIZING = false → s.time.armed = none →
      Answers (.portEntryApply p) s (fun x =>
        Reported { s with cal := { s.cal with entries := [] }, ports := x.ports } x ∧
        (∀ q, q ≠ p.val → x.port q = s.port q) ∧
        x.port p = { s.port p with alf := { s.alf p with
          list := (s.alf p).staged, listGen := ((s.alf p).listGen + 1) % 256 } }))) ∧
  (∀ s : State,
    (s.time.armed = none ∨ s.time.marker = false → Answers .setSfnMarkerApply s (fun x => x = s)) ∧
    (∀ p : Packet, s.time.armed = some (p, none) → s.time.marker = true → s.quiet → s.cmd.immediates = [] →
      s.time.nextSfn = none → 0 < s.dev.ticks → p.opcode = 0x04 → p.payload.length = 8 →
      let v := p.fld 0 6
      (v ≤ s.time.sfn → Answers .setSfnMarkerApply s (fun x =>
        Reported { s with time := { s.time with armed := none } } x)) ∧
      (s.time.sfn < v → (∀ q, q < 96 → s.isOtn q = false) → Answers .setSfnMarkerApply s (fun x =>
        x.time = { s.time with armed := none, sfn := v } ∧ x.raised 257 0x80 true ∧ x.cal = s.cal ∧ x.prot = s.prot ∧
        x.grate = s.grate ∧ x.paths = s.paths ∧ x.odus = s.odus ∧ x.pm.closing = false ∧
        ∀ q, x.port q = { s.port q with substituted := false }))))

/-! ### The claim channel on the pins (R311) -/

/-- R311. A pulse at CLAIM_IN within 5 µs of its moment, whose width is within 0.125 µs of 8 µs + v × 0.375 µs for a v
of 0 to 255 and no more than 103.625 µs, carries v: claim bits [15:8] in a tick of even SFN, [7:0] in the next. A
pulse further from its moment, or wider, carries nothing. With PINS_EN clear no pulse is heard. The fourth pair
without a valid word loses the pin channel; fewer do not. -/
def Obligations.ClaimPins : Prop :=
  ∀ s : State,
    (∀ (e : Int) (w : Nat), s.on CLM_CFG.key CLM_CFG.PINS_EN = false → Answers (.claimInPulse e w) s (fun x => x = s)) ∧
    (s.on CLM_CFG.key CLM_CFG.PINS_EN = true →
      let heard : Option Nat → State → Prop := fun v x => x = { s with pair :=
        if s.time.sfn % 2 = 0 then { s.pair with pinHigh := v } else { s.pair with pinLow := v } }
      (∀ (e : Int) (w v : Nat), v < 256 → e.natAbs ≤ 5000 → w ≤ 103625 → 8000 + 375 * v ≤ w + 125 → w ≤ 8125 + 375 * v →
        Answers (.claimInPulse e w) s (heard (some v))) ∧
      (∀ (e : Int) (w : Nat), 5000 < e.natAbs ∨ 103625 < w ∨ w < 7875 ∨
        (∃ v, 8125 + 375 * v < w ∧ w + 125 < 8375 + 375 * v) → Answers (.claimInPulse e w) s (heard none))) ∧
    (s.pair.pinBad < 4 ∨ s.on CLM_STATUS.key CLM_STATUS.PINS_LOST = true →
      Answers .pinChannelLoss s (fun x => x = s)) ∧
    (4 ≤ s.pair.pinBad → s.on CLM_STATUS.key CLM_STATUS.PINS_LOST = false → Answers .pinChannelLoss s (fun x =>
      Noted s x [CLM_STATUS.key] ∧ x.on CLM_STATUS.key CLM_STATUS.PINS_LOST = true ∧
      (x.get CLM_STATUS.key CLM_STATUS.HIST).testBit 1 = true ∧ x.raised srcPair ePINS_LOST true))

/-! ### Frames of ports and tributaries -/

/-- R42, R452. While the core loop is on bypass, and in reset, the datapath does nothing: no frame, marker, playout or
packet changes any state. -/
def Obligations.DatapathStops : Prop :=
  ∀ s : State, s.dev.coreBypass = true ∨ s.dev.boot = .held →
    let stays : Instr → Prop := fun c => Answers c s (fun x => x = s)
    (∀ p f, stays (.sdhFrameReceive p f)) ∧ (∀ p, stays (.sdhFrameTransmit p)) ∧ (∀ p f, stays (.otuFrameReceive p f)) ∧
    (∀ p, stays (.otuFrameTransmit p)) ∧ (∀ p i l, stays (.dmTimeout p i l)) ∧ (∀ k f, stays (.tuMultiframeReceive k f)) ∧
    (∀ p m, stays (.alfMarkerReceive p m)) ∧ (∀ p f, stays (.alfFrameReceive p f)) ∧
    (∀ p a b c d, stays (.alfAnnounce p a b c d)) ∧ (∀ p c, stays (.alfQuality p c)) ∧ (∀ p i w, stays (.alfIdent p i w)) ∧
    (∀ p, stays (.alfFrameTransmit p)) ∧ (∀ p, stays (.pfnFlywheelBoundary p)) ∧ (∀ g l, stays (.bundlePlayout g l)) ∧
    (∀ g a b l, stays (.hrpPlayout g a b l)) ∧ (∀ p f, stays (.ethFrameReceive p f)) ∧
    (∀ p a b q, stays (.pauseFrameReceive p a b q)) ∧ (∀ p q, stays (.rxPauseExpiry p q)) ∧
    (∀ e n f, stays (.gfpFrameReceive e n f)) ∧ (∀ e n, stays (.gfpFrameTransmit e n)) ∧ (∀ p, stays (.ethEgressTransmit p)) ∧
    (∀ e, stays (.drainEval e)) ∧ (∀ p, stays (.flowControlSend p)) ∧ (∀ p, stays (.pauseRefresh p)) ∧
    (∀ e n, stays (.csfSend e n))

/-- R48, R94 to R96, R102 to R106. A received SDH or SONET frame moves the PFN by 1 and the alignment by Table 04-2:
OOF stands exactly while out of frame, LOF is declared after 24 frames out and clears after 24 in. A frame that began
out of frame counts in OOF_FRAMES and nothing in it is read. One that began in frame counts B1, B2 and REI-L, and its
K1, K2, S1 and J0 are taken. Shown for a port without paths, of no MSP group, with J0_MODE, the DCC queues and the
windows off. Where the manual leaves room, this is the model's reading: log entry 42. -/
def Obligations.SdhFrames : Prop :=
  ∀ (s : State) (p : Port) (f : SdhRx), s.carrying → s.plainPort p → s.isSdh p = true → s.mspOf p = none → s.heads p = [] →
    s.on (SDH_CFG.key p) SDH_CFG.J0_MODE = false → s.on (SDH_CFG.key p) SDH_CFG.DCC_RS_EN = false →
    s.on (SDH_CFG.key p) SDH_CFG.DCC_MS_EN = false → s.get (SDH_SF_CFG.key p) SDH_SF_CFG.WINDOW = 0 →
    s.get (SDH_SD_CFG.key p) SDH_SD_CFG.WINDOW = 0 →
    let o := s.sdh p
    let a := o.align.frame 4 24 f.patternOk
    let bits := s.on (SDH_CFG.key p) SDH_CFG.B_MODE
    let b2 := min (24 * stmLevel (s.rate p)) f.b2
    let rei := if f.m1 ≤ s.reiMax p then f.m1 else 0
    let val : Nat → Nat := fun n => if bits then n else bit (n ≠ 0)
    let aligned : State → Prop := fun x =>
      x.decided (condPort p dOOF) = (if o.align.inFrame || a.inFrame then !a.inFrame else s.decided (condPort p dOOF)) ∧
      x.decided (condPort p dLOF) = (if !a.inFrame && decide (24 ≤ a.oofRun) then true
        else if a.inFrame && decide (24 ≤ a.inRun) then false else s.decided (condPort p dLOF))
    (o.align.inFrame = false → Answers (.sdhFrameReceive p f) s (fun x =>
      PortWork s x p [SDH_STATUS.key p] ∧ aligned x ∧ CountsUp s x p 3 1 ∧
      x.port p = { s.port p with
        pfn := ((s.port p).pfn + 1) % 2 ^ 32, cnts := (x.port p).cnts
        sdh := { o with align := a, lastB2 := 0, sf := { o.sf with len := o.sf.len + 1 }
                        sd := { o.sd with len := o.sd.len + 1 } } })) ∧
    (o.align.inFrame = true → f.paths = [] → Answers (.sdhFrameReceive p f) s (fun x =>
      PortWork s x p [SDH_STATUS.key p, SDH_RX_OH.key p] ∧ aligned x ∧
      CountsUp s x p 0 (val (min 8 f.b1)) ∧ CountsUp s x p 1 (val b2) ∧ CountsUp s x p 2 (val rei) ∧
      x.port p = { s.port p with
        pfn := ((s.port p).pfn + 1) % 2 ^ 32, cnts := (x.port p).cnts
        sdh := { o with
          align := a, k := acceptVal 3 o.k (f.k1.toNat * 256 + f.k2.toNat), s1 := acceptVal 8 o.s1 f.s1.toNat, lastB2 := b2
          ais := runOn o.ais (decide (f.k2.toNat % 8 = 7)), rdi := runOn o.rdi (decide (f.k2.toNat % 8 = 6))
          sf := { len := o.sf.len + 1, count := o.sf.count + b2 }, sd := { len := o.sd.len + 1, count := o.sd.count + b2 } } } ∧
      x.get (SDH_RX_OH.key p) SDH_RX_OH.J0 = f.j0.toNat ∧ x.decided (condPort p dTIM_S) = false ∧
      (∀ v, (x.sdh p).s1.accepted = some v → v < 256 → x.get (SDH_RX_OH.key p) SDH_RX_OH.S1 = v) ∧
      (∀ v, (x.sdh p).k.accepted = some v → o.k.accepted ≠ some v → v < 65536 →
        x.get (SDH_RX_OH.key p) SDH_RX_OH.K1 = v / 256 ∧ x.get (SDH_RX_OH.key p) SDH_RX_OH.K2 = v % 256 ∧
        .kBytes p (v / 256) (v % 256) ∈ x.arrivals)))

/-- R48, R127 to R131, R138. A received OTU1, OTU2 or OTU2e frame moves the PFN by 1 and the alignment by its 5-frame
rule, with OTU_OOF and OTU_LOF; within an aligned frame the multiframe likewise, with OOM and LOM. At the acquisition
the PFN moves on to the next value whose low byte is the MFAS, with PFN_DISCONTINUITY if that is a move. The FEC
counts are added. A delay measurement without a return in 65,535 frames ends with DM_TIMEOUT. Shown for a port without
ODUs and a frame without monitored layers. Where the manual leaves room, this is the model's reading: log entries 42
and 51. -/
def Obligations.OtnFrames : Prop :=
  ∀ (s : State) (p : Port), s.carrying →
    (∀ f : OtuRx, s.plainPort p → s.isOtn p = true → s.rate p ≠ 3 → s.decided (condPort p dLOL) = false → s.oduList p = [] →
      let o := s.otn p
      let f3 := f3Of (s.rate p)
      let a := o.align.frame 5 f3 f.fasOk
      let n := ((s.port p).pfn + 1) % 2 ^ 32
      let aligned : State → Prop := fun x =>
        x.decided (condPort p dOTU_OOF) = (if o.align.inFrame || a.inFrame then !a.inFrame
          else s.decided (condPort p dOTU_OOF)) ∧
        x.decided (condPort p dOTU_LOF) = (if !a.inFrame && decide (f3 ≤ a.oofRun) then true
          else if a.inFrame && decide (f3 ≤ a.inRun) then false else s.decided (condPort p dOTU_LOF))
      (o.align.inFrame = false → Answers (.otuFrameReceive p f) s (fun x =>
        PortWork s x p [OTN_STATUS.key p] ∧ aligned x ∧
        x.port p = { s.port p with pfn := n, otn := { o with align := a, sm := { o.sm with bei := 0 } } })) ∧
      (o.align.inFrame = true → f.layers = [] →
        let m := o.mf.frame 5 f3 (decide (f.mfas.toNat = (o.mfas + 1) % 256))
        let acquired := m.inFrame && !o.mf.inFrame
        let moved := (n + (f.mfas.toNat + 256 - n % 256) % 256) % 2 ^ 32
        Answers (.otuFrameReceive p f) s (fun x =>
          PortWork s x p [OTN_STATUS.key p] ∧ aligned x ∧
          x.port p = { s.port p with
            pfn := if acquired then moved else n, cnts := (x.port p).cnts
            otn := { o with align := a, mf := m, mfas := f.mfas.toNat
                            psi := if m.inFrame then o.psi.store f.mfas.toNat f.psi.toNat 0 else o.psi } } ∧
          (acquired = true → moved % 256 = f.mfas.toNat ∧ (moved ≠ n → x.raised p ePFN_DISCONTINUITY true)) ∧
          x.decided (condPort p dOOM) = (if o.mf.inFrame || m.inFrame then !m.inFrame else s.decided (condPort p dOOM)) ∧
          x.decided (condPort p dLOM) = (if !m.inFrame && decide (f3 ≤ m.oofRun) then true
            else if m.inFrame && decide (f3 ≤ m.inRun) then false else s.decided (condPort p dLOM)) ∧
          (s.on (OTN_CFG.key p) OTN_CFG.FEC_DEC_DIS = false →
            CountsUp s x p 2 f.corrBits ∧ CountsUp s x p 3 f.uncorr)))) ∧
    (∀ (i : Nat) (l : Fin 7), (s.dm p i l).running = false ∨ (s.dm p i l).frames < 65535 →
      Answers (.dmTimeout p i l) s (fun x => x = s)) ∧
    (∀ (i : Nat) (l : Fin 7), (s.dm p i l).running = true → 65535 ≤ (s.dm p i l).frames →
      Answers (.dmTimeout p i l) s (fun x =>
        (∃ y, Noted s y [] ∧ Reported ({ y with odus := x.odus }.endLong (dmRes p i l)) x) ∧
        x.dm p i l = { s.dm p i l with running := false, timedOut := true } ∧ x.raised p eDM_TIMEOUT true ∧
        (∀ k, k ≠ oduKey p i → x.odu k = s.odu k)))

/-- R204, R208 to R213. A TU multiframe of a configured tributary moves the pointer interpreter, the label, RDI-V,
RFI-V and the error window, and decides LOP-V and AIS-V. Under a server defect only the counts go on; a tributary not
configured takes nothing. Shown with no J2 trace, payload monitor and detection window. -/
def Obligations.TributaryMultiframes : Prop :=
  ∀ (s : State) (k : TribKey) (f : TuRx), s.carrying →
    let n := tribNum k.port k.head.toNat k.pos.toNat
    let t := s.trib n
    let down := s.tribServerDown k.port k.head.toNat k.pos.toNat
    let c : Nat → Cond := fun d => condTrib k.port k.head.toNat k.pos.toNat d
    (t.cfg.ttype = 0 → Answers (.tuMultiframeReceive k f) s (fun x => x = s)) ∧
    (t.cfg.ttype ≠ 0 → down = true → Answers (.tuMultiframeReceive k f) s (fun x => x = { s with pm := x.pm })) ∧
    (t.cfg.ttype ≠ 0 → down = false → t.cfg.flags = 0 → bitsOf t.cfg.ber 0 10 = 0 →
      Answers (.tuMultiframeReceive k f) s (fun x =>
        x = { s with tribs := x.tribs, pm := x.pm, arrivals := x.arrivals } ∧ s.arrivals <+: x.arrivals ∧
        (∀ j, j ≠ n → x.trib j = s.trib j) ∧ (x.trib n).cfg = t.cfg ∧
        (x.trib n).ptr = t.ptr.frame (tuTop t.cfg.ttype) f.pointer.toNat ∧
        (x.trib n).label = acceptVal 5 t.label (bitsOf f.v5.toNat 1 3) ∧
        (x.trib n).rdi = runOn t.rdi (f.v5.toNat.testBit 0) ∧ (x.trib n).rfi = runOn t.rfi (f.v5.toNat.testBit 4) ∧
        (x.trib n).win = { len := t.win.len + 1, count := t.win.count + bit f.bipBad } ∧
        x.decided (c dLOP_V) = (decide ((x.trib n).ptr.state = .lop) && (x.trib n).ptr.settled) ∧
        x.decided (c dAIS_V) = (decide ((x.trib n).ptr.state = .ais) || (x.trib n).label.accepted == some 7)))

/-- R104 to R108, R133, R156, R162. A squelched port sends nothing but keeps its frame count. An SDH or SONET port
sends K1 and K2 of SDH_TX_OH with K2[2:0] 0b111 for AIS-L and 0b110 for RDI-L, the REI-L of the last frame, S1, and
the DCC bytes or 0x7E. An OTU port sends the next MFAS, and in SM its TTI byte, BEI and BDI. An ALF port sends its PFN
and at most four control words, new replies first. Shown without paths, ODUs and tributaries, and with K_SRC and
S1_SRC 1. Where the manual leaves room, this is the model's reading: log entries 49 and 50. -/
def Obligations.FramesSent : Prop :=
  ∀ (s : State) (p : Port), s.carrying →
    (s.isSdh p = true → s.silent p = true → Answers (.sdhFrameTransmit p) s (fun x =>
      x = { s with ports := x.ports } ∧ (∀ q, q ≠ p.val → x.port q = s.port q) ∧
      x.port p = { s.port p with sdh := { s.sdh p with
        txSquelched := true, txCount := ((s.sdh p).txCount + 1) % 64 } })) ∧
    (s.isSdh p = true → s.silent p = false → s.heads p = [] → s.tribs = [] → s.mspOf p = none →
      s.get (SDH_TX_OH.key p) SDH_TX_OH.K_SRC = 1 → s.get (SDH_TX_OH.key p) SDH_TX_OH.S1_SRC = 1 →
      let o := s.sdh p
      let k2 := s.get (SDH_TX_OH.key p) SDH_TX_OH.K2_TX
      let rs := s.on (SDH_CFG.key p) SDH_CFG.DCC_RS_EN
      let ms := s.on (SDH_CFG.key p) SDH_CFG.DCC_MS_EN
      Answers (.sdhFrameTransmit p) s (fun x =>
        x = { s with ports := x.ports } ∧ (∀ q, q ≠ p.val → x.port q = s.port q) ∧
        x.port p = { s.port p with sdh := { o with
          txCount := (o.txCount + 1) % 64, txJ0 := s.j0Sent p, txK1 := s.get (SDH_TX_OH.key p) SDH_TX_OH.K1_TX
          txK2 := k2 / 8 * 8 + (if s.lineAisSent p then 7 else if s.lineRdi p then 6 else k2 % 8)
          txS1 := s.get (SDH_TX_OH.key p) SDH_TX_OH.S1_TX
          txM := if s.reiOff p then 0 else min (s.reiMax p) o.lastB2
          txRs := ((if rs then o.rsTx else []) ++ List.replicate 3 0x7E).take 3
          rsTx := if rs then o.rsTx.drop 3 else o.rsTx
          txMs := ((if ms then o.msTx else []) ++ List.replicate 9 0x7E).take 9
          msTx := if ms then o.msTx.drop 9 else o.msTx
          txAis := s.lineAisSent p, txSquelched := false } })) ∧
    (s.isOtn p = true → s.silent p = false → s.oduList p = [] →
      let o := s.otn p
      let m := (o.txMfas + 1) % 256
      Answers (.otuFrameTransmit p) s (fun x =>
        x = { s with ports := x.ports } ∧ (∀ q, q ≠ p.val → x.port q = s.port q) ∧
        x.port p = { s.port p with otn := { o with
          txMfas := m, txPsi := 0, txAis := (x.otn p).txAis, txSquelched := false
          sm := { o.sm with
            txTti := (o.smTx.getD (m % 64) 0).toNat
            txStatus := (if s.reiOff p then 0 else min 8 o.sm.bei) * 16 + bit (s.smBdi p) * 8 } } })) ∧
    (s.isOtn p = true → s.silent p = true → Answers (.otuFrameTransmit p) s (fun x =>
      x = { s with ports := x.ports } ∧ (∀ q, q ≠ p.val → x.port q = s.port q) ∧
      x.port p = { s.port p with otn := { s.otn p with
        txMfas := ((s.otn p).txMfas + 1) % 256, txSquelched := true } })) ∧
    (s.isAlf p = true → s.tribs = [] → Answers (.alfFrameTransmit p) s (fun x =>
      x = { s with ports := x.ports } ∧ (∀ q, q ≠ p.val → x.port q = s.port q) ∧
      (x.alf p).lastTxPfn = (s.port p).pfn ∧ (x.alf p).lastTxProfile = s.alfProfile p ∧
      (x.alf p).lastTxSilent = s.silent p ∧ (x.alf p).lastTxGen = (s.alf p).listGen ∧
      (x.alf p).sentWords.length ≤ 4 ∧ (s.alf p).firstReplies.take 4 <+: (x.alf p).sentWords ∧
      (x.alf p).firstReplies = (s.alf p).firstReplies.drop 4 ∧ (x.alf p).repeats = [] ∧
      ((s.port p).pfn % 64 = 5 → (x.alf p).lastTxOhc = s.address) ∧
      ((s.port p).pfn % 64 = 6 → (x.alf p).lastTxOhc = p) ∧
      ((s.port p).pfn % 64 = 7 → (x.alf p).lastTxOhc = s.get (ALF_CFG.key p) ALF_CFG.LINK_ID) ∧
      ((s.port p).pfn % 64 = 2 → (s.alf p).anns = [] → (x.alf p).lastTxOhc = 0xF000)))

/-! ### ALF ports (R157 to R174, R387) -/

/-- R48, R163, R167, R173, R174. A marker of lane 0 with the next PFN makes the next frame and carries the modem's
profile; the eighth in a row ends LOAF. A marker of another PFN is a candidate, taken with PFN_DISCONTINUITY when the
next confirms it; one whose check fails is counted; those of other lanes move nothing. A boundary of local timing
moves the PFN, and the 24th without a marker declares LOAF. A resize at its frame puts its profile in force; AIS of
restored tributaries ends from N + 2. Where the manual leaves room, this is the model's reading: log entry 43. -/
def Obligations.AlfMarkers : Prop :=
  ∀ (s : State) (p : Port), s.carrying →
    let o := s.alf p
    let still := s.plainPort p ∧ s.bondOf p = none ∧ o.resizeAt = none ∧ o.restoring = [] ∧ s.alfFrozen p = false
    let onePort : PortSt → State → Prop := fun v x =>
      x = { s with ports := x.ports } ∧ (∀ q, q ≠ p.val → x.port q = s.port q) ∧ x.port p = v
    (s.isAlf p = true →
      (∀ m : Marker, m.lane ≠ 0 → Answers (.alfMarkerReceive p m) s (fun x => x = s)) ∧
      (∀ m : Marker, m.lane = 0 → m.checkOk = false → Answers (.alfMarkerReceive p m) s (fun x =>
        CountsUp s x p 2 1 ∧ onePort { s.port p with cnts := (x.port p).cnts } x)) ∧
      (∀ m : Marker, m.lane = 0 → m.checkOk = true → m.pfn.toNat ≠ ((s.port p).pfn + 1) % 2 ^ 32 →
        o.candidate ≠ some ((m.pfn.toNat + 2 ^ 32 - 1) % 2 ^ 32) → Answers (.alfMarkerReceive p m) s
          (onePort { s.port p with alf := { o with candidate := some m.pfn.toNat } })) ∧
      (∀ m : Marker, still → m.lane = 0 → m.checkOk = true →
        let v := { s.port p with
          pfn := m.pfn.toNat
          alf := { o with candidate := none, missed := 0, goodMarkers := min 8 (o.goodMarkers + 1),
                          modemProfile := m.profile } }
        let next := m.pfn.toNat = ((s.port p).pfn + 1) % 2 ^ 32
        (next → s.decided (condPort p dLOAF) = false → Answers (.alfMarkerReceive p m) s (onePort v)) ∧
        (¬ next → o.candidate = some ((m.pfn.toNat + 2 ^ 32 - 1) % 2 ^ 32) → s.decided (condPort p dLOAF) = false →
          Answers (.alfMarkerReceive p m) s (fun x =>
            PortWork s x p [] ∧ x.port p = v ∧ x.raised p ePFN_DISCONTINUITY true)) ∧
        (next → s.decided (condPort p dLOAF) = true → 7 ≤ o.goodMarkers → Answers (.alfMarkerReceive p m) s (fun x =>
          PortWork s x p [ALF_STATUS.key p] ∧ x.decided (condPort p dLOAF) = false ∧ (x.port p).pfn = m.pfn.toNat ∧
          x.alfProfile p = m.profile % 2 ^ ALF_STATUS.PROFILE.width)))) ∧
    (s.countsFrames p = false → Answers (.pfnFlywheelBoundary p) s (fun x => x = s)) ∧
    (s.isSdh p = true ∨ s.isOtn p = true → s.plainPort p → Answers (.pfnFlywheelBoundary p) s
      (onePort { s.port p with pfn := ((s.port p).pfn + 1) % 2 ^ 32 })) ∧
    (s.isAlf p = true → still → Answers (.pfnFlywheelBoundary p) s (fun x =>
      PortWork s x p [ALF_STATUS.key p] ∧
      x.port p = { s.port p with
        pfn := ((s.port p).pfn + 1) % 2 ^ 32, alf := { o with missed := min 24 (o.missed + 1), goodMarkers := 0 } } ∧
      x.decided (condPort p dLOAF) = (decide (23 ≤ o.missed) || s.decided (condPort p dLOAF)))) ∧
    (s.portReached p = [] → Answers (.alfResizeApply p) s (fun x => x = s)) ∧
    (∀ (e : Entry) (k id : Nat), s.isAlf p = true → s.cal.entries = [e] → e.key = .port p (s.pfn p) → e.armed = true →
      e.notBefore ≤ s.dev.ticks → e.action = .alfResize p k id → s.alfFrozen p = false →
      s.on (ALF_STATUS.key p) ALF_STATUS.RESIZING = false → s.time.armed = none → Answers (.alfResizeApply p) s (fun x =>
        PortWork { s with cal := { s.cal with entries := [] } } x p [ALF_STATUS.key p] ∧
        x.alfProfile p = k % 2 ^ ALF_STATUS.PROFILE.width ∧ x.on (ALF_STATUS.key p) ALF_STATUS.RESIZING = true ∧
        (x.alf p).resizeAt = some (s.pfn p) ∧ (x.alf p).oldMap = s.alfUse p ∧
        (x.alf p).anns = o.anns.filter fun a => decide (a.annId ≠ id))) ∧
    (o.restoring = [] ∨ atOrBeyond (s.pfn p) o.restoreUntil = false → Answers (.alfRestoreAisEnd p) s (fun x => x = s)) ∧
    (atOrBeyond (s.pfn p) o.restoreUntil = true → Answers (.alfRestoreAisEnd p) s
      (onePort { s.port p with alf := { o with restoring := [] } }))

/-- R168, R169, R171, R172, R174. On a started ALF port that nothing holds: a frame that passes with the expected PFN
is accepted, counted, and ends the errored run; the eighth in a row ends AFE. A repeat changes nothing but the block
count. Any other frame is errored: it advances SEQ and the run, and the 17th declares AFE. The digest of MFI 0 that
agrees makes the map the agreed one; one that differs, or a frame that says the far end is frozen, freezes the port.
Shown for a port of no group. Where the manual leaves room, this is the model's reading: log entries 16 and 17. -/
def Obligations.AlfFrames : Prop :=
  ∀ (s : State) (p : Port) (f : AlfRx), s.carrying → s.isAlf p = true → s.bondOf p = none → s.hrpOf p = none →
    s.alfHeld p = false → s.alfFrozen p = false → (s.alf p).started = true → (s.alf p).resizeAt = none →
    let o := s.alf p
    let e := (o.lastSeq + 1) % 2 ^ 32
    let unit := CVU_P.key (4 * s.physOf (framerPos p) + p % 4)
    let st := ALF_STATUS.key p
    let n := min 17 (s.get st ALF_STATUS.ERR_RUN + 1)
    let taken : State → Prop := fun x =>
      PortWork s x p [st, ALF_DIGEST_RX.key p] ∧ (x.alf p).lastSeq = e ∧ CountsUp s x p 2 f.invalidBlocks ∧
      CountsUp s x p 3 1 ∧ x.get st ALF_STATUS.ERR_RUN = 0 ∧ (x.alf p).accRun = min 8 (o.accRun + 1) ∧
      (x.alf p).rdi = runOn o.rdi (f.flags.toNat.testBit 15) ∧
      x.decided (condPort p dAFE) = (if 7 ≤ o.accRun then false else s.decided (condPort p dAFE))
    let frozen : Nat → State → Prop := fun cause x =>
      x.alfFrozen p = true ∧ x.get st ALF_STATUS.CAUSE = cause ∧ x.decided (condPort p dMAP_MISMATCH) = true ∧
      (x.alf p).agreed.isSome
    (f.present = true → f.okExpected = true →
      (e % 64 ≠ 0 → f.flags.toNat.testBit 14 = false → Answers (.alfFrameReceive p f) s (fun x =>
        taken x ∧ x.alfFrozen p = false)) ∧
      (e % 64 = 0 → f.flags.toNat.testBit 14 = false → (s.alfUse p).digest = f.ohc.toNat →
        Answers (.alfFrameReceive p f) s (fun x =>
          taken x ∧ x.alfFrozen p = false ∧ (x.alf p).agreed = some (s.alfUse p) ∧
          x.get (ALF_DIGEST_RX.key p) ALF_DIGEST_RX.D_USE = f.ohc.toNat)) ∧
      (e % 64 = 0 → f.flags.toNat.testBit 14 = false → (s.alfUse p).digest ≠ f.ohc.toNat →
        Answers (.alfFrameReceive p f) s (fun x => taken x ∧ frozen 0 x)) ∧
      (e % 64 ≠ 0 → f.flags.toNat.testBit 14 = true → Answers (.alfFrameReceive p f) s (fun x =>
        taken x ∧ frozen 1 x))) ∧
    (alfTake e f = .duplicate → Answers (.alfFrameReceive p f) s (fun x =>
      PortWork s x p [unit] ∧ CountsUp s x p 2 f.invalidBlocks ∧
      x.port p = { s.port p with cnts := (x.port p).cnts })) ∧
    (alfTake e f = .errored → Answers (.alfFrameReceive p f) s (fun x =>
      PortWork s x p [st, unit] ∧ CountsUp s x p 0 1 ∧ CountsUp s x p 2 f.invalidBlocks ∧ (x.alf p).lastSeq = e ∧
      (x.alf p).accRun = 0 ∧ x.get st ALF_STATUS.ERR_RUN = n ∧
      x.decided (condPort p dAFE) = (decide (n = 17) || s.decided (condPort p dAFE))))

/-- R161, R162, R387 and Table 06-7. QUALITY is shown; four IDENT words make an identity, which is the partner's once
two sets agree, with PARTNER_CHANGE if it is another. An announcement seen before is answered again. One that fails a
check is refused with its outcome and makes no entry; one accepted makes a calendar entry keyed to its frame. Where
the manual leaves room, this is the model's reading: log entry 44. -/
def Obligations.AlfOverhead : Prop :=
  ∀ (s : State) (p : Port), s.carrying → s.isAlf p = true → s.hrpOf p = none →
    let o := s.alf p
    let onePort : State → Prop := fun x =>
      x = { s with regs := x.regs, ports := x.ports, cal := x.cal } ∧ ∀ q, q ≠ p.val → x.port q = s.port q
    (∀ c : BitVec 40, Answers (.alfQuality p c) s (fun x => OnlyRegs s x [ALF_QUALITY.key p] ∧
      x.get (ALF_QUALITY.key p) ALF_QUALITY.SNR = c.toNat / 2 ^ 32 ∧
      x.get (ALF_QUALITY.key p) ALF_QUALITY.MOD = c.toNat / 2 ^ 24 % 256 ∧
      x.get (ALF_QUALITY.key p) ALF_QUALITY.RSL = c.toNat / 2 ^ 16 % 256)) ∧
    (∀ (i : Fin 4) (w : Word),
      let parts := o.identParts.put i w.toNat
      let id := identOf parts
      (parts.length < 4 → Answers (.alfIdent p i w) s (fun x => onePort x ∧ x.cal = s.cal ∧ x.regs = s.regs ∧
        x.port p = { s.port p with alf := { o with identParts := parts } })) ∧
      (4 ≤ parts.length → Answers (.alfIdent p i w) s (fun x => PortWork s x p [] ∧
        x.port p = { s.port p with alf := { o with
          identParts := [], identLast := some id, partner := if o.identLast = some id then some id else o.partner } } ∧
        (o.identLast = some id → o.partner ≠ some id → x.raised p ePARTNER_CHANGE true)))) ∧
    (∀ (k id : Fin 16) (eff frame : BitVec 32),
      let lead := (eff.toNat + 2 ^ 32 - frame.toNat) % 2 ^ 32
      let known := o.answered.find? fun a => decide (a.1 = k.val * 16 + id ∧ a.2.1 = eff.toNat)
      let full := 4 ≤ o.anns.length ∨ calCapacity ≤ s.cal.entries.length
      let word : Nat → CtlWord := fun code => annReply code k id eff.toNat
      let shown : Nat → State → Prop := fun outcome x =>
        x.get (ALF_ANN.key p) ALF_ANN.OUTCOME = outcome ∧ x.get (ALF_ANN.key p) ALF_ANN.PROFILE = k ∧
        x.get (ALF_ANN.key p) ALF_ANN.ANN_ID = id ∧ x.get (ALF_ANN_PFN.key p) ALF_ANN_PFN.EFF_PFN = eff.toNat
      let refused : Nat → Prop := fun outcome => Answers (.alfAnnounce p k id eff frame) s (fun x =>
        onePort x ∧ x.cal = s.cal ∧ shown outcome x ∧ (x.alf p).firstReplies = o.firstReplies ++ [word 0x83] ∧
        (x.alf p).anns = o.anns)
      (∀ a, known = some a → Answers (.alfAnnounce p k id eff frame) s (fun x =>
        onePort x ∧ x.cal = s.cal ∧ x.regs = s.regs ∧
        x.port p = { s.port p with alf := { o with repeats := o.repeats ++ [annReply a.2.2.1 k id a.2.2.2] } })) ∧
      (known = none → s.alfFrozen p = true → refused 4) ∧
      (known = none → s.alfFrozen p = false → s.alfValid p k = false → refused 3) ∧
      (known = none → s.alfFrozen p = false → s.alfValid p k = true → lead < 8 ∨ 4095 < lead → refused 2) ∧
      (known = none → s.alfFrozen p = false → s.alfValid p k = true → 8 ≤ lead → lead ≤ 4095 → full → refused 5) ∧
      (known = none → s.alfFrozen p = false → s.alfValid p k = true → 8 ≤ lead → lead ≤ 4095 → ¬ full →
        (∀ a ∈ o.anns, a.eff ≠ eff.toNat) →
        (s.alfPendingFrames p).contains ((eff.toNat + 2 ^ 32 - 1) % 2 ^ 32) = false → s.alfSecond p eff.toNat = false →
        Answers (.alfAnnounce p k id eff frame) s (fun x =>
          onePort x ∧ shown 0 x ∧ (x.alf p).firstReplies = o.firstReplies ++ [word 0x81] ∧
          (x.alf p).anns = o.anns ++ [⟨k, id, eff.toNat, s.cal.nextCreation⟩] ∧
          x.cal = { entries := s.cal.entries ++ [{ creation := s.cal.nextCreation, key := .port p eff.toNat,
                                                   action := .alfResize p k id }]
                    nextCreation := s.cal.nextCreation + 1 })))

/-! ### Bundles and hitless radio protection (R182 to R193) -/

/-- R182 with its example. A member's return hold that has run sets its bit of ACT; before that nothing happens. R183,
R186, R188: the played-out frame takes ACT, the profiles and RX_OK of its control block, and its capacity is the sum
of each active member's blocks less one; without a share that passes the frame is errored. R192: the main copy is
selected unless MODE or its frame says otherwise, with an event at a change. A group that is off does nothing. Where
the manual leaves room, this is the model's reading: log entry 19. -/
def Obligations.BondingRows : Prop :=
  bndDeal [3, 1] = [0, 0, 1, 0] ∧ (bndDeal [7200, 3600]).take 3 = [0, 1, 0] ∧
  ∀ s : State,
    (∀ (g : Fin 12) (m : Fin 8),
      (s.timerDue (.rejoin g m) = false → Answers (.rejoinWtrExpiry g m) s (fun x => x = s)) ∧
      (s.timerDue (.rejoin g m) = true → Answers (.rejoinWtrExpiry g m) s (fun x =>
        x = { s with bonds := x.bonds, timers := s.timers.filter fun t => decide (t.kind ≠ .rejoin g m) } ∧
        (∀ j, j ≠ g.val → x.bond j = s.bond j) ∧ (x.bond g).actTx.testBit m = true ∧
        x.bond g = { s.bond g with actTx := (x.bond g).actTx } ∧
        ∀ i, i ≠ m.val → (x.bond g).actTx.testBit i = (s.bond g).actTx.testBit i))) ∧
    (s.carrying → ∀ g : Fin 12,
      let lagOf : State → Nat → Nat → Prop := fun x lag m =>
        x.get (BND_LAG.key g) BND_LAG.LAG = lag ∧ x.get (BND_LAG.key g) BND_LAG.MEMBER = m
      (∀ l, s.bondOn g = false → Answers (.bundlePlayout g l) s (fun x => x = s)) ∧
      (s.bondOn g = true → Answers (.bundlePlayout g []) s (fun x =>
        (∃ y, OnlyRegs s y [BND_LAG.key g] ∧ x = { y with pm := x.pm }) ∧ lagOf x 0 0)) ∧
      (∀ b : BcbRx, s.bondOn g = true → (s.bondMembers g).any (fun e => decide (e.1 = b.member.val)) = true →
        b.frameOk = true → b.checkOk = true → b.onTime = true → Answers (.bundlePlayout g [b]) s (fun x =>
          (∃ y, OnlyRegs s y [BND_STATUS.key g, BND_CAP.key g, BND_LAG.key g] ∧
            x = { y with bonds := x.bonds, ports := x.ports, arrivals := x.arrivals, pm := x.pm }) ∧
          (∀ j, j ≠ g.val → x.bond j = s.bond j) ∧ lagOf x (min 8191 b.lagUs) (if b.lagUs = 0 then 0 else b.member.val) ∧
          (x.bond g).actRx = b.act.toNat ∧ (x.bond g).profilesRx = b.profiles.toNat ∧ (x.bond g).farLast = b.rxOk.toNat ∧
          x.get (BND_STATUS.key g) BND_STATUS.ACT_RX = b.act.toNat ∧
          ((s.bond g).farLast = b.rxOk.toNat → x.get (BND_STATUS.key g) BND_STATUS.FAR_RX_OK = b.rxOk.toNat) ∧
          x.get (BND_CAP.key g) BND_CAP.BLOCKS = ((s.bondMembers g).map fun e =>
            if b.act.toNat.testBit e.1 then s.alfBlocks e.2 (profileOf b.profiles.toNat e.1) - 1 else 0).sum %
              2 ^ BND_CAP.BLOCKS.width ∧
          (b.act ≠ 0 → x.decided (condBond g dBUNDLE_DOWN) = false) ∧
          (b.listGen.toNat = ((s.bond g).genRx + 1) % 256 → (x.bond g).list = (s.bond g).stagedList)))) ∧
    (s.carrying → ∀ (g : Fin 24) (main other : Option Bool) (lag : Int),
      let k := HRP_STATUS.key g
      let mode := s.get k HRP_STATUS.MODE
      let sel := if mode = 1 then false else if mode = 2 then true else !(main.getD false) && other.getD false
      (s.hrpOn g = false → Answers (.hrpPlayout g main other lag) s (fun x => x = s)) ∧
      (s.hrpOn g = true → Answers (.hrpPlayout g main other lag) s (fun x =>
        (∃ y, Noted s y [k] ∧ x = { y with hrps := x.hrps, pm := x.pm }) ∧
        (∀ j, j ≠ g.val → x.hrp j = s.hrp j) ∧ x.hrp g = { s.hrp g with played := (s.hrp g).played + 1 } ∧
        x.on k HRP_STATUS.SEL_OTHER = sel ∧
        (s.on k HRP_STATUS.SEL_OTHER ≠ sel → x.raised (srcHrp g) 0x80 true) ∧
        (main.isSome → other.isSome → x.get k HRP_STATUS.HRP_LAG = twos 9 lag))))

/-! ### Ethernet ports, flows and channels (R226 to R237) -/

/-- R230, R231, R236, R237. A received Ethernet frame is counted and, by its VLAN entry, joins its flow's queue, or is
discarded: by no entry, outside 64 to MTU bytes, or beyond QUOTA. The first egress frame whose priority is not held is
sent. PAUSE and PFC hold each priority they name for its time, a time of 0 releases it, and its end does. Flow control
is sent when the pause state has changed, and again while it lasts. -/
def Obligations.EthernetRows : Prop :=
  ∀ (s : State) (p : Port), s.carrying →
    let o := s.eth p
    let unit := CVU_P.key (4 * s.physOf (framerPos p) + p % 4)
    let onePort : EthSt → State → Prop := fun v x =>
      (∀ q, q ≠ p.val → x.port q = s.port q) ∧ x.port p = { s.port p with cnts := (x.port p).cnts, eth := v }
    let free : BufFrame → Bool := fun b => (o.held.find b.prio).isNone
    (s.isEth p = false → Answers (.ethEgressTransmit p) s (fun x => x = s) ∧ Answers (.flowControlSend p) s (fun x => x = s) ∧
      ∀ f, Answers (.ethFrameReceive p f) s (fun x => x = s)) ∧
    (s.isEth p = true → ∀ f : EthFrame,
      let cls := s.frameClass p f
      let entry := s.vlans.find (vlanKey p cls.1)
      let counted : State → Prop := fun x =>
        (∃ y, OnlyRegs s y [unit] ∧ x = { y with ports := x.ports, pm := x.pm, flows := x.flows, chans := x.chans }) ∧
        onePort o x ∧ CountsUp s x p 1 1 ∧ CountsUp s x p 3 (bit !f.fcsOk)
      (entry = none → Answers (.ethFrameReceive p f) s (fun x => counted x ∧ x.flows = s.flows ∧ x.chans = s.chans)) ∧
      (∀ v, entry = some v → v % 256 < 64 → (s.flow (engKey (v / 256) (v % 256))).cfg.chKind ≠ 0 →
        let k := engKey (v / 256) (v % 256)
        let fl := s.flow k
        let fits := 64 ≤ f.bytes ∧ f.bytes ≤ s.mtu p ∧ queuedBytes fl.queue + f.bytes ≤ fl.cfg.quota * packetPage
        (fits → Answers (.ethFrameReceive p f) s (fun x =>
          counted x ∧ (∀ j, j ≠ k → x.flow j = s.flow j) ∧
          x.flow k = { fl with queue := fl.queue ++
            [{ bytes := f.bytes, prio := cls.2, tick := s.dev.ticks, fcsOk := f.fcsOk }] })) ∧
        (¬ fits → Answers (.ethFrameReceive p f) s (fun x => counted x ∧ x.flows = s.flows)))) ∧
    (o.egress.any free = false → Answers (.ethEgressTransmit p) s (fun x => x = s)) ∧
    (s.isEth p = true → o.egress.any free = true → Answers (.ethEgressTransmit p) s (fun x =>
      x = { s with ports := x.ports } ∧ onePort { o with egress := o.egress.eraseP free } x ∧ CountsUp s x p 2 1)) ∧
    (s.isEth p = false ∨ s.on (ETH_CFG.key p) ETH_CFG.RX_FC_EN = false → ∀ pfc en q,
      Answers (.pauseFrameReceive p pfc en q) s (fun x => x = s)) ∧
    (s.isEth p = true → s.on (ETH_CFG.key p) ETH_CFG.RX_FC_EN = true → ∀ (pfc : Bool) (en : Byte) (q : List (BitVec 16)),
      Answers (.pauseFrameReceive p pfc en q) s (fun x =>
        (∃ y, OnlyRegs s y [ETH_STATUS.key p] ∧ x = { y with ports := x.ports }) ∧
        onePort { o with held := (x.eth p).held } x ∧
        ∀ i, i < 8 →
          let t := (q.getD (if pfc then i else 0) 0).toNat
          (x.eth p).held.find i = if !pfc || en.toNat.testBit i then (if t = 0 then none else some t) else o.held.find i)) ∧
    (∀ i : Fin 8, o.held.find i = none → Answers (.rxPauseExpiry p i) s (fun x => x = s)) ∧
    (∀ i : Fin 8, o.held.find i ≠ none → Answers (.rxPauseExpiry p i) s (fun x =>
      (∃ y, OnlyRegs s y [ETH_STATUS.key p] ∧ x = { y with ports := x.ports }) ∧
      onePort { o with held := (x.eth p).held } x ∧ (x.eth p).held.find i = none ∧
      ∀ j, j ≠ i.val → (x.eth p).held.find j = o.held.find j)) ∧
    (s.pauseWant p = o.sentPause → Answers (.flowControlSend p) s (fun x => x = s)) ∧
    (s.isEth p = true → s.pauseWant p ≠ o.sentPause → Answers (.flowControlSend p) s (fun x =>
      (∃ y, OnlyRegs s y [ETH_STATUS.key p] ∧ x = { y with ports := x.ports }) ∧
      onePort { o with sentPause := s.pauseWant p, fcSent := o.fcSent + 1, lastFc := s.pauseWant p } x ∧
      x.get (ETH_STATUS.key p) ETH_STATUS.TX_PAUSED = s.pauseWant p % 2 ^ ETH_STATUS.TX_PAUSED.width)) ∧
    (o.sentPause = 0 → Answers (.pauseRefresh p) s (fun x => x = s)) ∧
    (o.sentPause ≠ 0 → Answers (.pauseRefresh p) s (fun x =>
      x = { s with ports := x.ports } ∧ onePort { o with fcSent := o.fcSent + 1, lastFc := o.sentPause } x))

/-- R226, R227, R232, R233. A channel reaches SYNC by two correct headers in a row and leaves it by an uncorrectable
one. In SYNC a good frame enters its port's egress queue, a CSF declares GFP_CSF, and another frame is discarded. A
channel sends the head frame of the flow whose turn it is, or an idle frame. Each priority is paused at XOFF_US of
drain time, or at rate 0, and released below XON_US. A CSF is sent every 100 ms for a port that has failed. R229. The
end of HOLDOFF takes a failed member out of use, and the end of LCAS_WTR brings a recovered one back, each with
LCAS_CHANGE, and PLCR is judged by the members in use. A timer that is not due does nothing. Where the manual leaves
room, this is the model's reading: log entries 54 and 72. -/
def Obligations.ChannelRows : Prop :=
  (∀ (s : State) (e : Fin 8) (n : Fin 64), s.carrying →
    let k := engKey e n
    let o := s.chan k
    let others : State → Prop := fun x => ∀ j, j ≠ k → x.chan j = s.chan j
    (o.kind = 0 → (∀ f, Answers (.gfpFrameReceive e n f) s (fun x => x = s)) ∧
      Answers (.gfpFrameTransmit e n) s (fun x => x = s)) ∧
    (o.kind ≠ 0 → ∀ f : GfpRx,
      let sync : Nat → State → Prop := fun v x => others x ∧ x.chan k = { o with sync := v }
      let inSync := (o.sync = 1 ∧ f.chec = 0) ∨ (o.sync = 2 ∧ f.chec ≠ 2)
      (o.sync = 0 → Answers (.gfpFrameReceive e n f) s (fun x =>
        x = { s with chans := x.chans } ∧ sync (if f.chec = 0 then 1 else 0) x)) ∧
      (o.sync = 1 → f.chec ≠ 0 → Answers (.gfpFrameReceive e n f) s (fun x => x = { s with chans := x.chans } ∧ sync 0 x)) ∧
      (o.sync = 2 → f.chec = 2 → Answers (.gfpFrameReceive e n f) s (fun x => x = { s with chans := x.chans } ∧ sync 0 x)) ∧
      (inSync → s.gfpFlow e n f.cid = none → Answers (.gfpFrameReceive e n f) s (fun x =>
        x = { s with chans := x.chans, pm := x.pm } ∧ sync 2 x)) ∧
      (∀ i, inSync → s.gfpFlow e n f.cid = some i →
        let cfg := (s.flow (engKey e i)).cfg
        let good := f.theOk = true ∧ f.csf = false ∧ f.errored = false ∧ (cfg.flags.testBit 1 = true → f.pfcsOk = true) ∧
          64 ≤ f.bytes ∧ f.bytes ≤ s.mtu cfg.ethPort ∧
          queuedBytes (s.eth cfg.ethPort).egress + f.bytes ≤ (s.eth cfg.ethPort).egressQuota * packetPage
        (good → Answers (.gfpFrameReceive e n f) s (fun x =>
          x = { s with chans := x.chans, ports := x.ports, pm := x.pm } ∧ sync 2 x ∧
          (∀ q, q ≠ cfg.ethPort → x.port q = s.port q) ∧
          (x.eth cfg.ethPort).egress = (s.eth cfg.ethPort).egress ++
            [{ bytes := f.bytes, prio := f.priority, tick := s.dev.ticks, fcsOk := f.fcsOk }])) ∧
        (f.theOk = true → f.csf = true → Answers (.gfpFrameReceive e n f) s (fun x =>
          x = { s with chans := x.chans, flows := x.flows, arrivals := x.arrivals } ∧ sync 2 x ∧
          (x.flow (engKey e i)).csfRx = some s.dev.ticks ∧ x.decided (condFlow e i dGFP_CSF) = true)) ∧
        (¬ good → f.theOk = false ∨ f.csf = false → Answers (.gfpFrameReceive e n f) s (fun x =>
          x = { s with chans := x.chans, pm := x.pm } ∧ sync 2 x)))) ∧
    (o.kind ≠ 0 → s.chanRate e n ≠ 0 → (∀ f ∈ s.chanFlows e n, (s.flow (engKey e f)).queue = []) →
      Answers (.gfpFrameTransmit e n) s (fun x =>
        x = { s with chans := x.chans } ∧ others x ∧ x.chan k = { o with idles := o.idles + 1, paused := (x.chan k).paused })) ∧
    (∀ (i : Nat) (b : BufFrame), o.kind ≠ 0 → s.chanRate e n ≠ 0 → s.chanFlows e n = [i] →
      let fl := s.flow (engKey e i)
      fl.queue = [b] → b.prio < 8 → fl.cfg.maxAge = 0 → s.ethFailed fl.cfg.ethPort = false →
      o.turn.getD b.prio 64 = i → b.bytes ≤ fl.deficit.getD b.prio 0 → Answers (.gfpFrameTransmit e n) s (fun x =>
        x = { s with chans := x.chans, flows := x.flows, pm := x.pm } ∧ others x ∧
        x.chan k = { o with sent := o.sent + 1, paused := (x.chan k).paused } ∧
        (x.flow (engKey e i)).queue = [] ∧ (x.flow (engKey e i)).deficit.getD b.prio 0 = 0)) ∧
    Answers (.drainEval e) s (fun x =>
      let rate := s.chanRate e n
      let was : Nat → Bool := fun i => o.paused.testBit i
      let now : Nat → Bool := fun i => (x.chan k).paused.testBit i
      let b : Nat → Nat := fun i => 8000 * s.backlog e n i
      let xoff : Nat → Nat := fun i => s.get (pfcKey e i) PKT_PFC.XOFF_US
      let xon : Nat → Nat := fun i => s.get (pfcKey e i) PKT_PFC.XON_US
      x = { s with chans := x.chans } ∧ x.chan k = { o with paused := (x.chan k).paused } ∧ (o.kind = 0 → x.chan k = o) ∧
      ∀ i, i < 8 → o.kind ≠ 0 →
        (rate = 0 → now i = true) ∧ (rate ≠ 0 → xoff i * rate ≤ b i → now i = true) ∧
        (rate ≠ 0 → xon i < xoff i → b i < xon i * rate → now i = false) ∧
        (rate ≠ 0 → xon i < xoff i → xon i * rate ≤ b i → b i < xoff i * rate → now i = was i)) ∧
    (∀ f : Fin 64,
      let fl := s.flow (engKey e f)
      let failed := s.ethFailed fl.cfg.ethPort
      let due := ∀ t, fl.csfTx = some t → t + 800 ≤ s.dev.ticks
      (fl.cfg.chKind = 0 → Answers (.csfSend e f) s (fun x => x = s)) ∧
      (fl.cfg.chKind ≠ 0 → failed = false → Answers (.csfSend e f) s (fun x =>
        x = { s with flows := x.flows } ∧ (∀ j, j ≠ engKey e f → x.flow j = s.flow j) ∧
        x.flow (engKey e f) = { fl with csfTx := none })) ∧
      (fl.cfg.chKind ≠ 0 → failed = true → ¬ due → Answers (.csfSend e f) s (fun x => x = s)) ∧
      (fl.cfg.chKind ≠ 0 → failed = true → due → Answers (.csfSend e f) s (fun x =>
        (∃ y, Noted s y [] ∧ x = { y with flows := x.flows }) ∧ (∀ j, j ≠ engKey e f → x.flow j = s.flow j) ∧
        x.flow (engKey e f) = { fl with csfTx := some s.dev.ticks, csfSent := fl.csfSent + 1 } ∧
        x.raised (srcEngine e) 0x81 true)))) ∧
  (∀ (s : State) (e : Fin 8) (g : Fin 64) (m : Fin 256),
    let k := engKey e g
    let v := s.vcat k
    let changed : TimerKind → List Nat → State → Prop := fun t use x =>
      (∃ y, Noted s y [] ∧ x = { y with
        vcats := x.vcats, arrivals := x.arrivals, timers := s.timers.filter fun z => decide (z.kind ≠ t) }) ∧
      (∀ j, j ≠ k → x.vcat j = s.vcat j) ∧ x.vcat k = { v with inUse := use } ∧ x.raised (srcEngine e) 0x82 true ∧
      x.decided (condVcat e g dPLCR) = (decide (v.cfg.vtype ≠ 0) && v.cfg.lcas && decide (use.length < v.cfg.members.length))
    (s.timerDue (.lcasHoldoff e g m) = false → Answers (.lcasHoldoffExpiry e g m) s (fun x => x = s)) ∧
    (s.timerDue (.lcasHoldoff e g m) = true → Answers (.lcasHoldoffExpiry e g m) s
      (changed (.lcasHoldoff e g m) (v.inUse.filter fun x => decide (x ≠ m.val)))) ∧
    (s.timerDue (.lcasWtr e g m) = false → Answers (.lcasWtrExpiry e g m) s (fun x => x = s)) ∧
    (s.timerDue (.lcasWtr e g m) = true → Answers (.lcasWtrExpiry e g m) s
      (changed (.lcasWtr e g m) (sortBy id (v.inUse ++ [m.val])))))

/-! ### The grate (R35, R36, R260, R261, R266) -/

/-- R35, R36. A parity error of a slot is noted, and the slot is retired in the next step 1; a slice that fails is
isolated once. R261: a planned move whose target is free, with room in the calendar, gets its three entries at this
tick and the two after; without room it waits, noted. R260: Bridge copies the sources of the old run to the new, Roll
renames every slot of the old run in the egress map, and Release clears the old run's entries, ends the move and frees
it from the next tick. Each runs when its entry is due. R266: the last page to switch resizes the pools, and one
before it only counts. Where the manual leaves room, this is the model's reading: log entry 56. -/
def Obligations.GrateRows : Prop :=
  ∀ s : State,
    (∀ x : Fin 49152, Answers (.slotParityError x) s (fun t =>
      (∃ y, Noted s y [GRT_SLICE_STATUS.key (x.val / 12288)] ∧ t = { y with arrivals := s.arrivals ++ [.retire x] }) ∧
      t.on (GRT_SLICE_STATUS.key (x.val / 12288)) GRT_SLICE_STATUS.PARITY_HIST = true ∧
      t.raised (srcSlice (x.val / 12288)) 0x82 true)) ∧
    (∀ n : Fin 4,
      (n.val ∈ s.grate.isolated → Answers (.sliceFailure n) s (fun x => x = s)) ∧
      (n.val ∉ s.grate.isolated → Answers (.sliceFailure n) s (fun x =>
        (∃ y, Noted s y [GRT_SLICE_STATUS.key n] ∧
          x = { y with grate := { s.grate with isolated := s.grate.isolated ++ [n.val] } }) ∧
        x.on (GRT_SLICE_STATUS.key n) GRT_SLICE_STATUS.ISOLATED = true ∧ x.raised (srcSlice n) 0x81 true)) ∧
      (s.grate.moves = [] → Answers (.moveStart n) s (fun x => x = s)) ∧
      (∀ id m, s.grate.moves = [(id, m)] → m.slice = n → m.start = none → s.targetFree id m = true →
        (s.moveRoom = true → Answers (.moveStart n) s (fun x =>
          let c := s.cal.nextCreation
          let step : Nat → Action → Entry := fun i a => { creation := c + i, key := .sfn (s.time.sfn + i), action := a }
          ∃ y, OnlyRegs s y [CAL_STATUS.key] ∧ x = { y with
            grate := { s.grate with moves := [(id, { m with start := some s.dev.ticks })] }
            cal := { entries := s.cal.entries ++ [step 0 (.bridge id), step 1 (.roll id), step 2 (.release id)]
                     nextCreation := c + 3 } })) ∧
        (s.moveRoom = false → Answers (.moveStart n) s (fun x =>
          Noted s x [STK_HIST.key] ∧ x.on STK_HIST.key STK_HIST.MOVE_WAIT_HIST = true ∧ x.raised 261 0x82 true)))) ∧
    (∀ id : Nat, (∀ e ∈ s.cal.entries, e.action ≠ .bridge id ∧ e.action ≠ .roll id ∧ e.action ≠ .release id) →
      Answers (.moveBridge id) s (fun x => x = s) ∧ Answers (.moveRoll id) s (fun x => x = s) ∧
      Answers (.moveRelease id) s (fun x => x = s)) ∧
    (∀ (id : Nat) (e : Entry) (k : Nat) (m : Move), s.cal.entries = [e] → e.key = .sfn k → k ≤ s.time.sfn →
      s.time.armed = none → s.grate.moves.find id = some m → m.old + m.len ≤ m.new ∨ m.new + m.len ≤ m.old →
      let done := { s with cal := { s.cal with entries := [] } }
      (e.action = .bridge id → m.phase = 0 → Answers (.moveBridge id) s (fun x =>
        x = { done with grate := x.grate } ∧ x.grate.conns = s.grate.conns ∧
        x.grate.moves.find id = some { m with phase := 1 } ∧
        (∀ i v, i < m.len → s.grate.egress.find (m.old + i) = some v →
          x.grate.egress.find (m.new + i) = some { v with moving := true }) ∧
        ∀ j, (j < m.old ∨ m.old + m.len ≤ j) → (j < m.new ∨ m.new + m.len ≤ j) →
          x.grate.egress.find j = s.grate.egress.find j)) ∧
      (∀ o, e.action = .roll id → m.phase = 1 → s.grate.runs.find? (fun r => r.usedAt m.old) = some o →
        ownerKind o.owner ≠ 0x81 → Answers (.moveRoll id) s (fun x =>
          x = { done with grate := x.grate, paths := x.paths, tribs := x.tribs } ∧ x.grate.conns = s.grate.conns ∧
          x.grate.moves.find id = some { m with phase := 2 } ∧
          (∀ j, x.grate.egress.find j = (s.grate.egress.find j).map fun v => v.rename m.old m.new m.len) ∧
          ∀ r ∈ s.grate.runs, r.usedAt m.old = false → r.owner = wMove id →
            { r with owner := o.owner, hostOwned := o.hostOwned } ∈ x.grate.runs)) ∧
      (e.action = .release id → m.phase = 2 → Answers (.moveRelease id) s (fun x =>
        (∃ y, y = { done with grate := y.grate } ∧ (Reported y x ∨ Reported (y.endLong (8, 0, m.slice)) x)) ∧
        x.grate.conns = s.grate.conns ∧ x.grate.moves.find id = none ∧
        (∀ j, x.grate.egress.find j = if m.old ≤ j ∧ j < m.old + m.len then none
          else (s.grate.egress.find j).map fun v => if m.new ≤ j ∧ j < m.new + m.len then { v with moving := false } else v) ∧
        ∀ r ∈ s.grate.runs, r.start = m.old → r.owner = wMove id → r.usedAt m.new = false → r.freeAt = none →
          { r with freeAt := some (s.dev.ticks + 1), moving := false } ∈ x.grate.runs))) ∧
    (∀ page,
      (s.grate.pagesLeft = 0 → Answers (.poolPageSwitch page) s (fun x => x = s)) ∧
      (1 < s.grate.pagesLeft → Answers (.poolPageSwitch page) s (fun x =>
        x = { s with grate := { s.grate with pagesLeft := s.grate.pagesLeft - 1 } })) ∧
      (s.grate.pagesLeft = 1 → s.leavingBanks s.grate.poolWant = [] → Answers (.poolPageSwitch page) s (fun x =>
        x.grate.pagesLeft = 0 ∧ x.grate.poolWant = [] ∧ x.raised 357 0x80 true ∧ x.running (0x10, 0, 0) = none ∧
        x.cal = s.cal ∧ x.grate.runs = s.grate.runs ∧ x.grate.conns = s.grate.conns ∧
        ∀ i, i < 8 → x.get (STK_POOL.key i) STK_POOL.RESIZING = 0 ∧
          x.poolBanks i = min (s.poolBanks i) (s.grate.poolWant.getD i 0))))

/-! ### Health, spares and power (R28, R29, R32, R428 to R443) -/

/-- R28, R29. A poisoned context read that a retry mends is only reported; another re-initialises the context, which
is lost if its record is poisoned too. R32: a block in service that is isolated takes that STATE, and asks for the
spare in the next tick. R430, R434, R436: a unit's trigger arrives in the next tick, a bank's read sets POISONED, and
the end of its copy is noted. A substitution that waits commits once the device has left expert mode; shown for a lane
with a free spare. Where the manual leaves room, this is the model's reading: log entry 64. -/
def Obligations.SpareRows : Prop :=
  ∀ s : State,
    (∀ (p : Port) (head : Fin 192) (code : Nat) (record : Bool),
      let c := condPath p head code
      let told : Nat → State → Prop := fun ev x => s.blockOf c < 144 → x.raised (s.blockOf c) ev true
      Answers (.poisonedContextRead c true record) s (fun x => Noted s x [] ∧ told 0x83 x) ∧
      Answers (.poisonedContextRead c false record) s (fun x =>
        (∃ y, Noted s y [] ∧ x = { y with
          paths := x.paths
          health := if record || decide (c ∈ s.health.contextLost) then s.health
            else { s.health with contextLost := s.health.contextLost ++ [c] } }) ∧
        x.path (pathKey p head) = (s.path (pathKey p head)).restart ∧
        (∀ k, k ≠ pathKey p head → x.path k = s.path k) ∧ told (if record then 0x82 else 0x81) x)) ∧
    (∀ b : BlockRef, b ∈ s.health.isolated → Answers (.blockIsolation b) s (fun x => x = s)) ∧
    (∀ (n : Fin 28) (i : Nat), BlockRef.framer n ∉ s.health.isolated → s.servedPos 0 24 n = some i → s.blockState i ≠ 3 →
      Answers (.blockIsolation (.framer n)) s (fun x =>
        (∃ y, Noted s y [SYS_BLOCK_MAP.key i] ∧ x = { y with
          health := { s.health with isolated := s.health.isolated ++ [.framer n] }
          arrivals := s.arrivals ++ [.trigger (.framer i)] }) ∧
        x.blockState i = 1 ∧ x.has ⟨srcFramer n, 0, 0x80⟩ = true ∧ x.has (condRegion i) = true)) ∧
    (∀ u : UnitRef, s.unitOk (unitKind u) (unitNum u) = false → Answers (.substitutionTrigger u) s (fun x => x = s)) ∧
    (∀ u : UnitRef, s.unitOk (unitKind u) (unitNum u) = true → unitKind u ≠ 4 → Answers (.substitutionTrigger u) s (fun x =>
      x = { s with arrivals := s.arrivals ++ [.trigger u] })) ∧
    (∀ b : Nat, b < 400 → s.bankServes b = true → s.copying b = false → Answers (.substitutionTrigger (.bank b)) s (fun x =>
      (∃ y, Noted s y [STK_BANK.key b] ∧ x = { y with arrivals := s.arrivals ++ [.trigger (.bank b)] }) ∧
      x.on (STK_BANK.key b) STK_BANK.POISONED = true ∧ x.raised (srcBank b) 0x81 true)) ∧
    (s.expertMode = true → Answers .pendingSpareCommit s (fun x => x = s)) ∧
    (∀ l : Nat, l < 96 → s.expertMode = false → s.health.pendingSubs = [.lane l] → s.health.waiting = [] →
      s.cal.entries = [] → s.macroFree (l / 12) = true → Answers .pendingSpareCommit s (fun x =>
        (∃ y, OnlyRegs s y [HLT_STATUS.key, CAL_STATUS.key, LAN_SPARE.key (l / 12), LAN_STATUS.key l, HLT_REPAIR.key] ∧
          x = { y with
            cal := { entries := [], nextCreation := s.cal.nextCreation + 1 }, timers := x.timers, ports := x.ports
            health := { s.health with pendingSubs := [], repairs := x.health.repairs } }) ∧
        (x.port l).servedBy = some (96 + l / 12) ∧ (∀ q, q ≠ l → x.port q = s.port q) ∧
        x.get (LAN_SPARE.key (l / 12)) LAN_SPARE.STATE = 1 ∧ x.get (LAN_SPARE.key (l / 12)) LAN_SPARE.TARGET = l % 12 ∧
        x.on (LAN_STATUS.key l) LAN_STATUS.SUBSTITUTING = true ∧ x.on (LAN_STATUS.key l) LAN_STATUS.CDR_LOCK = false ∧
        x.timers = (s.timers.filter fun t => decide (t.kind ≠ .spareLock (l / 12))) ++
          [⟨.spareLock (l / 12), s.dev.ticks + 32⟩] ∧
        ⟨1, false, l, 96 + l / 12⟩ ∈ x.health.repairs ∧ x.on HLT_STATUS.key HLT_STATUS.PENDING = false)) ∧
    (∀ p : Port, Answers (.framerSpareResume p) s (fun x =>
      x = { s with ports := x.ports } ∧ (∀ q, q ≠ p.val → x.port q = s.port q) ∧
      x.port p = { s.port p with awaitResume := false })) ∧
    (∀ pos : Fin 16,
      (s.time.sfn % 4 ≠ 0 → Answers (.mapperSpareResume pos) s (fun x => x = s)) ∧
      (s.time.sfn % 4 = 0 → Answers (.mapperSpareResume pos) s (fun x =>
        x = { s with health := { s.health with mapperResume := s.health.mapperResume.drop pos } } ∧
        x.health.mapperResume.find pos = none))) ∧
    (∀ (b : Fin 400) (pages : List (Fin 32)),
      (s.copying b = false ∨ b.val ∈ s.health.copiesDone → Answers (.bankCopyDone b pages) s (fun x => x = s)) ∧
      (s.copying b = true → b.val ∉ s.health.copiesDone → Answers (.bankCopyDone b pages) s (fun x =>
        x = { s with health := { s.health with
          copiesDone := s.health.copiesDone ++ [b.val]
          copies := s.health.copies.map fun c =>
            if c.1 = b.val then (c.1, c.2.1, c.2.2 ++ pages.map fun p => p.val) else c } })))

/-- R431: a lane keeps the eye margins of its last 24 hours, and a falling trend below EYE_THR asks for its spare.
R425, R428: a round starts when it is due, a unit's test gives its grade, and a failed one is kept for the end of the
round, which counts the round and shows the device grade. R442, R443: a domain brought up is up when it is so, with
its event and the end of the command; it has rejoined when its test has ended. Where the manual leaves room, this is
the model's reading: log entry 66. -/
def Obligations.SmokeAndPower : Prop :=
  ∀ s : State,
    (∀ (l : Fin 96) (mean : BitVec 7),
      let hours := (mean.toNat :: (s.port l).eyeHours).take 24
      let skipped := s.time.sfn % 28800000 ≠ 0 ∨ s.portCount ≤ l.val ∨ s.family (s.portOfLane l) = 0
      (skipped → Answers (.eyeHourClose l mean) s (fun x => x = s)) ∧
      (¬ skipped → Answers (.eyeHourClose l mean) s (fun x =>
        x = { s with ports := x.ports, arrivals := x.arrivals } ∧ (∀ q, q ≠ l.val → x.port q = s.port q) ∧
        x.port l = { s.port l with eyeHours := hours } ∧
        x.arrivals = s.arrivals ++ if eyeTrend (s.get HLT_CFG.key HLT_CFG.EYE_THR) hours then [.trigger (.lane l)] else []))) ∧
    (s.roundDue = false → Answers .smokeRoundStart s (fun x => x = s)) ∧
    (s.dev.boot = .running → s.on HLT_STATUS.key HLT_STATUS.RUNNING = false → s.health.everRound = false →
      Answers .smokeRoundStart s (fun x =>
        (∃ y, OnlyRegs s y [HLT_STATUS.key] ∧ x = { y with health := { s.health with failedUnits := [] } }) ∧
        x.on HLT_STATUS.key HLT_STATUS.RUNNING = true)) ∧
    (∀ (u : TestUnit) (r : TestOutcome), s.tested u = false → Answers (.smokeTestDone u r) s (fun x => x = s)) ∧
    (∀ (u : TestUnit) (r : TestOutcome), s.tested u = true → s.on HLT_STATUS.key HLT_STATUS.RUNNING = true →
      Answers (.smokeTestDone u r) s (fun x =>
        x = { s with regs := x.regs, health := { s.health with
          grades := x.health.grades, failedUnits := x.health.failedUnits } } ∧
        x.grade (testGrade u) = gradeOf u r ∧ (∀ g, g ≠ testGrade u → x.grade g = s.grade g) ∧
        (testFails u r = true → testName u ∈ x.health.failedUnits) ∧
        (testFails u r = false → x.health.failedUnits = s.health.failedUnits))) ∧
    (s.on HLT_STATUS.key HLT_STATUS.RUNNING = false → Answers .smokeRoundDone s (fun x => x = s)) ∧
    (s.on HLT_STATUS.key HLT_STATUS.RUNNING = true → s.health.failedUnits = [] → s.inPair = false →
      Answers .smokeRoundDone s (fun x =>
        (∃ y, Noted s y [HLT_STATUS.key] ∧
          x = { y with health := { s.health with everRound := true, roundEnd := some s.dev.ticks } }) ∧
        x.on HLT_STATUS.key HLT_STATUS.RUNNING = false ∧
        x.get HLT_STATUS.key HLT_STATUS.ROUND = (s.get HLT_STATUS.key HLT_STATUS.ROUND + 1) % 2 ^ HLT_STATUS.ROUND.width ∧
        x.get HLT_STATUS.key HLT_STATUS.DEVICE_GRADE = s.deviceGrade % 2 ^ HLT_STATUS.DEVICE_GRADE.width ∧
        x.raised 358 0x80 true)) ∧
    (∀ d : Fin 137,
      (s.running (resDomain d) = none ∨ s.domainUp d = true → Answers (.domainUp d) s (fun x => x = s)) ∧
      ((s.running (resDomain d)).isSome → s.domainUp d = false → Answers (.domainUp d) s (fun x =>
        (∃ y z, y = { s with regs := y.regs, health := { s.health with grades := y.health.grades } } ∧ Noted y z [] ∧
          Reported (z.endLong (resDomain d)) x) ∧
        x.domainUp d = true ∧ x.running (resDomain d) = none ∧ x.raised 359 0x80 true)) ∧
      (s.domainUp d = false ∨ s.rejoined d = true → Answers (.domainRejoined d) s (fun x => x = s)) ∧
      (s.domainUp d = true → s.rejoined d = false → Answers (.domainRejoined d) s (fun x =>
        Noted s x [HLT_DOMAIN_REJ.key (d.val / 32)] ∧ x.domainReady d = true ∧ x.raised 359 0x81 true)))

/-! ### The pair (R303 to R317) -/

/-- R303, R312: an accepted chimney frame of link 0 gives the mate's claim and address; one that is not accepted gives
nothing. A frame sent carries the own claim and the mirror records since the last. R305, R306: a standby enters a
forwarded command under its creation number, without a reply, and a result that differs diverges the mirror. R307: the
last frame of a sweep synchronises it. R314, R316, R317: the end of the mate hold sets the claim in force to 0, the
end of WTR returns a unit that does not outrank its mate, and a handover that is due puts both claims in force. Out of
a pair nothing happens. Where the manual leaves room, this is the model's reading: log entries 58 and 59. -/
def Obligations.PairRows : Prop :=
  ∀ s : State,
    (s.inPair = false → Answers .chimneyFrameTransmit s (fun x => x = s) ∧
      ∀ k f, Answers (.chimneyFrameReceive k f) s (fun x => x = s)) ∧
    (∀ f : ChimRx, s.inPair = true → s.chimOn 0 = true → s.linkDown 0 = false → s.partnerBad 0 = false →
      s.has (condLink (s.chimIndex (s.chimPort 0))) = false → s.arrivals = [] → s.chimLost = false → f.ident = none →
      (f.markerOk = true → f.checkOk = true → f.ver = 1 → f.mirrorOk = true → f.flags.toNat.testBit 5 = false →
        Answers (.chimneyFrameReceive 0 f) s (fun x =>
          (∃ y, OnlyRegs s y [CLM_MATE.key, CLM_MATE_IN_FORCE.key] ∧ x = { y with pair := { s.pair with
            links := x.pair.links, mateNext := f.nextClaim.toNat
            chimClaim := if f.sfn.toNat % 2 = 0 then some f.claim.toNat else s.pair.chimClaim } }) ∧
          x.get CLM_MATE.key CLM_MATE.CHIMNEY_CLAIM = f.claim.toNat ∧
          x.get CLM_MATE_IN_FORCE.key CLM_MATE_IN_FORCE.MATE_ADDR_RX = f.addr.toNat ∧
          (x.link 0).good = min 64 ((s.link 0).good + 1))) ∧
      (f.markerOk = false → (s.link 0).miss < 7 → Answers (.chimneyFrameReceive 0 f) s (fun x =>
        x = { s with pair := { s.pair with links := x.pair.links } } ∧
        x.link 0 = { s.link 0 with good := 0, miss := (s.link 0).miss + 1 } ∧ x.link 1 = s.link 1))) ∧
    (s.inPair = true → s.pair.handover = none → Answers .chimneyFrameTransmit s (fun x =>
      x = { s with pair := { s.pair with
        txClaim := s.clm CLM_STATUS.OWN_CLAIM, txNext := s.clm CLM_STATUS.OWN_CLAIM, txNextSfn := 0, txSfn := s.time.sfn
        txFlags := (if s.role = 2 then 128 else 0) + (if s.synced then 64 else 0)
        mirrorSeq := (s.pair.mirrorSeq + s.pair.forward.length) % 2 ^ 32, forward := [] } })) ∧
    (∀ (p : Packet) (c : Nat) (r : List Byte),
      (s.standby = false → Answers (.mirrorCommandTake p c r) s (fun x => x = s)) ∧
      (∀ s1 own n, s.standby = true → p.preempt = false → p.opcode ≠ 0x54 → actsAtOnce p.op = false →
        s.chapter p = .accept s1 own → keyOf p = .sfn n →
        (own = r → Answers (.mirrorCommandTake p c r) s (fun x =>
          ∃ y, OnlyRegs s1 y [CAL_STATUS.key] ∧ x = { y with
            cmd := { s1.cmd with leases := x.cmd.leases }
            cal := { entries := s1.cal.entries ++ [{ creation := c, key := .sfn n, action := .host (settled p r), late := true }]
                     nextCreation := max s1.cal.nextCreation (c + 1) } } ∧ s1.cmd.leases <+: x.cmd.leases)) ∧
        (own ≠ r → Answers (.mirrorCommandTake p c r) s (fun x =>
          x.raised srcMirror 0x82 true ∧ x.pair.sweep = s1.sweepFrames + 1 ∧ s1.cal.entries <+: x.cal.entries)))) ∧
    (s.pair.sweep ≠ 1 → Answers .mirrorSweepDone s (fun x => x = s)) ∧
    (s.pair.sweep = 1 → s.synced = false → Answers .mirrorSweepDone s (fun x =>
      (∃ y, Noted s y [CLM_STATUS.key] ∧ x = { y with pair := { s.pair with sweep := 0 } }) ∧ x.synced = true ∧
      x.has ⟨srcMirror, 0, 0x81⟩ = false ∧ x.raised srcMirror 0x80 true)) ∧
    (s.timerDue .mateHold = false → Answers .mateHoldExpiry s (fun x => x = s)) ∧
    (s.timerDue .mateHold = true → Answers .mateHoldExpiry s (fun x =>
      (∃ y, OnlyRegs s y [CLM_MATE_IN_FORCE.key] ∧ x = { y with
        pair := { s.pair with mateZero := true }, timers := s.timers.filter fun t => decide (t.kind ≠ .mateHold) }) ∧
      x.mateInForce = 0)) ∧
    (s.timerDue .pairWtr = false → Answers .pairWtrExpiry s (fun x => x = s)) ∧
    (s.timerDue .pairWtr = true → s.pair.handover = none → s.returnClaim ≤ s.mateInForce → Answers .pairWtrExpiry s (fun x =>
      x = { s with pair := { s.pair with returnStep := 0 }
                   timers := s.timers.filter fun t => decide (t.kind ≠ .pairWtr) })) ∧
    (s.timerDue .pairWtr = true → s.pair.handover = none → s.mateInForce < s.returnClaim → s.canHandover = true →
      s.deviceRoom = true → Answers .pairWtrExpiry s (fun x =>
        let h := evenAt (s.time.sfn + max 8 (s.get CLM_CFG2.key CLM_CFG2.HANDOVER_LEAD))
        (∃ y, OnlyRegs s y [CLM_STATUS.key, CAL_STATUS.key] ∧ x = { y with
          timers := s.timers.filter fun t => decide (t.kind ≠ .pairWtr)
          pair := { s.pair with returnStep := 4, handover := some (h, s.returnClaim, s.pair.mateNext, false) }
          cal := { entries := s.cal.entries ++ [{ creation := s.cal.nextCreation, key := .sfn h, action := .handover }]
                   nextCreation := s.cal.nextCreation + 1 } }) ∧
        h % 2 = 0 ∧ x.on CLM_STATUS.key CLM_STATUS.HANDOVER_PENDING = true)) ∧
    ((∀ e ∈ s.cal.entries, e.action ≠ .handover) → Answers .handover s (fun x => x = s)) ∧
    (∀ (e : Entry) (k own mate h : Nat) (switch : Bool), s.cal.entries = [e] → e.action = .handover → e.key = .sfn k →
      k ≤ s.time.sfn → s.time.armed = none → s.pair.handover = some (h, own, mate, switch) → Answers .handover s (fun x =>
        (∃ y, Noted { s with cal := { s.cal with entries := [] } } y [CLM_STATUS.key, CLM_MATE_IN_FORCE.key] ∧
          x = { y with pair := x.pair }) ∧
        x.pair.handover = none ∧ x.pair.handed = switch ∧ x.clm CLM_STATUS.OWN_CLAIM = own % 2 ^ CLM_STATUS.OWN_CLAIM.width ∧
        x.mateInForce = mate % 2 ^ CLM_MATE_IN_FORCE.MATE_CLAIM.width ∧
        x.on CLM_STATUS.key CLM_STATUS.HANDOVER_PENDING = false ∧ x.raised srcPair eHANDOVER true))
end

