-- ==== Sys2Proof/Laws/Bits.lean ====
section
/-! SUPPORT. Laws of bit fields and of byte order (R10). -/

namespace Sys2Proof.Machine

theorem bitsOf_lt (n lo w : Nat) : bitsOf n lo w < 2 ^ w := Nat.mod_lt _ (Nat.two_pow_pos w)

theorem putBits_testBit (n lo w v i : Nat) :
    (putBits n lo w v).testBit i =
      if i < lo then n.testBit i else if i < lo + w then v.testBit (i - lo) else n.testBit i := by
  have hlow : n % 2 ^ lo < 2 ^ lo := Nat.mod_lt _ (Nat.two_pow_pos lo)
  have hmid : v % 2 ^ w < 2 ^ w := Nat.mod_lt _ (Nat.two_pow_pos w)
  have hm2 : (v % 2 ^ w) <<< lo + n % 2 ^ lo < 2 ^ (lo + w) := by
    rw [Nat.shiftLeft_eq, Nat.pow_add]
    have h1 : (v % 2 ^ w + 1) * 2 ^ lo ≤ 2 ^ w * 2 ^ lo := Nat.mul_le_mul_right _ hmid
    rw [Nat.add_mul, Nat.one_mul] at h1
    rw [Nat.mul_comm (2 ^ lo)]
    omega
  unfold putBits
  rw [Nat.add_assoc, Nat.shiftLeft_eq, Nat.mul_comm, Nat.testBit_two_pow_mul_add _ hm2]
  split
  · rw [Nat.shiftLeft_eq, Nat.mul_comm, Nat.testBit_two_pow_mul_add _ hlow]
    split
    · rw [Nat.testBit_mod_two_pow]; simp [*]
    · next h1 h2 => rw [Nat.testBit_mod_two_pow]; simp; omega
  · next h =>
    rw [Nat.testBit_shiftRight]
    try rw [if_neg (by omega)]
    congr 1; omega

/-- A field written and read back gives the low bits of what was written. -/
theorem bitsOf_putBits_same (n lo w v : Nat) : bitsOf (putBits n lo w v) lo w = v % 2 ^ w := by
  refine Nat.eq_of_testBit_eq fun i => ?_
  rw [bitsOf, Nat.testBit_mod_two_pow, Nat.testBit_mod_two_pow, Nat.testBit_shiftRight, putBits_testBit]
  by_cases h : i < w
  · rw [if_neg (by omega), if_pos (by omega)]; congr 2; omega
  · simp [h]

/-- A field apart from the one written reads as before. -/
theorem bitsOf_putBits_other (n lo w v lo' w' : Nat) (h : lo' + w' ≤ lo ∨ lo + w ≤ lo') :
    bitsOf (putBits n lo w v) lo' w' = bitsOf n lo' w' := by
  refine Nat.eq_of_testBit_eq fun i => ?_
  rw [bitsOf, bitsOf, Nat.testBit_mod_two_pow, Nat.testBit_mod_two_pow, Nat.testBit_shiftRight,
    Nat.testBit_shiftRight, putBits_testBit]
  by_cases hi : i < w'
  · rcases h with h | h
    · rw [if_pos (by omega)]
    · rw [if_neg (by omega), if_neg (by omega)]
  · simp [hi]

theorem bitsOf_mod32 (n lo w : Nat) (h : lo + w ≤ 32) : bitsOf (n % 2 ^ 32) lo w = bitsOf n lo w := by
  refine Nat.eq_of_testBit_eq fun i => ?_
  rw [bitsOf, bitsOf, Nat.testBit_mod_two_pow, Nat.testBit_mod_two_pow, Nat.testBit_shiftRight,
    Nat.testBit_shiftRight, Nat.testBit_mod_two_pow]
  by_cases hi : i < w
  · simp [hi]; omega
  · simp [hi]

theorem Fld.get_lt (f : Fld) (w : Word) : f.get w < 2 ^ f.width := bitsOf_lt _ _ _

@[simp] theorem Fld.get_set_same (f : Fld) (w : Word) (v : Nat) (h : f.lo + f.width ≤ 32) :
    f.get (f.set w v) = v % 2 ^ f.width := by
  unfold Fld.get Fld.set
  rw [BitVec.toNat_ofNat, bitsOf_mod32 _ _ _ h, bitsOf_putBits_same]

theorem Fld.get_set_other (f g : Fld) (w : Word) (v : Nat) (hg : g.lo + g.width ≤ 32)
    (h : g.lo + g.width ≤ f.lo ∨ f.lo + f.width ≤ g.lo) : g.get (f.set w v) = g.get w := by
  unfold Fld.get Fld.set
  rw [BitVec.toNat_ofNat, bitsOf_mod32 _ _ _ hg, bitsOf_putBits_other _ _ _ _ _ _ h]

@[simp] theorem beBytes_length (k n : Nat) : (beBytes k n).length = k := by
  induction k with
  | zero => rfl
  | succ k ih => simp [beBytes, ih]

theorem beVal_cons (b : Byte) (bs : List Byte) : beVal (b :: bs) = b.toNat * 256 ^ bs.length + beVal bs := by
  have key : ∀ (bs : List Byte) (a : Nat),
      bs.foldl (fun a (b : Byte) => a * 256 + b.toNat) a = a * 256 ^ bs.length +
        bs.foldl (fun a (b : Byte) => a * 256 + b.toNat) 0 := by
    intro bs
    induction bs with
    | nil => simp
    | cons c cs ih =>
      intro a
      simp only [List.foldl_cons, List.length_cons]
      rw [ih (a * 256 + c.toNat), ih (0 * 256 + c.toNat)]
      ring
  simp only [beVal, List.foldl_cons]
  rw [key bs (0 * 256 + b.toNat)]
  simp

theorem beVal_append (a b : List Byte) : beVal (a ++ b) = beVal a * 256 ^ b.length + beVal b := by
  induction a with
  | nil => simp [beVal]
  | cons c a ih => rw [List.cons_append, beVal_cons, beVal_cons, ih, List.length_append, pow_add]; ring

theorem beVal_lt (bs : List Byte) : beVal bs < 256 ^ bs.length := by
  induction bs with
  | nil => simp [beVal]
  | cons b bs ih =>
    rw [beVal_cons, List.length_cons, pow_succ]
    have : b.toNat < 256 := b.isLt
    nlinarith [Nat.pow_pos (n := bs.length) (show 0 < 256 by norm_num)]

/-- `k` bytes of a number read back as the number. -/
theorem beVal_beBytes (k n : Nat) (h : n < 256 ^ k) : beVal (beBytes k n) = n := by
  have key : ∀ k n : Nat, beVal (beBytes k n) = n % 256 ^ k := by
    intro k
    induction k with
    | zero => intro n; simp [beBytes, beVal, Nat.mod_one]
    | succ k ih =>
      intro n
      rw [beBytes, beVal_cons, ih, beBytes_length, BitVec.toNat_ofNat, Nat.shiftRight_eq_div_pow,
        show 2 ^ (8 * k) = 256 ^ k by rw [pow_mul]; norm_num, show (2:Nat) ^ 8 = 256 by norm_num]
      rw [pow_succ, Nat.mod_mul]
      ring
  rw [key, Nat.mod_eq_of_lt h]

theorem bytesAt_length (bs : List Byte) (off k : Nat) : (bytesAt bs off k).length = k := by simp [bytesAt]

/-- The bytes of a payload that lies within the list are that part of it. -/
theorem bytesAt_mid (a b c : List Byte) : bytesAt (a ++ b ++ c) a.length b.length = b := by
  refine List.ext_getElem (by simp [bytesAt]) fun i h1 h2 => ?_
  simp only [bytesAt, List.getElem_map, List.getElem_range]
  rw [List.getD_eq_getElem?_getD, List.append_assoc, List.getElem?_append_right (by omega), Nat.add_sub_cancel_left,
    List.getElem?_append_left h2, List.getElem?_eq_getElem h2, Option.getD_some]

/-- A big-endian field within a list of bytes reads as its bytes. -/
theorem fieldAt_mid (a b c : List Byte) : fieldAt (a ++ b ++ c) a.length b.length = beVal b := by
  rw [fieldAt, bytesAt_mid]

end Sys2Proof.Machine
end

