-- ==== Sys2Proof/Laws/Table.lean ====
section
/-! SUPPORT. Laws of sparse tables: what a read after a write, a removal or a store gives, and that the canonical
form is kept. -/

namespace Sys2Proof.Machine

variable {α : Type}

@[simp] theorem Tbl.find_nil (k : Nat) : Tbl.find ([] : Tbl α) k = none := rfl

@[simp] theorem Tbl.find_put_same (t : Tbl α) (k : Nat) (v : α) : (t.put k v).find k = some v := by
  induction t with
  | nil => simp [Tbl.put, Tbl.find]
  | cons e t ih =>
    obtain ⟨j, w⟩ := e
    simp only [Tbl.put]
    split
    · simp [Tbl.find]
    · split
      · simp [Tbl.find]
      · next h => simp [Tbl.find, h, ih]

theorem Tbl.find_put_other (t : Tbl α) (k j : Nat) (v : α) (h : j ≠ k) : (t.put k v).find j = t.find j := by
  induction t with
  | nil => simp [Tbl.put, Tbl.find, Ne.symm h]
  | cons e t ih =>
    obtain ⟨i, w⟩ := e
    simp only [Tbl.put]
    split
    · simp [Tbl.find, Ne.symm h]
    · split
      · next hi => subst hi; simp [Tbl.find, Ne.symm h]
      · simp only [Tbl.find, ih]

theorem Tbl.find_put (t : Tbl α) (k j : Nat) (v : α) :
    (t.put k v).find j = if j = k then some v else t.find j := by
  split
  · next h => subst h; simp
  · next h => exact Tbl.find_put_other t k j v h

@[simp] theorem Tbl.find_drop_same (t : Tbl α) (k : Nat) : (t.drop k).find k = none := by
  induction t with
  | nil => rfl
  | cons e t ih =>
    obtain ⟨j, w⟩ := e
    simp only [Tbl.drop]
    split
    · exact ih
    · next h => simp [Tbl.find, h, ih]

theorem Tbl.find_drop_other (t : Tbl α) (k j : Nat) (h : j ≠ k) : (t.drop k).find j = t.find j := by
  induction t with
  | nil => rfl
  | cons e t ih =>
    obtain ⟨i, w⟩ := e
    simp only [Tbl.drop]
    split
    · next hi => subst hi; simp [Tbl.find, Ne.symm h, ih]
    · simp only [Tbl.find, ih]

/-- A read after a store: the value stored at its key, and what was there before at every other key. -/
theorem Tbl.getD_store [DecidableEq α] (t : Tbl α) (k j : Nat) (v d : α) :
    (t.store k v d).getD j d = if j = k then v else t.getD j d := by
  unfold Tbl.store Tbl.getD
  by_cases hv : v = d
  · by_cases h : j = k
    · subst h; simp [hv]
    · simp [hv, h, Tbl.find_drop_other t k j h]
  · simp only [hv, if_false, Tbl.find_put]
    split <;> rfl

/-- A store with any other default at another key changes nothing there. -/
theorem Tbl.find_store_other [DecidableEq α] (t : Tbl α) (k j : Nat) (v d : α) (h : j ≠ k) :
    (t.store k v d).find j = t.find j := by
  unfold Tbl.store
  split
  · exact Tbl.find_drop_other t k j h
  · exact Tbl.find_put_other t k j v h

theorem Tbl.sorted_tail {e : Nat × α} {t : Tbl α} (h : Tbl.sorted (e :: t) = true) : t.sorted = true := by
  cases t with
  | nil => rfl
  | cons f t => obtain ⟨j, w⟩ := e; obtain ⟨k, v⟩ := f; simp [Tbl.sorted] at h; exact h.2

/-- In a sorted table every key after the first is above it. -/
theorem Tbl.sorted_above {j : Nat} {w : α} {t : Tbl α} (h : Tbl.sorted ((j, w) :: t) = true) :
    ∀ e ∈ t, j < e.1 := by
  induction t generalizing j w with
  | nil => simp
  | cons f t ih =>
    obtain ⟨k, v⟩ := f
    simp [Tbl.sorted] at h
    intro e he
    rcases List.mem_cons.mp he with rfl | he
    · exact h.1
    · exact lt_trans h.1 (ih h.2 e he)

/-- A key below every key of a sorted table may stand before it. -/
theorem Tbl.sorted_cons {j : Nat} {w : α} {t : Tbl α} (h : t.sorted = true) (hj : ∀ e ∈ t, j < e.1) :
    Tbl.sorted ((j, w) :: t) = true := by
  cases t with
  | nil => rfl
  | cons f t => obtain ⟨k, v⟩ := f; simp [Tbl.sorted, h]; exact hj _ (List.mem_cons_self ..)

theorem Tbl.mem_put {t : Tbl α} {k : Nat} {v : α} {e : Nat × α} (h : e ∈ t.put k v) : e = (k, v) ∨ e ∈ t := by
  induction t with
  | nil => simpa [Tbl.put] using h
  | cons f t ih =>
    obtain ⟨j, w⟩ := f
    simp only [Tbl.put] at h
    split at h
    · simpa using h
    · split at h
      · rcases List.mem_cons.mp h with h | h
        · exact .inl h
        · exact .inr (List.mem_cons_of_mem _ h)
      · rcases List.mem_cons.mp h with h | h
        · exact .inr (h ▸ List.mem_cons_self ..)
        · exact (ih h).imp_right (List.mem_cons_of_mem _)

theorem Tbl.mem_drop {t : Tbl α} {k : Nat} {e : Nat × α} (h : e ∈ t.drop k) : e ∈ t := by
  induction t with
  | nil => simp [Tbl.drop] at h
  | cons f t ih =>
    obtain ⟨j, w⟩ := f
    simp only [Tbl.drop] at h
    split at h
    · exact List.mem_cons_of_mem _ (ih h)
    · rcases List.mem_cons.mp h with h | h
      · exact h ▸ List.mem_cons_self ..
      · exact List.mem_cons_of_mem _ (ih h)

/-- A write keeps the keys strictly rising. -/
theorem Tbl.sorted_put {t : Tbl α} (h : t.sorted = true) (k : Nat) (v : α) : (t.put k v).sorted = true := by
  induction t with
  | nil => rfl
  | cons f t ih =>
    obtain ⟨j, w⟩ := f
    have hup := Tbl.sorted_above h
    simp only [Tbl.put]
    split
    · next hk =>
      refine Tbl.sorted_cons h fun e he => ?_
      rcases List.mem_cons.mp he with rfl | he
      · exact hk
      · exact lt_trans hk (hup e he)
    · split
      · next hj => subst hj; exact Tbl.sorted_cons (Tbl.sorted_tail h) hup
      · next h1 h2 =>
        refine Tbl.sorted_cons (ih (Tbl.sorted_tail h)) fun e he => ?_
        rcases Tbl.mem_put he with rfl | he
        · simp; omega
        · exact hup e he

/-- A removal keeps the keys strictly rising. -/
theorem Tbl.sorted_drop {t : Tbl α} (h : t.sorted = true) (k : Nat) : (t.drop k).sorted = true := by
  induction t with
  | nil => rfl
  | cons f t ih =>
    obtain ⟨j, w⟩ := f
    simp only [Tbl.drop]
    split
    · exact ih (Tbl.sorted_tail h)
    · exact Tbl.sorted_cons (ih (Tbl.sorted_tail h)) fun e he => Tbl.sorted_above h e (Tbl.mem_drop he)

/-- A store keeps the keys strictly rising. -/
theorem Tbl.sorted_store [DecidableEq α] {t : Tbl α} (h : t.sorted = true) (k : Nat) (v d : α) :
    (t.store k v d).sorted = true := by
  unfold Tbl.store
  split
  · exact Tbl.sorted_drop h k
  · exact Tbl.sorted_put h k v

/-- A store with the table's own default keeps the canonical form. -/
theorem Tbl.wf_store [DecidableEq α] {t : Tbl α} {d : Nat → α} (h : t.wf d = true) (k : Nat) (v : α) :
    (t.store k v (d k)).wf d = true := by
  simp only [Tbl.wf, Bool.and_eq_true] at h ⊢
  refine ⟨Tbl.sorted_store h.1 k v _, List.all_eq_true.mpr fun e he => ?_⟩
  unfold Tbl.store at he
  split at he
  · exact List.all_eq_true.mp h.2 e (Tbl.mem_drop he)
  · next hv =>
    rcases Tbl.mem_put he with rfl | he
    · simpa using hv
    · exact List.all_eq_true.mp h.2 e he

end Sys2Proof.Machine
end

