-- ==== Sys2Proof/Laws/State.lean ====
section
/-! SUPPORT. Laws of the updates of Machine/Ops.lean: what each field of State is after each, and register reads
after register writes. -/

namespace Sys2Proof.Machine

variable (s : State) (k j v : Nat) (w : Word) (f : Fld)

/-! ### Register writes -/

theorem State.rd_wr : (s.wr k w).rd j = if j = k then w else s.rd j := by
  unfold State.rd State.wr
  by_cases h : j = k
  · subst h; simp [Tbl.getD_store]
  · simp only [h, if_false]
    unfold Tbl.getD
    rw [Tbl.find_store_other _ _ _ _ _ h]

@[simp] theorem State.rd_wr_same : (s.wr k w).rd k = w := by simp [State.rd_wr]

theorem State.rd_wr_other (h : j ≠ k) : (s.wr k w).rd j = s.rd j := by simp [State.rd_wr, h]

theorem State.rd_put : (s.put k f v).rd j = if j = k then f.set (s.rd k) v else s.rd j := State.rd_wr ..

theorem State.rd_put_other (h : j ≠ k) : (s.put k f v).rd j = s.rd j := by simp [State.rd_put, h]

@[simp] theorem State.get_put_same (h : f.lo + f.width ≤ 32) : (s.put k f v).get k f = v % 2 ^ f.width := by
  simp [State.get, State.rd_put, h]

theorem State.get_put_other (g : Fld) (h : j ≠ k) : (s.put k f v).get j g = s.get j g := by
  simp [State.get, State.rd_put, h]

theorem State.get_put_field (g : Fld) (hg : g.lo + g.width ≤ 32)
    (h : g.lo + g.width ≤ f.lo ∨ f.lo + f.width ≤ g.lo) : (s.put k f v).get k g = s.get k g := by
  simp [State.get, State.rd_put, Fld.get_set_other f g _ _ hg h]

@[simp] theorem bit_le (b : Bool) : bit b ≤ 1 := by cases b <;> decide

theorem bit_eq_one (b : Bool) : decide (bit b = 1) = b := by cases b <;> rfl

/-- A one-bit field written with a Bool reads as the Bool. -/
theorem State.on_put_bit (b : Bool) (h : f.lo + f.width ≤ 32) (hw : f.width = 1) : (s.put k f (bit b)).on k f = b := by
  rw [State.on, State.get_put_same _ _ _ _ h, hw, Nat.mod_eq_of_lt (by have := bit_le b; omega), bit_eq_one]

theorem State.on_put_one (h : f.lo + f.width ≤ 32) (hw : f.width = 1) : (s.put k f 1).on k f = true :=
  State.on_put_bit s k f true h hw

theorem State.on_put_zero (h : f.lo + f.width ≤ 32) (hw : f.width = 1) : (s.put k f 0).on k f = false :=
  State.on_put_bit s k f false h hw

/-- Another field of the register written, as a Bool. -/
theorem State.on_put_field (g : Fld) (hg : g.lo + g.width ≤ 32)
    (h : g.lo + g.width ≤ f.lo ∨ f.lo + f.width ≤ g.lo) : (s.put k f v).on k g = s.on k g := by
  rw [State.on, State.get_put_field _ _ _ _ _ hg h, State.on]

theorem State.rd_bump_other (n : Nat) (h : j ≠ k) : (s.bump k f n).rd j = s.rd j := State.rd_put_other _ _ _ _ _ h

/-- A count in a register saturates at the field's top (R276). -/
theorem State.get_bump (n : Nat) (h : f.lo + f.width ≤ 32) :
    (s.bump k f n).get k f = min (2 ^ f.width - 1) (s.get k f + n) := by
  rw [State.bump, State.get_put_same _ _ _ _ h]
  refine Nat.mod_eq_of_lt ?_
  have : 0 < 2 ^ f.width := Nat.two_pow_pos _
  simp only [satAdd]
  omega

/-- A register read depends on the active bank alone. -/
theorem State.rd_congr {s t : State} (h : t.regs = s.regs) (k : Nat) : t.rd k = s.rd k := by simp [State.rd, h]

theorem State.get_congr {s t : State} (h : t.regs = s.regs) (k : Nat) (f : Fld) : t.get k f = s.get k f := by
  simp [State.get, State.rd_congr h]

theorem State.on_congr {s t : State} (h : t.regs = s.regs) (k : Nat) (f : Fld) : t.on k f = s.on k f := by
  simp [State.on, State.get_congr h]

theorem State.get_of_rd {s t : State} {k : Nat} (h : t.rd k = s.rd k) (f : Fld) : t.get k f = s.get k f := by
  simp [State.get, h]

theorem State.on_of_rd {s t : State} {k : Nat} (h : t.rd k = s.rd k) (f : Fld) : t.on k f = s.on k f := by
  simp [State.on, State.get_of_rd h]

/-! ### wr -/

@[simp] theorem State.wr_dev (s : State) (k : Nat) (w : Word) : (s.wr k w).dev = s.dev := rfl
@[simp] theorem State.wr_cmd (s : State) (k : Nat) (w : Word) : (s.wr k w).cmd = s.cmd := rfl
@[simp] theorem State.wr_evt (s : State) (k : Nat) (w : Word) : (s.wr k w).evt = s.evt := rfl
@[simp] theorem State.wr_queues (s : State) (k : Nat) (w : Word) : (s.wr k w).queues = s.queues := rfl
@[simp] theorem State.wr_time (s : State) (k : Nat) (w : Word) : (s.wr k w).time = s.time := rfl
@[simp] theorem State.wr_cal (s : State) (k : Nat) (w : Word) : (s.wr k w).cal = s.cal := rfl
@[simp] theorem State.wr_obs (s : State) (k : Nat) (w : Word) : (s.wr k w).obs = s.obs := rfl
@[simp] theorem State.wr_arrivals (s : State) (k : Nat) (w : Word) : (s.wr k w).arrivals = s.arrivals := rfl
@[simp] theorem State.wr_timers (s : State) (k : Nat) (w : Word) : (s.wr k w).timers = s.timers := rfl
@[simp] theorem State.wr_ports (s : State) (k : Nat) (w : Word) : (s.wr k w).ports = s.ports := rfl

/-- The update changes regs alone. -/
theorem State.wr_eq (s : State) (k : Nat) (w : Word) : s.wr k w = { s with regs := (s.wr k w).regs } := rfl

/-! ### put -/

@[simp] theorem State.put_dev (s : State) (k : Nat) (f : Fld) (v : Nat) : (s.put k f v).dev = s.dev := rfl
@[simp] theorem State.put_cmd (s : State) (k : Nat) (f : Fld) (v : Nat) : (s.put k f v).cmd = s.cmd := rfl
@[simp] theorem State.put_evt (s : State) (k : Nat) (f : Fld) (v : Nat) : (s.put k f v).evt = s.evt := rfl
@[simp] theorem State.put_queues (s : State) (k : Nat) (f : Fld) (v : Nat) : (s.put k f v).queues = s.queues := rfl
@[simp] theorem State.put_time (s : State) (k : Nat) (f : Fld) (v : Nat) : (s.put k f v).time = s.time := rfl
@[simp] theorem State.put_cal (s : State) (k : Nat) (f : Fld) (v : Nat) : (s.put k f v).cal = s.cal := rfl
@[simp] theorem State.put_obs (s : State) (k : Nat) (f : Fld) (v : Nat) : (s.put k f v).obs = s.obs := rfl
@[simp] theorem State.put_arrivals (s : State) (k : Nat) (f : Fld) (v : Nat) : (s.put k f v).arrivals = s.arrivals := rfl
@[simp] theorem State.put_timers (s : State) (k : Nat) (f : Fld) (v : Nat) : (s.put k f v).timers = s.timers := rfl
@[simp] theorem State.put_ports (s : State) (k : Nat) (f : Fld) (v : Nat) : (s.put k f v).ports = s.ports := rfl

/-- The update changes regs alone. -/
theorem State.put_eq (s : State) (k : Nat) (f : Fld) (v : Nat) : s.put k f v = { s with regs := (s.put k f v).regs } := rfl

/-! ### bump -/

@[simp] theorem State.bump_dev (s : State) (k : Nat) (f : Fld) (n : Nat) : (s.bump k f n).dev = s.dev := rfl
@[simp] theorem State.bump_cmd (s : State) (k : Nat) (f : Fld) (n : Nat) : (s.bump k f n).cmd = s.cmd := rfl
@[simp] theorem State.bump_evt (s : State) (k : Nat) (f : Fld) (n : Nat) : (s.bump k f n).evt = s.evt := rfl
@[simp] theorem State.bump_queues (s : State) (k : Nat) (f : Fld) (n : Nat) : (s.bump k f n).queues = s.queues := rfl
@[simp] theorem State.bump_time (s : State) (k : Nat) (f : Fld) (n : Nat) : (s.bump k f n).time = s.time := rfl
@[simp] theorem State.bump_cal (s : State) (k : Nat) (f : Fld) (n : Nat) : (s.bump k f n).cal = s.cal := rfl
@[simp] theorem State.bump_obs (s : State) (k : Nat) (f : Fld) (n : Nat) : (s.bump k f n).obs = s.obs := rfl
@[simp] theorem State.bump_arrivals (s : State) (k : Nat) (f : Fld) (n : Nat) : (s.bump k f n).arrivals = s.arrivals := rfl
@[simp] theorem State.bump_timers (s : State) (k : Nat) (f : Fld) (n : Nat) : (s.bump k f n).timers = s.timers := rfl
@[simp] theorem State.bump_ports (s : State) (k : Nat) (f : Fld) (n : Nat) : (s.bump k f n).ports = s.ports := rfl

/-- The update changes regs alone. -/
theorem State.bump_eq (s : State) (k : Nat) (f : Fld) (n : Nat) : s.bump k f n = { s with regs := (s.bump k f n).regs } := rfl

/-! ### wrStaged -/

@[simp] theorem State.wrStaged_regs (s : State) (k : Nat) (w : Word) : (s.wrStaged k w).regs = s.regs := rfl
@[simp] theorem State.wrStaged_dev (s : State) (k : Nat) (w : Word) : (s.wrStaged k w).dev = s.dev := rfl
@[simp] theorem State.wrStaged_cmd (s : State) (k : Nat) (w : Word) : (s.wrStaged k w).cmd = s.cmd := rfl
@[simp] theorem State.wrStaged_evt (s : State) (k : Nat) (w : Word) : (s.wrStaged k w).evt = s.evt := rfl
@[simp] theorem State.wrStaged_queues (s : State) (k : Nat) (w : Word) : (s.wrStaged k w).queues = s.queues := rfl
@[simp] theorem State.wrStaged_time (s : State) (k : Nat) (w : Word) : (s.wrStaged k w).time = s.time := rfl
@[simp] theorem State.wrStaged_cal (s : State) (k : Nat) (w : Word) : (s.wrStaged k w).cal = s.cal := rfl
@[simp] theorem State.wrStaged_obs (s : State) (k : Nat) (w : Word) : (s.wrStaged k w).obs = s.obs := rfl
@[simp] theorem State.wrStaged_arrivals (s : State) (k : Nat) (w : Word) : (s.wrStaged k w).arrivals = s.arrivals := rfl
@[simp] theorem State.wrStaged_timers (s : State) (k : Nat) (w : Word) : (s.wrStaged k w).timers = s.timers := rfl
@[simp] theorem State.wrStaged_ports (s : State) (k : Nat) (w : Word) : (s.wrStaged k w).ports = s.ports := rfl

/-- The update changes staged alone. -/
theorem State.wrStaged_eq (s : State) (k : Nat) (w : Word) : s.wrStaged k w = { s with staged := (s.wrStaged k w).staged } := rfl

/-! ### setPort -/

@[simp] theorem State.setPort_regs (s : State) (p : Nat) (x : PortSt) : (s.setPort p x).regs = s.regs := rfl
@[simp] theorem State.setPort_dev (s : State) (p : Nat) (x : PortSt) : (s.setPort p x).dev = s.dev := rfl
@[simp] theorem State.setPort_cmd (s : State) (p : Nat) (x : PortSt) : (s.setPort p x).cmd = s.cmd := rfl
@[simp] theorem State.setPort_evt (s : State) (p : Nat) (x : PortSt) : (s.setPort p x).evt = s.evt := rfl
@[simp] theorem State.setPort_queues (s : State) (p : Nat) (x : PortSt) : (s.setPort p x).queues = s.queues := rfl
@[simp] theorem State.setPort_time (s : State) (p : Nat) (x : PortSt) : (s.setPort p x).time = s.time := rfl
@[simp] theorem State.setPort_cal (s : State) (p : Nat) (x : PortSt) : (s.setPort p x).cal = s.cal := rfl
@[simp] theorem State.setPort_obs (s : State) (p : Nat) (x : PortSt) : (s.setPort p x).obs = s.obs := rfl
@[simp] theorem State.setPort_arrivals (s : State) (p : Nat) (x : PortSt) : (s.setPort p x).arrivals = s.arrivals := rfl
@[simp] theorem State.setPort_timers (s : State) (p : Nat) (x : PortSt) : (s.setPort p x).timers = s.timers := rfl

/-- The update changes ports alone. -/
theorem State.setPort_eq (s : State) (p : Nat) (x : PortSt) : s.setPort p x = { s with ports := (s.setPort p x).ports } := rfl

/-! ### setQueue -/

@[simp] theorem State.setQueue_regs (s : State) (q : Nat) (x : Queue) : (s.setQueue q x).regs = s.regs := rfl
@[simp] theorem State.setQueue_dev (s : State) (q : Nat) (x : Queue) : (s.setQueue q x).dev = s.dev := rfl
@[simp] theorem State.setQueue_cmd (s : State) (q : Nat) (x : Queue) : (s.setQueue q x).cmd = s.cmd := rfl
@[simp] theorem State.setQueue_evt (s : State) (q : Nat) (x : Queue) : (s.setQueue q x).evt = s.evt := rfl
@[simp] theorem State.setQueue_time (s : State) (q : Nat) (x : Queue) : (s.setQueue q x).time = s.time := rfl
@[simp] theorem State.setQueue_cal (s : State) (q : Nat) (x : Queue) : (s.setQueue q x).cal = s.cal := rfl
@[simp] theorem State.setQueue_obs (s : State) (q : Nat) (x : Queue) : (s.setQueue q x).obs = s.obs := rfl
@[simp] theorem State.setQueue_arrivals (s : State) (q : Nat) (x : Queue) : (s.setQueue q x).arrivals = s.arrivals := rfl
@[simp] theorem State.setQueue_timers (s : State) (q : Nat) (x : Queue) : (s.setQueue q x).timers = s.timers := rfl
@[simp] theorem State.setQueue_ports (s : State) (q : Nat) (x : Queue) : (s.setQueue q x).ports = s.ports := rfl

/-- The update changes queues alone. -/
theorem State.setQueue_eq (s : State) (q : Nat) (x : Queue) : s.setQueue q x = { s with queues := (s.setQueue q x).queues } := rfl

/-! ### updPort -/

@[simp] theorem State.updPort_regs (s : State) (p : Nat) (g : PortSt → PortSt) : (s.updPort p g).regs = s.regs := rfl
@[simp] theorem State.updPort_dev (s : State) (p : Nat) (g : PortSt → PortSt) : (s.updPort p g).dev = s.dev := rfl
@[simp] theorem State.updPort_cmd (s : State) (p : Nat) (g : PortSt → PortSt) : (s.updPort p g).cmd = s.cmd := rfl
@[simp] theorem State.updPort_evt (s : State) (p : Nat) (g : PortSt → PortSt) : (s.updPort p g).evt = s.evt := rfl
@[simp] theorem State.updPort_queues (s : State) (p : Nat) (g : PortSt → PortSt) : (s.updPort p g).queues = s.queues := rfl
@[simp] theorem State.updPort_time (s : State) (p : Nat) (g : PortSt → PortSt) : (s.updPort p g).time = s.time := rfl
@[simp] theorem State.updPort_cal (s : State) (p : Nat) (g : PortSt → PortSt) : (s.updPort p g).cal = s.cal := rfl
@[simp] theorem State.updPort_obs (s : State) (p : Nat) (g : PortSt → PortSt) : (s.updPort p g).obs = s.obs := rfl
@[simp] theorem State.updPort_arrivals (s : State) (p : Nat) (g : PortSt → PortSt) : (s.updPort p g).arrivals = s.arrivals := rfl
@[simp] theorem State.updPort_timers (s : State) (p : Nat) (g : PortSt → PortSt) : (s.updPort p g).timers = s.timers := rfl

/-- The update changes ports alone. -/
theorem State.updPort_eq (s : State) (p : Nat) (g : PortSt → PortSt) : s.updPort p g = { s with ports := (s.updPort p g).ports } := rfl

/-! ### updObs -/

@[simp] theorem State.updObs_regs (s : State) (g : ObsSt → ObsSt) : (s.updObs g).regs = s.regs := rfl
@[simp] theorem State.updObs_dev (s : State) (g : ObsSt → ObsSt) : (s.updObs g).dev = s.dev := rfl
@[simp] theorem State.updObs_cmd (s : State) (g : ObsSt → ObsSt) : (s.updObs g).cmd = s.cmd := rfl
@[simp] theorem State.updObs_evt (s : State) (g : ObsSt → ObsSt) : (s.updObs g).evt = s.evt := rfl
@[simp] theorem State.updObs_queues (s : State) (g : ObsSt → ObsSt) : (s.updObs g).queues = s.queues := rfl
@[simp] theorem State.updObs_time (s : State) (g : ObsSt → ObsSt) : (s.updObs g).time = s.time := rfl
@[simp] theorem State.updObs_cal (s : State) (g : ObsSt → ObsSt) : (s.updObs g).cal = s.cal := rfl
@[simp] theorem State.updObs_arrivals (s : State) (g : ObsSt → ObsSt) : (s.updObs g).arrivals = s.arrivals := rfl
@[simp] theorem State.updObs_timers (s : State) (g : ObsSt → ObsSt) : (s.updObs g).timers = s.timers := rfl
@[simp] theorem State.updObs_ports (s : State) (g : ObsSt → ObsSt) : (s.updObs g).ports = s.ports := rfl

/-- The update changes obs alone. -/
theorem State.updObs_eq (s : State) (g : ObsSt → ObsSt) : s.updObs g = { s with obs := (s.updObs g).obs } := rfl

/-! ### arrive -/

@[simp] theorem State.arrive_regs (s : State) (a : Arrival) : (s.arrive a).regs = s.regs := rfl
@[simp] theorem State.arrive_dev (s : State) (a : Arrival) : (s.arrive a).dev = s.dev := rfl
@[simp] theorem State.arrive_cmd (s : State) (a : Arrival) : (s.arrive a).cmd = s.cmd := rfl
@[simp] theorem State.arrive_evt (s : State) (a : Arrival) : (s.arrive a).evt = s.evt := rfl
@[simp] theorem State.arrive_queues (s : State) (a : Arrival) : (s.arrive a).queues = s.queues := rfl
@[simp] theorem State.arrive_time (s : State) (a : Arrival) : (s.arrive a).time = s.time := rfl
@[simp] theorem State.arrive_cal (s : State) (a : Arrival) : (s.arrive a).cal = s.cal := rfl
@[simp] theorem State.arrive_obs (s : State) (a : Arrival) : (s.arrive a).obs = s.obs := rfl
@[simp] theorem State.arrive_timers (s : State) (a : Arrival) : (s.arrive a).timers = s.timers := rfl
@[simp] theorem State.arrive_ports (s : State) (a : Arrival) : (s.arrive a).ports = s.ports := rfl

/-- The update changes arrivals alone. -/
theorem State.arrive_eq (s : State) (a : Arrival) : s.arrive a = { s with arrivals := (s.arrive a).arrivals } := rfl

/-! ### startTimer -/

@[simp] theorem State.startTimer_regs (s : State) (t : TimerKind) (d : Nat) : (s.startTimer t d).regs = s.regs := rfl
@[simp] theorem State.startTimer_dev (s : State) (t : TimerKind) (d : Nat) : (s.startTimer t d).dev = s.dev := rfl
@[simp] theorem State.startTimer_cmd (s : State) (t : TimerKind) (d : Nat) : (s.startTimer t d).cmd = s.cmd := rfl
@[simp] theorem State.startTimer_evt (s : State) (t : TimerKind) (d : Nat) : (s.startTimer t d).evt = s.evt := rfl
@[simp] theorem State.startTimer_queues (s : State) (t : TimerKind) (d : Nat) : (s.startTimer t d).queues = s.queues := rfl
@[simp] theorem State.startTimer_time (s : State) (t : TimerKind) (d : Nat) : (s.startTimer t d).time = s.time := rfl
@[simp] theorem State.startTimer_cal (s : State) (t : TimerKind) (d : Nat) : (s.startTimer t d).cal = s.cal := rfl
@[simp] theorem State.startTimer_obs (s : State) (t : TimerKind) (d : Nat) : (s.startTimer t d).obs = s.obs := rfl
@[simp] theorem State.startTimer_arrivals (s : State) (t : TimerKind) (d : Nat) : (s.startTimer t d).arrivals = s.arrivals := rfl
@[simp] theorem State.startTimer_ports (s : State) (t : TimerKind) (d : Nat) : (s.startTimer t d).ports = s.ports := rfl

/-- The update changes timers alone. -/
theorem State.startTimer_eq (s : State) (t : TimerKind) (d : Nat) : s.startTimer t d = { s with timers := (s.startTimer t d).timers } := rfl

/-! ### stopTimer -/

@[simp] theorem State.stopTimer_regs (s : State) (t : TimerKind) : (s.stopTimer t).regs = s.regs := rfl
@[simp] theorem State.stopTimer_dev (s : State) (t : TimerKind) : (s.stopTimer t).dev = s.dev := rfl
@[simp] theorem State.stopTimer_cmd (s : State) (t : TimerKind) : (s.stopTimer t).cmd = s.cmd := rfl
@[simp] theorem State.stopTimer_evt (s : State) (t : TimerKind) : (s.stopTimer t).evt = s.evt := rfl
@[simp] theorem State.stopTimer_queues (s : State) (t : TimerKind) : (s.stopTimer t).queues = s.queues := rfl
@[simp] theorem State.stopTimer_time (s : State) (t : TimerKind) : (s.stopTimer t).time = s.time := rfl
@[simp] theorem State.stopTimer_cal (s : State) (t : TimerKind) : (s.stopTimer t).cal = s.cal := rfl
@[simp] theorem State.stopTimer_obs (s : State) (t : TimerKind) : (s.stopTimer t).obs = s.obs := rfl
@[simp] theorem State.stopTimer_arrivals (s : State) (t : TimerKind) : (s.stopTimer t).arrivals = s.arrivals := rfl
@[simp] theorem State.stopTimer_ports (s : State) (t : TimerKind) : (s.stopTimer t).ports = s.ports := rfl

/-- The update changes timers alone. -/
theorem State.stopTimer_eq (s : State) (t : TimerKind) : s.stopTimer t = { s with timers := (s.stopTimer t).timers } := rfl

/-! ### setCond -/

@[simp] theorem State.setCond_regs (s : State) (c : Cond) (b : Bool) : (s.setCond c b).regs = s.regs := rfl
@[simp] theorem State.setCond_dev (s : State) (c : Cond) (b : Bool) : (s.setCond c b).dev = s.dev := rfl
@[simp] theorem State.setCond_cmd (s : State) (c : Cond) (b : Bool) : (s.setCond c b).cmd = s.cmd := rfl
@[simp] theorem State.setCond_queues (s : State) (c : Cond) (b : Bool) : (s.setCond c b).queues = s.queues := rfl
@[simp] theorem State.setCond_time (s : State) (c : Cond) (b : Bool) : (s.setCond c b).time = s.time := rfl
@[simp] theorem State.setCond_cal (s : State) (c : Cond) (b : Bool) : (s.setCond c b).cal = s.cal := rfl
@[simp] theorem State.setCond_obs (s : State) (c : Cond) (b : Bool) : (s.setCond c b).obs = s.obs := rfl
@[simp] theorem State.setCond_arrivals (s : State) (c : Cond) (b : Bool) : (s.setCond c b).arrivals = s.arrivals := rfl
@[simp] theorem State.setCond_timers (s : State) (c : Cond) (b : Bool) : (s.setCond c b).timers = s.timers := rfl
@[simp] theorem State.setCond_ports (s : State) (c : Cond) (b : Bool) : (s.setCond c b).ports = s.ports := rfl

/-- The update changes evt alone. -/
theorem State.setCond_eq (s : State) (c : Cond) (b : Bool) : s.setCond c b = { s with evt := (s.setCond c b).evt } := rfl

/-! ### Masters -/

@[simp] theorem State.updMaster_regs (s : State) (m : Nat) (g : Master → Master) : (s.updMaster m g).regs = s.regs := by
  unfold State.updMaster; split <;> rfl

@[simp] theorem State.updMaster_evt (s : State) (m : Nat) (g : Master → Master) : (s.updMaster m g).evt = s.evt := by
  unfold State.updMaster; split <;> rfl

@[simp] theorem State.updMaster_dev (s : State) (m : Nat) (g : Master → Master) : (s.updMaster m g).dev = s.dev := by
  unfold State.updMaster; split <;> rfl

/-- The record of one master changes, and nothing else. -/
theorem State.updMaster_eq (s : State) (m : Nat) (g : Master → Master) :
    s.updMaster m g = { s with cmd := { s.cmd with
      m0 := if m = 0 then g s.cmd.m0 else s.cmd.m0, m1 := if m = 0 then s.cmd.m1 else g s.cmd.m1 } } := by
  unfold State.updMaster; split <;> rfl

@[simp] theorem State.master_updMaster_same (s : State) (m : Nat) (g : Master → Master) :
    (s.updMaster m g).master m = g (s.master m) := by
  unfold State.updMaster State.master; split <;> rfl

/-! ### Registers after updates of other fields -/

@[simp] theorem State.wrStaged_rd (s : State) (k : Nat) (w : Word) (j : Nat) : (s.wrStaged k w).rd j = s.rd j := State.rd_congr (State.wrStaged_regs _ _ _) j
@[simp] theorem State.wrStaged_get (s : State) (k : Nat) (w : Word) (j : Nat) (f : Fld) : (s.wrStaged k w).get j f = s.get j f :=
  State.get_of_rd (State.wrStaged_rd s k w j) f
@[simp] theorem State.wrStaged_on (s : State) (k : Nat) (w : Word) (j : Nat) (f : Fld) : (s.wrStaged k w).on j f = s.on j f :=
  State.on_of_rd (State.wrStaged_rd s k w j) f
@[simp] theorem State.setPort_rd (s : State) (p : Nat) (x : PortSt) (j : Nat) : (s.setPort p x).rd j = s.rd j := State.rd_congr (State.setPort_regs _ _ _) j
@[simp] theorem State.setPort_get (s : State) (p : Nat) (x : PortSt) (j : Nat) (f : Fld) : (s.setPort p x).get j f = s.get j f :=
  State.get_of_rd (State.setPort_rd s p x j) f
@[simp] theorem State.setPort_on (s : State) (p : Nat) (x : PortSt) (j : Nat) (f : Fld) : (s.setPort p x).on j f = s.on j f :=
  State.on_of_rd (State.setPort_rd s p x j) f
@[simp] theorem State.setQueue_rd (s : State) (q : Nat) (x : Queue) (j : Nat) : (s.setQueue q x).rd j = s.rd j := State.rd_congr (State.setQueue_regs _ _ _) j
@[simp] theorem State.setQueue_get (s : State) (q : Nat) (x : Queue) (j : Nat) (f : Fld) : (s.setQueue q x).get j f = s.get j f :=
  State.get_of_rd (State.setQueue_rd s q x j) f
@[simp] theorem State.setQueue_on (s : State) (q : Nat) (x : Queue) (j : Nat) (f : Fld) : (s.setQueue q x).on j f = s.on j f :=
  State.on_of_rd (State.setQueue_rd s q x j) f
@[simp] theorem State.updPort_rd (s : State) (p : Nat) (g : PortSt → PortSt) (j : Nat) : (s.updPort p g).rd j = s.rd j := State.rd_congr (State.updPort_regs _ _ _) j
@[simp] theorem State.updPort_get (s : State) (p : Nat) (g : PortSt → PortSt) (j : Nat) (f : Fld) : (s.updPort p g).get j f = s.get j f :=
  State.get_of_rd (State.updPort_rd s p g j) f
@[simp] theorem State.updPort_on (s : State) (p : Nat) (g : PortSt → PortSt) (j : Nat) (f : Fld) : (s.updPort p g).on j f = s.on j f :=
  State.on_of_rd (State.updPort_rd s p g j) f
@[simp] theorem State.updObs_rd (s : State) (g : ObsSt → ObsSt) (j : Nat) : (s.updObs g).rd j = s.rd j := State.rd_congr (State.updObs_regs _ _) j
@[simp] theorem State.updObs_get (s : State) (g : ObsSt → ObsSt) (j : Nat) (f : Fld) : (s.updObs g).get j f = s.get j f :=
  State.get_of_rd (State.updObs_rd s g j) f
@[simp] theorem State.updObs_on (s : State) (g : ObsSt → ObsSt) (j : Nat) (f : Fld) : (s.updObs g).on j f = s.on j f :=
  State.on_of_rd (State.updObs_rd s g j) f
@[simp] theorem State.arrive_rd (s : State) (a : Arrival) (j : Nat) : (s.arrive a).rd j = s.rd j := State.rd_congr (State.arrive_regs _ _) j
@[simp] theorem State.arrive_get (s : State) (a : Arrival) (j : Nat) (f : Fld) : (s.arrive a).get j f = s.get j f :=
  State.get_of_rd (State.arrive_rd s a j) f
@[simp] theorem State.arrive_on (s : State) (a : Arrival) (j : Nat) (f : Fld) : (s.arrive a).on j f = s.on j f :=
  State.on_of_rd (State.arrive_rd s a j) f
@[simp] theorem State.startTimer_rd (s : State) (t : TimerKind) (d : Nat) (j : Nat) : (s.startTimer t d).rd j = s.rd j := State.rd_congr (State.startTimer_regs _ _ _) j
@[simp] theorem State.startTimer_get (s : State) (t : TimerKind) (d : Nat) (j : Nat) (f : Fld) : (s.startTimer t d).get j f = s.get j f :=
  State.get_of_rd (State.startTimer_rd s t d j) f
@[simp] theorem State.startTimer_on (s : State) (t : TimerKind) (d : Nat) (j : Nat) (f : Fld) : (s.startTimer t d).on j f = s.on j f :=
  State.on_of_rd (State.startTimer_rd s t d j) f
@[simp] theorem State.stopTimer_rd (s : State) (t : TimerKind) (j : Nat) : (s.stopTimer t).rd j = s.rd j := State.rd_congr (State.stopTimer_regs _ _) j
@[simp] theorem State.stopTimer_get (s : State) (t : TimerKind) (j : Nat) (f : Fld) : (s.stopTimer t).get j f = s.get j f :=
  State.get_of_rd (State.stopTimer_rd s t j) f
@[simp] theorem State.stopTimer_on (s : State) (t : TimerKind) (j : Nat) (f : Fld) : (s.stopTimer t).on j f = s.on j f :=
  State.on_of_rd (State.stopTimer_rd s t j) f
@[simp] theorem State.setCond_rd (s : State) (c : Cond) (b : Bool) (j : Nat) : (s.setCond c b).rd j = s.rd j := State.rd_congr (State.setCond_regs _ _ _) j
@[simp] theorem State.setCond_get (s : State) (c : Cond) (b : Bool) (j : Nat) (f : Fld) : (s.setCond c b).get j f = s.get j f :=
  State.get_of_rd (State.setCond_rd s c b j) f
@[simp] theorem State.setCond_on (s : State) (c : Cond) (b : Bool) (j : Nat) (f : Fld) : (s.setCond c b).on j f = s.on j f :=
  State.on_of_rd (State.setCond_rd s c b j) f
@[simp] theorem State.updMaster_rd (s : State) (m : Nat) (g : Master → Master) (j : Nat) : (s.updMaster m g).rd j = s.rd j := State.rd_congr (State.updMaster_regs _ _ _) j
@[simp] theorem State.updMaster_get (s : State) (m : Nat) (g : Master → Master) (j : Nat) (f : Fld) : (s.updMaster m g).get j f = s.get j f :=
  State.get_of_rd (State.updMaster_rd s m g j) f
@[simp] theorem State.updMaster_on (s : State) (m : Nat) (g : Master → Master) (j : Nat) (f : Fld) : (s.updMaster m g).on j f = s.on j f :=
  State.on_of_rd (State.updMaster_rd s m g j) f

/-! ### Tables of entities -/

@[simp] theorem State.port_setPort (s : State) (p q : Nat) (x : PortSt) :
    (s.setPort p x).port q = if q = p then x else s.port q := by
  simp [State.port, State.setPort, Tbl.getD_store]

@[simp] theorem State.port_updPort (s : State) (p q : Nat) (g : PortSt → PortSt) :
    (s.updPort p g).port q = if q = p then g (s.port p) else s.port q := by
  simp [State.updPort]

@[simp] theorem State.queue_setQueue (s : State) (p q : Nat) (x : Queue) :
    (s.setQueue p x).queue q = if q = p then x else s.queue q := by
  simp [State.queue, State.setQueue, Tbl.getD_store]

/-! ### Timers -/

/-- A timer started runs, due after its time (R59). -/
theorem State.startTimer_mem (s : State) (t : TimerKind) (d : Nat) :
    ⟨t, s.dev.ticks + d⟩ ∈ (s.startTimer t d).timers := by simp [State.startTimer]

@[simp] theorem State.hasTimer_startTimer (s : State) (t : TimerKind) (d : Nat) :
    (s.startTimer t d).hasTimer t = true := by simp [State.hasTimer, State.startTimer]

@[simp] theorem State.hasTimer_stopTimer (s : State) (t : TimerKind) : (s.stopTimer t).hasTimer t = false := by
  simp [State.hasTimer, State.stopTimer]

theorem State.hasTimer_stopTimer_other (s : State) (t u : TimerKind) (h : u ≠ t) :
    (s.stopTimer t).hasTimer u = s.hasTimer u := by
  simp only [State.hasTimer, State.stopTimer, List.any_filter]
  congr 1; funext x
  by_cases hx : x.kind = u
  · simp [hx, h]
  · simp [hx]

@[simp] theorem State.arrivals_arrive (s : State) (a : Arrival) : (s.arrive a).arrivals = s.arrivals ++ [a] := rfl

/-- Two reads with a write between them of another register's field agree. -/
theorem State.on_put_other (s : State) (j k : Nat) (f g : Fld) (v : Nat) (h : j ≠ k) :
    (s.put k f v).on j g = s.on j g := by
  unfold State.on; rw [State.get_put_other]; exact h

/-- A field of a master's record that the master's update keeps, read through either master. -/
theorem State.master_updMaster_other (s : State) (m n : Nat) (g : Master → Master) (h : (m = 0) ≠ (n = 0)) :
    (s.updMaster m g).master n = s.master n := by
  unfold State.updMaster State.master
  by_cases hm : m = 0 <;> by_cases hn : n = 0 <;> simp_all

end Sys2Proof.Machine
end

