-- ==== Sys2Proof/Laws/Events.lean ====
section
/-! SUPPORT. Everything trace capture, an event, a lasting condition and the evaluation of the interrupts can do. -/

namespace Sys2Proof.Machine

/-! ### Registers alone -/

theorem OnlyRegs.refl (s : State) (ks : List Nat) : OnlyRegs s s ks := ⟨rfl, fun _ _ => rfl⟩

theorem OnlyRegs.trans {s t u : State} {ks : List Nat} (h1 : OnlyRegs s t ks) (h2 : OnlyRegs t u ks) : OnlyRegs s u ks := by
  refine ⟨?_, fun k hk => (h2.2 k hk).trans (h1.2 k hk)⟩
  have e1 := h1.1
  have e2 := h2.1
  generalize u.regs = r at *
  subst e2
  generalize t.regs = r' at *
  subst e1
  rfl

theorem OnlyRegs.wr (s : State) (k : Nat) (w : Word) {ks : List Nat} (h : k ∈ ks) : OnlyRegs s (s.wr k w) ks :=
  ⟨rfl, fun _ hj => State.rd_wr_other _ _ _ _ fun e => hj (e ▸ h)⟩

theorem OnlyRegs.put (s : State) (k : Nat) (f : Fld) (v : Nat) {ks : List Nat} (h : k ∈ ks) :
    OnlyRegs s (s.put k f v) ks := OnlyRegs.wr s k _ h

theorem OnlyRegs.bump (s : State) (k : Nat) (f : Fld) (n : Nat) {ks : List Nat} (h : k ∈ ks) :
    OnlyRegs s (s.bump k f n) ks := OnlyRegs.wr s k _ h

/-! ### Trace capture -/

theorem ButTrace.refl (s : State) : ButTrace s s := ⟨rfl, fun _ _ _ => rfl⟩

theorem ButTrace.trans {s t u : State} (h1 : ButTrace s t) (h2 : ButTrace t u) : ButTrace s u := by
  refine ⟨?_, fun k a b => (h2.2 k a b).trans (h1.2 k a b)⟩
  have e1 := h1.1
  have e2 := h2.1
  generalize u.regs = r, u.obs = o, u.dev.freeCtr = c at *
  subst e2
  generalize t.regs = r', t.obs = o', t.dev.freeCtr = c' at *
  subst e1
  rfl

theorem ButTrace.wr (s : State) (j : Nat) (w : Word) (h : j = OBS_DROP_CNT.key ∨ j = OBS_TRACE_STATUS.key) :
    ButTrace s (s.wr j w) := by
  refine ⟨rfl, fun k a b => State.rd_wr_other _ _ _ _ ?_⟩
  rcases h with rfl | rfl <;> assumption

theorem ButTrace.updObs (s : State) (g : ObsSt → ObsSt) : ButTrace s (s.updObs g) := ⟨rfl, fun _ _ _ => rfl⟩

theorem State.dropRecord_butTrace (s : State) : ButTrace s s.dropRecord :=
  ((ButTrace.wr s _ _ (.inl rfl)).trans (ButTrace.wr _ _ _ (.inr rfl))).trans (ButTrace.updObs _ _)

theorem State.pushRecord_butTrace (s : State) (r : TraceRec) : ButTrace s (s.pushRecord r) := by
  unfold State.pushRecord
  split
  · exact ⟨rfl, fun _ _ _ => rfl⟩
  · exact s.dropRecord_butTrace

/-- A capture touches the observation unit, the free-value counter and the trace's registers. -/
theorem State.capture_butTrace (s : State) (cls : Nat) (who : Option Nat) (trunc : Bool) (body : List Byte) :
    ButTrace s (s.capture cls who trunc body) := by
  unfold State.capture
  split
  · refine ButTrace.trans ?_ (State.pushRecord_butTrace _ _)
    exact ⟨rfl, fun _ _ _ => rfl⟩
  · exact ButTrace.refl s

/-- With TRACE_EN clear nothing is captured. -/
theorem State.capture_off (s : State) (cls : Nat) (who : Option Nat) (trunc : Bool) (body : List Byte)
    (h : s.on OBS_TRACE_CFG.key OBS_TRACE_CFG.TRACE_EN = false) : s.capture cls who trunc body = s := by
  simp [State.capture, State.captures, h]

/-! ### Events -/

theorem Raised.nil (s : State) : Raised s s [] := ⟨by simp, fun _ _ => rfl, by simp⟩

theorem sticky_key_note (m i : Nat) (hm : m < 2) (hi : i < 384) : noteReg (EVT_STICKY.key m (i / 32)) = true := by
  have h1 : i / 32 < 12 := by omega
  have : 0xF040 ≤ EVT_STICKY.key m (i / 32) ∧ EVT_STICKY.key m (i / 32) < 0xF0B0 := by
    unfold EVT_STICKY.key; omega
  simp [noteReg, this]

theorem State.rd_setSticky (s : State) (m i k : Nat) : (s.setSticky m i).rd k =
    if k = EVT_STICKY.key m (i / 32) then s.rd k ||| BitVec.ofNat 32 (2 ^ (i % 32)) else s.rd k := by
  unfold State.setSticky
  simp only [State.rd_wr]
  split
  · next h => subst h; rfl
  · rfl

/-- A sticky bit once set stays set when other sources' are set. -/
theorem State.sticky_setSticky (s : State) (m n i j : Nat) (h : s.sticky m i = true) :
    (s.setSticky n j).sticky m i = true := by
  unfold State.sticky at h ⊢
  rw [State.rd_setSticky]
  split
  · simp [h]
  · exact h

theorem State.sticky_setSticky_same (s : State) (m i : Nat) : (s.setSticky m i).sticky m i = true := by
  unfold State.sticky
  rw [State.rd_setSticky, if_pos rfl]
  have hi : i % 32 < 32 := Nat.mod_lt _ (by norm_num)
  rw [BitVec.getLsbD_or, BitVec.getLsbD_ofNat]
  simp [hi, Nat.testBit_two_pow_self]

/-- The event joins the tick's record, the sticky bits of both masters are set, and nothing else changes but trace
capture (R393, R395). -/
theorem State.eventX_raised (s : State) (source code : Nat) (set : Bool) (entity : Nat) (ext : List Nat)
    (hsrc : source < 384) :
    Raised s (s.eventX source code set entity ext)
      [⟨source, code, set, eventLevel source code, entity, ext.map (BitVec.ofNat 58)⟩] := by
  unfold State.eventX
  simp only
  set e : EventRec := ⟨source, code, set, eventLevel source code, entity, ext.map (BitVec.ofNat 58)⟩ with he
  set s1 : State := (s.setSticky 0 source).setSticky 1 source with hs1
  set s2 : State := { s1 with evt := { s1.evt with tick := s1.evt.tick ++ [e] } } with hs2
  have hc := State.capture_butTrace s2 3 none false ((eventWords e).flatMap fun (w : BitVec 64) => beBytes 8 w.toNat)
  set x : State := s2.capture 3 none false ((eventWords e).flatMap fun (w : BitVec 64) => beBytes 8 w.toNat) with hx
  refine ⟨?_, fun k hk => ?_, ?_⟩
  · have := hc.1
    rw [this]
    rfl
  · have hk' : k ≠ OBS_DROP_CNT.key ∧ k ≠ OBS_TRACE_STATUS.key := by
      constructor <;> rintro rfl <;> simp [noteReg] at hk
    rw [hc.2 k hk'.1 hk'.2]
    have n0 : k ≠ EVT_STICKY.key 0 (source / 32) := by
      rintro rfl; rw [sticky_key_note 0 source (by omega) hsrc] at hk; exact absurd hk (by simp)
    have n1 : k ≠ EVT_STICKY.key 1 (source / 32) := by
      rintro rfl; rw [sticky_key_note 1 source (by omega) hsrc] at hk; exact absurd hk (by simp)
    show s1.rd k = s.rd k
    rw [hs1, State.rd_setSticky, if_neg n1, State.rd_setSticky, if_neg n0]
  · intro e' he' m hm _
    have he'' : e' = e := by simpa using he'
    subst he''
    have hmem : s1.sticky m source = true := by
      rw [hs1]
      interval_cases m
      · exact State.sticky_setSticky _ _ _ _ _ (State.sticky_setSticky_same _ _ _)
      · exact State.sticky_setSticky_same _ _ _
    show x.sticky m source = true
    unfold State.sticky at hmem ⊢
    have hk : EVT_STICKY.key m (source / 32) ≠ OBS_DROP_CNT.key ∧ EVT_STICKY.key m (source / 32) ≠ OBS_TRACE_STATUS.key := by
      have : EVT_STICKY.key m (source / 32) < 0xF0B0 := by unfold EVT_STICKY.key; omega
      constructor <;> (intro h; rw [h] at this; revert this; decide)
    rw [hc.2 _ hk.1 hk.2]
    exact hmem

theorem State.event_raised (s : State) (source code : Nat) (set : Bool) (entity : Nat) (hsrc : source < 384) :
    Raised s (s.event source code set entity) [⟨source, code, set, eventLevel source code, entity, []⟩] :=
  s.eventX_raised source code set entity [] hsrc

/-- The sticky bits an event record sets are kept by further events. -/
theorem Raised.sticky_kept {s x : State} {es : List EventRec} (h : Raised s x es) : x.evt.tick = s.evt.tick ++ es := by
  rw [h.1]

/-! ### Interrupts -/

theorem State.pendingBit_congr {s t : State} (h : t.regs = s.regs) (m : Nat) : t.pendingBit m = s.pendingBit m := by
  simp [State.pendingBit, State.rd_congr h, State.on_congr h]

theorem Master.sameButMsi_refl (x : Master) : x.sameButMsi x := rfl

theorem State.sendMsi_eq (s : State) (m : Nat) :
    ∃ g : Master → Master, s.sendMsi m = s.updMaster m g ∧ (∀ x : Master, x.sameButMsi (g x)) ∧
      ∀ x : Master, (g x).wasPending = x.wasPending := by
  unfold State.sendMsi
  split <;> exact ⟨_, rfl, fun x => rfl, fun x => rfl⟩

theorem Master.sameButMsi_trans {x y z : Master} (h1 : x.sameButMsi y) (h2 : y.sameButMsi z) : x.sameButMsi z := by
  unfold Master.sameButMsi at *
  generalize z.msiLast = a, z.msiSent = b, z.msiWaiting = c, z.wasPending = d at *
  subst h2
  generalize y.msiLast = a', y.msiSent = b', y.msiWaiting = c', y.wasPending = d' at *
  subst h1
  rfl

theorem State.updMaster_updMaster (s : State) (m : Nat) (f g : Master → Master) :
    (s.updMaster m f).updMaster m g = s.updMaster m fun x => g (f x) := by
  unfold State.updMaster; split <;> rfl

/-- PENDING of one master is evaluated: its record follows, and nothing else changes. -/
theorem State.settle1_eq (s : State) (m : Nat) :
    ∃ g : Master → Master, s.settle1 m = s.updMaster m g ∧ (∀ x : Master, x.sameButMsi (g x)) ∧
      ∀ x, (g x).wasPending = s.pendingBit m := by
  unfold State.settle1
  simp only
  split
  · obtain ⟨g, h, h1, h2⟩ := (s.updMaster m fun x => { x with wasPending := s.pendingBit m }).sendMsi_eq m
    refine ⟨_, h.trans (State.updMaster_updMaster _ _ _ _), fun x => ?_, fun x => ?_⟩
    · exact Master.sameButMsi_trans (y := { x with wasPending := s.pendingBit m }) rfl (h1 _)
    · exact h2 _
  · exact ⟨_, rfl, fun x => rfl, fun x => rfl⟩

/-- The end of every command evaluates both interrupts and changes nothing else. -/
theorem State.settle_settled (x : State) : Settled x x.settle := by
  obtain ⟨f, hf, sf, pf⟩ := x.settle1_eq 0
  obtain ⟨g, hg, sg, pg⟩ := (x.settle1 0).settle1_eq 1
  have e : x.settle = { x with cmd := { x.cmd with m0 := f x.cmd.m0, m1 := g x.cmd.m1 } } := by
    unfold State.settle
    rw [hg, hf]
    rfl
  have hr : x.settle.regs = x.regs := by rw [e]
  have h0 : (x.settle1 0).pendingBit 1 = x.pendingBit 1 := by rw [hf]; exact State.pendingBit_congr (by simp) 1
  refine ⟨by rw [e], by rw [e]; exact sf _, by rw [e]; exact sg _, ?_, ?_⟩
  · rw [State.pendingBit_congr hr, e]; exact pf _
  · rw [State.pendingBit_congr hr, e]; exact (pg _).trans h0

/-- A meaning that ends by evaluating the interrupts answers the state before that evaluation. -/
theorem answers_of {c : Instr} {s x : State} {P : State → Prop} (h : exec c s = .next x.settle) (hx : P x) :
    Answers c s P := ⟨x, x.settle, h, x.settle_settled, hx⟩

/-- Registers read after the interrupts were evaluated as before. -/
theorem Settled.rd {x t : State} (h : Settled x t) (k : Nat) : t.rd k = x.rd k := by
  rw [h.1]; rfl

theorem State.settle_rd (x : State) (k : Nat) : x.settle.rd k = x.rd k := (x.settle_settled).rd k

end Sys2Proof.Machine
end

