-- ==== Sys2Proof/Laws/Memory.lean ====
section
/-! SUPPORT. Laws of the memory targets: a write keeps the canonical form, reads back what it stored, and leaves every
other byte and everything beside the memory as it was. -/

namespace Sys2Proof.Machine

@[simp] theorem State.memWrite_nil (s : State) (a : Nat) : s.memWrite a [] = s := rfl

theorem State.memWrite_cons (s : State) (a : Nat) (b : Byte) (bs : List Byte) :
    s.memWrite a (b :: bs) = ({ s with bus := { s.bus with mem := Tbl.put s.bus.mem a b } }).memWrite (a + 1) bs := rfl

/-- A memory write changes the memory alone. -/
theorem State.memWrite_frame (s : State) (a : Nat) (bs : List Byte) :
    s.memWrite a bs = { s with bus := { s.bus with mem := (s.memWrite a bs).bus.mem } } := by
  induction bs generalizing s a with
  | nil => rfl
  | cons b bs ih => rw [State.memWrite_cons]; exact ih _ _

/-- The memory keeps its canonical form. -/
theorem State.memWrite_wf (s : State) (a : Nat) (bs : List Byte) (h : memoryWf s.bus.mem = true) :
    memoryWf (s.memWrite a bs).bus.mem = true := by
  induction bs generalizing s a with
  | nil => exact h
  | cons b bs ih => rw [State.memWrite_cons]; exact ih _ _ (Tbl.sorted_put h a b)

/-- A byte outside the bytes written reads as before. -/
theorem State.memWrite_other (s : State) (a : Nat) (bs : List Byte) (i : Nat) (h : i < a ∨ a + bs.length ≤ i) :
    Tbl.find (s.memWrite a bs).bus.mem i = Tbl.find s.bus.mem i := by
  induction bs generalizing s a with
  | nil => rfl
  | cons b bs ih =>
    simp only [List.length_cons] at h
    rw [State.memWrite_cons, ih _ _ (by omega)]
    exact Tbl.find_put_other _ _ _ _ (by omega)

/-- A byte written reads back. -/
theorem State.memWrite_same (s : State) (a : Nat) (bs : List Byte) (i : Nat) (h : i < bs.length) :
    Tbl.find (s.memWrite a bs).bus.mem (a + i) = some (bs.getD i 0) := by
  induction bs generalizing s a i with
  | nil => simp at h
  | cons b bs ih =>
    rw [State.memWrite_cons]
    cases i with
    | zero => rw [State.memWrite_other _ _ _ _ (by omega)]; simp
    | succ i =>
      simp only [List.length_cons] at h
      rw [show a + (i + 1) = a + 1 + i by omega, ih _ _ _ (by omega)]
      simp

end Sys2Proof.Machine
end

