-- ==== Sys2Proof/Laws/Units.lean ====
section
/-! SUPPORT. Laws of the updates of one unit's state: the other fields stay, registers read as before. -/

namespace Sys2Proof.Machine

/-! ### pins -/

@[simp] theorem State.updPins_pins (s : State) (g : PinSt → PinSt) : (s.updPins g).pins = g s.pins := rfl
@[simp] theorem State.updPins_regs (s : State) (g : PinSt → PinSt) : (s.updPins g).regs = s.regs := rfl
@[simp] theorem State.updPins_dev (s : State) (g : PinSt → PinSt) : (s.updPins g).dev = s.dev := rfl
@[simp] theorem State.updPins_cmd (s : State) (g : PinSt → PinSt) : (s.updPins g).cmd = s.cmd := rfl
@[simp] theorem State.updPins_evt (s : State) (g : PinSt → PinSt) : (s.updPins g).evt = s.evt := rfl
@[simp] theorem State.updPins_queues (s : State) (g : PinSt → PinSt) : (s.updPins g).queues = s.queues := rfl
@[simp] theorem State.updPins_time (s : State) (g : PinSt → PinSt) : (s.updPins g).time = s.time := rfl
@[simp] theorem State.updPins_cal (s : State) (g : PinSt → PinSt) : (s.updPins g).cal = s.cal := rfl
@[simp] theorem State.updPins_obs (s : State) (g : PinSt → PinSt) : (s.updPins g).obs = s.obs := rfl
@[simp] theorem State.updPins_arrivals (s : State) (g : PinSt → PinSt) : (s.updPins g).arrivals = s.arrivals := rfl
@[simp] theorem State.updPins_timers (s : State) (g : PinSt → PinSt) : (s.updPins g).timers = s.timers := rfl
@[simp] theorem State.updPins_ports (s : State) (g : PinSt → PinSt) : (s.updPins g).ports = s.ports := rfl
@[simp] theorem State.updPins_grate (s : State) (g : PinSt → PinSt) : (s.updPins g).grate = s.grate := rfl
@[simp] theorem State.updPins_rd (s : State) (g : PinSt → PinSt) (k : Nat) : (s.updPins g).rd k = s.rd k := rfl
@[simp] theorem State.updPins_get (s : State) (g : PinSt → PinSt) (k : Nat) (f : Fld) : (s.updPins g).get k f = s.get k f := rfl
@[simp] theorem State.updPins_on (s : State) (g : PinSt → PinSt) (k : Nat) (f : Fld) : (s.updPins g).on k f = s.on k f := rfl
theorem State.updPins_eq (s : State) (g : PinSt → PinSt) : s.updPins g = { s with pins := g s.pins } := rfl

/-! ### pair -/

@[simp] theorem State.updPair_pair (s : State) (g : PairSt → PairSt) : (s.updPair g).pair = g s.pair := rfl
@[simp] theorem State.updPair_regs (s : State) (g : PairSt → PairSt) : (s.updPair g).regs = s.regs := rfl
@[simp] theorem State.updPair_dev (s : State) (g : PairSt → PairSt) : (s.updPair g).dev = s.dev := rfl
@[simp] theorem State.updPair_cmd (s : State) (g : PairSt → PairSt) : (s.updPair g).cmd = s.cmd := rfl
@[simp] theorem State.updPair_evt (s : State) (g : PairSt → PairSt) : (s.updPair g).evt = s.evt := rfl
@[simp] theorem State.updPair_queues (s : State) (g : PairSt → PairSt) : (s.updPair g).queues = s.queues := rfl
@[simp] theorem State.updPair_time (s : State) (g : PairSt → PairSt) : (s.updPair g).time = s.time := rfl
@[simp] theorem State.updPair_cal (s : State) (g : PairSt → PairSt) : (s.updPair g).cal = s.cal := rfl
@[simp] theorem State.updPair_obs (s : State) (g : PairSt → PairSt) : (s.updPair g).obs = s.obs := rfl
@[simp] theorem State.updPair_arrivals (s : State) (g : PairSt → PairSt) : (s.updPair g).arrivals = s.arrivals := rfl
@[simp] theorem State.updPair_timers (s : State) (g : PairSt → PairSt) : (s.updPair g).timers = s.timers := rfl
@[simp] theorem State.updPair_ports (s : State) (g : PairSt → PairSt) : (s.updPair g).ports = s.ports := rfl
@[simp] theorem State.updPair_grate (s : State) (g : PairSt → PairSt) : (s.updPair g).grate = s.grate := rfl
@[simp] theorem State.updPair_rd (s : State) (g : PairSt → PairSt) (k : Nat) : (s.updPair g).rd k = s.rd k := rfl
@[simp] theorem State.updPair_get (s : State) (g : PairSt → PairSt) (k : Nat) (f : Fld) : (s.updPair g).get k f = s.get k f := rfl
@[simp] theorem State.updPair_on (s : State) (g : PairSt → PairSt) (k : Nat) (f : Fld) : (s.updPair g).on k f = s.on k f := rfl
theorem State.updPair_eq (s : State) (g : PairSt → PairSt) : s.updPair g = { s with pair := g s.pair } := rfl

/-! ### sync -/

@[simp] theorem State.updSync_sync (s : State) (g : SyncSt → SyncSt) : (s.updSync g).sync = g s.sync := rfl
@[simp] theorem State.updSync_regs (s : State) (g : SyncSt → SyncSt) : (s.updSync g).regs = s.regs := rfl
@[simp] theorem State.updSync_dev (s : State) (g : SyncSt → SyncSt) : (s.updSync g).dev = s.dev := rfl
@[simp] theorem State.updSync_cmd (s : State) (g : SyncSt → SyncSt) : (s.updSync g).cmd = s.cmd := rfl
@[simp] theorem State.updSync_evt (s : State) (g : SyncSt → SyncSt) : (s.updSync g).evt = s.evt := rfl
@[simp] theorem State.updSync_queues (s : State) (g : SyncSt → SyncSt) : (s.updSync g).queues = s.queues := rfl
@[simp] theorem State.updSync_time (s : State) (g : SyncSt → SyncSt) : (s.updSync g).time = s.time := rfl
@[simp] theorem State.updSync_cal (s : State) (g : SyncSt → SyncSt) : (s.updSync g).cal = s.cal := rfl
@[simp] theorem State.updSync_obs (s : State) (g : SyncSt → SyncSt) : (s.updSync g).obs = s.obs := rfl
@[simp] theorem State.updSync_arrivals (s : State) (g : SyncSt → SyncSt) : (s.updSync g).arrivals = s.arrivals := rfl
@[simp] theorem State.updSync_timers (s : State) (g : SyncSt → SyncSt) : (s.updSync g).timers = s.timers := rfl
@[simp] theorem State.updSync_ports (s : State) (g : SyncSt → SyncSt) : (s.updSync g).ports = s.ports := rfl
@[simp] theorem State.updSync_grate (s : State) (g : SyncSt → SyncSt) : (s.updSync g).grate = s.grate := rfl
@[simp] theorem State.updSync_rd (s : State) (g : SyncSt → SyncSt) (k : Nat) : (s.updSync g).rd k = s.rd k := rfl
@[simp] theorem State.updSync_get (s : State) (g : SyncSt → SyncSt) (k : Nat) (f : Fld) : (s.updSync g).get k f = s.get k f := rfl
@[simp] theorem State.updSync_on (s : State) (g : SyncSt → SyncSt) (k : Nat) (f : Fld) : (s.updSync g).on k f = s.on k f := rfl
theorem State.updSync_eq (s : State) (g : SyncSt → SyncSt) : s.updSync g = { s with sync := g s.sync } := rfl

/-! ### ring -/

@[simp] theorem State.updRing_ring (s : State) (g : RingSt → RingSt) : (s.updRing g).ring = g s.ring := rfl
@[simp] theorem State.updRing_regs (s : State) (g : RingSt → RingSt) : (s.updRing g).regs = s.regs := rfl
@[simp] theorem State.updRing_dev (s : State) (g : RingSt → RingSt) : (s.updRing g).dev = s.dev := rfl
@[simp] theorem State.updRing_cmd (s : State) (g : RingSt → RingSt) : (s.updRing g).cmd = s.cmd := rfl
@[simp] theorem State.updRing_evt (s : State) (g : RingSt → RingSt) : (s.updRing g).evt = s.evt := rfl
@[simp] theorem State.updRing_queues (s : State) (g : RingSt → RingSt) : (s.updRing g).queues = s.queues := rfl
@[simp] theorem State.updRing_time (s : State) (g : RingSt → RingSt) : (s.updRing g).time = s.time := rfl
@[simp] theorem State.updRing_cal (s : State) (g : RingSt → RingSt) : (s.updRing g).cal = s.cal := rfl
@[simp] theorem State.updRing_obs (s : State) (g : RingSt → RingSt) : (s.updRing g).obs = s.obs := rfl
@[simp] theorem State.updRing_arrivals (s : State) (g : RingSt → RingSt) : (s.updRing g).arrivals = s.arrivals := rfl
@[simp] theorem State.updRing_timers (s : State) (g : RingSt → RingSt) : (s.updRing g).timers = s.timers := rfl
@[simp] theorem State.updRing_ports (s : State) (g : RingSt → RingSt) : (s.updRing g).ports = s.ports := rfl
@[simp] theorem State.updRing_grate (s : State) (g : RingSt → RingSt) : (s.updRing g).grate = s.grate := rfl
@[simp] theorem State.updRing_rd (s : State) (g : RingSt → RingSt) (k : Nat) : (s.updRing g).rd k = s.rd k := rfl
@[simp] theorem State.updRing_get (s : State) (g : RingSt → RingSt) (k : Nat) (f : Fld) : (s.updRing g).get k f = s.get k f := rfl
@[simp] theorem State.updRing_on (s : State) (g : RingSt → RingSt) (k : Nat) (f : Fld) : (s.updRing g).on k f = s.on k f := rfl
theorem State.updRing_eq (s : State) (g : RingSt → RingSt) : s.updRing g = { s with ring := g s.ring } := rfl

/-! ### health -/

@[simp] theorem State.updHealth_health (s : State) (g : HealthSt → HealthSt) : (s.updHealth g).health = g s.health := rfl
@[simp] theorem State.updHealth_regs (s : State) (g : HealthSt → HealthSt) : (s.updHealth g).regs = s.regs := rfl
@[simp] theorem State.updHealth_dev (s : State) (g : HealthSt → HealthSt) : (s.updHealth g).dev = s.dev := rfl
@[simp] theorem State.updHealth_cmd (s : State) (g : HealthSt → HealthSt) : (s.updHealth g).cmd = s.cmd := rfl
@[simp] theorem State.updHealth_evt (s : State) (g : HealthSt → HealthSt) : (s.updHealth g).evt = s.evt := rfl
@[simp] theorem State.updHealth_queues (s : State) (g : HealthSt → HealthSt) : (s.updHealth g).queues = s.queues := rfl
@[simp] theorem State.updHealth_time (s : State) (g : HealthSt → HealthSt) : (s.updHealth g).time = s.time := rfl
@[simp] theorem State.updHealth_cal (s : State) (g : HealthSt → HealthSt) : (s.updHealth g).cal = s.cal := rfl
@[simp] theorem State.updHealth_obs (s : State) (g : HealthSt → HealthSt) : (s.updHealth g).obs = s.obs := rfl
@[simp] theorem State.updHealth_arrivals (s : State) (g : HealthSt → HealthSt) : (s.updHealth g).arrivals = s.arrivals := rfl
@[simp] theorem State.updHealth_timers (s : State) (g : HealthSt → HealthSt) : (s.updHealth g).timers = s.timers := rfl
@[simp] theorem State.updHealth_ports (s : State) (g : HealthSt → HealthSt) : (s.updHealth g).ports = s.ports := rfl
@[simp] theorem State.updHealth_grate (s : State) (g : HealthSt → HealthSt) : (s.updHealth g).grate = s.grate := rfl
@[simp] theorem State.updHealth_rd (s : State) (g : HealthSt → HealthSt) (k : Nat) : (s.updHealth g).rd k = s.rd k := rfl
@[simp] theorem State.updHealth_get (s : State) (g : HealthSt → HealthSt) (k : Nat) (f : Fld) : (s.updHealth g).get k f = s.get k f := rfl
@[simp] theorem State.updHealth_on (s : State) (g : HealthSt → HealthSt) (k : Nat) (f : Fld) : (s.updHealth g).on k f = s.on k f := rfl
theorem State.updHealth_eq (s : State) (g : HealthSt → HealthSt) : s.updHealth g = { s with health := g s.health } := rfl

/-! ### fw -/

@[simp] theorem State.updFw_fw (s : State) (g : FwSt → FwSt) : (s.updFw g).fw = g s.fw := rfl
@[simp] theorem State.updFw_regs (s : State) (g : FwSt → FwSt) : (s.updFw g).regs = s.regs := rfl
@[simp] theorem State.updFw_dev (s : State) (g : FwSt → FwSt) : (s.updFw g).dev = s.dev := rfl
@[simp] theorem State.updFw_cmd (s : State) (g : FwSt → FwSt) : (s.updFw g).cmd = s.cmd := rfl
@[simp] theorem State.updFw_evt (s : State) (g : FwSt → FwSt) : (s.updFw g).evt = s.evt := rfl
@[simp] theorem State.updFw_queues (s : State) (g : FwSt → FwSt) : (s.updFw g).queues = s.queues := rfl
@[simp] theorem State.updFw_time (s : State) (g : FwSt → FwSt) : (s.updFw g).time = s.time := rfl
@[simp] theorem State.updFw_cal (s : State) (g : FwSt → FwSt) : (s.updFw g).cal = s.cal := rfl
@[simp] theorem State.updFw_obs (s : State) (g : FwSt → FwSt) : (s.updFw g).obs = s.obs := rfl
@[simp] theorem State.updFw_arrivals (s : State) (g : FwSt → FwSt) : (s.updFw g).arrivals = s.arrivals := rfl
@[simp] theorem State.updFw_timers (s : State) (g : FwSt → FwSt) : (s.updFw g).timers = s.timers := rfl
@[simp] theorem State.updFw_ports (s : State) (g : FwSt → FwSt) : (s.updFw g).ports = s.ports := rfl
@[simp] theorem State.updFw_grate (s : State) (g : FwSt → FwSt) : (s.updFw g).grate = s.grate := rfl
@[simp] theorem State.updFw_rd (s : State) (g : FwSt → FwSt) (k : Nat) : (s.updFw g).rd k = s.rd k := rfl
@[simp] theorem State.updFw_get (s : State) (g : FwSt → FwSt) (k : Nat) (f : Fld) : (s.updFw g).get k f = s.get k f := rfl
@[simp] theorem State.updFw_on (s : State) (g : FwSt → FwSt) (k : Nat) (f : Fld) : (s.updFw g).on k f = s.on k f := rfl
theorem State.updFw_eq (s : State) (g : FwSt → FwSt) : s.updFw g = { s with fw := g s.fw } := rfl

/-! ### bus -/

@[simp] theorem State.updBus_bus (s : State) (g : BusSt → BusSt) : (s.updBus g).bus = g s.bus := rfl
@[simp] theorem State.updBus_regs (s : State) (g : BusSt → BusSt) : (s.updBus g).regs = s.regs := rfl
@[simp] theorem State.updBus_dev (s : State) (g : BusSt → BusSt) : (s.updBus g).dev = s.dev := rfl
@[simp] theorem State.updBus_cmd (s : State) (g : BusSt → BusSt) : (s.updBus g).cmd = s.cmd := rfl
@[simp] theorem State.updBus_evt (s : State) (g : BusSt → BusSt) : (s.updBus g).evt = s.evt := rfl
@[simp] theorem State.updBus_queues (s : State) (g : BusSt → BusSt) : (s.updBus g).queues = s.queues := rfl
@[simp] theorem State.updBus_time (s : State) (g : BusSt → BusSt) : (s.updBus g).time = s.time := rfl
@[simp] theorem State.updBus_cal (s : State) (g : BusSt → BusSt) : (s.updBus g).cal = s.cal := rfl
@[simp] theorem State.updBus_obs (s : State) (g : BusSt → BusSt) : (s.updBus g).obs = s.obs := rfl
@[simp] theorem State.updBus_arrivals (s : State) (g : BusSt → BusSt) : (s.updBus g).arrivals = s.arrivals := rfl
@[simp] theorem State.updBus_timers (s : State) (g : BusSt → BusSt) : (s.updBus g).timers = s.timers := rfl
@[simp] theorem State.updBus_ports (s : State) (g : BusSt → BusSt) : (s.updBus g).ports = s.ports := rfl
@[simp] theorem State.updBus_grate (s : State) (g : BusSt → BusSt) : (s.updBus g).grate = s.grate := rfl
@[simp] theorem State.updBus_rd (s : State) (g : BusSt → BusSt) (k : Nat) : (s.updBus g).rd k = s.rd k := rfl
@[simp] theorem State.updBus_get (s : State) (g : BusSt → BusSt) (k : Nat) (f : Fld) : (s.updBus g).get k f = s.get k f := rfl
@[simp] theorem State.updBus_on (s : State) (g : BusSt → BusSt) (k : Nat) (f : Fld) : (s.updBus g).on k f = s.on k f := rfl
theorem State.updBus_eq (s : State) (g : BusSt → BusSt) : s.updBus g = { s with bus := g s.bus } := rfl

/-! ### The units' own fields after register and table updates -/

@[simp] theorem State.wr_pins (s : State) (k : Nat) (w : Word) : (s.wr k w).pins = s.pins := rfl
@[simp] theorem State.wr_pair (s : State) (k : Nat) (w : Word) : (s.wr k w).pair = s.pair := rfl
@[simp] theorem State.wr_sync (s : State) (k : Nat) (w : Word) : (s.wr k w).sync = s.sync := rfl
@[simp] theorem State.wr_ring (s : State) (k : Nat) (w : Word) : (s.wr k w).ring = s.ring := rfl
@[simp] theorem State.wr_health (s : State) (k : Nat) (w : Word) : (s.wr k w).health = s.health := rfl
@[simp] theorem State.wr_fw (s : State) (k : Nat) (w : Word) : (s.wr k w).fw = s.fw := rfl
@[simp] theorem State.wr_bus (s : State) (k : Nat) (w : Word) : (s.wr k w).bus = s.bus := rfl
@[simp] theorem State.put_pins (s : State) (k : Nat) (f : Fld) (v : Nat) : (s.put k f v).pins = s.pins := rfl
@[simp] theorem State.put_pair (s : State) (k : Nat) (f : Fld) (v : Nat) : (s.put k f v).pair = s.pair := rfl
@[simp] theorem State.put_sync (s : State) (k : Nat) (f : Fld) (v : Nat) : (s.put k f v).sync = s.sync := rfl
@[simp] theorem State.put_ring (s : State) (k : Nat) (f : Fld) (v : Nat) : (s.put k f v).ring = s.ring := rfl
@[simp] theorem State.put_health (s : State) (k : Nat) (f : Fld) (v : Nat) : (s.put k f v).health = s.health := rfl
@[simp] theorem State.put_fw (s : State) (k : Nat) (f : Fld) (v : Nat) : (s.put k f v).fw = s.fw := rfl
@[simp] theorem State.put_bus (s : State) (k : Nat) (f : Fld) (v : Nat) : (s.put k f v).bus = s.bus := rfl
@[simp] theorem State.bump_pins (s : State) (k : Nat) (f : Fld) (n : Nat) : (s.bump k f n).pins = s.pins := rfl
@[simp] theorem State.bump_pair (s : State) (k : Nat) (f : Fld) (n : Nat) : (s.bump k f n).pair = s.pair := rfl
@[simp] theorem State.bump_sync (s : State) (k : Nat) (f : Fld) (n : Nat) : (s.bump k f n).sync = s.sync := rfl
@[simp] theorem State.bump_ring (s : State) (k : Nat) (f : Fld) (n : Nat) : (s.bump k f n).ring = s.ring := rfl
@[simp] theorem State.bump_health (s : State) (k : Nat) (f : Fld) (n : Nat) : (s.bump k f n).health = s.health := rfl
@[simp] theorem State.bump_fw (s : State) (k : Nat) (f : Fld) (n : Nat) : (s.bump k f n).fw = s.fw := rfl
@[simp] theorem State.bump_bus (s : State) (k : Nat) (f : Fld) (n : Nat) : (s.bump k f n).bus = s.bus := rfl
@[simp] theorem State.arrive_pins (s : State) (a : Arrival) : (s.arrive a).pins = s.pins := rfl
@[simp] theorem State.arrive_pair (s : State) (a : Arrival) : (s.arrive a).pair = s.pair := rfl
@[simp] theorem State.arrive_sync (s : State) (a : Arrival) : (s.arrive a).sync = s.sync := rfl
@[simp] theorem State.arrive_ring (s : State) (a : Arrival) : (s.arrive a).ring = s.ring := rfl
@[simp] theorem State.arrive_health (s : State) (a : Arrival) : (s.arrive a).health = s.health := rfl
@[simp] theorem State.arrive_fw (s : State) (a : Arrival) : (s.arrive a).fw = s.fw := rfl
@[simp] theorem State.arrive_bus (s : State) (a : Arrival) : (s.arrive a).bus = s.bus := rfl
@[simp] theorem State.startTimer_pins (s : State) (t : TimerKind) (d : Nat) : (s.startTimer t d).pins = s.pins := rfl
@[simp] theorem State.startTimer_pair (s : State) (t : TimerKind) (d : Nat) : (s.startTimer t d).pair = s.pair := rfl
@[simp] theorem State.startTimer_sync (s : State) (t : TimerKind) (d : Nat) : (s.startTimer t d).sync = s.sync := rfl
@[simp] theorem State.startTimer_ring (s : State) (t : TimerKind) (d : Nat) : (s.startTimer t d).ring = s.ring := rfl
@[simp] theorem State.startTimer_health (s : State) (t : TimerKind) (d : Nat) : (s.startTimer t d).health = s.health := rfl
@[simp] theorem State.startTimer_fw (s : State) (t : TimerKind) (d : Nat) : (s.startTimer t d).fw = s.fw := rfl
@[simp] theorem State.startTimer_bus (s : State) (t : TimerKind) (d : Nat) : (s.startTimer t d).bus = s.bus := rfl
@[simp] theorem State.stopTimer_pins (s : State) (t : TimerKind) : (s.stopTimer t).pins = s.pins := rfl
@[simp] theorem State.stopTimer_pair (s : State) (t : TimerKind) : (s.stopTimer t).pair = s.pair := rfl
@[simp] theorem State.stopTimer_sync (s : State) (t : TimerKind) : (s.stopTimer t).sync = s.sync := rfl
@[simp] theorem State.stopTimer_ring (s : State) (t : TimerKind) : (s.stopTimer t).ring = s.ring := rfl
@[simp] theorem State.stopTimer_health (s : State) (t : TimerKind) : (s.stopTimer t).health = s.health := rfl
@[simp] theorem State.stopTimer_fw (s : State) (t : TimerKind) : (s.stopTimer t).fw = s.fw := rfl
@[simp] theorem State.stopTimer_bus (s : State) (t : TimerKind) : (s.stopTimer t).bus = s.bus := rfl

/-! ### Timers read the list of timers -/

theorem State.hasTimer_congr {s t : State} (h : t.timers = s.timers) (k : TimerKind) : t.hasTimer k = s.hasTimer k := by
  simp [State.hasTimer, h]

theorem State.timerDue_congr {s t : State} (h : t.timers = s.timers) (hd : t.dev = s.dev) (k : TimerKind) :
    t.timerDue k = s.timerDue k := by simp [State.timerDue, h, hd]

end Sys2Proof.Machine
end

