-- ==== Sys2Proof/Laws/Noted.lean ====
section
/-! SUPPORT. Laws of `Noted`: what recording events and conditions, and writing the registers named, can do. -/

namespace Sys2Proof.Machine

theorem Noted.refl (s : State) (ks : List Nat) : Noted s s ks := ⟨rfl, fun _ _ _ => rfl, ⟨[], List.append_nil _⟩⟩

theorem Noted.trans {s t u : State} {ks : List Nat} (h1 : Noted s t ks) (h2 : Noted t u ks) : Noted s u ks := by
  obtain ⟨e1, r1, p1⟩ := h1
  obtain ⟨e2, r2, p2⟩ := h2
  exact ⟨by rw [e2, e1], fun k hk hn => (r2 k hk hn).trans (r1 k hk hn), p1.trans p2⟩

theorem Noted.mono {s x : State} {ks js : List Nat} (h : Noted s x ks) (hs : ks ⊆ js) : Noted s x js :=
  ⟨h.1, fun k hk hn => h.2.1 k (fun hh => hk (hs hh)) hn, h.2.2⟩

theorem Noted.ofRegs {s x : State} {ks : List Nat} (h : OnlyRegs s x ks) : Noted s x ks := by
  obtain ⟨e, r⟩ := h
  refine ⟨by rw [e], fun k hk _ => r k hk, ?_⟩
  rw [e]

theorem Noted.put (s : State) (k : Nat) (f : Fld) (v : Nat) {ks : List Nat} (h : k ∈ ks) : Noted s (s.put k f v) ks :=
  .ofRegs (.put s k f v h)

theorem Noted.histBit (s : State) (k : Nat) (f : Fld) (i : Nat) {ks : List Nat} (h : k ∈ ks) : Noted s (s.histBit k f i) ks :=
  .put s k f _ h

theorem Noted.raised {s x : State} {es : List EventRec} (h : Raised s x es) (ks : List Nat) : Noted s x ks := by
  obtain ⟨e, r, _⟩ := h
  refine ⟨by rw [e], fun k _ hn => r k hn, ?_⟩
  rw [e]; exact ⟨es, rfl⟩

theorem Noted.event (s : State) (source code : Nat) (set : Bool) (entity : Nat) (h : source < 384) (ks : List Nat) :
    Noted s (s.event source code set entity) ks := .raised (s.event_raised source code set entity h) ks

theorem Noted.setCond (s : State) (c : Cond) (on : Bool) (ks : List Nat) : Noted s (s.setCond c on) ks :=
  ⟨rfl, fun _ _ _ => rfl, ⟨[], List.append_nil _⟩⟩

theorem Noted.cond (s : State) (c : Cond) (on : Bool) (h : c.source < 384) (ks : List Nat) : Noted s (s.cond c on) ks := by
  unfold State.cond
  split
  · exact .refl s ks
  · exact (Noted.setCond s c on ks).trans (.event _ _ _ _ _ h ks)

theorem State.has_setCond_same (s : State) (c : Cond) (on : Bool) : (s.setCond c on).has c = on := by
  unfold State.setCond State.has
  cases on
  · simp
  · simp only [if_true]
    split <;> simp_all

theorem State.has_setCond_other (s : State) (c d : Cond) (on : Bool) (h : d ≠ c) : (s.setCond c on).has d = s.has d := by
  unfold State.setCond State.has
  cases on
  · simp [List.contains_eq_mem, h]
  · simp only [if_true]
    split
    · rfl
    · simp [List.contains_eq_mem, h]

theorem Raised.has {s x : State} {es : List EventRec} (h : Raised s x es) (c : Cond) : x.has c = s.has c := by
  unfold State.has; rw [h.1]

theorem State.has_cond_same (s : State) (c : Cond) (on : Bool) (h : c.source < 384) : (s.cond c on).has c = on := by
  unfold State.cond
  split
  · assumption
  · exact ((State.event_raised _ _ _ _ _ h).has c).trans (s.has_setCond_same c on)

theorem State.has_cond_other (s : State) (c d : Cond) (on : Bool) (h : c.source < 384) (hd : d ≠ c) :
    (s.cond c on).has d = s.has d := by
  unfold State.cond
  split
  · rfl
  · exact ((State.event_raised _ _ _ _ _ h).has d).trans (s.has_setCond_other c d on hd)

theorem State.raised_event (s : State) (source code : Nat) (set : Bool) (entity : Nat) (h : source < 384) :
    (s.event source code set entity).raised source code set := by
  unfold State.raised
  rw [(s.event_raised source code set entity h).1]
  exact ⟨_, List.mem_append_right _ (List.mem_singleton.mpr rfl), rfl, rfl, rfl⟩

theorem Noted.raised_kept {s x : State} {ks : List Nat} (h : Noted s x ks) {source code : Nat} {set : Bool}
    (hr : s.raised source code set) : x.raised source code set := by
  obtain ⟨e, he, r⟩ := hr
  exact ⟨e, h.2.2.subset he, r⟩

theorem Noted.rd {s x : State} {ks : List Nat} (h : Noted s x ks) {k : Nat} (hk : k ∉ ks) (hn : noteReg k = false) :
    x.rd k = s.rd k := h.2.1 k hk hn

theorem Noted.get {s x : State} {ks : List Nat} (h : Noted s x ks) {k : Nat} (hk : k ∉ ks) (hn : noteReg k = false)
    (f : Fld) : x.get k f = s.get k f := by unfold State.get; rw [h.rd hk hn]

theorem Noted.on {s x : State} {ks : List Nat} (h : Noted s x ks) {k : Nat} (hk : k ∉ ks) (hn : noteReg k = false)
    (f : Fld) : x.on k f = s.on k f := by unfold State.on; rw [h.get hk hn]

end Sys2Proof.Machine
end

