-- ==== Sys2Proof/Laws/PerInstr.lean ====
section
/-! SUPPORT. A statement of every command as syntax: what a well-formed one carries (Tables 14-1, 14-6; R346). -/

namespace Sys2Proof.Laws.Ready

/-- A well-formed command meets the bounds of its operands; a host command carries a packet of its row's opcode whose
LENGTH counts a payload of at most 4,068 bytes. -/
def Statement (i : Instr) : Prop :=
  wellFormed i = true → i.operandsOk = true ∧
    ∀ h, i.hostRow = some h → h.packet.opcode.toNat = h.opcode ∧ h.packet.length.toNat = h.packet.payload.length ∧
      h.packet.payload.length ≤ 4068

theorem of_wellFormed (i : Instr) : Statement i := by
  intro w
  unfold wellFormed at w
  rw [Bool.and_eq_true] at w
  refine ⟨w.2, fun h hh => ?_⟩
  have w1 := w.1
  rw [hh] at w1
  simp only [HostRow.matchesRow, Packet.fits, Bool.and_eq_true, decide_eq_true_eq] at w1
  exact ⟨w1.1.1, w1.2.1.symm, w1.2.2⟩

theorem nop (p : Packet) : Statement (.nop p) := of_wellFormed _
theorem identifySelf (p : Packet) : Statement (.identifySelf p) := of_wellFormed _
theorem identifyPartner (p : Packet) : Statement (.identifyPartner p) := of_wellFormed _
theorem identifyRingTable (p : Packet) : Statement (.identifyRingTable p) := of_wellFormed _
theorem setLevel (p : Packet) : Statement (.setLevel p) := of_wellFormed _
theorem setMasterClaim (p : Packet) : Statement (.setMasterClaim p) := of_wellFormed _
theorem setSfn (p : Packet) : Statement (.setSfn p) := of_wellFormed _
theorem setSfnAtMarker (p : Packet) : Statement (.setSfnAtMarker p) := of_wellFormed _
theorem epochRestart (p : Packet) : Statement (.epochRestart p) := of_wellFormed _
theorem setTodLabel (p : Packet) : Statement (.setTodLabel p) := of_wellFormed _
theorem commitStaged (p : Packet) : Statement (.commitStaged p) := of_wellFormed _
theorem commitStagedDiscard (p : Packet) : Statement (.commitStagedDiscard p) := of_wellFormed _
theorem calCancel (p : Packet) : Statement (.calCancel p) := of_wellFormed _
theorem queueRead (p : Packet) : Statement (.queueRead p) := of_wellFormed _
theorem leaseRelease (p : Packet) : Statement (.leaseRelease p) := of_wellFormed _
theorem leaseRead (p : Packet) : Statement (.leaseRead p) := of_wellFormed _
theorem setAddress (p : Packet) : Statement (.setAddress p) := of_wellFormed _
theorem portMode (p : Packet) : Statement (.portMode p) := of_wellFormed _
theorem sdhSectionCfg (p : Packet) : Statement (.sdhSectionCfg p) := of_wellFormed _
theorem sdhPathCfg (p : Packet) : Statement (.sdhPathCfg p) := of_wellFormed _
theorem sdhPathStatus (p : Packet) : Statement (.sdhPathStatus p) := of_wellFormed _
theorem sdhTraceRead (p : Packet) : Statement (.sdhTraceRead p) := of_wellFormed _
theorem sdhDccSend (p : Packet) : Statement (.sdhDccSend p) := of_wellFormed _
theorem otnOtuCfg (p : Packet) : Statement (.otnOtuCfg p) := of_wellFormed _
theorem otnOduCfg (p : Packet) : Statement (.otnOduCfg p) := of_wellFormed _
theorem otnOduStatus (p : Packet) : Statement (.otnOduStatus p) := of_wellFormed _
theorem otnTtiRead (p : Packet) : Statement (.otnTtiRead p) := of_wellFormed _
theorem otnDmStart (p : Packet) : Statement (.otnDmStart p) := of_wellFormed _
theorem alfPortCfg (p : Packet) : Statement (.alfPortCfg p) := of_wellFormed _
theorem alfTribCfgReplace (p : Packet) : Statement (.alfTribCfgReplace p) := of_wellFormed _
theorem alfTribCfgAppend (p : Packet) : Statement (.alfTribCfgAppend p) := of_wellFormed _
theorem alfTribCfgRemove (p : Packet) : Statement (.alfTribCfgRemove p) := of_wellFormed _
theorem alfTribCfgChange (p : Packet) : Statement (.alfTribCfgChange p) := of_wellFormed _
theorem alfStatusRead (p : Packet) : Statement (.alfStatusRead p) := of_wellFormed _
theorem alfMapRead (p : Packet) : Statement (.alfMapRead p) := of_wellFormed _
theorem alfMapResync (p : Packet) : Statement (.alfMapResync p) := of_wellFormed _
theorem bndGroupCfg (p : Packet) : Statement (.bndGroupCfg p) := of_wellFormed _
theorem bndTribCfgReplace (p : Packet) : Statement (.bndTribCfgReplace p) := of_wellFormed _
theorem bndTribCfgAppend (p : Packet) : Statement (.bndTribCfgAppend p) := of_wellFormed _
theorem bndTribCfgRemove (p : Packet) : Statement (.bndTribCfgRemove p) := of_wellFormed _
theorem bndTribCfgChange (p : Packet) : Statement (.bndTribCfgChange p) := of_wellFormed _
theorem bndStatusRead (p : Packet) : Statement (.bndStatusRead p) := of_wellFormed _
theorem hrpGroupCfg (p : Packet) : Statement (.hrpGroupCfg p) := of_wellFormed _
theorem hrpSelectAuto (p : Packet) : Statement (.hrpSelectAuto p) := of_wellFormed _
theorem hrpSelectForceMain (p : Packet) : Statement (.hrpSelectForceMain p) := of_wellFormed _
theorem hrpSelectForceOther (p : Packet) : Statement (.hrpSelectForceOther p) := of_wellFormed _
theorem hrpStatusRead (p : Packet) : Statement (.hrpStatusRead p) := of_wellFormed _
theorem lomContainerCfg (p : Packet) : Statement (.lomContainerCfg p) := of_wellFormed _
theorem lomTribCfg (p : Packet) : Statement (.lomTribCfg p) := of_wellFormed _
theorem lomTribStatus (p : Packet) : Statement (.lomTribStatus p) := of_wellFormed _
theorem pktFlowCfg (p : Packet) : Statement (.pktFlowCfg p) := of_wellFormed _
theorem pktVlanCfg (p : Packet) : Statement (.pktVlanCfg p) := of_wellFormed _
theorem pktVcatCfg (p : Packet) : Statement (.pktVcatCfg p) := of_wellFormed _
theorem pktFlowStatus (p : Packet) : Statement (.pktFlowStatus p) := of_wellFormed _
theorem ethPortCfg (p : Packet) : Statement (.ethPortCfg p) := of_wellFormed _
theorem prtDamperCfg (p : Packet) : Statement (.prtDamperCfg p) := of_wellFormed _
theorem stkQuery (p : Packet) : Statement (.stkQuery p) := of_wellFormed _
theorem connect (p : Packet) : Statement (.connect p) := of_wellFormed _
theorem connectUnidir (p : Packet) : Statement (.connectUnidir p) := of_wellFormed _
theorem connectAddSink (p : Packet) : Statement (.connectAddSink p) := of_wellFormed _
theorem disconnect (p : Packet) : Statement (.disconnect p) := of_wellFormed _
theorem connRead (p : Packet) : Statement (.connRead p) := of_wellFormed _
theorem grtDefrag (p : Packet) : Statement (.grtDefrag p) := of_wellFormed _
theorem grtRunSet (p : Packet) : Statement (.grtRunSet p) := of_wellFormed _
theorem grtRunFree (p : Packet) : Statement (.grtRunFree p) := of_wellFormed _
theorem grtMapSet (p : Packet) : Statement (.grtMapSet p) := of_wellFormed _
theorem grtMove (p : Packet) : Statement (.grtMove p) := of_wellFormed _
theorem stkPoolCfg (p : Packet) : Statement (.stkPoolCfg p) := of_wellFormed _
theorem protGroupCfg (p : Packet) : Statement (.protGroupCfg p) := of_wellFormed _
theorem protGroupRemove (p : Packet) : Statement (.protGroupRemove p) := of_wellFormed _
theorem protClear (p : Packet) : Statement (.protClear p) := of_wellFormed _
theorem protLockout (p : Packet) : Statement (.protLockout p) := of_wellFormed _
theorem protForced (p : Packet) : Statement (.protForced p) := of_wellFormed _
theorem protManual (p : Packet) : Statement (.protManual p) := of_wellFormed _
theorem protManualW (p : Packet) : Statement (.protManualW p) := of_wellFormed _
theorem protExercise (p : Packet) : Statement (.protExercise p) := of_wellFormed _
theorem protStatus (p : Packet) : Statement (.protStatus p) := of_wellFormed _
theorem pairCfg (p : Packet) : Statement (.pairCfg p) := of_wellFormed _
theorem pairClear (p : Packet) : Statement (.pairClear p) := of_wellFormed _
theorem pairSwitchover (p : Packet) : Statement (.pairSwitchover p) := of_wellFormed _
theorem pairChannelOverride (p : Packet) : Statement (.pairChannelOverride p) := of_wellFormed _
theorem pairStatus (p : Packet) : Statement (.pairStatus p) := of_wellFormed _
theorem dplRefCfg (p : Packet) : Statement (.dplRefCfg p) := of_wellFormed _
theorem dplSelect (p : Packet) : Statement (.dplSelect p) := of_wellFormed _
theorem dplCfg (p : Packet) : Statement (.dplCfg p) := of_wellFormed _
theorem dplStatusRead (p : Packet) : Statement (.dplStatusRead p) := of_wellFormed _
theorem alignFrameOutputs (p : Packet) : Statement (.alignFrameOutputs p) := of_wellFormed _
theorem clkoutCfg (p : Packet) : Statement (.clkoutCfg p) := of_wellFormed _
theorem synCfg (p : Packet) : Statement (.synCfg p) := of_wellFormed _
theorem snapSetCfgReplace (p : Packet) : Statement (.snapSetCfgReplace p) := of_wellFormed _
theorem snapSetCfgAppend (p : Packet) : Statement (.snapSetCfgAppend p) := of_wellFormed _
theorem snapshot (p : Packet) : Statement (.snapshot p) := of_wellFormed _
theorem snapRead (p : Packet) : Statement (.snapRead p) := of_wellFormed _
theorem cntClear (p : Packet) : Statement (.cntClear p) := of_wellFormed _
theorem pmEnable (p : Packet) : Statement (.pmEnable p) := of_wellFormed _
theorem pmDisable (p : Packet) : Statement (.pmDisable p) := of_wellFormed _
theorem pmRead (p : Packet) : Statement (.pmRead p) := of_wellFormed _
theorem regRead (p : Packet) : Statement (.regRead p) := of_wellFormed _
theorem regWrite (p : Packet) : Statement (.regWrite p) := of_wellFormed _
theorem regModify (p : Packet) : Statement (.regModify p) := of_wellFormed _
theorem ctxRead (p : Packet) : Statement (.ctxRead p) := of_wellFormed _
theorem ctxWrite (p : Packet) : Statement (.ctxWrite p) := of_wellFormed _
theorem hltStatusGrades (p : Packet) : Statement (.hltStatusGrades p) := of_wellFormed _
theorem hltStatusPending (p : Packet) : Statement (.hltStatusPending p) := of_wellFormed _
theorem hltStatusPoisonList (p : Packet) : Statement (.hltStatusPoisonList p) := of_wellFormed _
theorem spareApprove (p : Packet) : Statement (.spareApprove p) := of_wellFormed _
theorem spareDecline (p : Packet) : Statement (.spareDecline p) := of_wellFormed _
theorem spareRequest (p : Packet) : Statement (.spareRequest p) := of_wellFormed _
theorem repairMapRead (p : Packet) : Statement (.repairMapRead p) := of_wellFormed _
theorem repairMapApply (p : Packet) : Statement (.repairMapApply p) := of_wellFormed _
theorem smokeCfg (p : Packet) : Statement (.smokeCfg p) := of_wellFormed _
theorem powerDomainUp (p : Packet) : Statement (.powerDomainUp p) := of_wellFormed _
theorem powerDomainDown (p : Packet) : Statement (.powerDomainDown p) := of_wellFormed _
theorem obsTraceCfg (p : Packet) : Statement (.obsTraceCfg p) := of_wellFormed _
theorem obsCntCfg (p : Packet) : Statement (.obsCntCfg p) := of_wellFormed _
theorem obsSampleCfg (p : Packet) : Statement (.obsSampleCfg p) := of_wellFormed _
theorem obsStatus (p : Packet) : Statement (.obsStatus p) := of_wellFormed _
theorem legNop (p : Packet) : Statement (.legNop p) := of_wellFormed _
theorem legQueueRead (p : Packet) : Statement (.legQueueRead p) := of_wellFormed _
theorem legQueueLevel (p : Packet) : Statement (.legQueueLevel p) := of_wellFormed _
theorem legQueueReset (p : Packet) : Statement (.legQueueReset p) := of_wellFormed _
theorem legStatus (p : Packet) : Statement (.legStatus p) := of_wellFormed _
theorem fwLoadBegin (p : Packet) : Statement (.fwLoadBegin p) := of_wellFormed _
theorem fwLoadData (p : Packet) : Statement (.fwLoadData p) := of_wellFormed _
theorem fwLoadEnd (p : Packet) : Statement (.fwLoadEnd p) := of_wellFormed _
theorem fwActivate (p : Packet) : Statement (.fwActivate p) := of_wellFormed _
theorem fwStatus (p : Packet) : Statement (.fwStatus p) := of_wellFormed _
theorem registerWrite (o : Origin) (addr : BitVec 24) (v : Word) (byteEn : BitVec 4) :
    Statement (.registerWrite o addr v byteEn) := of_wellFormed _
theorem qdataHiRead (q : Fin 8) : Statement (.qdataHiRead q) := of_wellFormed _
theorem sfnLoRead : Statement .sfnLoRead := of_wellFormed _
theorem todLoRead : Statement .todLoRead := of_wellFormed _
theorem prtCntLoRead (p : Port) (k : Fin 4) : Statement (.prtCntLoRead p k) := of_wellFormed _
theorem prtCntLoWrite (p : Port) (k : Fin 4) (v : Word) (inc : Nat) :
    Statement (.prtCntLoWrite p k v inc) := of_wellFormed _
theorem obsCycleLoRead : Statement .obsCycleLoRead := of_wellFormed _
theorem obsCntLoRead (n : Fin 8) : Statement (.obsCntLoRead n) := of_wellFormed _
theorem obsCntLoWrite (n : Fin 8) (v : Word) (inc : Nat) : Statement (.obsCntLoWrite n v inc) := of_wellFormed _
theorem obsFreeze : Statement .obsFreeze := of_wellFormed _
theorem obsUnfreeze : Statement .obsUnfreeze := of_wellFormed _
theorem queueLevelWrite (q : Fin 8) (level : BitVec 14) : Statement (.queueLevelWrite q level) := of_wellFormed _
theorem queueLegacyChange (q : Fin 8) (on : Bool) : Statement (.queueLegacyChange q on) := of_wellFormed _
theorem queueReset (q : Fin 8) : Statement (.queueReset q) := of_wellFormed _
theorem peakClr : Statement .peakClr := of_wellFormed _
theorem cmdTxGo (m : Fin 2) (len : BitVec 13) : Statement (.cmdTxGo m len) := of_wellFormed _
theorem evtRearm (m : Fin 2) : Statement (.evtRearm m) := of_wellFormed _
theorem evtMaskWrite (m : Fin 2) (k : Fin 12) (v : Word) : Statement (.evtMaskWrite m k v) := of_wellFormed _
theorem cvuStart (u : Fin 16) : Statement (.cvuStart u) := of_wellFormed _
theorem cvuDataWrite (u : Fin 16) (v : Word) : Statement (.cvuDataWrite u v) := of_wellFormed _
theorem pinRetryNow (p : Fin 21) : Statement (.pinRetryNow p) := of_wellFormed _
theorem windowAccess (fn : Fin 2) (off : BitVec 28) (wr : Option Word) :
    Statement (.windowAccess fn off wr) := of_wellFormed _
theorem resetNAssert : Statement .resetNAssert := of_wellFormed _
theorem resetNRelease (bootSel : BitVec 2) : Statement (.resetNRelease bootSel) := of_wellFormed _
theorem pciePerst : Statement .pciePerst := of_wellFormed _
theorem spiRead (addr : BitVec 24) (words : Nat) : Statement (.spiRead addr words) := of_wellFormed _
theorem spiWrite (addr : BitVec 24) (words : List Word) (cut : Bool) :
    Statement (.spiWrite addr words cut) := of_wellFormed _
theorem spiQuadRead (addr : BitVec 24) (words : Nat) : Statement (.spiQuadRead addr words) := of_wellFormed _
theorem spiQuadWrite (addr : BitVec 24) (words : List Word) (cut : Bool) :
    Statement (.spiQuadWrite addr words cut) := of_wellFormed _
theorem tapBypass : Statement .tapBypass := of_wellFormed _
theorem tapIdcode : Statement .tapIdcode := of_wellFormed _
theorem tapSample (pins : List Bool) : Statement (.tapSample pins) := of_wellFormed _
theorem tapExtest (drive : List Bool) : Statement (.tapExtest drive) := of_wellFormed _
theorem tapReset : Statement .tapReset := of_wellFormed _
theorem fpInPulse (highNs : Nat) (offsetNs : Int) : Statement (.fpInPulse highNs offsetNs) := of_wellFormed _
theorem fpInMissing : Statement .fpInMissing := of_wellFormed _
theorem claimInPulse (riseErrNs : Int) (widthNs : Nat) :
    Statement (.claimInPulse riseErrNs widthNs) := of_wellFormed _
theorem pinChannelLoss : Statement .pinChannelLoss := of_wellFormed _
theorem pinContention (p : Fin 21) (level : Bool) : Statement (.pinContention p level) := of_wellFormed _
theorem pinBackoffExpiry (p : Fin 21) : Statement (.pinBackoffExpiry p) := of_wellFormed _
theorem pinRetryClean (p : Fin 21) : Statement (.pinRetryClean p) := of_wellFormed _
theorem dieTempHigh (temp : Byte) : Statement (.dieTempHigh temp) := of_wellFormed _
theorem sfnTick : Statement .sfnTick := of_wellFormed _
theorem immediateExecute : Statement .immediateExecute := of_wellFormed _
theorem scheduledEntryExecute : Statement .scheduledEntryExecute := of_wellFormed _
theorem portEntryApply (p : Port) : Statement (.portEntryApply p) := of_wellFormed _
theorem setSfnMarkerApply : Statement .setSfnMarkerApply := of_wellFormed _
theorem secondClose : Statement .secondClose := of_wellFormed _
theorem snapshotExecute : Statement .snapshotExecute := of_wellFormed _
theorem defectDecided (c : Cond) (set : Bool) : Statement (.defectDecided c set) := of_wellFormed _
theorem defectArrival : Statement .defectArrival := of_wellFormed _
theorem holdoffExpiry (pg : BitVec 32) : Statement (.holdoffExpiry pg) := of_wellFormed _
theorem protWtrExpiry (pg : BitVec 32) : Statement (.protWtrExpiry pg) := of_wellFormed _
theorem apsKArrival (p : Port) (k1 k2 : Byte) : Statement (.apsKArrival p k1 k2) := of_wellFormed _
theorem berWindowEnd (w : BerWindow) : Statement (.berWindowEnd w) := of_wellFormed _
theorem squelchProbe (p : Port) : Statement (.squelchProbe p) := of_wellFormed _
theorem laneFaultRetry (p : Port) (held : Bool) : Statement (.laneFaultRetry p held) := of_wellFormed _
theorem spareCdrLock (g : Fin 8) : Statement (.spareCdrLock g) := of_wellFormed _
theorem spareLockDeadline (g : Fin 8) : Statement (.spareLockDeadline g) := of_wellFormed _
theorem sdhFrameReceive (p : Port) (f : SdhRx) : Statement (.sdhFrameReceive p f) := of_wellFormed _
theorem sdhFrameTransmit (p : Port) : Statement (.sdhFrameTransmit p) := of_wellFormed _
theorem otuFrameReceive (p : Port) (f : OtuRx) : Statement (.otuFrameReceive p f) := of_wellFormed _
theorem otuFrameTransmit (p : Port) : Statement (.otuFrameTransmit p) := of_wellFormed _
theorem dmTimeout (p : Port) (index : Nat) (layer : Fin 7) : Statement (.dmTimeout p index layer) := of_wellFormed _
theorem tuMultiframeReceive (k : TribKey) (f : TuRx) : Statement (.tuMultiframeReceive k f) := of_wellFormed _
theorem alfMarkerReceive (p : Port) (m : Marker) : Statement (.alfMarkerReceive p m) := of_wellFormed _
theorem alfFrameReceive (p : Port) (f : AlfRx) : Statement (.alfFrameReceive p f) := of_wellFormed _
theorem alfAnnounce (p : Port) (profile annId : Fin 16) (effPfn framePfn : BitVec 32) :
    Statement (.alfAnnounce p profile annId effPfn framePfn) := of_wellFormed _
theorem alfQuality (p : Port) (content : BitVec 40) : Statement (.alfQuality p content) := of_wellFormed _
theorem alfIdent (p : Port) (part : Fin 4) (word : Word) : Statement (.alfIdent p part word) := of_wellFormed _
theorem alfFrameTransmit (p : Port) : Statement (.alfFrameTransmit p) := of_wellFormed _
theorem alfResizeApply (p : Port) : Statement (.alfResizeApply p) := of_wellFormed _
theorem alfRestoreAisEnd (p : Port) : Statement (.alfRestoreAisEnd p) := of_wellFormed _
theorem bundlePlayout (g : Fin 12) (shares : List BcbRx) : Statement (.bundlePlayout g shares) := of_wellFormed _
theorem rejoinWtrExpiry (g : Fin 12) (m : Fin 8) : Statement (.rejoinWtrExpiry g m) := of_wellFormed _
theorem hrpPlayout (g : Fin 24) (mainOk otherOk : Option Bool) (lagUs : Int) :
    Statement (.hrpPlayout g mainOk otherOk lagUs) := of_wellFormed _
theorem ethFrameReceive (p : Port) (f : EthFrame) : Statement (.ethFrameReceive p f) := of_wellFormed _
theorem pauseFrameReceive (p : Port) (pfc : Bool) (enable : Byte) (quanta : List (BitVec 16)) :
    Statement (.pauseFrameReceive p pfc enable quanta) := of_wellFormed _
theorem gfpFrameReceive (engine : Fin 8) (channel : Fin 64) (f : GfpRx) :
    Statement (.gfpFrameReceive engine channel f) := of_wellFormed _
theorem gfpFrameTransmit (engine : Fin 8) (channel : Fin 64) :
    Statement (.gfpFrameTransmit engine channel) := of_wellFormed _
theorem ethEgressTransmit (p : Port) : Statement (.ethEgressTransmit p) := of_wellFormed _
theorem drainEval (engine : Fin 8) : Statement (.drainEval engine) := of_wellFormed _
theorem flowControlSend (p : Port) : Statement (.flowControlSend p) := of_wellFormed _
theorem pauseRefresh (p : Port) : Statement (.pauseRefresh p) := of_wellFormed _
theorem csfSend (engine : Fin 8) (flow : Fin 64) : Statement (.csfSend engine flow) := of_wellFormed _
theorem lcasHoldoffExpiry (engine : Fin 8) (group : Fin 64) (member : Fin 256) :
    Statement (.lcasHoldoffExpiry engine group member) := of_wellFormed _
theorem lcasWtrExpiry (engine : Fin 8) (group : Fin 64) (member : Fin 256) :
    Statement (.lcasWtrExpiry engine group member) := of_wellFormed _
theorem slotParityError (slot : Fin 49152) : Statement (.slotParityError slot) := of_wellFormed _
theorem sliceFailure (slice : Fin 4) : Statement (.sliceFailure slice) := of_wellFormed _
theorem moveStart (slice : Fin 4) : Statement (.moveStart slice) := of_wellFormed _
theorem moveBridge (id : Nat) : Statement (.moveBridge id) := of_wellFormed _
theorem moveRoll (id : Nat) : Statement (.moveRoll id) := of_wellFormed _
theorem moveRelease (id : Nat) : Statement (.moveRelease id) := of_wellFormed _
theorem poolPageSwitch (page : Nat) : Statement (.poolPageSwitch page) := of_wellFormed _
theorem poisonedContextRead (c : Cond) (retryGood recordGood : Bool) :
    Statement (.poisonedContextRead c retryGood recordGood) := of_wellFormed _
theorem blockIsolation (b : BlockRef) : Statement (.blockIsolation b) := of_wellFormed _
theorem substitutionTrigger (u : UnitRef) : Statement (.substitutionTrigger u) := of_wellFormed _
theorem pendingSpareCommit : Statement .pendingSpareCommit := of_wellFormed _
theorem framerSpareResume (p : Port) : Statement (.framerSpareResume p) := of_wellFormed _
theorem mapperSpareResume (pos : Fin 16) : Statement (.mapperSpareResume pos) := of_wellFormed _
theorem bankCopyDone (b : Fin 400) (affected : List (Fin 32)) :
    Statement (.bankCopyDone b affected) := of_wellFormed _
theorem eyeHourClose (lane : Fin 96) (mean : BitVec 7) : Statement (.eyeHourClose lane mean) := of_wellFormed _
theorem smokeRoundStart : Statement .smokeRoundStart := of_wellFormed _
theorem smokeTestDone (u : TestUnit) (r : TestOutcome) : Statement (.smokeTestDone u r) := of_wellFormed _
theorem smokeRoundDone : Statement .smokeRoundDone := of_wellFormed _
theorem domainUp (d : Fin 137) : Statement (.domainUp d) := of_wellFormed _
theorem domainRejoined (d : Fin 137) : Statement (.domainRejoined d) := of_wellFormed _
theorem chimneyFrameReceive (link : Fin 2) (f : ChimRx) : Statement (.chimneyFrameReceive link f) := of_wellFormed _
theorem chimneyFrameTransmit : Statement .chimneyFrameTransmit := of_wellFormed _
theorem mirrorCommandTake (p : Packet) (creation : Nat) (result : List Byte) :
    Statement (.mirrorCommandTake p creation result) := of_wellFormed _
theorem mirrorSweepDone : Statement .mirrorSweepDone := of_wellFormed _
theorem mateHoldExpiry : Statement .mateHoldExpiry := of_wellFormed _
theorem pairWtrExpiry : Statement .pairWtrExpiry := of_wellFormed _
theorem handover : Statement .handover := of_wellFormed _
theorem refCheckChange (n : Fin 12) (check : Fin 6) (feed : Fin 2) (phaseNs : Nat) (failing : Bool) :
    Statement (.refCheckChange n check feed phaseNs failing) := of_wellFormed _
theorem refWtrExpiry (n : Fin 12) : Statement (.refWtrExpiry n) := of_wellFormed _
theorem dpllLockFound : Statement .dpllLockFound := of_wellFormed _
theorem dpllBwStep : Statement .dpllBwStep := of_wellFormed _
theorem dpllLocked : Statement .dpllLocked := of_wellFormed _
theorem dpllLockLost : Statement .dpllLockLost := of_wellFormed _
theorem dpllHistValid : Statement .dpllHistValid := of_wellFormed _
theorem dpllTakeover : Statement .dpllTakeover := of_wellFormed _
theorem synLockLoss (i : Fin 6) (refLost : Bool) : Statement (.synLockLoss i refLost) := of_wellFormed _
theorem synRelock (i : Fin 6) : Statement (.synRelock i) := of_wellFormed _
theorem clkoutRestart (n : Fin 8) : Statement (.clkoutRestart n) := of_wellFormed _
theorem ringFrameReceive (east : Bool) (h : RingHdr) : Statement (.ringFrameReceive east h) := of_wellFormed _
theorem ringFrameTransmit : Statement .ringFrameTransmit := of_wellFormed _
theorem ringLinkDown (east : Bool) : Statement (.ringLinkDown east) := of_wellFormed _
theorem ringLinkUp (east : Bool) : Statement (.ringLinkUp east) := of_wellFormed _
theorem ringLinkReport (addr : BitVec 10) (east good : Bool) :
    Statement (.ringLinkReport addr east good) := of_wellFormed _
theorem unwrapHoldExpiry (east : Bool) : Statement (.unwrapHoldExpiry east) := of_wellFormed _
theorem ringUnwrap : Statement .ringUnwrap := of_wellFormed _
theorem ringAnnounce (i : Ident) (hop : Byte) : Statement (.ringAnnounce i hop) := of_wellFormed _
theorem ringBeacon (i : Ident) (hop : Byte) : Statement (.ringBeacon i hop) := of_wellFormed _
theorem beaconMissing (pos : Fin 64) : Statement (.beaconMissing pos) := of_wellFormed _
theorem memberAssign (fuse : BitVec 64) (addr : BitVec 10) (valid : Bool) :
    Statement (.memberAssign fuse addr valid) := of_wellFormed _
theorem setAddressTimeout : Statement .setAddressTimeout := of_wellFormed _
theorem ringEventPacket (record : List (BitVec 64)) : Statement (.ringEventPacket record) := of_wellFormed _
theorem gatewayReplyReceive (m : Fin 2) (seq : BitVec 16) (bytes : List Byte) :
    Statement (.gatewayReplyReceive m seq bytes) := of_wellFormed _
theorem gatewayReplyTimeout (m : Fin 2) (seq : BitVec 16) : Statement (.gatewayReplyTimeout m seq) := of_wellFormed _
theorem ringSfnLoss : Statement .ringSfnLoss := of_wellFormed _
theorem ringSfnReturn (sfn : BitVec 48) (epoch : Byte) : Statement (.ringSfnReturn sfn epoch) := of_wellFormed _
theorem commandPacketBuffer (p : Packet) : Statement (.commandPacketBuffer p) := of_wellFormed _
theorem pendingOperationStart (cls sub : Byte) (index : BitVec 16) :
    Statement (.pendingOperationStart cls sub index) := of_wellFormed _
theorem pendingSlotTimeout (cls sub : Byte) (index : BitVec 16) :
    Statement (.pendingSlotTimeout cls sub index) := of_wellFormed _
theorem masterAbsence (m : Fin 2) : Statement (.masterAbsence m) := of_wellFormed _
theorem msiGapExpiry (m : Fin 2) : Statement (.msiGapExpiry m) := of_wellFormed _
theorem queuePtrMismatch (q : Fin 8) : Statement (.queuePtrMismatch q) := of_wellFormed _
theorem traceReadout : Statement .traceReadout := of_wellFormed _
theorem preciseSample (priv : Bool) (seq : BitVec 16) (pc insn latency : Word) :
    Statement (.preciseSample priv seq pc insn latency) := of_wellFormed _
theorem fwVerifyDone (o : ImageOutcome) : Statement (.fwVerifyDone o) := of_wellFormed _
theorem fwImageStart : Statement .fwImageStart := of_wellFormed _
theorem fwFallback : Statement .fwFallback := of_wellFormed _
theorem rxPauseExpiry (p : Port) (prio : Fin 8) : Statement (.rxPauseExpiry p prio) := of_wellFormed _
theorem pfnFlywheelBoundary (p : Port) : Statement (.pfnFlywheelBoundary p) := of_wellFormed _
theorem dpllDiverged : Statement .dpllDiverged := of_wellFormed _
theorem dpllMirrorCheckFail : Statement .dpllMirrorCheckFail := of_wellFormed _
theorem traceRecordStore : Statement .traceRecordStore := of_wellFormed _

end Sys2Proof.Laws.Ready
end

