-- ==== Sys2Proof/Laws/Replies.lean ====
section
/-! SUPPORT. Everything that writing a host-visible queue, sending a reply and completing a command can do (R241, R349
to R352, R370). -/

namespace Sys2Proof.Machine

theorem Reported.refl (s : State) : Reported s s := ⟨rfl, fun _ _ => rfl, fun _ _ _ => rfl, List.prefix_rfl⟩

theorem Reported.trans {s t u : State} (h1 : Reported s t) (h2 : Reported t u) : Reported s u := by
  refine ⟨?_, fun k hk => (h2.2.1 k hk).trans (h1.2.1 k hk), fun f a b => (h2.2.2.1 f a b).trans (h1.2.2.1 f a b),
    h1.2.2.2.trans h2.2.2.2⟩
  have e1 := h1.1
  have e2 := h2.1
  generalize u.regs = r, u.queues = q, u.obs = o, u.evt.tick = e, u.dev.freeCtr = c, u.cmd.held = h, u.cmd.sent = n at *
  subst e2
  generalize t.regs = r', t.queues = q', t.obs = o', t.evt.tick = e', t.dev.freeCtr = c', t.cmd.held = h', t.cmd.sent = n' at *
  subst e1
  rfl

theorem noteReg_cmdStatus : noteReg CMD_STATUS.key = false := by decide

/-- Events report to the host. -/
theorem Raised.reported {s x : State} {es : List EventRec} (h : Raised s x es) : Reported s x := by
  refine ⟨?_, fun k hk => h.2.1 k ?_, fun f _ _ => State.get_of_rd (h.2.1 _ noteReg_cmdStatus) f,
    by rw [h.1]; exact List.prefix_append _ _⟩
  · have e := h.1
    generalize x.regs = r, x.obs = o, x.dev.freeCtr = c at *
    subst e
    rfl
  · simp [reportReg] at hk; exact hk.1.1

theorem Reported.setQueue (s : State) (q : Nat) (x : Queue) : Reported s (s.setQueue q x) :=
  ⟨rfl, fun _ _ => by simp, fun f _ _ => State.get_of_rd (by simp) f, List.prefix_rfl⟩

theorem qstat_report (q : Nat) (hq : q < 8) : reportReg (SYS_QSTAT.key q) = true ∧ SYS_QSTAT.key q ≠ CMD_STATUS.key := by
  interval_cases q <;> decide

/-- A write of a queue's status reports to the host. -/
theorem Reported.putQstat (s : State) (q : Nat) (hq : q < 8) (f : Fld) (v : Nat) :
    Reported s (s.put (SYS_QSTAT.key q) f v) := by
  obtain ⟨h1, h2⟩ := qstat_report q hq
  refine ⟨rfl, fun k hk => State.rd_put_other _ _ _ _ _ ?_, fun g _ _ => State.get_put_other _ _ _ _ _ _ h2.symm,
    List.prefix_rfl⟩
  rintro rfl
  rw [h1] at hk
  exact absurd hk (by simp)

theorem Reported.putLost (s : State) (v : Nat) :
    Reported s (s.put CMD_STATUS.key CMD_STATUS.REPLY_LOST_HIST v) := by
  refine ⟨rfl, fun k hk => State.rd_put_other _ _ _ _ _ ?_, fun g a b => State.get_put_field _ _ _ _ _ a b,
    List.prefix_rfl⟩
  rintro rfl
  exact absurd hk (by decide)

theorem queueSource_lt (q : Nat) (hq : q < 8) : queueSource q < 384 := by unfold queueSource; omega

theorem Reported.event (s : State) (source code : Nat) (set : Bool) (entity : Nat) (h : source < 384) :
    Reported s (s.event source code set entity) := (s.event_raised source code set entity h).reported

/-- QUEUE_LEVEL judged: the queue's arming, its status bit, its event. -/
theorem State.judgeLevel_reported (s : State) (q : Nat) (hq : q < 8) : Reported s (s.judgeLevel q) := by
  unfold State.judgeLevel
  simp only
  split
  · exact Reported.setQueue _ _ _
  · split
    · exact ((Reported.setQueue _ _ _).trans (Reported.putQstat _ _ hq _ _)).trans (Reported.event _ _ _ _ _ (queueSource_lt q hq))
    · exact Reported.refl s

/-- The words of a queue after its level is judged are those before. -/
theorem State.queue_judgeLevel_words (s : State) (q j : Nat) (hq : q < 8) :
    ((s.judgeLevel q).queue j).words = (s.queue j).words := by
  have key : ∀ (x : State) (hx : Reported s x), x.queues = (s.setQueue q { s.queue q with levelArmed := false }).queues →
      (x.queue j).words = (s.queue j).words := by
    intro x _ hx
    unfold State.queue
    rw [hx]
    show ((s.setQueue q _).queue j).words = _
    rw [State.queue_setQueue]
    split
    · next h => subst h; rfl
    · rfl
  unfold State.judgeLevel
  simp only
  split
  · rw [State.queue_setQueue]; split
    · next h => subst h; rfl
    · rfl
  · split
    · refine key _ ?_ ?_
      · exact ((Reported.setQueue _ _ _).trans (Reported.putQstat _ _ hq _ _)).trans (Reported.event _ _ _ _ _ (queueSource_lt q hq))
      · have e := (State.event_raised ((s.setQueue q { s.queue q with levelArmed := false }).put (SYS_QSTAT.key q)
          SYS_QSTAT.LEVEL_HIST 1) (queueSource q) 0x80 true q (queueSource_lt q hq)).1
        rw [e]; rfl
    · rfl

theorem State.loseWords_reported (s : State) (q n : Nat) (hq : q < 8) : Reported s (s.loseWords q n) := by
  unfold State.loseWords
  simp only
  have h : Reported s (((s.setQueue q { s.queue q with lostRun := (s.queue q).lostRun + n, inRun := true }).bump
      (SYS_QSTAT.key q) SYS_QSTAT.LOST n).put (SYS_QSTAT.key q) SYS_QSTAT.OVERFLOW_HIST 1) :=
    ((Reported.setQueue _ _ _).trans (Reported.putQstat _ _ hq _ _)).trans (Reported.putQstat _ _ hq _ _)
  split
  · exact h
  · exact h.trans (Reported.event _ _ _ _ _ (queueSource_lt q hq))

/-- An insertion into a queue reports to the host and does nothing else. -/
theorem State.insertWords_reported (s : State) (q : Nat) (ws : List (BitVec 64)) (hq : q < 8) :
    Reported s (s.insertWords q ws).2 := by
  unfold State.insertWords
  simp only
  split
  · exact (Reported.setQueue _ _ _).trans (State.judgeLevel_reported _ q hq)
  · exact State.loseWords_reported _ _ _ hq

/-- A record that fits is inserted whole after the markers owed; no other queue changes (R241). -/
theorem State.insertWords_fits (s : State) (q : Nat) (ws : List (BitVec 64)) (hq : q < 8)
    (h : s.fill q + ws.length + 1 ≤ queueCap q) :
    (s.insertWords q ws).1 = true ∧
    ((s.insertWords q ws).2.queue q).words = (s.queue q).words ++ owedMarkers (s.queue q) ++ ws ∧
    ∀ j, j ≠ q → ((s.insertWords q ws).2.queue j).words = (s.queue j).words := by
  unfold State.insertWords
  simp only [h, if_true]
  refine ⟨trivial, ?_, fun j hj => ?_⟩
  · rw [State.queue_judgeLevel_words _ _ _ hq]; simp
  · rw [State.queue_judgeLevel_words _ _ _ hq]; simp [hj]

theorem ButTrace.reported {s x : State} (h : ButTrace s x) : Reported s x := by
  refine ⟨?_, fun k hk => h.2 k ?_ ?_, fun f _ _ => State.get_of_rd (h.2 _ (by decide) (by decide)) f,
    by rw [h.1]⟩
  · have e := h.1
    generalize x.regs = r, x.obs = o, x.dev.freeCtr = c at *
    subst e
    rfl
  · rintro rfl; simp [reportReg, noteReg] at hk
  · rintro rfl; simp [reportReg, noteReg] at hk

theorem State.deliverPacket_reported (s : State) (m : Nat) (bs : List Byte) (hm : m < 2) :
    Reported s (s.deliverPacket m bs) := by
  unfold State.deliverPacket
  simp only
  have h := State.insertWords_reported s (2 + m) (replyRecord bs) (by omega)
  split
  · exact h.trans (State.capture_butTrace _ _ _ _ _).reported
  · exact (h.trans (Reported.putLost _ _)).trans (Reported.event _ _ _ _ _ (by omega))

theorem State.deliverAll_reported (s : State) (m : Nat) (bss : List (List Byte)) (hm : m < 2) :
    Reported s (bss.foldl (fun s bs => s.deliverPacket m bs) s) := by
  induction bss generalizing s with
  | nil => exact Reported.refl s
  | cons b bs ih => exact (State.deliverPacket_reported s m b hm).trans (ih _)

/-- A reply reports to the host and does nothing else. -/
theorem State.emit_reported (s : State) (r : Reply) (hm : r.master < 2) : Reported s (s.emit r) := by
  unfold State.emit
  split
  · exact ⟨rfl, fun _ _ => rfl, fun _ _ _ => rfl, List.prefix_rfl⟩
  · split
    · exact State.deliverAll_reported _ _ _ hm
    · exact ⟨rfl, fun _ _ => rfl, fun _ _ _ => rfl, List.prefix_rfl⟩

theorem Packet.master_lt (p : Packet) : p.master < 2 := by
  unfold Packet.master
  have := p.source.isLt
  omega

theorem State.reply_reported (s : State) (p : Packet) (phase status detail creation eff cflags : Nat) (result : List Byte) :
    Reported s (s.reply p phase status detail creation eff cflags result) := by
  unfold State.reply
  split
  · exact Reported.refl s
  · exact State.emit_reported _ _ (Packet.master_lt p)

theorem State.reply0_reported (s : State) (p : Packet) (status detail : Nat) (result : List Byte) :
    Reported s (s.reply0 p status detail result) := State.reply_reported ..

/-- The completion of a command reports to the host and does nothing else. -/
theorem State.complete_reported (s : State) (p : Packet) (creation : Option Nat) (status detail cflags : Nat)
    (result : List Byte) : Reported s (s.complete p creation status detail cflags result) := by
  unfold State.complete
  split
  · exact Reported.refl s
  · split <;> exact State.reply_reported ..

/-! A long operation's end leaves everything but the list of running operations. -/

@[simp] theorem State.endLong_regs (s : State) (r : Res) : (s.endLong r).regs = s.regs := rfl
@[simp] theorem State.endLong_rd (s : State) (r : Res) (k : Nat) : (s.endLong r).rd k = s.rd k := rfl
@[simp] theorem State.endLong_get (s : State) (r : Res) (k : Nat) (f : Fld) : (s.endLong r).get k f = s.get k f := rfl
@[simp] theorem State.endLong_on (s : State) (r : Res) (k : Nat) (f : Fld) : (s.endLong r).on k f = s.on k f := rfl
@[simp] theorem State.endLong_dev (s : State) (r : Res) : (s.endLong r).dev = s.dev := rfl
@[simp] theorem State.endLong_time (s : State) (r : Res) : (s.endLong r).time = s.time := rfl
@[simp] theorem State.endLong_cal (s : State) (r : Res) : (s.endLong r).cal = s.cal := rfl
@[simp] theorem State.endLong_evt (s : State) (r : Res) : (s.endLong r).evt = s.evt := rfl
@[simp] theorem State.endLong_fw (s : State) (r : Res) : (s.endLong r).fw = s.fw := rfl
@[simp] theorem State.endLong_ports (s : State) (r : Res) : (s.endLong r).ports = s.ports := rfl
@[simp] theorem State.endLong_grate (s : State) (r : Res) : (s.endLong r).grate = s.grate := rfl
@[simp] theorem State.endLong_held (s : State) (r : Res) : (s.endLong r).cmd.held = s.cmd.held := rfl

theorem State.endLong_eq (s : State) (r : Res) : s.endLong r =
    { s with cmd := { s.cmd with running := s.cmd.running.filter fun x => decide (x.res ≠ r) } } := rfl

@[simp] theorem State.running_endLong (s : State) (r : Res) : (s.endLong r).running r = none := by
  unfold State.running
  rw [List.find?_eq_none]
  intro o ho
  simp [State.endLong] at ho
  simpa using ho.2

/-- A long operation's end: it runs no longer, and its command is answered (R365). -/
theorem State.finishLong_reported (s : State) (r : Res) (status detail : Nat) (result : List Byte) :
    Reported (s.endLong r) (s.finishLong r status detail result) := by
  unfold State.finishLong
  cases h : s.running r with
  | none =>
    have hf : (s.cmd.running.filter fun x => decide (x.res ≠ r)) = s.cmd.running := by
      rw [List.filter_eq_self]
      intro o ho
      unfold State.running at h
      rw [List.find?_eq_none] at h
      simpa using h o ho
    have he : s.endLong r = s := by unfold State.endLong; rw [hf]
    rw [he]
    exact Reported.refl s
  | some o => exact State.complete_reported (s.endLong r) _ _ _ _ _ _

/-! ### Replies of a gateway leave the command processor's own state -/

@[simp] theorem State.event_cmd (s : State) (source code : Nat) (set : Bool) (entity : Nat) (h : source < 384) :
    (s.event source code set entity).cmd = s.cmd := by rw [(s.event_raised source code set entity h).1]

@[simp] theorem State.capture_cmd (s : State) (cls : Nat) (who : Option Nat) (trunc : Bool) (body : List Byte) :
    (s.capture cls who trunc body).cmd = s.cmd := by rw [(s.capture_butTrace cls who trunc body).1]

theorem State.judgeLevel_cmd (s : State) (q : Nat) (hq : q < 8) : (s.judgeLevel q).cmd = s.cmd := by
  unfold State.judgeLevel
  simp only
  split
  · rfl
  · split
    · rw [State.event_cmd _ _ _ _ _ (queueSource_lt q hq)]; rfl
    · rfl

theorem State.insertWords_cmd (s : State) (q : Nat) (ws : List (BitVec 64)) (hq : q < 8) :
    (s.insertWords q ws).2.cmd = s.cmd := by
  unfold State.insertWords State.loseWords
  simp only
  split
  · rw [State.judgeLevel_cmd _ _ hq]; rfl
  · simp only
    split
    · rfl
    · rw [State.event_cmd _ _ _ _ _ (queueSource_lt q hq)]; rfl

theorem State.deliverPacket_cmd (s : State) (m : Nat) (bs : List Byte) (hm : m < 2) :
    (s.deliverPacket m bs).cmd = s.cmd := by
  unfold State.deliverPacket
  simp only
  split
  · rw [State.tracePacket, State.capture_cmd, State.insertWords_cmd _ _ _ (by omega)]
  · rw [State.event_cmd _ _ _ _ _ (by omega), State.put_cmd, State.insertWords_cmd _ _ _ (by omega)]

theorem State.deliverAll_cmd (s : State) (m : Nat) (bss : List (List Byte)) (hm : m < 2) :
    (bss.foldl (fun s bs => s.deliverPacket m bs) s).cmd = s.cmd := by
  induction bss generalizing s with
  | nil => rfl
  | cons b bs ih => rw [List.foldl_cons, ih, State.deliverPacket_cmd _ _ _ hm]

/-- While no restart runs, a reply is not held (R460). -/
theorem State.emit_held (s : State) (r : Reply) (hm : r.master < 2)
    (h : s.on CMD_STATUS.key CMD_STATUS.RESTARTING = false) : (s.emit r).cmd.held = s.cmd.held := by
  unfold State.emit
  simp only [h, Bool.false_eq_true, false_and, if_false]
  split
  · rw [State.deliverAll_cmd _ _ _ hm]
  · rfl

theorem State.complete_held (s : State) (p : Packet) (creation : Option Nat) (status detail cflags : Nat)
    (result : List Byte) (h : s.on CMD_STATUS.key CMD_STATUS.RESTARTING = false) :
    (s.complete p creation status detail cflags result).cmd.held = s.cmd.held := by
  unfold State.complete State.reply
  repeat' split
  all_goals first | rfl | exact State.emit_held _ _ (Packet.master_lt p) h

theorem State.finishLong_held (s : State) (r : Res) (status detail : Nat) (result : List Byte)
    (h : s.on CMD_STATUS.key CMD_STATUS.RESTARTING = false) :
    (s.finishLong r status detail result).cmd.held = s.cmd.held := by
  unfold State.finishLong
  split
  · rfl
  · exact State.complete_held (s.endLong r) _ _ _ _ _ _ h

/-! ### What a report keeps -/

theorem Reported.pending {s x : State} (h : Reported s x) : x.pending = s.pending := by rw [h.1]
theorem Reported.boot {s x : State} (h : Reported s x) : x.dev.boot = s.dev.boot := by rw [h.1]
theorem Reported.ticks {s x : State} (h : Reported s x) : x.dev.ticks = s.dev.ticks := by rw [h.1]
theorem Reported.staged {s x : State} (h : Reported s x) : x.staged = s.staged := by rw [h.1]
theorem Reported.time {s x : State} (h : Reported s x) : x.time = s.time := by rw [h.1]
theorem Reported.cal {s x : State} (h : Reported s x) : x.cal = s.cal := by rw [h.1]
theorem Reported.arrivals {s x : State} (h : Reported s x) : x.arrivals = s.arrivals := by rw [h.1]
theorem Reported.timers {s x : State} (h : Reported s x) : x.timers = s.timers := by rw [h.1]
theorem Reported.ports {s x : State} (h : Reported s x) : x.ports = s.ports := by rw [h.1]
theorem Reported.paths {s x : State} (h : Reported s x) : x.paths = s.paths := by rw [h.1]
theorem Reported.odus {s x : State} (h : Reported s x) : x.odus = s.odus := by rw [h.1]
theorem Reported.grate {s x : State} (h : Reported s x) : x.grate = s.grate := by rw [h.1]
theorem Reported.pm {s x : State} (h : Reported s x) : x.pm = s.pm := by rw [h.1]
theorem Reported.prot {s x : State} (h : Reported s x) : x.prot = s.prot := by rw [h.1]
theorem Reported.pair {s x : State} (h : Reported s x) : x.pair = s.pair := by rw [h.1]
theorem Reported.sync {s x : State} (h : Reported s x) : x.sync = s.sync := by rw [h.1]
theorem Reported.ring {s x : State} (h : Reported s x) : x.ring = s.ring := by rw [h.1]
theorem Reported.health {s x : State} (h : Reported s x) : x.health = s.health := by rw [h.1]
theorem Reported.fw {s x : State} (h : Reported s x) : x.fw = s.fw := by rw [h.1]
theorem Reported.pins {s x : State} (h : Reported s x) : x.pins = s.pins := by rw [h.1]
theorem Reported.bus {s x : State} (h : Reported s x) : x.bus = s.bus := by rw [h.1]
theorem Reported.cmd_running {s x : State} (h : Reported s x) : x.cmd.running = s.cmd.running := by rw [h.1]
theorem Reported.cmd_slots {s x : State} (h : Reported s x) : x.cmd.slots = s.cmd.slots := by rw [h.1]
theorem Reported.cmd_leases {s x : State} (h : Reported s x) : x.cmd.leases = s.cmd.leases := by rw [h.1]
theorem Reported.cmd_immediates {s x : State} (h : Reported s x) : x.cmd.immediates = s.cmd.immediates := by rw [h.1]
theorem Reported.cmd_m0 {s x : State} (h : Reported s x) : x.cmd.m0 = s.cmd.m0 := by rw [h.1]
theorem Reported.cmd_m1 {s x : State} (h : Reported s x) : x.cmd.m1 = s.cmd.m1 := by rw [h.1]
theorem Reported.conds {s x : State} (h : Reported s x) : x.evt.conds = s.evt.conds := by rw [h.1]

theorem Reported.rd {s x : State} (h : Reported s x) {k : Nat} (hk : reportReg k = false) : x.rd k = s.rd k := h.2.1 k hk

theorem Reported.get {s x : State} (h : Reported s x) {k : Nat} (hk : reportReg k = false) (f : Fld) :
    x.get k f = s.get k f := State.get_of_rd (h.rd hk) f

theorem Reported.on {s x : State} (h : Reported s x) {k : Nat} (hk : reportReg k = false) (f : Fld) :
    x.on k f = s.on k f := State.on_of_rd (h.rd hk) f

/-- CMD_STATUS keeps its other fields. -/
theorem Reported.cmdStatus {s x : State} (h : Reported s x) (f : Fld) (hf : f.lo + f.width ≤ 32)
    (hd : f.lo + f.width ≤ CMD_STATUS.REPLY_LOST_HIST.lo ∨
      CMD_STATUS.REPLY_LOST_HIST.lo + CMD_STATUS.REPLY_LOST_HIST.width ≤ f.lo) :
    x.on CMD_STATUS.key f = s.on CMD_STATUS.key f := by
  simp [State.on, h.2.2.1 f hf hd]

theorem Reported.tick_mem {s x : State} (h : Reported s x) {e : EventRec} (he : e ∈ s.evt.tick) : e ∈ x.evt.tick :=
  h.2.2.2.subset he

theorem Reported.cmd_running_find {s x : State} (h : Reported s x) (r : Res) : x.running r = s.running r := by
  simp [State.running, h.cmd_running]

end Sys2Proof.Machine
end

