-- ==== Sys2Proof/Tests/Slice0.lean ====
section
/-! SUPPORT. The model's own tests: a state and operands that meet the hypotheses of each statement, ill-formed commands
that WellFormed refuses, and worked examples of the manual. -/

set_option Elab.async false

namespace Sys2Proof.Tests

open Sys2Proof.Machine

/-! ### Small states -/

/-- Firmware runs, the core is off bypass, every power domain is up. -/
def up : State :=
  let s : State := { State.reset with
    dev := { State.reset.dev with boot := .running, coreBypass := false, ticks := 1000000 }
    time := { State.reset.time with sfn := 5000000 } }
  [0, 1, 2, 3, 4].foldl (fun s i => (s.wr (HLT_DOMAIN_UP.key i) (BitVec.allOnes 32)).wr (HLT_DOMAIN_REJ.key i)
    (BitVec.allOnes 32)) s

/-- Port 0 in a family at a rate code. -/
def portAs (family rate : Nat) : State :=
  (up.put (PRT_CFG.key 0) PRT_CFG.FAMILY family).put (PRT_CFG.key 0) PRT_CFG.RATE_CODE rate

/-- The calendar holds one entry. -/
def withEntry (s : State) (e : Entry) : State := { s with cal := { entries := [e], nextCreation := 1 } }

/-- One timer runs. -/
def withTimer (s : State) (k : TimerKind) (due : Nat) : State := { s with timers := [⟨k, due⟩] }

/-- A packet of master M0 to the device of address 0, with the CHECK it needs there. -/
def packet (opcode : Byte) (seq : BitVec 16) (eff : BitVec 48) (payload : List Byte) : Packet :=
  let p : Packet := ⟨0x10, 0, opcode, 0, 0, seq, eff, BitVec.ofNat 16 payload.length, 0, 0, 0, payload, 0⟩
  { p with check := BitVec.ofNat 32 (p.crc 0) }

/-! ### Ill-formed commands -/

/-- One ill-formed command for each check of WellFormed. -/
theorem test_ill_formed :
    wellFormed (.nop (packet 0x01 0 0 [])) = false ∧ wellFormed (.identifySelf (packet 0x01 0 0 [1, 0, 0, 0])) = false ∧
    wellFormed (.nop { packet 0x00 0 0 [] with length := 4 }) = false ∧
    wellFormed (.nop (packet 0x00 0 0 (List.replicate 4069 0))) = false ∧
    wellFormed (.nop (packet 0x00 0 0 [])) = true ∧ wellFormed (.identifySelf (packet 0x01 0 0 [0, 0, 0, 0])) = true := by
  decide +kernel

/-- One line event out of its bounds for each check of its operands. -/
theorem test_ill_formed_events :
    wellFormed (.spiRead 0 0) = false ∧ wellFormed (.spiQuadRead 0 0) = false ∧
    wellFormed (.sdhFrameReceive 0 ⟨true, 0, 0, 0, 0, 0, 0, 0, [], List.replicate 9 0, []⟩) = false ∧
    wellFormed (.sdhFrameReceive 0 ⟨true, 0, 0, 0, 0, 0, 0, 0, List.replicate 3 0, [], []⟩) = false ∧
    wellFormed (.sdhFrameReceive 0 ⟨true, 0, 0, 0, 0, 0, 0, 0, List.replicate 3 0, List.replicate 9 0,
      [⟨192, 0, [], 0, 0, 0, 0, 0⟩]⟩) = false ∧
    wellFormed (.otuFrameReceive 0 ⟨true, 0, 0, 0, 0, 0, 0, [⟨0, 8, 0, 0, 0, false⟩], 0, 0⟩) = false ∧
    wellFormed (.otuFrameReceive 0 ⟨true, 0, 0, 0, 0, 0, 0, [⟨256, 0, 0, 0, 0, false⟩], 0, 0⟩) = false ∧
    wellFormed (.dmTimeout 0 256 0) = false ∧ wellFormed (.alfMarkerReceive 0 ⟨4, 0, 0, true⟩) = false ∧
    wellFormed (.alfMarkerReceive 0 ⟨0, 16, 0, true⟩) = false ∧
    wellFormed (.alfFrameReceive 0 ⟨true, true, true, true, 0, 16, 0, 0, 0, 0, 0⟩) = false ∧
    wellFormed (.bundlePlayout 0 [⟨7, true, true, 0, true, 1, 0, 0, 1⟩, ⟨7, true, true, 0, true, 1, 0, 0, 1⟩]) = false ∧
    wellFormed (.pauseFrameReceive 0 false 0 []) = false ∧
    wellFormed (.mirrorCommandTake { packet 0 0 0 [] with length := 4 } 0 []) = false ∧
    wellFormed (.commandPacketBuffer { packet 0 0 0 [] with length := 4 }) = false := by
  decide +kernel

/-! ### Worked examples of the manual -/

/-- The 36-byte PROT_COMMAND of the example of R348. -/
theorem test_packet_example :
    packetOf ([0x10, 0x00, 0x51, 0x10, 0x00, 0x85, 0x12, 0x34, 0, 0, 0, 0x4C, 0x4B, 0xA4, 0, 8] ++ List.replicate 8 0 ++
      [2, 0, 0, 0x11, 2, 1, 0, 0] ++ [1, 2, 3, 4]) 36 =
      ⟨0x10, 0, 0x51, 0x10, 0x0085, 0x1234, 5000100, 8, 0, 0, 0, [2, 0, 0, 0x11, 2, 1, 0, 0], 0x01020304⟩ := by
  decide +kernel

/-! ### States and operands that meet the hypotheses of the statements -/

theorem witness_StepKeepsInterruptsSeen : State.reset.interruptsSeen ∧ step State.reset = .next State.reset := by
  refine ⟨?_, rfl⟩; unfold State.interruptsSeen; decide +kernel

theorem witness_PacketRoundTrip : ({ packet 0 0 0 [] with payload := List.replicate 4068 0 } : Packet).payload.length ≤ 4068 := by
  decide +kernel

/-- GPIO 0 is an output at monitor 13, open-drain or not. -/
def gpioOut (od : Nat) : State := (up.put (PIN_GPIO_CFG.key 0) PIN_GPIO_CFG.DIR 1).put (PIN_GPIO_CFG.key 0) PIN_GPIO_CFG.OPEN_DRAIN od

theorem witness_TapAndMonitors :
    (gpioOut 1).pinSampled 13 = true ∧ (gpioOut 0).pinOpenDrain 13 = false ∧ (gpioOut 0).pinSampled 13 = true ∧
    (withTimer up (.pinBackoff 20) 1000000).timerDue (.pinBackoff 20) = true ∧
    (∃ s : State, s.pins.redriven.find 13 = some 999992 ∧ 999992 + 8 ≤ s.dev.ticks ∧ s.pinSampled 13 = true) ∧
    (up.put (PIN_MON.key 0) PIN_MON.HIGHZ 1).pinOn 0 PIN_MON.HIGHZ = true ∧
    115 ≤ untwos 8 (0x73 : Byte).toNat ∧ untwos 8 (0x72 : Byte).toNat < 115 ∧ untwos 8 (0x80 : Byte).toNat < 115 := by
  refine ⟨by decide +kernel, by decide +kernel, by decide +kernel, by decide +kernel,
    ⟨{ gpioOut 0 with pins := { up.pins with redriven := [(13, 999992)] } }, by decide +kernel⟩, by decide +kernel,
    by decide +kernel, by decide +kernel, by decide +kernel⟩

theorem witness_ResetAndBoot :
    State.reset.dev.boot ≠ .held ∧ State.reset.dev.fuseRepairs = [] ∧
    ({ State.reset.dev with boot := .held } : Dev).boot = .held := by decide +kernel

/-- A firmware command that runs as a long operation. -/
def fwOp : LongOp := ⟨0x13, 0, 0, packet 0xF2 0 0 [], 0, 0, 0⟩

theorem witness_FirmwareOutcomes :
    (({ up with cmd := { up.cmd with running := [fwOp] } } : State).put SYS_FW_STATUS.key SYS_FW_STATUS.LOAD_STATE 2).loadState
      = fwVerifying ∧
    (({ up with cmd := { up.cmd with running := [fwOp] } } : State).running resFw).isSome = true ∧
    (up.put SYS_FW_STATUS.key SYS_FW_STATUS.RUNNING 1).on SYS_FW_STATUS.key SYS_FW_STATUS.RUNNING = true ∧
    ({ up.fw with starting := true } : FwSt).starting = true ∧ up.fw.up = false ∧ up.cmd.held = [] ∧
    up.imageCause ⟨true, true⟩ ≠ 0 := by decide +kernel

/-- The KX9600-48. -/
def small : State := { up with dev := { up.dev with variant48 := true } }
def frozenObs : State := up.put OBS_CNT_CTRL.key OBS_CNT_CTRL.FREEZE 1

theorem witness_LowWordsLatch :
    up.dev.boot ≠ .held ∧ up.dev.variant48 = false ∧ up.domainUp (domFramer (up.physOf (framerPos 95))) = true ∧
    small.dev.variant48 = true ∧ small.domainUp (domFramer (small.physOf (framerPos 47))) = true ∧
    frozenObs.obsFrozen = true := by decide +kernel

theorem witness_QueueReadRemovesWord :
    (up.queue 7).words = [] ∧ ((up.setQueue 7 { up.queue 7 with words := [2 ^ 63] }).queue 7).words = [2 ^ 63] ∧
    (2 ^ 63 : BitVec 64).toNat / 2 ^ 62 = 2 := by decide +kernel

theorem witness_CounterWrites :
    up.obsFrozen = false ∧ (0xFFFFFFFF : Word).toNat + (2 ^ 48 - 2 ^ 32) < 2 ^ 48 ∧
    2 ^ 48 ≤ (0xFFFFFFFF : Word).toNat + (2 ^ 48 - 2 ^ 32 + 1) ∧
    (up.get (PRT_CNT_CFG.key 95) PRT_CNT_CFG.WRAP_MODE).testBit 3 = false := by decide +kernel

theorem witness_QueueInsertion :
    (up.queue 6).words.length + (List.replicate (queueCap 6 - 1) (0 : BitVec 64)).length + 1 ≤ queueCap 6 ∧
    queueCap 6 < (up.queue 6).words.length + (List.replicate (queueCap 6) (0 : BitVec 64)).length + 1 ∧
    (up.queue 6).inRun = false := by simp only [List.length_replicate]; decide +kernel

def legacy7 : State := up.put (SYS_QCFG.key 7) SYS_QCFG.LEGACY 1

theorem witness_QueueRegisterWrites :
    up.on (SYS_QCFG.key 7) SYS_QCFG.LEGACY = false ∧ legacy7.on (SYS_QCFG.key 7) SYS_QCFG.LEGACY = true ∧
    (up.queue 7).words.length < (1 : BitVec 14).toNat ∧
    (1 : BitVec 14).toNat ≤ ((up.setQueue 7 { up.queue 7 with words := [0] }).queue 7).words.length := by decide +kernel

theorem witness_InterruptRows :
    ((up.updMaster 1 fun y => { y with msiWaiting := true, msiLast := some 999992 }).master 1).msiWaiting = true ∧
    999992 + up.get (EVT_CTRL.key 1) EVT_CTRL.MSI_GAP ≤ up.dev.ticks ∧
    up.dev.ticks < 999993 + up.get (EVT_CTRL.key 1) EVT_CTRL.MSI_GAP := by decide +kernel

def aligned : State := { up with time := { up.time with fpAligned := true } }
/-- The device booted from the ring. -/
def member : State := up.put SYS_BOOT_STATUS.key SYS_BOOT_STATUS.BOOT_SEL 1

theorem witness_TimingRows :
    up.isGateway = true ∧ framePulse 40 = true ∧ framePulse 4000 = true ∧ markerPulse 8000 = true ∧
    markerPulse 60000 = true ∧ framePulse 4001 = false ∧ markerPulse 4001 = false ∧ up.time.fpAligned = false ∧
    aligned.isGateway = true ∧ aligned.time.fpAligned = true ∧ aligned.get DPL_STATUS.key DPL_STATUS.ALIGNING = 0 ∧
    member.isGateway = false ∧
    (withTimer up (.refWtr 11) 1000000).timerDue (.refWtr 11) = true ∧
    (withTimer up (.refWtr 11) 1000001).timerDue (.refWtr 11) = false ∧
    (up.put (DPL_REF_STATUS.key 11) DPL_REF_STATUS.FAILED 0).refFailed 11 = false ∧
    (up.put (DPL_REF_CFG.key 11) DPL_REF_CFG.PRIORITY 1).get (DPL_REF_CFG.key 11) DPL_REF_CFG.PRIORITY ≠ 0 ∧
    up.on (DPL_REF_STATUS.key 11) DPL_REF_STATUS.QUALIFIED = false ∧
    ((up.put SYN_STATUS.key SYN_STATUS.LOCK 0).get SYN_STATUS.key SYN_STATUS.LOCK).testBit 5 = false ∧
    ((up.put SYN_STATUS.key SYN_STATUS.LOCK 63).get SYN_STATUS.key SYN_STATUS.LOCK).testBit 5 = true ∧
    7 ∉ up.sync.clkHold ∧ 7 ∈ ({ up.sync with clkHold := [7] } : SyncSt).clkHold := by decide +kernel

def dplState (n : Nat) : State := up.put DPL_STATUS.key DPL_STATUS.STATE n

theorem witness_DpllRows :
    (∀ n : Fin 4, (dplState n).get DPL_STATUS.key DPL_STATUS.STATE = n) ∧
    up.dev.ticks < 936001 + 64000 ∧ 936000 + 64000 ≤ up.dev.ticks ∧
    500000 + (max 1 (up.get DPL_CFG.key DPL_CFG.HIST_WIN) + 1) * 8000 ≤ up.dev.ticks ∧
    up.sync.failed = false ∧ up.sync.mirror = true ∧
    (some 992000).any (fun t => decide (up.dev.ticks ≤ t + 8000)) = true ∧
    (some 991999).any (fun t => decide (up.dev.ticks ≤ t + 8000)) = false := by decide +kernel

def ringLinked (east : Bool) (v : Nat) (s : State) : State := s.put FLU_STATUS.key (if east then FLU_STATUS.EAST_UP else FLU_STATUS.WEST_UP) v

def header (ok : Bool) (sfn : BitVec 48) : RingHdr := ⟨ok, 0, 0, 0, sfn, 0, 0, 0, 0⟩

def adoptedMember : State := { ringLinked false 1 member with ring := { member.ring with adopted := true } }

/-- A ring packet that only the root, or a member in its own frames, may send. -/
def boundPkt : RingPkt := ⟨1, 0, 16384⟩

theorem witness_RingHeadersAndFrames :
    (header false 0).checkOk = false ∧ ({ miss := 1 } : RingPort).miss < 2 ∧
    (ringLinked false 1 up).ringUp false = true ∧ (ringLinked true 1 up).ringUp true = true ∧
    (ringLinked true 1 (ringLinked false 0 up)).ringUp false = false ∧
    boundPkt.free = false ∧ boundPkt.len ≤ 16384 ∧ up.isGateway = true ∧ up.dev.fuseId.toNat ≤ (header true 0).rootFuse.toNat ∧
    adoptedMember.ringUp false = true ∧ adoptedMember.isGateway = false ∧
    adoptedMember.on SYS_TIME_STATUS.key SYS_TIME_STATUS.SFN_CONFLICT = false ∧
    (header true 5000001).epoch.toNat = adoptedMember.time.epoch ∧
    (header true 5000001).sfn.toNat = adoptedMember.time.nextSfn.getD (adoptedMember.time.sfn + 1) ∧
    (header true 0).flags.toNat.testBit 6 = false ∧ (header true 0).flags.toNat.testBit 5 = false ∧
    ({ up with ring := { up.ring with unwrapAt := some 5000001 } } : State).unwrapNext = true ∧ up.unwrapNext = false ∧
    (member.put FLU_STATUS.key FLU_STATUS.HOP 1).time.sfn % 2 ≠
      (member.put FLU_STATUS.key FLU_STATUS.HOP 1).get FLU_STATUS.key FLU_STATUS.HOP % 2 := by decide +kernel

def someIdent (addr : BitVec 10) : Ident := ⟨1, 0, 0, 0, true, addr, 0, 0⟩
def ringRow (missing : Nat) : RingEntry := { ident := someIdent 63, hop := 1, present := true, missing := missing }
def assign : Assign := ⟨packet 0x0C 0 0 [], none, 1, 1, 1000000⟩

theorem witness_RingLinksAndMembers :
    (ringLinked true 1 up).on FLU_STATUS.key FLU_STATUS.EAST_UP = true ∧ up.on FLU_STATUS.key FLU_STATUS.EAST_UP = false ∧
    (up.put FLU_STATUS.key FLU_STATUS.WRAP_W 1).on FLU_STATUS.key FLU_STATUS.WRAP_W = true ∧
    (withTimer (ringLinked true 1 up) (.unwrap true) 1000000).timerDue (.unwrap true) = true ∧
    ((ringLinked true 1 up).put FLU_STATUS.key FLU_STATUS.WRAP_E 1).on FLU_STATUS.key FLU_STATUS.WRAP_E = true ∧
    ((ringLinked true 1 up).put FLU_STATUS.key FLU_STATUS.WRAP_E 1).on FLU_STATUS.key FLU_STATUS.EAST_UP = true ∧
    up.time.sfn < 5000001 ∧ 5000000 ≤ up.time.sfn ∧
    (ringRow 2).present = true ∧ (ringRow 2).ident.addr.toNat % 64 = 63 ∧ (ringRow 2).missing < 3 ∧ 3 ≤ (ringRow 3).missing ∧
    up.isGateway = true ∧ member.isGateway = false ∧ assign.due ≤ up.dev.ticks ∧ up.dev.ticks < 1000001 := by decide +kernel

def flywheel : State := member.put SYS_TIME_STATUS.key SYS_TIME_STATUS.FLYWHEEL 1

theorem witness_RingTime :
    member.on SYS_TIME_STATUS.key SYS_TIME_STATUS.FLYWHEEL = false ∧ member.ring.adopted = false ∧
    flywheel.isGateway = false ∧ flywheel.on SYS_TIME_STATUS.key SYS_TIME_STATUS.FLYWHEEL = true ∧
    (0 : Byte).toNat = flywheel.time.epoch ∧ flywheel.on SYS_TIME_STATUS.key SYS_TIME_STATUS.SFN_CONFLICT = false ∧
    flywheel.time.nextSfn.getD (flywheel.time.sfn + 1) = (5000001 : BitVec 48).toNat ∧
    flywheel.time.nextSfn.getD (flywheel.time.sfn + 1) ≤ (4999937 : BitVec 48).toNat + 64 ∧ flywheel.time.suppress = 0 ∧
    (4999936 : BitVec 48).toNat + 64 < flywheel.time.nextSfn.getD (flywheel.time.sfn + 1) := by decide +kernel

def awaited : Await := { packet := packet 0 7 0 [], due := 1000000 }
def oneReply : List Byte := List.replicate 28 0

theorem witness_GatewayReplies :
    awaited.packet.seq = 7 ∧ awaited.timedOut = false ∧ awaited.answered = false ∧ awaited.due ≤ up.dev.ticks ∧
    up.dev.ticks < ({ awaited with due := 1000001 } : Await).due ∧ fieldAt oneReply 18 2 < 2 ^ 15 ∧ fieldAt oneReply 25 1 ≠ 1 ∧
    (up.queue 3).words.length + (replyRecord oneReply).length + 1 ≤ queueCap 3 := by decide +kernel

theorem witness_SequenceClasses :
    (∃ k, 1 ≤ k ∧ k ≤ 32767 ∧ 32766 = (65535 + k) % 65536) ∧ (∃ k, 1 ≤ k ∧ k ≤ 1023 ∧ 1022 = (65535 + k) % 65536) ∧
    (¬ ∃ k, 1 ≤ k ∧ k ≤ 32767 ∧ 32768 = (0 + k) % 65536) ∧ ¬ ∃ k, 1 ≤ k ∧ k ≤ 1023 ∧ 0 = (32768 + k) % 65536 := by
  refine ⟨⟨32767, by decide⟩, ⟨1023, by decide⟩, ?_, ?_⟩ <;> rintro ⟨k, h1, h2, h3⟩ <;> omega

theorem witness_EffectiveTimes :
    0 < 2 ∧ 2 ≤ 2 ^ 24 ∧ 1 = (2 ^ 32 - 1 + 2) % 2 ^ 32 ∧ 2 ^ 24 - 1 = (2 ^ 32 - 1 + 2 ^ 24) % 2 ^ 32 ∧
    2 ^ 24 < 2 ^ 24 + 1 ∧ 2 ^ 24 + 1 < 2 ^ 31 ∧ 2 ^ 24 = (2 ^ 32 - 1 + (2 ^ 24 + 1)) % 2 ^ 32 ∧
    2 ^ 31 - 2 = (2 ^ 32 - 1 + (2 ^ 31 - 1)) % 2 ^ 32 := by decide

/-! Host commands. -/

def nop : Packet := packet 0x00 1 0 []
/-- A basic master sends an expert command. -/
def regRead : Packet := packet 0x80 1 0 [0, 0, 0, 0]
def nopHeld : Packet := packet 0x00 1 0 [1]
/-- SET_LEVEL to expert. -/
def leasing : Packet := packet 0x02 1 0 [1, 0, 0, 0]
def standbyUnit : State := (up.put CLM_CFG.key CLM_CFG.PAIR_EN 1).put CLM_STATUS.key CLM_STATUS.ROLE 1
def romOnly : State := { up with dev := { up.dev with boot := .rom } }
def damper : Packet := packet 0x2E 1 0 (List.replicate 8 0)
def leasedByM1 : State := { up with cmd := { up.cmd with leases := (needs damper).map fun r => ⟨r.1, r.2.1, r.2.2, 1, 0⟩ } }

theorem witness_HostCommandsRefused :
    (Instr.nop nop).hostRow = some ⟨nop, 0, none⟩ ∧ HostRow.matchesRow ⟨nop, 0, none⟩ = true ∧ up.answersPackets = true ∧
    (up.noteTaken { nop with ver := 0x11 }).checkFault { nop with ver := 0x11 } = some 1 ∧
    (up.noteTaken { nop with check := 0 }).checkFault { nop with check := 0 } = some 3 ∧
    (up.noteTaken nop).checkFault nop = none ∧ ((up.noteTaken nop).present 0).classify nop = .new ∧
    ((((up.passed nop).noteTaken nop).present 0).classify nop = .replay) ∧
    (romOnly.passed leasing).restartBusy leasing = true ∧ (up.passed leasing).restartBusy leasing = false ∧
    (up.passed regRead).restartBusy regRead = false ∧ (up.passed regRead).levelShort regRead = true ∧
    (standbyUnit.passed leasing).roleBusy leasing = some 0x000A ∧
    (up.passed leasing).roleBusy leasing = none ∧ (up.passed nopHeld).paramFault nopHeld ≠ none ∧
    (up.passed leasing).paramFault leasing = none ∧
    (leasedByM1.passed damper).paramFault damper = none ∧ ((leasedByM1.passed damper).row7 damper).1 = some 0x000C := by
  decide +kernel

theorem witness_HostReadsAnswer : Passes7 up nop ∧ actsAtOnce nop.op = true ∧ (up.leased nop).answers nop ≠ .accept up [] ∧
    (∃ st r s1, (up.leased nop).answers nop = .answer st r s1) ∧ nop.noReply = false := by
  unfold Passes7 Passes1
  refine ⟨by decide +kernel, by decide +kernel, by decide +kernel, ?_, by decide +kernel⟩
  generalize h : (up.leased nop).answers nop = v
  have hv : (match (up.leased nop).answers nop with | .answer _ _ _ => true | _ => false) = true := by decide +kernel
  rw [h] at hv
  cases v with
  | answer a b c => exact ⟨a, b, c, rfl⟩
  | refuse _ _ _ => simp at hv
  | accept _ _ => simp at hv

/-- What acceptance gives, when it gives one. -/
def accepted (v : Verdict) : Option (State × List Byte) := match v with | .accept s r => some (s, r) | _ => none

theorem accepted_eq {v : Verdict} {s : State} {r : List Byte} (h : accepted v = some (s, r)) : v = .accept s r := by
  cases v with
  | accept a b => simp [accepted] at h; rw [h.1, h.2]
  | refuse _ _ _ => simp [accepted] at h
  | answer _ _ _ => simp [accepted] at h

theorem witness_ImmediateCommandsTaken : Passes7 up leasing ∧ actsAtOnce leasing.op = false ∧
    (up.leased leasing).effective leasing = .immediate ∧ (up.leased leasing).answersFirst leasing = false ∧
    ((accepted ((up.leased leasing).chapter leasing)).map fun x => decide (x.1.cmd.leases = (up.leased leasing).cmd.leases))
      = some true := by
  unfold Passes7 Passes1; decide +kernel

/-- SET_TOD_LABEL at SFN 5,000,100. -/
def setTod : Packet := packet 0x06 1 5000100 (List.replicate 8 0)
def noQuota : State := up.put CAL_CTRL.key CAL_CTRL.QUOTA_M0 0
def fullSfn : State := { up with cal := { up.cal with
  entries := List.replicate 64 { creation := 0, key := .sfn 5000100, action := .handover } } }

theorem witness_ScheduledCommandsTaken : Passes7 up setTod ∧ Passes7 noQuota setTod ∧ Passes7 fullSfn setTod ∧
    actsAtOnce setTod.op = false ∧ portKeyed setTod.op = false ∧
    (up.leased setTod).effective setTod = .scheduled (.sfn 5000100) false ∧
    ((accepted ((up.leased setTod).chapter setTod)).map fun x => decide (x.1.cmd.leases = (up.leased setTod).cmd.leases))
      = some true ∧
    (up.leased setTod).hostRoom 0 = true ∧ (up.leased setTod).sfnRoom (.sfn 5000100) = true ∧
    (noQuota.leased setTod).hostRoom 0 = false ∧ (fullSfn.leased setTod).hostRoom 0 = true ∧
    (fullSfn.leased setTod).sfnRoom (.sfn 5000100) = false := by
  unfold Passes7 Passes1; decide +kernel

/-! Execution, submission, timers. -/

def levelTaken : State := { up with cmd := { up.cmd with immediates := [⟨leasing, 999999⟩] } }
def todEntry (n : Nat) : Entry := { creation := 0, key := .sfn n, action := .host setTod }
def plainEntry (n : Nat) (a : Action) : Entry := { creation := 0, key := .sfn n, action := a }
def laterHandover : State := withEntry up (plainEntry 5000001 .handover)
def dueTod : State := withEntry up (todEntry 5000000)

theorem witness_CommandsExecute :
    levelTaken.quiet ∧ (∀ t ∈ ({ levelTaken.cmd with immediates := [⟨leasing, 1000000⟩] } : CmdSt).immediates, 1000000 ≤ t.tick) ∧
    (⟨leasing, 999999⟩ : Taken).tick < levelTaken.dev.ticks ∧ leasing.opcode = 0x02 ∧
    ({ laterHandover with cal := { laterHandover.cal with entries := [] } } : State).quiet ∧ laterHandover.time.sfn < 5000001 ∧
    ({ dueTod with cal := { dueTod.cal with entries := [] } } : State).quiet ∧ 5000000 ≤ dueTod.time.sfn ∧
    setTod.opcode = 0x06 ∧ (todEntry 5000000).armed = false ∧ (todEntry 5000000).notBefore ≤ dueTod.dev.ticks ∧
    dueTod.time.nextSfn = none ∧ dueTod.time.armed = none ∧
    dueTod.on SYS_TIME_STATUS.key SYS_TIME_STATUS.SFN_CONFLICT = false := by
  unfold State.quiet; decide +kernel

def fullBuffer (n : Nat) : State := up.updMaster 0 fun y => { y with inbuf := List.replicate n nop }
def windowed : State := up.updMaster 0 fun y => { y with window := (Packet.bytes nop).zipIdx.map fun e => (e.2, e.1) }

theorem witness_PacketsSubmitted :
    up.answersPackets = true ∧ ((fullBuffer 31).master 0).inbuf.length < 32 ∧ 32 ≤ ((fullBuffer 32).master 0).inbuf.length ∧
    ({ up with dev := { up.dev with boot := .stopped } } : State).answersPackets = false ∧
    member.bootedGateway = false ∧ (27 : BitVec 13).toNat < 28 ∧ 4096 < (4097 : BitVec 13).toNat ∧
    windowed.bootedGateway = true ∧ windowed.cmd.demoted = false ∧
    (let p := packetOf ((List.range 28).map fun i => (windowed.master 0).window.getD i 0) 28
     p.master = 0 ∧ p.srcRing = windowed.address / 64 ∧ p.dest.toNat % 1024 = windowed.address) ∧
    (windowed.master 0).inbuf.length < 32 := by decide +kernel

def alignOp (due : Nat) : LongOp := ⟨9, 0, 0, packet 0x64 0 0 [], 0, due, 0⟩

theorem witness_CommandTimers :
    (up.put CMD_STATUS.key CMD_STATUS.ABSENT_M0 0).absent 0 = false ∧
    up.get CMD_CFG.key CMD_CFG.MASTER_TIMEOUT ≠ 0 ∧
    (up.master 0).lastPacket + up.get CMD_CFG.key CMD_CFG.MASTER_TIMEOUT * 8000 ≤ up.dev.ticks ∧
    (alignOp 1000000).res = (9, 0, 0) ∧ (alignOp 1000000).due ≤ up.dev.ticks ∧ up.dev.ticks < (alignOp 1000001).due ∧
    (alignOp 0).packet.opcode = 0x64 ∧ up.grate.conns = [] ∧ up.grate.runs = [] ∧ up.grate.allocs = [] ∧
    (({ up with cmd := { up.cmd with running := [alignOp 0] } } : State).running (9, 0, 0)).isSome = true ∧
    aligned.running (9, 0, 0) = none ∧ aligned.time.fpAligned = true ∧ aligned.has ⟨177, 0, 0x80⟩ = false := by decide +kernel

/-! Register space, windows, check units, observation. -/

theorem witness_PartialAccessesFault :
    State.reset.dev.boot ≠ .held ∧ (0xE : BitVec 4) ≠ 0xF ∧ (0x3 : BitVec 24).toNat % 4 ≠ 0 := by decide +kernel

theorem witness_AccessTypes : SYS_BOOT_STATUS.desc ∈ allRegs := by decide +kernel

def damperAddr : BitVec 24 := BitVec.ofNat 24 (PRT_DAMPER.key 95)
def bankPlace (s : State) (a : Nat) : Option Nat := match s.locate a with | .reg k _ => some k | _ => none
def expert0 : State := up.updMaster 0 fun y => { y with expert := true }

theorem witness_RegisterAccess :
    bankPlace up CMD_CFG.key = some CMD_CFG.key ∧ CMD_CFG.key % 4 = 0 ∧ up.absentBank CMD_CFG.key = false ∧
    isBanked CMD_CFG.key = false ∧ (writers.all fun w => (w.1.index CMD_CFG.key).isNone) = true ∧
    (readers.all fun w => (w.1.index CMD_CFG.key).isNone) = true ∧ (views.all fun w => (w.1.index CMD_CFG.key).isNone) = true ∧
    bankPlace up damperAddr.toNat = some damperAddr.toNat ∧ isBanked damperAddr.toNat = true ∧
    (up.master 0).expert = false ∧ damperAddr.toNat % 4 = 0 ∧ up.absentBank damperAddr.toNat = false ∧
    (match up.locate 0x200040 with | .blank => true | _ => false) = true ∧
    (expert0.master 0).expert = true ∧ bankPlace expert0 damperAddr.toNat = some damperAddr.toNat ∧
    damperAddr.toNat = PRT_DAMPER.key 95 ∧ bankPlace expert0 DPL_CFG.key = some DPL_CFG.key ∧
    bankPlace expert0 HLT_CFG.key = some HLT_CFG.key ∧ bankPlace expert0 OBS_SAMPLE_CFG.key = some OBS_SAMPLE_CFG.key := by
  decide +kernel

/-- Window 15 maps 64 KB at offset 0 onto target 2 with every right. -/
def oneWindow (target rights : Nat) : State :=
  (up.wr (BUS_WIN_CTRL.key 15) (BitVec.ofNat 32 (target + rights * 16))).wr (BUS_WIN_SIZE.key 15) 1

theorem witness_MemoryWindows :
    (oneWindow 2 15).windowAt 65535 = some (15, 2, 65535) ∧ (oneWindow 2 15).windowAt 65536 = none ∧
    (oneWindow 2 0).windowRight 15 1 true = false ∧ (oneWindow 2 15).windowRight 15 1 true = true ∧
    65532 + 4 ≤ (oneWindow 2 15).targetSize 2 ∧
    (({ oneWindow 1 15 with cmd := expert0.cmd } : State).master 0).expert = true ∧
    (oneWindow 1 15).windowAt 0 = some (15, 1, 0) ∧ (oneWindow 1 15).windowRight 15 0 true = true ∧
    0 + 4 ≤ (oneWindow 1 15).targetSize 1 ∧ memoryWf (oneWindow 2 15).bus.mem = true ∧
    (∀ i, i < 4 → Tbl.find ((oneWindow 2 15).memWrite (busAddr 2 0) [1, 2, 3, 4]).bus.mem (busAddr 2 0 + i) ≠ none) := by
  decide +kernel

theorem witness_CheckUnits : up.dev.boot ≠ .held ∧ (11 : Fin 16).val < 12 ∧ 12 ≤ (12 : Fin 16).val ∧
    up.bus.cvuHeld.getD 15 0 = 0 := by decide +kernel

def record1 : TraceRec := ⟨1, 0, 0, 0, 0, 0, []⟩
def traced (fifo buffer : List TraceRec) (cfg : Word) : State :=
  { up.wr OBS_TRACE_CFG.key cfg with obs := { up.obs with fifo := fifo, buffer := buffer } }
def allClasses : Word := BitVec.allOnes 32

theorem witness_ObservationRows :
    up.obsFrozen = false ∧ frozenObs.obsFrozen = true ∧ up.obs.fifo = [] ∧
    (traced [record1] [] 0).obs.waiting = none ∧
    recordsBytes (traced [record1] [] 0).obs.buffer + record1.length ≤ (traced [record1] [] 0).traceCap ∧
    (traced [] [record1] 0).on OBS_TRACE_CFG.key OBS_TRACE_CFG.READOUT_EN = false ∧
    (traced [] [record1] allClasses).on OBS_TRACE_CFG.key OBS_TRACE_CFG.READOUT_EN = true ∧
    ((traced [] [record1] allClasses).queue 6).words.length + (owedMarkers (up.queue 6)).length +
      (replyRecord record1.bytes).length + 1 ≤ queueCap 6 ∧
    up.on OBS_SAMPLE_CFG.key OBS_SAMPLE_CFG.SAMPLE_EN = false ∧
    ((traced (List.replicate 255 record1) [] allClasses).put OBS_SAMPLE_CFG.key OBS_SAMPLE_CFG.SAMPLE_EN 1).on
      OBS_SAMPLE_CFG.key OBS_SAMPLE_CFG.SAMPLE_EN = true ∧
    (traced [] [] allClasses).captures 6 none = true ∧ (traced (List.replicate 255 record1) [] allClasses).obs.fifo.length < 256 := by
  decide +kernel

/-! Defects, lanes, protection, windows. -/

/-- Port 0 carries STM-1 on its lane. -/
def sdh0 : State := portAs 1 0
def los0 : Cond := condPort 0 dLOS

theorem witness_DefectRows :
    168 ≤ (⟨383, 0, 0x80⟩ : Cond).source ∧ (⟨383, 0, 0x80⟩ : Cond).source < 384 ∧ up.decided ⟨168, 0, 0x80⟩ = false ∧
    sdh0.isSdh 0 = true ∧ sdh0.decided (condPort 0 (sdhStatusCodes.getD 6 0)) = false ∧
    sdh0.isQuad 0 = false ∧ sdh0.isMember 0 = false ∧ sdh0.family 0 ≠ 0 ∧ sdh0.laneTest 0 = false ∧ sdh0.isAlf 0 = false ∧
    sdh0.on (LAN_STATUS.key 0) LAN_STATUS.SUBSTITUTING = false ∧ sdh0.decided los0 = false ∧
    (sdh0.setCond los0 true).decided los0 = true ∧ up.pm.recs = [] ∧ up.prot.groups = [] ∧ up.vcats = [] ∧
    (∀ g, g < groupsBonding → up.bondOn g = false) ∧ (∀ g, g < groupsHrp → up.hrpOn g = false) := by decide +kernel

def faulty : State := withTimer (up.put (LAN_STATUS.key 95) LAN_STATUS.LANE_FAULT 1) (.laneRetry 95) 1000000
def sparing : State := withTimer (up.put (LAN_SPARE.key 7) LAN_SPARE.STATE 1) (.spareLock 7) 1000000

theorem witness_LaneRows :
    up.on (LAN_STATUS.key 95) LAN_STATUS.LANE_FAULT = false ∧ faulty.on (LAN_STATUS.key 95) LAN_STATUS.LANE_FAULT = true ∧
    faulty.timerDue (.laneRetry 95) = true ∧ faulty.family (faulty.portOfLane 95) = 0 ∧
    up.get (LAN_SPARE.key 7) LAN_SPARE.STATE ≠ 1 ∧ sparing.get (LAN_SPARE.key 7) LAN_SPARE.STATE = 1 ∧
    sparing.hasTimer (.spareLock 7) = true ∧ sparing.timerDue (.spareLock 7) = true ∧ up.timerDue (.spareLock 7) = false ∧
    (up.port 95).squelchSince = none ∧
    ((up.updPort 95 fun x => { x with squelchSince := some 0 }).port 95).squelchSince = some 0 := by decide +kernel

/-- MSP group 5 over port 0. -/
def msp : State := { up with prot := { up.prot with groups := [(0x01000005, { cfg := { protPort := 0, n := 1 } })] } }

theorem witness_ProtectionRows :
    up.timers = [] ∧ (1000000 ≤ up.dev.ticks ∧ up.dev.ticks < 1000001) ∧
    (withTimer msp (.protWtr 0x01000005) 1000000).timerDue (.protWtr (0x01000005 : BitVec 32).toNat) = true ∧
    protSource (0x01000005 : BitVec 32).toNat < 384 ∧ msp.mspOf 1 = none ∧
    msp.mspOf 0 = some (0x01000005 : BitVec 32).toNat := by decide +kernel

def window (k : Nat) (f : Fld) (s : State) : State := s.put k f 1
def pathWin : State := ((sdh0.put (SDH_PATH_BER.key 0) SDH_PATH_BER.WINDOW8 1).put (SDH_PATH_BER.key 0) SDH_PATH_BER.SF_THRESH 1).put
  (SDH_PATH_BER.key 0) SDH_PATH_BER.SD_THRESH 0
def tribWin : State := up.updTrib 0 fun x => { x with cfg := { x.cfg with ber := 1 + 2 ^ 10 }, win := ⟨8, 1⟩ }

theorem witness_DetectionWindows :
    (sdh0.put (SDH_SF_CFG.key 0) SDH_SF_CFG.WINDOW 0).get (SDH_SF_CFG.key 0) SDH_SF_CFG.WINDOW = 0 ∧
    (window (SDH_SF_CFG.key 0) SDH_SF_CFG.WINDOW sdh0).isSdh 0 = true ∧
    (window (SDH_SF_CFG.key 0) SDH_SF_CFG.WINDOW sdh0).get (SDH_SF_CFG.key 0) SDH_SF_CFG.WINDOW ≤ (⟨1, 0⟩ : WinSt).len ∧
    (window (SDH_SF_CFG.key 0) SDH_SF_CFG.WINDOW sdh0).get (SDH_SF_CFG.key 0) SDH_SF_CFG.WINDOW ≠ 0 ∧
    (sdh0.sdh 0).sf.len < (window (SDH_SF_CFG.key 0) SDH_SF_CFG.WINDOW sdh0).get (SDH_SF_CFG.key 0) SDH_SF_CFG.WINDOW ∧
    (window (SDH_SD_CFG.key 0) SDH_SD_CFG.WINDOW sdh0).get (SDH_SD_CFG.key 0) SDH_SD_CFG.WINDOW ≠ 0 ∧
    (window (SDH_SD_CFG.key 0) SDH_SD_CFG.WINDOW sdh0).get (SDH_SD_CFG.key 0) SDH_SD_CFG.WINDOW ≤ (⟨1, 0⟩ : WinSt).len ∧
    pathWin.get (SDH_PATH_BER.key 0) SDH_PATH_BER.WINDOW8 ≠ 0 ∧ pathWin.get (SDH_PATH_BER.key 0) SDH_PATH_BER.SF_THRESH ≠ 0 ∧
    pathWin.get (SDH_PATH_BER.key 0) SDH_PATH_BER.SD_THRESH = 0 ∧
    8 * pathWin.get (SDH_PATH_BER.key 0) SDH_PATH_BER.WINDOW8 ≤ (⟨8, 0⟩ : WinSt).len ∧
    bitsOf (tribWin.trib 0).cfg.ber 0 10 ≠ 0 ∧ bitsOf (tribWin.trib 0).cfg.ber 10 11 ≠ 0 ∧
    bitsOf (tribWin.trib 0).cfg.ber 21 11 = 0 ∧ 8 * bitsOf (tribWin.trib 0).cfg.ber 0 10 ≤ (tribWin.trib 0).win.len := by
  decide +kernel

/-! Ticks, seconds, snapshots, entries. -/

theorem witness_TickRunsFiveSteps :
    up.answersPackets = true ∧ up.time.suppress = 0 ∧ up.time.jump = false ∧ up.fw.starting = false ∧
    0 < ({ up.time with suppress := 64 } : TimeSt).suppress ∧
    ({ up with dev := { up.dev with boot := .held } } : State).answersPackets = false := by decide +kernel

def closing : State := { up with pm := { up.pm with closing := true } }
/-- SNAPSHOT of set 15, without and with an interval. -/
def snapOnce : Packet := packet 0x71 1 0 [15, 0, 0, 0, 0, 0, 0, 0]
def snapAgain : Packet := packet 0x71 1 0 [15, 0, 0, 0, 0, 0, 0, 8]

theorem witness_SecondsAndSnapshots :
    up.time.sfn % 8000 = 0 ∧ up.pm.closing = false ∧ closing.pm.closing = true ∧ closing.pm.recs = [] ∧
    (∀ p, p < 96 → closing.isOtn p = false) ∧ up.pm.due = [] ∧ 15 < 16 ∧
    repeats snapOnce 0 = false ∧ repeats snapAgain 0 = true := by decide +kernel

/-- A frozen ALF port 0 whose map entry is due at PFN 0. -/
def alfTrib : Packet := packet 0x1C 1 0 [0, 0, 0, 0]
def alf0 : State := (portAs 5 0)
def frozenAlf : State := withEntry (alf0.put (ALF_STATUS.key 0) ALF_STATUS.FROZEN 1)
  { creation := 0, key := .port 0 0, action := .host alfTrib, armed := true }
/-- SET_SFN at the second marker, V. -/
def sfnPacket (v : Byte) : Packet := packet 0x04 1 0 [0, 0, v, 0, 0, 0, 1, 0]
def marked (v : Byte) : State := { up with time := { up.time with armed := some (sfnPacket v, none), marker := true } }

theorem witness_EntriesAtPortFrames :
    up.portReached 0 = [] ∧ frozenAlf.pfn 0 = 0 ∧ alfTrib.opcode = 0x1C ∧ alfTrib.fld 0 1 = 0 ∧ frozenAlf.isAlf 0 = true ∧
    frozenAlf.alfFrozen 0 = true ∧ frozenAlf.on (ALF_STATUS.key 0) ALF_STATUS.RESIZING = false ∧ frozenAlf.time.armed = none ∧
    (marked 0).quiet ∧ (marked 0).cmd.immediates = [] ∧ (marked 0).time.nextSfn = none ∧ 0 < (marked 0).dev.ticks ∧
    (sfnPacket 0).opcode = 0x04 ∧ (sfnPacket 0).payload.length = 8 ∧ (sfnPacket 0).fld 0 6 ≤ (marked 0).time.sfn ∧
    (marked 1).time.sfn < (sfnPacket 1).fld 0 6 ∧ ∀ q, q < 96 → (marked 1).isOtn q = false := by
  unfold State.quiet; decide +kernel

/-! Claims on the pins, frames. -/

def pinned (en : Nat) : State := up.put CLM_CFG.key CLM_CFG.PINS_EN en

theorem witness_ClaimPins :
    (pinned 0).on CLM_CFG.key CLM_CFG.PINS_EN = false ∧ (pinned 1).on CLM_CFG.key CLM_CFG.PINS_EN = true ∧
    (5000 : Int).natAbs ≤ 5000 ∧ (103625 ≤ 103625 ∧ 8000 + 375 * 255 ≤ 103625 + 125 ∧ 103625 ≤ 8125 + 375 * 255) ∧
    (7875 ≤ 103625 ∧ 8000 + 375 * 0 ≤ 7875 + 125 ∧ 7875 ≤ 8125 + 375 * 0) ∧ 5000 < (-5001 : Int).natAbs ∧
    (∃ v, 8125 + 375 * v < 8126 ∧ 8126 + 125 < 8375 + 375 * v) ∧
    up.pair.pinBad < 4 ∧ 4 ≤ ({ up.pair with pinBad := 4 } : PairSt).pinBad ∧
    (up.put CLM_STATUS.key CLM_STATUS.PINS_LOST 0).on CLM_STATUS.key CLM_STATUS.PINS_LOST = false ∧
    up.on CLM_STATUS.key CLM_STATUS.PINS_LOST = true := by
  refine ⟨by decide +kernel, by decide +kernel, by decide, by decide, by decide, by decide, ⟨0, by decide⟩, by decide +kernel,
    by decide +kernel, by decide +kernel, by decide +kernel⟩

theorem witness_DatapathStops : State.reset.dev.coreBypass = true := by decide

theorem witness_SdhFrames :
    sdh0.carrying ∧ sdh0.plainPort 0 ∧ sdh0.isSdh 0 = true ∧ sdh0.mspOf 0 = none ∧ sdh0.heads 0 = [] ∧
    sdh0.on (SDH_CFG.key 0) SDH_CFG.J0_MODE = false ∧ sdh0.on (SDH_CFG.key 0) SDH_CFG.DCC_RS_EN = false ∧
    sdh0.on (SDH_CFG.key 0) SDH_CFG.DCC_MS_EN = false ∧
    (sdh0.put (SDH_SF_CFG.key 0) SDH_SF_CFG.WINDOW 0).get (SDH_SF_CFG.key 0) SDH_SF_CFG.WINDOW = 0 ∧
    (sdh0.put (SDH_SD_CFG.key 0) SDH_SD_CFG.WINDOW 0).get (SDH_SD_CFG.key 0) SDH_SD_CFG.WINDOW = 0 ∧
    (sdh0.sdh 0).align.inFrame = false ∧ ({ inFrame := true, inRun := 23 } : AlignSt).inFrame = true := by
  unfold State.carrying State.plainPort; decide +kernel

def otn0 : State := portAs 3 1
def dmBusy (frames : Nat) : State := up.updOdu (oduKey 0 255) fun x => { x with dm := [(6, { running := true, frames := frames })] }

theorem witness_OtnFrames :
    otn0.carrying ∧ otn0.plainPort 0 ∧ otn0.isOtn 0 = true ∧ otn0.rate 0 ≠ 3 ∧ otn0.decided (condPort 0 dLOL) = false ∧
    otn0.oduList 0 = [] ∧ (otn0.otn 0).align.inFrame = false ∧ ({ inFrame := true } : AlignSt).inFrame = true ∧
    otn0.on (OTN_CFG.key 0) OTN_CFG.FEC_DEC_DIS = false ∧ (up.dm 0 255 6).running = false ∧
    ((dmBusy 65534).dm 0 255 6).frames < 65535 ∧ ((dmBusy 65535).dm 0 255 6).running = true ∧
    65535 ≤ ((dmBusy 65535).dm 0 255 6).frames := by unfold State.carrying State.plainPort; decide +kernel

def trib0 : TribKey := ⟨0, 0, 0⟩
def tribAt (down : Bool) : State :=
  (sdh0.updTrib (tribNum 0 0 0) fun x => { x with cfg := { x.cfg with ttype := 1, flags := 0, ber := 0 } }).setCond (condPort 0 dLOS) down

theorem witness_TributaryMultiframes :
    (tribAt false).carrying ∧ (up.trib (tribNum 0 0 0)).cfg.ttype = 0 ∧ ((tribAt false).trib (tribNum 0 0 0)).cfg.ttype ≠ 0 ∧
    (tribAt true).tribServerDown 0 0 0 = true ∧ (tribAt false).tribServerDown 0 0 0 = false ∧
    ((tribAt false).trib (tribNum 0 0 0)).cfg.flags = 0 ∧ bitsOf ((tribAt false).trib (tribNum 0 0 0)).cfg.ber 0 10 = 0 := by
  unfold State.carrying; decide +kernel

def quietPort (s : State) : State := s.updPort 0 fun x => { x with squelched := true }
def sourced : State := (sdh0.put (SDH_TX_OH.key 0) SDH_TX_OH.K_SRC 1).put (SDH_TX_OH.key 0) SDH_TX_OH.S1_SRC 1

theorem witness_FramesSent :
    (quietPort sdh0).carrying ∧ (quietPort sdh0).isSdh 0 = true ∧ (quietPort sdh0).silent 0 = true ∧
    sourced.isSdh 0 = true ∧ sourced.silent 0 = false ∧ sourced.heads 0 = [] ∧ sourced.tribs = [] ∧ sourced.mspOf 0 = none ∧
    sourced.get (SDH_TX_OH.key 0) SDH_TX_OH.K_SRC = 1 ∧ sourced.get (SDH_TX_OH.key 0) SDH_TX_OH.S1_SRC = 1 ∧
    otn0.isOtn 0 = true ∧ otn0.silent 0 = false ∧ otn0.oduList 0 = [] ∧ (quietPort otn0).silent 0 = true ∧
    alf0.isAlf 0 = true ∧ alf0.tribs = [] ∧ (alf0.alf 0).anns = [] := by unfold State.carrying; decide +kernel

/-! ALF ports, bundles, HRP. -/

def loaf0 : State := alf0.setCond (condPort 0 dLOAF) true
def goodMarker (pfn : BitVec 32) : Marker := ⟨0, 0, pfn, true⟩
def resizeDue : State := withEntry alf0 { creation := 0, key := .port 0 0, action := .alfResize 0 3 1, armed := true }

theorem witness_AlfMarkers :
    alf0.carrying ∧ alf0.isAlf 0 = true ∧ alf0.plainPort 0 ∧ alf0.bondOf 0 = none ∧ (alf0.alf 0).resizeAt = none ∧
    (alf0.alf 0).restoring = [] ∧ alf0.alfFrozen 0 = false ∧ alf0.decided (condPort 0 dLOAF) = false ∧
    loaf0.decided (condPort 0 dLOAF) = true ∧ (goodMarker 1).pfn.toNat = ((alf0.port 0).pfn + 1) % 2 ^ 32 ∧
    (goodMarker 0).pfn.toNat ≠ ((alf0.port 0).pfn + 1) % 2 ^ 32 ∧
    (some (2 ^ 32 - 1) : Option Nat) = some (((goodMarker 0).pfn.toNat + 2 ^ 32 - 1) % 2 ^ 32) ∧
    (alf0.alf 0).candidate ≠ some (((goodMarker 0).pfn.toNat + 2 ^ 32 - 1) % 2 ^ 32) ∧
    7 ≤ ({ goodMarkers := 7 } : AlfSt).goodMarkers ∧ (portAs 4 0).countsFrames 0 = false ∧ sdh0.plainPort 0 ∧
    alf0.portReached 0 = [] ∧ resizeDue.pfn 0 = 0 ∧ resizeDue.alfFrozen 0 = false ∧
    resizeDue.on (ALF_STATUS.key 0) ALF_STATUS.RESIZING = false ∧ resizeDue.time.armed = none ∧
    atOrBeyond (alf0.pfn 0) (alf0.alf 0).restoreUntil = true ∧ atOrBeyond 0 (2 ^ 31) = false := by
  unfold State.carrying State.plainPort; decide +kernel

def startedAlf (seq : Nat) : State := alf0.updPort 0 fun x => { x with alf := { x.alf with started := true, lastSeq := seq } }
def goodFrame (flags : BitVec 16) (ohc : BitVec 16) : AlfRx := ⟨true, true, true, true, 0, 0, ohc, 0, flags, 0, 0⟩

theorem witness_AlfFrames :
    (startedAlf 0).carrying ∧ (startedAlf 0).isAlf 0 = true ∧ (startedAlf 0).bondOf 0 = none ∧ (startedAlf 0).hrpOf 0 = none ∧
    (startedAlf 0).alfHeld 0 = false ∧ (startedAlf 0).alfFrozen 0 = false ∧ ((startedAlf 0).alf 0).started = true ∧
    ((startedAlf 0).alf 0).resizeAt = none ∧ (((startedAlf 0).alf 0).lastSeq + 1) % 2 ^ 32 % 64 ≠ 0 ∧
    (((startedAlf (2 ^ 32 - 1)).alf 0).lastSeq + 1) % 2 ^ 32 % 64 = 0 ∧ (goodFrame 0x4000 0).flags.toNat.testBit 14 = true ∧
    (goodFrame 0 0).flags.toNat.testBit 14 = false ∧
    ((startedAlf 63).alfUse 0).digest = (BitVec.ofNat 16 ((startedAlf 63).alfUse 0).digest).toNat ∧
    ((startedAlf 63).alfUse 0).digest ≠ (BitVec.ofNat 16 (((startedAlf 63).alfUse 0).digest + 1)).toNat ∧
    alfTake 1 { goodFrame 0 0 with okExpected := false } = .duplicate ∧
    alfTake 1 { goodFrame 0 0 with okExpected := false, okSeq := false } = .errored := by
  unfold State.carrying; decide +kernel

def valid3 : State := alf0.put (ALF_PROF.key 0 3) ALF_PROF.VALID 1

theorem witness_AlfOverhead :
    alf0.carrying ∧ alf0.isAlf 0 = true ∧ alf0.hrpOf 0 = none ∧
    (Tbl.put ((alf0.alf 0).identParts) 3 1).length < 4 ∧ 4 ≤ (Tbl.put [(0, 1), (1, 1), (2, 1)] 3 1).length ∧
    (alf0.alf 0).answered.find? (fun a => decide (a.1 = 3 * 16 + 1 ∧ a.2.1 = 8)) = none ∧
    ([(49, 8, 0x81, 8)] : List (Nat × Nat × Nat × Nat)).find? (fun a => decide (a.1 = 3 * 16 + 1 ∧ a.2.1 = 8)) =
      some (49, 8, 0x81, 8) ∧
    (alf0.put (ALF_STATUS.key 0) ALF_STATUS.FROZEN 1).alfFrozen 0 = true ∧ alf0.alfFrozen 0 = false ∧
    alf0.alfValid 0 3 = false ∧ valid3.alfValid 0 3 = true ∧ (7 + 2 ^ 32 - 0) % 2 ^ 32 < 8 ∧ 4095 < (4095 + 2 ^ 32 - (2 ^ 32 - 1)) % 2 ^ 32 ∧
    8 ≤ (7 + 2 ^ 32 - (2 ^ 32 - 1)) % 2 ^ 32 ∧ (4094 + 2 ^ 32 - (2 ^ 32 - 1)) % 2 ^ 32 ≤ 4095 ∧
    ¬ (4 ≤ (valid3.alf 0).anns.length ∨ calCapacity ≤ valid3.cal.entries.length) ∧ (∀ a ∈ (valid3.alf 0).anns, a.eff ≠ 8) ∧
    (valid3.alfPendingFrames 0).contains ((8 + 2 ^ 32 - 1) % 2 ^ 32) = false ∧ valid3.alfSecond 0 8 = false := by
  unfold State.carrying; decide +kernel

/-- Bundle group 11 with member 7 on port 3; HRP group 23 with main port 4. -/
def bundle11 : State :=
  (up.put (BND_CFG.key 11) BND_CFG.MAX_DIFF 1).updBond 11 fun x => { x with ports := [255, 255, 255, 255, 255, 255, 255, 3] }
def hrp23 : State := up.put (HRP_CFG.key 23) HRP_CFG.MAIN 4
def share7 : BcbRx := ⟨7, true, true, 0, true, 0x01, 0, 0, 1⟩

theorem witness_BondingRows :
    (withTimer up (.rejoin 11 7) 1000000).timerDue (.rejoin 11 7) = true ∧ up.timerDue (.rejoin 11 7) = false ∧ up.carrying ∧
    up.bondOn 11 = false ∧ bundle11.bondOn 11 = true ∧ bundle11.carrying ∧
    (bundle11.bondMembers 11).any (fun e => decide (e.1 = share7.member.val)) = true ∧ share7.frameOk = true ∧ share7.act ≠ 0 ∧
    share7.listGen.toNat = ((bundle11.bond 11).genRx + 1) % 256 ∧ up.hrpOn 23 = false ∧ hrp23.hrpOn 23 = true ∧
    (some true : Option Bool).isSome = true := by unfold State.carrying; decide +kernel

/-! Ethernet, channels, VCAT. -/

def eth0 : State := portAs 4 0
def oneFrame : BufFrame := { bytes := 64, prio := 7, tick := 0 }
def frame64 : EthFrame := ⟨none, 64, true⟩
/-- Flow 63 of engine 7 carries VID 0 of port 0 to channel 63 of group 0. -/
def flowing : State :=
  let s := (eth0.put (ETH_CFG.key 0) ETH_CFG.RX_FC_EN 1).updPort 0 fun x =>
    { x with eth := { x.eth with egressQuota := 1, egress := [oneFrame], held := [(7, 5)], sentPause := 1 } }
  let s1 : State := { s with vlans := [(vlanKey 0 0, 7 * 256 + 63)] }
  (s1.updFlow (engKey 7 63) fun x => { x with
    cfg := { chKind := 4, quota := 1 }, queue := [{ oneFrame with bytes := 1 }], deficit := [(7, 1)] }).updChan (engKey 7 63)
      fun x => { x with kind := 4, sync := 2, turn := [(7, 63)] }
/-- Channel 63 has a rate: one VC-4 member in use. -/
def rated : State := flowing.updVcat (engKey 7 0) fun x => { x with cfg := { x.cfg with vtype := 3, lcas := true }, inUse := [0] }
def gfp (chec : Fin 3) (csf errored : Bool) : GfpRx := ⟨chec, true, csf, none, true, true, 64, 0, errored⟩

theorem witness_EthernetRows :
    eth0.carrying ∧ up.isEth 0 = false ∧ eth0.isEth 0 = true ∧ eth0.vlans.find (vlanKey 0 (eth0.frameClass 0 frame64).1) = none ∧
    flowing.carrying ∧ flowing.isEth 0 = true ∧
    flowing.vlans.find (vlanKey 0 (flowing.frameClass 0 frame64).1) = some (7 * 256 + 63) ∧ (7 * 256 + 63) % 256 < 64 ∧
    (flowing.flow (engKey 7 63)).cfg.chKind ≠ 0 ∧ 64 ≤ flowing.mtu 0 ∧
    queuedBytes (flowing.flow (engKey 7 63)).queue + 64 ≤ (flowing.flow (engKey 7 63)).cfg.quota * packetPage ∧
    (flowing.eth 0).egress.any (fun b => ((flowing.eth 0).held.find b.prio).isNone) = false ∧
    [oneFrame].any (fun b => ((eth0.eth 0).held.find b.prio).isNone) = true ∧
    (eth0.put (ETH_CFG.key 0) ETH_CFG.RX_FC_EN 0).on (ETH_CFG.key 0) ETH_CFG.RX_FC_EN = false ∧
    flowing.on (ETH_CFG.key 0) ETH_CFG.RX_FC_EN = true ∧ (flowing.eth 0).held.find 7 ≠ none ∧ (eth0.eth 0).held.find 7 = none ∧
    eth0.pauseWant 0 = (eth0.eth 0).sentPause ∧ flowing.pauseWant 0 ≠ (flowing.eth 0).sentPause ∧ (flowing.eth 0).sentPause ≠ 0 := by
  unfold State.carrying; decide +kernel

theorem witness_ChannelRows :
    rated.carrying ∧ (up.chan (engKey 7 63)).kind = 0 ∧ (rated.chan (engKey 7 63)).kind ≠ 0 ∧ (rated.chan (engKey 7 63)).sync = 2 ∧
    (gfp 1 false false).chec ≠ 2 ∧ (gfp 2 false false).chec = 2 ∧ (gfp 0 false false).chec = 0 ∧ (gfp 1 false false).chec ≠ 0 ∧
    rated.gfpFlow 7 63 none = some 63 ∧ rated.gfpFlow 7 63 (some 1) = none ∧
    (rated.flow (engKey 7 63)).cfg.flags.testBit 1 = false ∧ 64 ≤ rated.mtu 0 ∧
    queuedBytes ({ (rated.eth 0) with egress := [] } : EthSt).egress + 64 ≤ (rated.eth 0).egressQuota * packetPage ∧
    rated.chanRate 7 63 ≠ 0 ∧ rated.chanFlows 7 63 = [63] ∧ (rated.flow (engKey 7 63)).cfg.maxAge = 0 ∧
    rated.ethFailed (rated.flow (engKey 7 63)).cfg.ethPort = false ∧ (rated.chan (engKey 7 63)).turn.getD 7 64 = 63 ∧
    1 ≤ (rated.flow (engKey 7 63)).deficit.getD 7 0 ∧
    ((rated.updFlow (engKey 7 63) fun x => { x with queue := [] }).flow (engKey 7 63)).queue = [] ∧
    (rated.setCond (condPort 0 dLOS) true).ethFailed 0 = true ∧ flowing.chanRate 7 63 = 0 ∧
    (some 999201 : Option Nat).any (fun t => decide (t + 800 ≤ rated.dev.ticks)) = false ∧ 999200 + 800 ≤ rated.dev.ticks ∧
    (withTimer up (.lcasHoldoff 7 63 255) 1000000).timerDue (.lcasHoldoff 7 63 255) = true ∧
    (withTimer up (.lcasWtr 7 63 255) 1000000).timerDue (.lcasWtr 7 63 255) = true ∧
    up.timerDue (.lcasWtr 7 63 255) = false := by unfold State.carrying; decide +kernel

/-! The grate. -/

def move3 (phase : Nat) : Move := { slice := 3, old := 36864, new := 36865, len := 1, phase := phase }
def moving (phase : Nat) (a : Action) : State :=
  { withEntry up (plainEntry 5000000 a) with grate := { up.grate with
      moves := [(9, move3 phase)], egress := [(36864, { src := 36864 }), (36865, { src := 36864 })]
      runs := [{ start := 36864, len := 1, owner := 2 ^ 56 }, { start := 36865, len := 1, owner := wMove 9 }] } }
def rolled : State := { moving 2 (.release 9) with grate := { (moving 2 (.release 9)).grate with
  runs := [{ start := 36864, len := 1, owner := wMove 9 }, { start := 36865, len := 1, owner := 2 ^ 56 }] } }
def planned : State := { moving 0 .handover with cal := { entries := [], nextCreation := 0 } }
def fullTick : State := { planned with cal := { planned.cal with entries := List.replicate 64 (plainEntry 5000002 .handover) } }

theorem witness_GrateRows :
    3 ∉ up.grate.isolated ∧ up.grate.moves = [] ∧ planned.grate.moves = [(9, move3 0)] ∧ (move3 0).start = none ∧
    planned.targetFree 9 (move3 0) = true ∧ planned.moveRoom = true ∧ fullTick.moveRoom = false ∧
    fullTick.targetFree 9 (move3 0) = true ∧
    (∀ e ∈ laterHandover.cal.entries, e.action ≠ .bridge 9 ∧ e.action ≠ .roll 9 ∧ e.action ≠ .release 9) ∧
    5000000 ≤ (moving 0 (.bridge 9)).time.sfn ∧ (moving 0 (.bridge 9)).time.armed = none ∧
    (moving 0 (.bridge 9)).grate.moves.find 9 = some (move3 0) ∧ (move3 0).old + (move3 0).len ≤ (move3 0).new ∧
    ((moving 1 (.roll 9)).grate.runs.find? fun r => r.usedAt (move3 1).old) = some { start := 36864, len := 1, owner := 2 ^ 56 } ∧
    ownerKind (2 ^ 56) ≠ 0x81 ∧ rolled.grate.moves.find 9 = some (move3 2) ∧
    (∃ r ∈ rolled.grate.runs, r.start = (move3 2).old ∧ r.owner = wMove 9 ∧ r.usedAt (move3 2).new = false ∧ r.freeAt = none) ∧
    1 < ({ up.grate with pagesLeft := 2 } : GrateSt).pagesLeft ∧ up.grate.pagesLeft = 0 ∧
    up.leavingBanks ((List.range 8).map up.poolBanks) = [] := by decide +kernel

/-! Health, spares, power. -/

/-- Lane 11 waits for the spare macro of group 0, which is free. -/
def waitingLane : State := { up with health := { up.health with pendingSubs := [.lane 11], grades := [(gSpare 0, 7)] } }

theorem witness_SpareRows :
    up.blockOf (condPath 0 191 dAIS_P) < 144 ∧ BlockRef.framer 0 ∉ up.health.isolated ∧ up.servedPos 0 24 0 = some 0 ∧
    up.blockState 0 ≠ 3 ∧ up.unitOk (unitKind (.lane 96)) (unitNum (.lane 96)) = false ∧
    up.unitOk (unitKind (.lane 95)) (unitNum (.lane 95)) = true ∧ unitKind (.lane 95) ≠ 4 ∧ up.bankServes 383 = true ∧
    up.copying 383 = false ∧ expert0.expertMode = true ∧ waitingLane.expertMode = false ∧ waitingLane.health.waiting = [] ∧
    waitingLane.cal.entries = [] ∧ waitingLane.macroFree (11 / 12) = true ∧ up.time.sfn % 4 = 0 ∧
    ({ up with time := { up.time with sfn := 5000001 } } : State).time.sfn % 4 ≠ 0 ∧
    ({ up with health := { up.health with copies := [(399, 398, [])] } } : State).copying 399 = true ∧
    399 ∉ up.health.copiesDone := by decide +kernel

def firstRound : State := up.put HLT_STATUS.key HLT_STATUS.RUNNING 1
def hourEnd : State := { portAs 1 0 with time := { up.time with sfn := 28800000 } }
def raising : State :=
  { up.wr (HLT_DOMAIN_UP.key 4) 0 with cmd := { up.cmd with running := [⟨0x90, 0, 136, packet 0x96 1 0 [], 0, 0, 0⟩] } }

theorem witness_SmokeAndPower :
    up.time.sfn % 28800000 ≠ 0 ∧ hourEnd.time.sfn % 28800000 = 0 ∧ ¬ hourEnd.portCount ≤ 0 ∧
    hourEnd.family (hourEnd.portOfLane 0) ≠ 0 ∧ firstRound.roundDue = false ∧ up.dev.boot = .running ∧
    up.on HLT_STATUS.key HLT_STATUS.RUNNING = false ∧ up.health.everRound = false ∧ up.tested (.bank 399) = true ∧
    (up.put (LAN_SPARE.key 7) LAN_SPARE.STATE 1).tested (.spareMacro 7) = false ∧
    firstRound.on HLT_STATUS.key HLT_STATUS.RUNNING = true ∧ firstRound.tested (.spareMacro 7) = true ∧
    firstRound.health.failedUnits = [] ∧ firstRound.inPair = false ∧
    testFails .cp ⟨0, 0, 0, false, false⟩ = true ∧ testFails .cp ⟨0, 0, 0, false, true⟩ = false ∧
    up.running (resDomain 136) = none ∧ (raising.running (resDomain 136)).isSome = true ∧ raising.domainUp 136 = false ∧
    (up.wr (HLT_DOMAIN_REJ.key 4) 0).domainUp 136 = true ∧ (up.wr (HLT_DOMAIN_REJ.key 4) 0).rejoined 136 = false ∧
    up.rejoined 136 = true := by decide +kernel

/-! The pair. -/

/-- A unit in a pair with chimney link 0 up. -/
def paired : State :=
  (((up.put CLM_CFG.key CLM_CFG.PAIR_EN 1).put CLM_CHIMNEY.key CLM_CHIMNEY.CHIM0_EN 1).put CLM_STATUS.key
    CLM_STATUS.CHIMNEY_DOWN 0).updLink 0 fun x => { x with good := 64, miss := 6 }
def chimney (marker : Bool) : ChimRx := ⟨marker, true, true, 1, 0, 0, 0, 0, 0, 0, 0, 0, none⟩
def sweeping : State := { paired with pair := { paired.pair with sweep := 1 } }
def mirrored : State := ((paired.put CLM_STATUS.key CLM_STATUS.MIRROR_SYNCED 1).put CLM_CFG.key CLM_CFG.RANK 1)
def wtrDone (s : State) : State := withTimer s .pairWtr 1000000
def handing : State := { withEntry paired (plainEntry 5000000 .handover) with pair := { paired.pair with
  handover := some (5000000, 65535, 65535, true) } }

theorem witness_PairRows :
    up.inPair = false ∧ paired.inPair = true ∧ paired.chimOn 0 = true ∧ paired.linkDown 0 = false ∧
    paired.partnerBad 0 = false ∧ paired.has (condLink (paired.chimIndex (paired.chimPort 0))) = false ∧ paired.arrivals = [] ∧
    paired.chimLost = false ∧ (chimney true).flags.toNat.testBit 5 = false ∧ (chimney true).ver = 1 ∧
    (paired.link 0).miss < 7 ∧ paired.pair.handover = none ∧ up.standby = false ∧ standbyUnit.standby = true ∧
    setTod.preempt = false ∧ setTod.opcode ≠ 0x54 ∧ actsAtOnce setTod.op = false ∧ keyOf setTod = .sfn 5000100 ∧
    (accepted (standbyUnit.chapter setTod)).map Prod.snd = some [] ∧ up.pair.sweep ≠ 1 ∧ sweeping.pair.sweep = 1 ∧
    sweeping.synced = false ∧ (withTimer up .mateHold 1000000).timerDue .mateHold = true ∧ up.timerDue .mateHold = false ∧
    (wtrDone paired).timerDue .pairWtr = true ∧
    (wtrDone (paired.put CLM_MATE_IN_FORCE.key CLM_MATE_IN_FORCE.MATE_CLAIM 65535)).returnClaim ≤
      (wtrDone (paired.put CLM_MATE_IN_FORCE.key CLM_MATE_IN_FORCE.MATE_CLAIM 65535)).mateInForce ∧
    (wtrDone mirrored).mateInForce < (wtrDone mirrored).returnClaim ∧ (wtrDone mirrored).canHandover = true ∧
    (wtrDone mirrored).deviceRoom = true ∧ handing.time.armed = none ∧ 5000000 ≤ handing.time.sfn := by decide +kernel


/-- What holds of the next state of a command. -/
def after (c : Instr) (s : State) (p : State → Bool) : Bool := match exec c s with | .next t => p t | _ => false

/-- R370: the reply to NOP is one record in the reply queue of M0: a marker and the words of its bytes, 7 each. -/
theorem test_nop_reply : after (.nop nop) up (fun t =>
    decide ((t.queue 2).words.length = 1 + (28 + 16 + 6) / 7) && decide ((t.queue 3).words = [])) = true := by decide +kernel

/-- R43: a tick advances the SFN by one. -/
theorem test_tick : after .sfnTick up (fun t => decide (t.time.sfn = 5000001)) = true := by decide +kernel

/-- R311: a pulse of 103.625 µs carries 255, one of 8 µs carries 0. -/
theorem test_claim_pulse :
    after (.claimInPulse 0 103625) (pinned 1) (fun t => decide (t.pair.pinHigh = some 255)) = true ∧
    after (.claimInPulse 0 8000) (pinned 1) (fun t => decide (t.pair.pinHigh = some 0)) = true := by decide +kernel

/-- R404: a SPI read of an address that is no multiple of 4 reads 0 and is a fault of cause 4. -/
theorem test_misaligned_read : after (.spiRead 0xB001 1) up (fun t =>
    decide (t.pins.lastRead = [0]) && decide (t.get BUS_FAULT_INFO.key BUS_FAULT_INFO.CAUSE = 4)) = true := by decide +kernel

/-- A step takes the front command; an empty queue idles. -/
theorem test_step : after .tapReset { up with pending := [.tapIdcode] } (fun t => decide (t.pending = [.tapIdcode])) = true ∧
    step State.reset = .next State.reset := ⟨by decide +kernel, rfl⟩

end Sys2Proof.Tests
end

section
/-! PROOF. Reads of a low word that latch the rest of a wide value (R69, R277, R449): what the observation counters do
during a bus access, where the low words lie, what a host read of a register with a reader of its own does, and the
statement on the latches. -/

namespace Sys2Proof.Machine

/-! ### An operation over a list -/

/-- A reflexive and transitive relation that every single operation keeps holds across a list of them. -/
theorem State.each_rel {α : Type} {R : State → State → Prop} (refl : ∀ s, R s s)
    (trans : ∀ {s t u}, R s t → R t u → R s u) {f : State → α → State} (step : ∀ s a, R s (f s a)) (s : State)
    (xs : List α) : R s (s.each xs f) := by
  induction xs generalizing s with
  | nil => exact refl s
  | cons a xs ih => exact trans (step s a) (ih (f s a))

/-! ### Observation counters during a bus access (R449) -/

/-- `x` is `s` but for the observation counters. -/
def ButObsCnts (s x : State) : Prop := x = { s with obs := { s.obs with cnts := x.obs.cnts } }

theorem ButObsCnts.refl (s : State) : ButObsCnts s s := rfl

theorem ButObsCnts.trans {s t u : State} (h1 : ButObsCnts s t) (h2 : ButObsCnts t u) : ButObsCnts s u := by
  unfold ButObsCnts at *
  rw [h2, h1]

theorem State.obsCount_butObsCnts (s : State) (i n : Nat) : ButObsCnts s (s.obsCount i n) := by
  unfold State.obsCount
  split
  · exact .refl s
  · rfl

/-- A bus happening can advance the observation counters and does nothing else. -/
theorem State.obsBus_butObsCnts (s : State) (write : Bool) (bus addr : Nat) (host : Option Nat) (n : Nat) :
    ButObsCnts s (s.obsBus write bus addr host n) :=
  State.each_rel ButObsCnts.refl ButObsCnts.trans
    (fun s i => iteInduction (fun _ => s.obsCount_butObsCnts i n) fun _ => .refl s) s _

/-- With the counters frozen a bus happening changes nothing. -/
theorem State.obsBus_frozen (s : State) (write : Bool) (bus addr : Nat) (host : Option Nat) (n : Nat)
    (h : s.obsFrozen = true) : s.obsBus write bus addr host n = s := by
  refine State.each_rel (R := fun s x => s.obsFrozen = true → x = s) (fun _ _ => rfl)
    (fun h1 h2 hs => ?_) (fun s i hs => ?_) s _ h
  · obtain rfl := h1 hs
    exact h2 hs
  · simp [State.obsCount, hs]

theorem ButObsCnts.rd {s x : State} (h : ButObsCnts s x) (k : Nat) : x.rd k = s.rd k := by rw [h]; rfl
theorem ButObsCnts.time {s x : State} (h : ButObsCnts s x) : x.time = s.time := by rw [h]
theorem ButObsCnts.port {s x : State} (h : ButObsCnts s x) (p : Nat) : x.port p = s.port p := by rw [h]; rfl

/-- Where an address leads does not depend on the observation counters. -/
theorem ButObsCnts.locate {s x : State} (h : ButObsCnts s x) (addr : Nat) : x.locate addr = s.locate addr := by
  rw [h]; rfl

/-- An access that counts its bus happening and then writes registers alone. -/
theorem HostAccess.of_onlyRegs {s t x : State} {ks : List Nat} (hc : ButObsCnts s t) (hr : OnlyRegs t x ks)
    (ws : List Word) : HostAccess s (x.returns ws) ks ws := by
  obtain ⟨he, hk⟩ := hr
  refine ⟨?_, fun k hks => (hk k hks).trans (hc.rd k)⟩
  rw [he, hc]; rfl

/-! ### Where a register lies -/

/-- A register of the chip space outside the command windows and the per-port check units is found at its key. -/
theorem State.locate_chip (s : State) {k : Nat} {d : RegDesc} (hreg : regOf k = some d)
    (hk : k < 0xC000 ∨ 0x111C0 ≤ k ∧ k < 0x100000) : s.locate k = .reg k d := by
  have hport : portBank k = none := if_neg (by omega)
  have hup : s.domainDownAt k = false := by
    have : ¬ (0x11000 ≤ k ∧ k < 0x111C0) := by omega
    simp [State.domainDownAt, hport, this]
  have hregion : ¬ (0x100000 ≤ k ∧ k < 0x200000) := by omega
  have hwindow : ¬ (0xC000 ≤ k ∧ k < 0xE000) := by omega
  have htop : ¬ 0x1000000 ≤ k := by omega
  simp [State.locate, hport, hregion, hwindow, hup, htop, keyPlace, hreg]

theorem portBank_prtCntLo (p : Port) (k : Fin 4) : portBank (PRT_CNT_LO.key p k) = some (p.val, 0x20 + 8 * k.val) := by
  have hb : 0x200000 ≤ PRT_CNT_LO.key p k ∧ PRT_CNT_LO.key p k < 0x260000 := by unfold PRT_CNT_LO.key; omega
  have hp : (PRT_CNT_LO.key p k - 0x200000) / 4096 = p.val := by unfold PRT_CNT_LO.key; omega
  have ho : PRT_CNT_LO.key p k % 4096 = 0x20 + 8 * k.val := by unfold PRT_CNT_LO.key; omega
  rw [portBank, if_pos hb, hp, ho]

theorem regOf_prtCntLo : ∀ (p : Port) (k : Fin 4), regOf (PRT_CNT_LO.key p k) = some PRT_CNT_LO.desc := by decide +kernel

/-- A port counter is found while the domain of the port's framer block is up. -/
theorem State.locate_prtCntLo (s : State) (p : Port) (k : Fin 4)
    (hup : s.domainUp (domFramer (s.physOf (framerPos p))) = true) :
    s.locate (PRT_CNT_LO.key p k) = .reg (PRT_CNT_LO.key p k) PRT_CNT_LO.desc := by
  have hd : s.domainDownAt (PRT_CNT_LO.key p k) = false := by
    have h1 : ¬ 0x20 + 8 * k.val = 0xC := by omega
    have h2 : ¬ (0x20 + 8 * k.val = 0x10 ∨ 0x20 + 8 * k.val = 0x18) := by omega
    simp [State.domainDownAt, portBank_prtCntLo, h1, h2, hup]
  have h1 : ¬ 0xC0 ≤ 0x20 + 8 * k.val := by omega
  have h2 : ¬ 0x40 ≤ 0x20 + 8 * k.val := by omega
  simp [State.locate, portBank_prtCntLo, h1, h2, hd, keyPlace, regOf_prtCntLo]

theorem State.absentBank_chip (s : State) {k : Nat} (hk : k < 0x200000) : s.absentBank k = false := by
  have : portBank k = none := if_neg (by omega)
  simp [State.absentBank, this]

theorem State.absentBank_prtCntLo (s : State) (p : Port) (k : Fin 4) :
    s.absentBank (PRT_CNT_LO.key p k) = (s.dev.variant48 && decide (48 ≤ p.val)) := by
  simp [State.absentBank, portBank_prtCntLo]

/-! ### Registers whose reading does more than show them -/

/-- Each reader stands once in the list. -/
theorem readers_nodup : (readers.map Prod.fst).Nodup := by decide +kernel

/-- A register is read by the reader of the first array that holds its key. -/
theorem State.readReg_reader (s : State) {d : RegDesc} {g : State → Nat → Nat → Word × State} {k i j : Nat}
    (hg : (d, g) ∈ readers) (hd : (readers.map Prod.fst).find? (fun d => (d.index k).isSome) = some d)
    (hi : d.index k = some (i, j)) : s.readReg k = g s i j := by
  rw [List.find?_map, Option.map_eq_some_iff] at hd
  obtain ⟨v, hv, hvd⟩ := hd
  have hvg : v = (d, g) := List.inj_on_of_nodup_map readers_nodup (List.mem_of_find?_eq_some hv) hg hvd
  have hf : (readers.find? fun v => (v.1.index k).isSome) = some (d, g) := hvg ▸ hv
  simp [State.readReg, hf, hi]

theorem State.readReg_sfnLo (s : State) : s.readReg SYS_SFN_LO.key = s.readSfn :=
  s.readReg_reader (g := fun s _ _ => s.readSfn) (i := 0) (j := 0)
    (List.mem_of_getElem? (i := 0) rfl) (by decide +kernel) (by decide +kernel)

theorem State.readReg_todLo (s : State) : s.readReg SYS_TOD_LO.key = s.readTod :=
  s.readReg_reader (g := fun s _ _ => s.readTod) (i := 0) (j := 0)
    (List.mem_of_getElem? (i := 1) rfl) (by decide +kernel) (by decide +kernel)

theorem State.readReg_cycleLo (s : State) : s.readReg OBS_CYCLE_LO.key = s.readCycle :=
  s.readReg_reader (g := fun s _ _ => s.readCycle) (i := 0) (j := 0)
    (List.mem_of_getElem? (i := 4) rfl) (by decide +kernel) (by decide +kernel)

theorem State.readReg_prtCntLo (s : State) (p : Port) (k : Fin 4) :
    s.readReg (PRT_CNT_LO.key p k) = s.readPortCnt p k := by
  have hd : ∀ (p : Port) (k : Fin 4), (readers.map Prod.fst).find? (fun d => (d.index (PRT_CNT_LO.key p k)).isSome) =
      some PRT_CNT_LO.desc := by decide +kernel
  have hi : ∀ (p : Port) (k : Fin 4), PRT_CNT_LO.desc.index (PRT_CNT_LO.key p k) = some (p.val, k.val) := by decide +kernel
  exact s.readReg_reader (g := fun s p k => s.readPortCnt p k) (List.mem_of_getElem? (i := 3) rfl) (hd p k) (hi p k)

theorem State.readReg_obsCntLo (s : State) (n : Fin 8) : s.readReg (OBS_CNT_LO.key n) = s.readObsCnt n := by
  have hd : ∀ n : Fin 8, (readers.map Prod.fst).find? (fun d => (d.index (OBS_CNT_LO.key n)).isSome) =
      some OBS_CNT_LO.desc := by decide +kernel
  have hi : ∀ n : Fin 8, OBS_CNT_LO.desc.index (OBS_CNT_LO.key n) = some (n.val, 0) := by decide +kernel
  exact s.readReg_reader (g := fun s n _ => s.readObsCnt n) (List.mem_of_getElem? (i := 5) rfl) (hd n) (hi n)

/-! ### Host reads -/

/-- A read that leads to a register counts its bus happening and returns what reading the register answers. -/
theorem State.readAddr_reg (s : State) (q : Req) {addr k : Nat} {d : RegDesc} (halign : addr % 4 = 0)
    (hbank : s.absentBank addr = false) (hloc : s.locate addr = .reg k d) :
    s.readAddr q addr = (((s.obsBus false q.bus addr q.host 1).readReg k).1, false,
      ((s.obsBus false q.bus addr q.host 1).readReg k).2) := by
  have hl := ((s.obsBus_butObsCnts false q.bus addr q.host 1).locate addr).trans hloc
  simp [State.readAddr, halign, hbank, hl]

/-- The state in which the host port engine reads a register: its bus happening counted (R449). -/
def State.hostSeen (s : State) (k : Nat) : State := s.obsBus false 0 k (some 0) 1

theorem State.hostSeen_butObsCnts (s : State) (k : Nat) : ButObsCnts s (s.hostSeen k) := s.obsBus_butObsCnts ..

theorem State.hostSeen_frozen (s : State) (k : Nat) (h : s.obsFrozen = true) : s.hostSeen k = s :=
  s.obsBus_frozen _ _ _ _ _ h

/-- A host read that leads to a register returns what reading the register answers. -/
theorem State.hostRead_reg (s : State) {k : Nat} {d : RegDesc} (hboot : s.dev.boot ≠ .held) (halign : k % 4 = 0)
    (hbank : s.absentBank k = false) (hloc : s.locate k = .reg k d) :
    s.hostRead k = ((s.hostSeen k).readReg k).2.returns [((s.hostSeen k).readReg k).1] := by
  have hr := s.readAddr_reg (s.hostReq (.pcie 0)) halign hbank hloc
  rw [State.hostRead, State.alive, if_neg hboot, hr]
  rfl

/-- A host read of a register in the chip space. -/
theorem State.hostRead_chip (s : State) {k : Nat} {d : RegDesc} (hboot : s.dev.boot ≠ .held) (halign : k % 4 = 0)
    (hreg : regOf k = some d) (hk : k < 0xC000 ∨ 0x111C0 ≤ k ∧ k < 0x100000) :
    s.hostRead k = ((s.hostSeen k).readReg k).2.returns [((s.hostSeen k).readReg k).1] :=
  s.hostRead_reg hboot halign (s.absentBank_chip (by omega)) (s.locate_chip hreg hk)

/-- R69: SYS_SFN_LO latches SFN[47:32]. -/
theorem State.sfnLoRead_latches (s : State) (hboot : s.dev.boot ≠ .held) :
    HostAccess s (s.hostRead SYS_SFN_LO.key) [SYS_SFN_HI.key] [BitVec.ofNat 32 s.time.sfn] ∧
    ((s.hostRead SYS_SFN_LO.key).rd SYS_SFN_HI.key).toNat = s.time.sfn / 2 ^ 32 % 2 ^ 16 := by
  have hc := s.hostSeen_butObsCnts SYS_SFN_LO.key
  rw [s.hostRead_chip hboot rfl (d := SYS_SFN_LO.desc) (by decide +kernel) (by decide), State.readReg_sfnLo,
    State.readSfn, hc.time]
  refine ⟨.of_onlyRegs hc (.wr _ _ _ (by simp)) _, ?_⟩
  simp only [State.returns, State.updPins_rd, State.rd_wr_same, BitVec.toNat_ofNat]
  omega

/-- R69: SYS_TOD_LO latches the high word of the time of day. -/
theorem State.todLoRead_latches (s : State) (hboot : s.dev.boot ≠ .held) :
    HostAccess s (s.hostRead SYS_TOD_LO.key) [SYS_TOD_HI.key] [BitVec.ofNat 32 s.time.tod] ∧
    (s.hostRead SYS_TOD_LO.key).rd SYS_TOD_HI.key = BitVec.ofNat 32 (s.time.tod / 2 ^ 32) := by
  have hc := s.hostSeen_butObsCnts SYS_TOD_LO.key
  rw [s.hostRead_chip hboot rfl (d := SYS_TOD_LO.desc) (by decide +kernel) (by decide), State.readReg_todLo,
    State.readTod, hc.time]
  exact ⟨.of_onlyRegs hc (.wr _ _ _ (by simp)) _, by simp [State.returns]⟩

/-- R449: with the counters frozen OBS_CYCLE_LO latches the high word of the core cycles. -/
theorem State.cycleLoRead_latches (s : State) (hboot : s.dev.boot ≠ .held) (hfrozen : s.obsFrozen = true) :
    HostAccess s (s.hostRead OBS_CYCLE_LO.key) [OBS_CYCLE_HI.key] [BitVec.ofNat 32 s.obs.cycles] ∧
    (s.hostRead OBS_CYCLE_LO.key).rd OBS_CYCLE_HI.key = BitVec.ofNat 32 (s.obs.cycles / 2 ^ 32) := by
  have hnow : s.cyclesNow = (s.obs.cycles, s) := if_pos hfrozen
  rw [s.hostRead_chip hboot rfl (d := OBS_CYCLE_LO.desc) (by decide +kernel) (by decide), State.readReg_cycleLo,
    s.hostSeen_frozen _ hfrozen, State.readCycle, hnow]
  exact ⟨.of_onlyRegs (.refl s) (.wr _ _ _ (by simp)) _, by simp [State.returns]⟩

theorem regOf_obsCntLo : ∀ n : Fin 8, regOf (OBS_CNT_LO.key n) = some OBS_CNT_LO.desc := by decide +kernel

/-- R449: with the counters frozen OBS_CNT_LO_n latches the counter's high bits. -/
theorem State.obsCntLoRead_latches (s : State) (n : Fin 8) (hboot : s.dev.boot ≠ .held) (hfrozen : s.obsFrozen = true) :
    HostAccess s (s.hostRead (OBS_CNT_LO.key n)) [OBS_CNT_HI.key n] [BitVec.ofNat 32 (s.obs.cnts.getD n {}).value] ∧
    (s.hostRead (OBS_CNT_LO.key n)).get (OBS_CNT_HI.key n) OBS_CNT_HI.VALUE_HI =
      (s.obs.cnts.getD n {}).value / 2 ^ 32 % 2 ^ OBS_CNT_HI.VALUE_HI.width := by
  rw [s.hostRead_chip hboot (by unfold OBS_CNT_LO.key; omega) (regOf_obsCntLo n) (by unfold OBS_CNT_LO.key; omega),
    State.readReg_obsCntLo, s.hostSeen_frozen _ hfrozen, State.readObsCnt]
  refine ⟨.of_onlyRegs (.refl s) (.trans (.put _ _ _ _ (by simp)) (.put _ _ _ _ (by simp))) _, ?_⟩
  rw [State.returns, State.updPins_get, State.get_put_field _ _ _ _ _ (by decide) (by decide),
    State.get_put_same _ _ _ _ (by decide)]

/-- What PRT_CNT_HI_k latches of a counter (R277). -/
def Ctr.latched (c : Ctr) : Word :=
  PRT_CNT_HI.VALUE_HI.set (PRT_CNT_HI.OVF.set (PRT_CNT_HI.WRAP.set 0 c.wrap) (bit c.ovf)) (c.value / 2 ^ 32)

theorem State.readPortCnt_eq (s : State) (p k : Nat) : s.readPortCnt p k =
    (BitVec.ofNat 32 ((s.port p).cnts.getD k {}).value,
      s.wr (PRT_CNT_HI.key p k) ((s.port p).cnts.getD k {}).latched) := rfl

theorem Ctr.latched_valueHi (c : Ctr) : PRT_CNT_HI.VALUE_HI.get c.latched = c.value / 2 ^ 32 % 2 ^ 16 :=
  Fld.get_set_same _ _ _ (by decide)

theorem Ctr.latched_ovf (c : Ctr) : PRT_CNT_HI.OVF.get c.latched = bit c.ovf := by
  rw [Ctr.latched, Fld.get_set_other _ _ _ _ (by decide) (by decide), Fld.get_set_same _ _ _ (by decide)]
  exact Nat.mod_eq_of_lt (Nat.lt_succ_of_le (bit_le _))

theorem Ctr.latched_wrap (c : Ctr) : PRT_CNT_HI.WRAP.get c.latched = c.wrap % 16 := by
  rw [Ctr.latched, Fld.get_set_other _ _ _ _ (by decide) (by decide),
    Fld.get_set_other _ _ _ _ (by decide) (by decide), Fld.get_set_same _ _ _ (by decide)]
  rfl

/-- R277: PRT_CNT_LO_k latches VALUE[47:32], OVF and WRAP of the same instant. -/
theorem State.prtCntLoRead_latches (s : State) (p : Port) (k : Fin 4) (hboot : s.dev.boot ≠ .held)
    (hport : s.dev.variant48 = false ∨ p.val < 48)
    (hup : s.domainUp (domFramer (s.physOf (framerPos p))) = true) :
    let c := (s.port p).cnts.getD k {}
    let x := s.hostRead (PRT_CNT_LO.key p k)
    HostAccess s x [PRT_CNT_HI.key p k] [BitVec.ofNat 32 c.value] ∧
    x.get (PRT_CNT_HI.key p k) PRT_CNT_HI.VALUE_HI = c.value / 2 ^ 32 % 2 ^ 16 ∧
    x.on (PRT_CNT_HI.key p k) PRT_CNT_HI.OVF = c.ovf ∧
    x.get (PRT_CNT_HI.key p k) PRT_CNT_HI.WRAP = c.wrap % 16 := by
  intro c x
  have hc := s.hostSeen_butObsCnts (PRT_CNT_LO.key p k)
  have hbank : s.absentBank (PRT_CNT_LO.key p k) = false := by
    rw [s.absentBank_prtCntLo]
    rcases hport with h | h <;> simp [h]
  have hx : x = ((s.hostSeen (PRT_CNT_LO.key p k)).wr (PRT_CNT_HI.key p k) c.latched).returns
      [BitVec.ofNat 32 c.value] := by
    change s.hostRead _ = _
    rw [s.hostRead_reg hboot (by unfold PRT_CNT_LO.key; omega) hbank (s.locate_prtCntLo p k hup),
      State.readReg_prtCntLo, State.readPortCnt_eq, hc.port]
  have hw : x.rd (PRT_CNT_HI.key p k) = c.latched := by rw [hx, State.returns, State.updPins_rd, State.rd_wr_same]
  refine ⟨hx ▸ .of_onlyRegs hc (.wr _ _ _ (by simp)) _, ?_, ?_, ?_⟩
  · rw [State.get, hw, c.latched_valueHi]
  · rw [State.on, State.get, hw, c.latched_ovf, bit_eq_one]
  · rw [State.get, hw, c.latched_wrap]

/-- R3: a read of a port bank that the KX9600-48 lacks answers 0 and does nothing else. -/
theorem State.prtCntLoRead_absent (s : State) (p : Port) (k : Fin 4) (hboot : s.dev.boot ≠ .held)
    (hsmall : s.dev.variant48 = true) (hp : 48 ≤ p.val) :
    s.hostRead (PRT_CNT_LO.key p k) = { s with pins := { s.pins with lastRead := [0] } } := by
  have hbank : s.absentBank (PRT_CNT_LO.key p k) = true := by simp [s.absentBank_prtCntLo, hsmall, hp]
  have halign : PRT_CNT_LO.key p k % 4 = 0 := by unfold PRT_CNT_LO.key; omega
  have hr : s.readAddr (s.hostReq (.pcie 0)) (PRT_CNT_LO.key p k) = (0, false, s) := by
    simp [State.readAddr, halign, hbank]
  rw [State.hostRead, State.alive, if_neg hboot, hr]
  rfl

/-- An increment of a port counter changes no register, so none of the latched ones (R277). -/
theorem State.countPort_rd (s : State) (p j n key : Nat) : (s.countPort p j n).rd key = s.rd key := by
  unfold State.countPort State.countCtx
  split_ifs <;> rfl

/-- Settles O10: each low word is a register with a reader of its own, which writes the latch alone. -/
theorem lowWordsLatch : Obligations.LowWordsLatch := by
  unfold Obligations.LowWordsLatch
  intro s hboot
  refine ⟨answers_of rfl (s.sfnLoRead_latches hboot), answers_of rfl (s.todLoRead_latches hboot), ?_, ?_,
    s.countPort_rd, fun hfrozen => ⟨answers_of rfl (s.cycleLoRead_latches hboot hfrozen), fun n => ?_⟩⟩
  · exact fun p k hport hup => answers_of rfl (s.prtCntLoRead_latches p k hboot hport hup)
  · exact fun p k hsmall hp => answers_of rfl (s.prtCntLoRead_absent p k hboot hsmall hp)
  · exact answers_of rfl (s.obsCntLoRead_latches n hboot hfrozen)

end Sys2Proof.Machine
end

section
/-! PROOF. Partial, cut and misaligned accesses (R404, R485): what recording a fault writes (R419), which accesses are
faults of cause 4, and the statement on them. -/

namespace Sys2Proof.Machine

/-! ### The record of a fault (R419) -/

/-- The registers that record a fault. -/
def faultKeys : List Nat := [BUS_FAULT_INFO.key, BUS_FAULT_ADDR.key, BUS_STATUS.key, BUS_FAULT_CNT.key]

/-- `s` with a fault written into the registers that record it. -/
def State.recordFault (s : State) (info addr : Nat) : State :=
  (((s.wr BUS_FAULT_INFO.key (BitVec.ofNat 32 info)).wr BUS_FAULT_ADDR.key (BitVec.ofNat 32 addr)).put
    BUS_STATUS.key BUS_STATUS.FAULT_HIST 1).bump BUS_FAULT_CNT.key BUS_FAULT_CNT.COUNT 1

/-- The event code of a cause (Table 17-9): WINDOW_FAULT for causes 2 and 3, else DECERR. -/
def faultCode (cause : Nat) : Nat := if cause = fWINDOW ∨ cause = fLEVEL then 0x81 else 0x80

/-- A fault is its record, with the cause in the low bits of BUS_FAULT_INFO, and an event for the next tick. -/
theorem State.busFault_eq (s : State) (cause bus addr : Nat) (write : Bool) (fn : Nat) :
    ∃ rest ext, s.busFault cause bus addr write fn =
      (s.recordFault (cause + 8 * rest) addr).arrive (.event 361 (faultCode cause) true 0 ext) := by
  have hinfo : cause + bus * 8 + addr / 2 ^ 28 % 16 * 64 + bit write * 1024 + (if bus = 0 then fn else 0) * 2048 =
      cause + 8 * (bus + addr / 2 ^ 28 % 16 * 8 + bit write * 128 + (if bus = 0 then fn else 0) * 256) := by omega
  exact ⟨_, _, congrArg (fun info => (s.recordFault info addr).arrive _) hinfo⟩

theorem State.recordFault_onlyRegs (s : State) (info addr : Nat) : OnlyRegs s (s.recordFault info addr) faultKeys :=
  .trans (.trans (.trans (.wr _ _ _ (by simp [faultKeys])) (.wr _ _ _ (by simp [faultKeys])))
    (.put _ _ _ _ (by simp [faultKeys]))) (.bump _ _ _ _ (by simp [faultKeys]))

theorem State.recordFault_cause (s : State) {cause : Nat} (rest addr : Nat) (h : cause < 8) :
    (s.recordFault (cause + 8 * rest) addr).get BUS_FAULT_INFO.key BUS_FAULT_INFO.CAUSE = cause := by
  rw [State.get, State.recordFault, State.rd_bump_other _ _ _ _ _ (by decide), State.rd_put_other _ _ _ _ _ (by decide),
    State.rd_wr_other _ _ _ _ (by decide), State.rd_wr_same]
  simp only [Fld.get, bitsOf, BUS_FAULT_INFO.CAUSE, BitVec.toNat_ofNat]
  omega

theorem State.recordFault_addr (s : State) (info addr : Nat) :
    (s.recordFault info addr).rd BUS_FAULT_ADDR.key = BitVec.ofNat 32 addr := by
  rw [State.recordFault, State.rd_bump_other _ _ _ _ _ (by decide), State.rd_put_other _ _ _ _ _ (by decide),
    State.rd_wr_same]

theorem State.recordFault_hist (s : State) (info addr : Nat) :
    (s.recordFault info addr).on BUS_STATUS.key BUS_STATUS.FAULT_HIST = true := by
  rw [State.recordFault, State.bump, State.on_put_other _ _ _ _ _ _ (by decide),
    State.on_put_one _ _ _ (by decide) rfl]

theorem State.recordFault_count (s : State) (info addr : Nat) :
    (s.recordFault info addr).get BUS_FAULT_CNT.key BUS_FAULT_CNT.COUNT =
      min (2 ^ 32 - 1) (s.get BUS_FAULT_CNT.key BUS_FAULT_CNT.COUNT + 1) := by
  rw [State.recordFault, State.get_bump _ _ _ _ (by decide), State.get_put_other _ _ _ _ _ _ (by decide), State.get,
    State.rd_wr_other _ _ _ _ (by decide), State.rd_wr_other _ _ _ _ (by decide), State.get]
  rfl

/-! ### Which accesses are faults of cause 4 (R404) -/

/-- `x` is `s` after an access that did nothing but record a fault of cause 4 at `addr`, where the last host read
returned `read`. -/
def PartialFaulted (s : State) (addr : Nat) (read : List Word) (x : State) : Prop :=
  (∃ y, OnlyRegs s y faultKeys ∧ x = { y with arrivals := x.arrivals, pins := { s.pins with lastRead := read } }) ∧
  (∃ ext, x.arrivals = s.arrivals ++ [.event 361 0x80 true 0 ext]) ∧
  x.get BUS_FAULT_INFO.key BUS_FAULT_INFO.CAUSE = 4 ∧ x.rd BUS_FAULT_ADDR.key = BitVec.ofNat 32 addr ∧
  x.on BUS_STATUS.key BUS_STATUS.FAULT_HIST = true ∧
  x.get BUS_FAULT_CNT.key BUS_FAULT_CNT.COUNT = min (2 ^ 32 - 1) (s.get BUS_FAULT_CNT.key BUS_FAULT_CNT.COUNT + 1)

theorem State.busFault_returns_partialFaulted (s : State) (bus addr : Nat) (write : Bool) (fn : Nat) (read : List Word) :
    PartialFaulted s addr read ((s.busFault fPARTIAL bus addr write fn).returns read) := by
  obtain ⟨rest, ext, h⟩ := s.busFault_eq fPARTIAL bus addr write fn
  rw [h]
  have hregs := s.recordFault_onlyRegs (fPARTIAL + 8 * rest) addr
  have hcause := s.recordFault_cause rest addr (show fPARTIAL < 8 by decide)
  have haddr := s.recordFault_addr (fPARTIAL + 8 * rest) addr
  have hhist := s.recordFault_hist (fPARTIAL + 8 * rest) addr
  have hcount := s.recordFault_count (fPARTIAL + 8 * rest) addr
  generalize s.recordFault (fPARTIAL + 8 * rest) addr = y at hregs hcause haddr hhist hcount
  have harrivals : y.arrivals = s.arrivals := by rw [hregs.1]
  have hpins : y.pins = s.pins := by rw [hregs.1]
  refine ⟨⟨y, hregs, ?_⟩, ⟨ext, ?_⟩, hcause, haddr, hhist, hcount⟩
  · rw [← hpins]; rfl
  · rw [← harrivals]; rfl

/-- A fault returns no word: what the last host read returned stays. -/
theorem State.busFault_partialFaulted (s : State) (bus addr : Nat) (write : Bool) (fn : Nat) :
    PartialFaulted s addr s.pins.lastRead (s.busFault fPARTIAL bus addr write fn) :=
  s.busFault_returns_partialFaulted bus addr write fn s.pins.lastRead

theorem State.writeAddr_partial (s : State) (q : Req) {addr : Nat} (v : Word) {whole : Bool}
    (h : addr % 4 ≠ 0 ∨ whole = false) :
    s.writeAddr q addr v whole = (true, s.busFault fPARTIAL q.bus addr true q.fn) := if_pos h

theorem State.readAddr_misaligned (s : State) (q : Req) {addr : Nat} (h : addr % 4 ≠ 0) :
    s.readAddr q addr = (0, true, s.busFault fPARTIAL q.bus addr false q.fn) := if_pos h

theorem State.alive_of_booted {s : State} (hboot : s.dev.boot ≠ .held) (f : State → State) : s.alive f = f s :=
  if_neg hboot

/-! ### SPI transactions that fault -/

/-- A transaction cut short in its first word. -/
theorem State.spiWrites_cut (s : State) (hboot : s.dev.boot ≠ .held) {addr : Nat} (h : addr < 0x1000000) :
    PartialFaulted s addr s.pins.lastRead (s.spiWrites addr [] true) := by
  have he : s.spiWrites addr [] true = (s.writeAddr (s.hostReq .spi) (addr % 0x1000000) 0 false).2 :=
    State.alive_of_booted hboot _
  rw [he, Nat.mod_eq_of_lt h, s.writeAddr_partial _ _ (.inr rfl)]
  exact s.busFault_partialFaulted ..

theorem State.spiWrites_misaligned (s : State) (hboot : s.dev.boot ≠ .held) {addr : Nat} (h : addr < 0x1000000)
    (halign : addr % 4 ≠ 0) (v : Word) : PartialFaulted s addr s.pins.lastRead (s.spiWrites addr [v] false) := by
  have he : s.spiWrites addr [v] false = (s.writeAddr (s.hostReq .spi) (addr % 0x1000000) v true).2 :=
    State.alive_of_booted hboot _
  rw [he, Nat.mod_eq_of_lt h, s.writeAddr_partial _ _ (.inl halign)]
  exact s.busFault_partialFaulted ..

theorem State.spiReads_misaligned (s : State) (hboot : s.dev.boot ≠ .held) {addr : Nat} (h : addr < 0x1000000)
    (halign : addr % 4 ≠ 0) : PartialFaulted s addr [0] (s.spiReads addr 1) := by
  have he : s.spiReads addr 1 = (s.readAddr (s.hostReq .spi) (addr % 0x1000000)).2.2.returns
      [(s.readAddr (s.hostReq .spi) (addr % 0x1000000)).1] := State.alive_of_booted hboot _
  rw [he, Nat.mod_eq_of_lt h, s.readAddr_misaligned _ halign]
  exact s.busFault_returns_partialFaulted ..

/-- Settles O32: each of the accesses is refused before it reaches a register and records a fault of cause 4. -/
theorem partialAccessesFault : Obligations.PartialAccessesFault := by
  unfold Obligations.PartialAccessesFault
  intro s o addr v be hboot faulted
  have hcut := s.spiWrites_cut hboot addr.isLt
  refine ⟨fun hpartial => ?_, answers_of rfl hcut, answers_of rfl hcut, fun halign => ?_⟩
  · refine answers_of rfl ?_
    rw [State.alive_of_booted hboot, s.writeAddr_partial _ _ (by simpa [or_comm] using hpartial)]
    exact s.busFault_partialFaulted ..
  · have hread := s.spiReads_misaligned hboot addr.isLt halign
    have hwrite := s.spiWrites_misaligned hboot addr.isLt halign v
    exact ⟨answers_of rfl hread, answers_of rfl hread, answers_of rfl hwrite, answers_of rfl hwrite⟩

end Sys2Proof.Machine
end

section
/-! SUPPORT. The fields of State that the laws of register writes do not yet name, reads of fields after writes of
other fields, and the existential forms of a frame. -/

namespace Sys2Proof.Machine

/-! ### Register writes and the rest of the state -/

@[simp] theorem State.wr_pending (s : State) (k : Nat) (w : Word) : (s.wr k w).pending = s.pending := rfl
@[simp] theorem State.wr_staged (s : State) (k : Nat) (w : Word) : (s.wr k w).staged = s.staged := rfl
@[simp] theorem State.wr_paths (s : State) (k : Nat) (w : Word) : (s.wr k w).paths = s.paths := rfl
@[simp] theorem State.wr_odus (s : State) (k : Nat) (w : Word) : (s.wr k w).odus = s.odus := rfl
@[simp] theorem State.wr_containers (s : State) (k : Nat) (w : Word) : (s.wr k w).containers = s.containers := rfl
@[simp] theorem State.wr_tribs (s : State) (k : Nat) (w : Word) : (s.wr k w).tribs = s.tribs := rfl
@[simp] theorem State.wr_flows (s : State) (k : Nat) (w : Word) : (s.wr k w).flows = s.flows := rfl
@[simp] theorem State.wr_chans (s : State) (k : Nat) (w : Word) : (s.wr k w).chans = s.chans := rfl
@[simp] theorem State.wr_vlans (s : State) (k : Nat) (w : Word) : (s.wr k w).vlans = s.vlans := rfl
@[simp] theorem State.wr_vlansStaged (s : State) (k : Nat) (w : Word) : (s.wr k w).vlansStaged = s.vlansStaged := rfl
@[simp] theorem State.wr_vcats (s : State) (k : Nat) (w : Word) : (s.wr k w).vcats = s.vcats := rfl
@[simp] theorem State.wr_bonds (s : State) (k : Nat) (w : Word) : (s.wr k w).bonds = s.bonds := rfl
@[simp] theorem State.wr_hrps (s : State) (k : Nat) (w : Word) : (s.wr k w).hrps = s.hrps := rfl
@[simp] theorem State.wr_grate (s : State) (k : Nat) (w : Word) : (s.wr k w).grate = s.grate := rfl
@[simp] theorem State.wr_pm (s : State) (k : Nat) (w : Word) : (s.wr k w).pm = s.pm := rfl
@[simp] theorem State.wr_prot (s : State) (k : Nat) (w : Word) : (s.wr k w).prot = s.prot := rfl
@[simp] theorem State.wr_dampers (s : State) (k : Nat) (w : Word) : (s.wr k w).dampers = s.dampers := rfl

@[simp] theorem State.put_pending (s : State) (k : Nat) (f : Fld) (v : Nat) : (s.put k f v).pending = s.pending := rfl
@[simp] theorem State.put_staged (s : State) (k : Nat) (f : Fld) (v : Nat) : (s.put k f v).staged = s.staged := rfl
@[simp] theorem State.put_paths (s : State) (k : Nat) (f : Fld) (v : Nat) : (s.put k f v).paths = s.paths := rfl
@[simp] theorem State.put_odus (s : State) (k : Nat) (f : Fld) (v : Nat) : (s.put k f v).odus = s.odus := rfl
@[simp] theorem State.put_containers (s : State) (k : Nat) (f : Fld) (v : Nat) : (s.put k f v).containers = s.containers := rfl
@[simp] theorem State.put_tribs (s : State) (k : Nat) (f : Fld) (v : Nat) : (s.put k f v).tribs = s.tribs := rfl
@[simp] theorem State.put_flows (s : State) (k : Nat) (f : Fld) (v : Nat) : (s.put k f v).flows = s.flows := rfl
@[simp] theorem State.put_chans (s : State) (k : Nat) (f : Fld) (v : Nat) : (s.put k f v).chans = s.chans := rfl
@[simp] theorem State.put_vlans (s : State) (k : Nat) (f : Fld) (v : Nat) : (s.put k f v).vlans = s.vlans := rfl
@[simp] theorem State.put_vlansStaged (s : State) (k : Nat) (f : Fld) (v : Nat) : (s.put k f v).vlansStaged = s.vlansStaged := rfl
@[simp] theorem State.put_vcats (s : State) (k : Nat) (f : Fld) (v : Nat) : (s.put k f v).vcats = s.vcats := rfl
@[simp] theorem State.put_bonds (s : State) (k : Nat) (f : Fld) (v : Nat) : (s.put k f v).bonds = s.bonds := rfl
@[simp] theorem State.put_hrps (s : State) (k : Nat) (f : Fld) (v : Nat) : (s.put k f v).hrps = s.hrps := rfl
@[simp] theorem State.put_grate (s : State) (k : Nat) (f : Fld) (v : Nat) : (s.put k f v).grate = s.grate := rfl
@[simp] theorem State.put_pm (s : State) (k : Nat) (f : Fld) (v : Nat) : (s.put k f v).pm = s.pm := rfl
@[simp] theorem State.put_prot (s : State) (k : Nat) (f : Fld) (v : Nat) : (s.put k f v).prot = s.prot := rfl
@[simp] theorem State.put_dampers (s : State) (k : Nat) (f : Fld) (v : Nat) : (s.put k f v).dampers = s.dampers := rfl

@[simp] theorem State.bump_pending (s : State) (k : Nat) (f : Fld) (n : Nat) : (s.bump k f n).pending = s.pending := rfl
@[simp] theorem State.bump_staged (s : State) (k : Nat) (f : Fld) (n : Nat) : (s.bump k f n).staged = s.staged := rfl
@[simp] theorem State.bump_paths (s : State) (k : Nat) (f : Fld) (n : Nat) : (s.bump k f n).paths = s.paths := rfl
@[simp] theorem State.bump_odus (s : State) (k : Nat) (f : Fld) (n : Nat) : (s.bump k f n).odus = s.odus := rfl
@[simp] theorem State.bump_containers (s : State) (k : Nat) (f : Fld) (n : Nat) : (s.bump k f n).containers = s.containers := rfl
@[simp] theorem State.bump_tribs (s : State) (k : Nat) (f : Fld) (n : Nat) : (s.bump k f n).tribs = s.tribs := rfl
@[simp] theorem State.bump_flows (s : State) (k : Nat) (f : Fld) (n : Nat) : (s.bump k f n).flows = s.flows := rfl
@[simp] theorem State.bump_chans (s : State) (k : Nat) (f : Fld) (n : Nat) : (s.bump k f n).chans = s.chans := rfl
@[simp] theorem State.bump_vlans (s : State) (k : Nat) (f : Fld) (n : Nat) : (s.bump k f n).vlans = s.vlans := rfl
@[simp] theorem State.bump_vlansStaged (s : State) (k : Nat) (f : Fld) (n : Nat) : (s.bump k f n).vlansStaged = s.vlansStaged := rfl
@[simp] theorem State.bump_vcats (s : State) (k : Nat) (f : Fld) (n : Nat) : (s.bump k f n).vcats = s.vcats := rfl
@[simp] theorem State.bump_bonds (s : State) (k : Nat) (f : Fld) (n : Nat) : (s.bump k f n).bonds = s.bonds := rfl
@[simp] theorem State.bump_hrps (s : State) (k : Nat) (f : Fld) (n : Nat) : (s.bump k f n).hrps = s.hrps := rfl
@[simp] theorem State.bump_grate (s : State) (k : Nat) (f : Fld) (n : Nat) : (s.bump k f n).grate = s.grate := rfl
@[simp] theorem State.bump_pm (s : State) (k : Nat) (f : Fld) (n : Nat) : (s.bump k f n).pm = s.pm := rfl
@[simp] theorem State.bump_prot (s : State) (k : Nat) (f : Fld) (n : Nat) : (s.bump k f n).prot = s.prot := rfl
@[simp] theorem State.bump_dampers (s : State) (k : Nat) (f : Fld) (n : Nat) : (s.bump k f n).dampers = s.dampers := rfl

/-! ### Register writes and registers -/

theorem OnlyRegs.mono {s x : State} {ks js : List Nat} (h : OnlyRegs s x ks) (hs : ks ⊆ js) : OnlyRegs s x js :=
  ⟨h.1, fun k hk => h.2 k fun hh => hk (hs hh)⟩

theorem OnlyRegs.rd {s x : State} {ks : List Nat} (h : OnlyRegs s x ks) {k : Nat} (hk : k ∉ ks) : x.rd k = s.rd k :=
  h.2 k hk

theorem OnlyRegs.get {s x : State} {ks : List Nat} (h : OnlyRegs s x ks) {k : Nat} (hk : k ∉ ks) (f : Fld) :
    x.get k f = s.get k f := State.get_of_rd (h.rd hk) f

theorem OnlyRegs.on {s x : State} {ks : List Nat} (h : OnlyRegs s x ks) {k : Nat} (hk : k ∉ ks) (f : Fld) :
    x.on k f = s.on k f := State.on_of_rd (h.rd hk) f

theorem bit_mod_two (b : Bool) : bit b % 2 ^ 1 = bit b := by cases b <;> rfl

end Sys2Proof.Machine
end

section
/-! SUPPORT. Every command ends by evaluating the interrupts (R394, R400), and what follows for every step. -/

namespace Sys2Proof.Machine

/-- Whatever the command, its meaning ends by evaluating the interrupts of both masters. -/
theorem exec_settles (i : Instr) (s : State) : ∃ x : State, exec i s = .next x.settle := by
  cases i
  case moveBridge | moveRoll | moveRelease | handover =>
    simp only [exec, execMoveBridge, execMoveRoll, execMoveRelease, execHandover]
    split <;> exact ⟨_, rfl⟩
  all_goals exact ⟨_, rfl⟩

end Sys2Proof.Machine

open Sys2Proof Sys2Proof.Machine

/-- Settles O4: a step with an empty queue leaves the state alone, and any other ends by evaluating the interrupts. -/
theorem stepKeepsInterruptsSeen : Obligations.StepKeepsInterruptsSeen := by
  unfold Obligations.StepKeepsInterruptsSeen
  intro s t hseen hstep
  unfold step at hstep
  split at hstep
  · obtain rfl : s = t := by simpa using hstep
    exact hseen
  · next c rest _ =>
    obtain ⟨x, hx⟩ := exec_settles c { s with pending := rest }
    rw [hx] at hstep
    obtain rfl : x.settle = t := by simpa using hstep
    exact x.settle_settled.2.2.2

/-- Settles O5: every meaning ends in a next state. -/
theorem everyCommandCompletes : Obligations.EveryCommandCompletes := by
  unfold Obligations.EveryCommandCompletes
  intro c s
  obtain ⟨x, hx⟩ := exec_settles c s
  exact ⟨_, hx⟩

/-- Settles O1. -/
theorem stepTakesFrontCommand : Obligations.StepTakesFrontCommand := fun _ _ _ => rfl
end

section
/-! SUPPORT. The bytes of a packet as the list of its fields (Table 14-1), and the packet read back from them. -/

namespace Sys2Proof.Machine

/-- A field of a byte string made of parts is the part that starts at the field's offset. -/
theorem bytesAt_flatten (parts : List (List Byte)) (i : Nat) (hi : i < parts.length) :
    bytesAt parts.flatten (parts.take i).flatten.length parts[i].length = parts[i] := by
  have hsplit : parts.flatten = (parts.take i).flatten ++ parts[i] ++ (parts.drop (i + 1)).flatten := by
    have hparts : parts = parts.take i ++ parts[i] :: parts.drop (i + 1) := by
      rw [← List.drop_eq_getElem_cons hi, List.take_append_drop]
    rw [congrArg List.flatten hparts, List.flatten_append, List.flatten_cons, List.append_assoc]
  rw [hsplit]
  exact bytesAt_mid _ _ _

/-- The fields of a packet in the order of Table 14-1. -/
def packetParts (p : Packet) : List (List Byte) :=
  [[p.ver], [p.flags], [p.opcode], [p.source], beBytes 2 p.dest.toNat, beBytes 2 p.seq.toNat, beBytes 6 p.eff.toNat,
   beBytes 2 p.length.toNat, beBytes 2 p.timeout.toNat, beBytes 2 p.frag.toNat, beBytes 4 p.rsv.toNat, p.payload,
   beBytes 4 p.check.toNat]

theorem packetBytes_eq_flatten (p : Packet) : Packet.bytes p = (packetParts p).flatten := by
  simp [Packet.bytes, Packet.header, packetParts]

theorem packetBytes_length (p : Packet) : (Packet.bytes p).length = 28 + p.payload.length := by
  simp [Packet.bytes, Packet.header]
  omega

/-- A word of `k` bytes is the word its big-endian bytes spell. -/
theorem ofNat_beVal_beBytes (k : Nat) (v : BitVec (8 * k)) : BitVec.ofNat (8 * k) (beVal (beBytes k v.toNat)) = v := by
  rw [beVal_beBytes k v.toNat (by rw [show 256 = 2 ^ 8 from rfl, ← pow_mul]; exact v.isLt), BitVec.ofNat_toNat,
    BitVec.setWidth_eq]

theorem ofNat_beVal_byte (b : Byte) : BitVec.ofNat 8 (beVal [b]) = b := by
  simp [beVal]

/-- A header field of a packet's bytes, by its place among the fields. -/
theorem fieldAt_packetBytes (p : Packet) (i : Nat) (hi : i < (packetParts p).length) :
    fieldAt (Packet.bytes p) ((packetParts p).take i).flatten.length (packetParts p)[i].length =
      beVal (packetParts p)[i] := by
  rw [packetBytes_eq_flatten, fieldAt, bytesAt_flatten]

/-- The payload of a packet's bytes. -/
theorem payload_packetBytes (p : Packet) : bytesAt (Packet.bytes p) 24 p.payload.length = p.payload := by
  rw [packetBytes_eq_flatten]
  exact bytesAt_flatten (packetParts p) 11 (show 11 < 13 by decide)

/-- CHECK of a packet's bytes. -/
theorem check_packetBytes (p : Packet) :
    fieldAt (Packet.bytes p) ((Packet.bytes p).length - 4) 4 = beVal (beBytes 4 p.check.toNat) := by
  have hoff : (Packet.bytes p).length - 4 = ((packetParts p).take 12).flatten.length := by
    rw [packetBytes_length]
    simp [packetParts]
    omega
  rw [hoff]
  exact fieldAt_packetBytes p 12 (show 12 < 13 by decide)

end Sys2Proof.Machine

open Sys2Proof Sys2Proof.Machine

/-- Settles O6: field by field, each read back from its own place in the bytes. -/
theorem packetRoundTrip : Obligations.PacketRoundTrip := by
  unfold Obligations.PacketRoundTrip
  intro p _
  have field : ∀ i (hi : i < 13), fieldAt (Packet.bytes p) ((packetParts p).take i).flatten.length
      ((packetParts p)[i]'hi).length = beVal ((packetParts p)[i]'hi) := fieldAt_packetBytes p
  have hver : fieldAt (Packet.bytes p) 0 1 = beVal [p.ver] := field 0 (by decide)
  have hflags : fieldAt (Packet.bytes p) 1 1 = beVal [p.flags] := field 1 (by decide)
  have hopcode : fieldAt (Packet.bytes p) 2 1 = beVal [p.opcode] := field 2 (by decide)
  have hsource : fieldAt (Packet.bytes p) 3 1 = beVal [p.source] := field 3 (by decide)
  have hdest : fieldAt (Packet.bytes p) 4 2 = beVal (beBytes 2 p.dest.toNat) := field 4 (by decide)
  have hseq : fieldAt (Packet.bytes p) 6 2 = beVal (beBytes 2 p.seq.toNat) := field 5 (by decide)
  have heff : fieldAt (Packet.bytes p) 8 6 = beVal (beBytes 6 p.eff.toNat) := field 6 (by decide)
  have hlength : fieldAt (Packet.bytes p) 14 2 = beVal (beBytes 2 p.length.toNat) := field 7 (by decide)
  have htimeout : fieldAt (Packet.bytes p) 16 2 = beVal (beBytes 2 p.timeout.toNat) := field 8 (by decide)
  have hfrag : fieldAt (Packet.bytes p) 18 2 = beVal (beBytes 2 p.frag.toNat) := field 9 (by decide)
  have hrsv : fieldAt (Packet.bytes p) 20 4 = beVal (beBytes 4 p.rsv.toNat) := field 10 (by decide)
  have hpayload : bytesAt (Packet.bytes p) 24 ((Packet.bytes p).length - 28) = p.payload := by
    rw [packetBytes_length, Nat.add_sub_cancel_left, payload_packetBytes]
  simp only [packetOf, hver, hflags, hopcode, hsource, hdest, hseq, heff, hlength, htimeout, hfrag, hrsv, hpayload,
    check_packetBytes, ofNat_beVal_byte, ofNat_beVal_beBytes 2, ofNat_beVal_beBytes 4, ofNat_beVal_beBytes 6]
end

section
/-! PROOF. The state after RESET_N (R12, R452, R453, R484), and the datapath on bypass (R42). -/

namespace Sys2Proof.Machine

theorem State.rd_reset (k : Nat) : State.reset.rd k = regReset k := rfl

/-- While the datapath stops, no operation of it changes any state. -/
theorem State.datapath_stopped {s : State} (h : s.dev.coreBypass = true ∨ s.dev.boot = .held) (f : State → State) :
    s.datapath f = s := if_pos h

/-- While the datapath works, an operation of it takes effect. -/
theorem State.datapath_carrying {s : State} (h : s.carrying) (f : State → State) : s.datapath f = f s :=
  if_neg (by simp [h.1, h.2])

/-- The release of RESET_N with no fused repair: the state, and SYS_BOOT_STATUS as it samples BOOT_SEL (R453). -/
theorem State.bootRom_unrepaired (s : State) (sel : BitVec 2) (hheld : s.dev.boot = .held)
    (hfuse : s.dev.fuseRepairs = []) :
    ∃ y, OnlyRegs s y [SYS_BOOT_STATUS.key] ∧
      s.bootRom sel.toNat = { y with dev := { s.dev with boot := if sel = 3 then .stopped else .rom } } ∧
      y.get SYS_BOOT_STATUS.key SYS_BOOT_STATUS.BOOT_SEL = sel.toNat ∧
      y.get SYS_BOOT_STATUS.key SYS_BOOT_STATUS.GATEWAY = bit (decide (sel = 0 ∨ sel = 2)) ∧
      y.get SYS_BOOT_STATUS.key SYS_BOOT_STATUS.BAD_BOOT_SEL = bit (decide (sel = 3)) ∧
      y.get SYS_BOOT_STATUS.key SYS_BOOT_STATUS.FUSE_REPAIRS = 0 := by
  have hthree : (sel.toNat = 3) = (sel = 3) := by simp [← BitVec.toNat_inj]
  have hroot : (sel.toNat = 0 ∨ sel.toNat = 2) = (sel = 0 ∨ sel = 2) := by simp [← BitVec.toNat_inj]
  refine ⟨(((s.put SYS_BOOT_STATUS.key SYS_BOOT_STATUS.BOOT_SEL sel.toNat).put SYS_BOOT_STATUS.key
    SYS_BOOT_STATUS.GATEWAY (bit (decide (sel = 0 ∨ sel = 2)))).put SYS_BOOT_STATUS.key SYS_BOOT_STATUS.BAD_BOOT_SEL
    (bit (decide (sel = 3)))).put SYS_BOOT_STATUS.key SYS_BOOT_STATUS.FUSE_REPAIRS 0, ?_, ?_, ?_⟩
  · exact (((OnlyRegs.put _ _ _ _ (by simp)).trans (.put _ _ _ _ (by simp))).trans (.put _ _ _ _ (by simp))).trans
      (.put _ _ _ _ (by simp))
  · simp [State.bootRom, hheld, hfuse, State.each, hthree, hroot]
  · simp (disch := decide) only [State.get_put_field, State.get_put_same]
    exact ⟨Nat.mod_eq_of_lt sel.isLt, bit_mod_two _, bit_mod_two _, rfl⟩

end Sys2Proof.Machine

open Sys2Proof Sys2Proof.Machine

/-- Settles O2: at reset no table has an entry, so every register reads its Reset value. -/
theorem resetHoldsResetColumn : Obligations.ResetHoldsResetColumn := by
  unfold Obligations.ResetHoldsResetColumn
  refine ⟨fun k => ⟨rfl, rfl⟩, ?_, ?_, ?_, ?_, ?_, ?_, ?_, rfl, rfl, rfl, rfl, rfl, fun _ => rfl⟩
  all_goals decide +kernel

/-- Settles O3. -/
theorem resetMeetsInvariants : Obligations.ResetMeetsInvariants := by
  unfold Obligations.ResetMeetsInvariants State.interruptsSeen
  decide +kernel

/-- Settles O8: RESET_N low leaves the fuses and what waits, its release samples BOOT_SEL once, PCIE_PERST_N clears the
two windows. -/
theorem resetAndBoot : Obligations.ResetAndBoot := by
  unfold Obligations.ResetAndBoot
  intro s
  refine ⟨answers_of rfl ⟨rfl, rfl, rfl, rfl, rfl, rfl, fun _ => rfl⟩, fun sel hboot => answers_of rfl (if_pos hboot),
    fun sel hheld hfuse => answers_of rfl ?_, answers_of rfl rfl⟩
  obtain ⟨y, hregs, he, hsel, hgate, hbad, hrep⟩ := s.bootRom_unrepaired sel hheld hfuse
  rw [he]
  exact ⟨⟨y, hregs, rfl⟩, hsel, hgate.trans (by simp [bit]), hbad.trans (by simp [bit]), hrep⟩

/-- Settles O46: each of the rows is an operation of the datapath. -/
theorem datapathStops : Obligations.DatapathStops := by
  unfold Obligations.DatapathStops
  intro s hoff stays
  have stop : ∀ {c : Instr} {f : State → State}, exec c s = .next (s.datapath f).settle → stays c :=
    fun he => answers_of he (State.datapath_stopped hoff _)
  exact ⟨fun _ _ => stop rfl, fun _ => stop rfl, fun _ _ => stop rfl, fun _ => stop rfl, fun _ _ _ => stop rfl,
    fun _ _ => stop rfl, fun _ _ => stop rfl, fun _ _ => stop rfl, fun _ _ _ _ _ => stop rfl, fun _ _ => stop rfl,
    fun _ _ _ => stop rfl, fun _ => stop rfl, fun _ => stop rfl, fun _ _ => stop rfl, fun _ _ _ _ => stop rfl,
    fun _ _ => stop rfl, fun _ _ _ _ => stop rfl, fun _ _ => stop rfl, fun _ _ _ => stop rfl, fun _ _ => stop rfl,
    fun _ => stop rfl, fun _ => stop rfl, fun _ => stop rfl, fun _ => stop rfl, fun _ _ => stop rfl⟩
end

section
/-! PROOF. The TAP (R463, R464), the output monitors (R475 to R479) and the die temperature (R490). -/

namespace Sys2Proof.Machine

/-- SAMPLE captures the pins, or acts as BYPASS on a locked TAP. -/
theorem State.tapSample_eq (s : State) (locked : Bool) (pins : List Bool) :
    (if locked then s.bypass else (s.tapSelect 2).updPins fun x => { x with sample := pins, boundary := pins }) =
      { s with pins := if locked then { s.pins with tapInstr := 0, extest := false, tdo := 0 }
        else { s.pins with tapInstr := 2, extest := false, sample := pins, boundary := pins } } := by
  cases locked <;> rfl

/-- EXTEST drives the boundary, or acts as BYPASS on a locked TAP. -/
theorem State.tapExtest_eq (s : State) (locked : Bool) (drive : List Bool) :
    (if locked then s.bypass else (s.tapSelect 3).updPins fun x => { x with boundary := drive }) =
      { s with pins := if locked then { s.pins with tapInstr := 0, extest := false, tdo := 0 }
        else { s.pins with tapInstr := 3, extest := true, boundary := drive } } := by
  cases locked <;> rfl

/-! ### Monitors -/

/-- A contention declared: its level is latched, and it arrives with the next tick. -/
theorem State.contention_sampled (s : State) {p : Nat} {level : Bool} (hsampled : s.pinSampled p = true)
    (hlevel : level = true ∨ s.pinOpenDrain p = false) :
    s.contention p level = (s.put (PIN_MON.key p) PIN_MON.LEVEL (bit level)).arrive (.pinContention p) := by
  refine if_pos ?_
  rcases hlevel with rfl | h <;> simp [*]

/-- The output driven again after its back-off, in its registers. -/
theorem State.pinDrive_due (s : State) {p : Nat} (hdue : s.timerDue (.pinBackoff p) = true) :
    s.pinDrive p = (((s.stopTimer (.pinBackoff p)).put (PIN_MON.key p) PIN_MON.HIGHZ 0).put (PIN_MON.key p)
      PIN_MON.RETRY_NOW 0).updPins fun x => { x with redriven := x.redriven.put p s.dev.ticks } := if_pos hdue

theorem State.pinRuns_clean (s : State) {p t : Nat} (hfind : s.pins.redriven.find p = some t) (ht : t + 8 ≤ s.dev.ticks)
    (hsampled : s.pinSampled p = true) : s.pinRuns p = s.arrive (.pinClean p) := by
  simp [State.pinRuns, hfind, ht, hsampled]

theorem State.retryNow_highz (s : State) {p : Nat} (h : s.pinOn p PIN_MON.HIGHZ = true) :
    s.retryNow p = (s.put (PIN_MON.key p) PIN_MON.RETRY_NOW 1).startTimer (.pinBackoff p) 1 := if_pos (by simp [h])

/-- What the die sensor leaves in PIN_TEMP. -/
theorem State.dieTemp_temp (s : State) (temp : Byte) :
    OnlyRegs s (s.dieTemp temp) [PIN_TEMP.key] ∧ (s.dieTemp temp).get PIN_TEMP.key PIN_TEMP.TEMP = temp.toNat ∧
    (s.dieTemp temp).on PIN_TEMP.key PIN_TEMP.TJ_HIGH =
      (decide (115 ≤ untwos 8 temp.toNat) || s.on PIN_TEMP.key PIN_TEMP.TJ_HIGH) := by
  have hregs : OnlyRegs s (s.put PIN_TEMP.key PIN_TEMP.TEMP temp.toNat) [PIN_TEMP.key] := .put _ _ _ _ (by simp)
  have hmod : temp.toNat % 2 ^ PIN_TEMP.TEMP.width = temp.toNat := Nat.mod_eq_of_lt temp.isLt
  unfold State.dieTemp
  dsimp only
  split
  · next h =>
    refine ⟨hregs.trans (.put _ _ _ _ (by simp)), ?_, ?_⟩
    · rw [State.get_put_field _ _ _ _ _ (by decide) (by decide), State.get_put_same _ _ _ _ (by decide), hmod]
    · rw [State.on_put_one _ _ _ (by decide) rfl]; simp [h]
  · next h =>
    refine ⟨hregs, ?_, ?_⟩
    · rw [State.get_put_same _ _ _ _ (by decide), hmod]
    · rw [State.on_put_field _ _ _ _ _ (by decide) (by decide)]; simp [h]

end Sys2Proof.Machine

open Sys2Proof Sys2Proof.Machine

/-- Settles O7: the TAP rows touch the pin state alone, the monitors' rows PIN_MON of their output. -/
theorem tapAndMonitors : Obligations.TapAndMonitors := by
  unfold Obligations.TapAndMonitors
  refine ⟨fun s => ⟨answers_of rfl rfl, answers_of rfl rfl, fun pins => answers_of rfl ?_,
    fun drive => answers_of rfl ?_, answers_of rfl rfl⟩, fun s => ⟨?_, ?_, ?_, ?_, ?_⟩⟩
  · exact s.tapSample_eq s.tapLocked pins
  · exact s.tapExtest_eq s.tapLocked drive
  · intro p level hsampled hlevel
    refine answers_of rfl ?_
    rw [s.contention_sampled hsampled hlevel]
    exact ⟨⟨s.put (PIN_MON.key p) PIN_MON.LEVEL (bit level), .put _ _ _ _ (by simp), rfl⟩,
      (State.arrive_on _ _ _ _).trans (State.on_put_bit _ _ _ _ (by decide) rfl)⟩
  · intro p hdue
    refine answers_of rfl ?_
    rw [s.pinDrive_due hdue]
    refine ⟨⟨(s.put (PIN_MON.key p) PIN_MON.HIGHZ 0).put (PIN_MON.key p) PIN_MON.RETRY_NOW 0,
      (OnlyRegs.put _ _ _ _ (by simp)).trans (.put _ _ _ _ (by simp)), rfl⟩, ?_, ?_, ?_, Tbl.find_put_same _ _ _⟩
    · exact (State.updPins_on _ _ _ _).trans ((State.on_put_field _ _ _ _ _ (by decide) (by decide)).trans
        (State.on_put_zero _ _ _ (by decide) rfl))
    · exact (State.updPins_on _ _ _ _).trans (State.on_put_zero _ _ _ (by decide) rfl)
    · exact s.hasTimer_stopTimer (.pinBackoff p)
  · intro p t hfind ht hsampled
    refine answers_of rfl ?_
    rw [s.pinRuns_clean hfind ht hsampled]
    rfl
  · intro p hhighz
    refine answers_of rfl ?_
    rw [s.retryNow_highz hhighz]
    exact ⟨⟨s.put (PIN_MON.key p) PIN_MON.RETRY_NOW 1, .put _ _ _ _ (by simp), rfl⟩,
      (State.startTimer_on _ _ _ _ _).trans (State.on_put_one _ _ _ (by decide) rfl), State.startTimer_mem ..⟩
  · intro temp
    obtain ⟨hregs, htemp, hhigh⟩ := s.dieTemp_temp temp
    refine answers_of rfl ⟨hregs, htemp, fun h => ?_, fun h => ?_⟩
    · rw [hhigh]; simp [h]
    · rw [hhigh]; simp [Int.not_le.mpr h]
end

section
/-! PROOF. How a verification, a start and a fallback of an image end (R456, R459 to R461). -/

namespace Sys2Proof.Machine

/-- With no completion held there is none to release. -/
theorem State.releaseHeld_nil (s : State) (h : s.cmd.held = []) : s.releaseHeld = s := by
  have he : ({ s with cmd := { s.cmd with held := [] } } : State) = s := by rw [← h]
  rw [State.releaseHeld, h, he]
  rfl

/-- The end of a restart, after what it writes itself. -/
theorem State.restartEnds_reported (s : State) (status : Nat) (hheld : s.cmd.held = []) :
    ∃ y, Noted (s.updFw fun f => { f with starting := false, up := false }) y [CMD_STATUS.key, SYS_FW_STATUS.key] ∧
      Reported (y.endLong resFw) (s.restartEnds status) ∧ y.loadState = fwIdle ∧
      y.on CMD_STATUS.key CMD_STATUS.RESTARTING = false ∧
      ∀ f : Fld, f.lo + f.width ≤ 32 → (f.lo + f.width ≤ SYS_FW_STATUS.LOAD_STATE.lo ∨
        SYS_FW_STATUS.LOAD_STATE.lo + SYS_FW_STATUS.LOAD_STATE.width ≤ f.lo) →
        y.get SYS_FW_STATUS.key f = s.get SYS_FW_STATUS.key f := by
  let s1 := (s.updFw fun f => { f with starting := false, up := false }).put CMD_STATUS.key CMD_STATUS.RESTARTING 0
  let s2 := s1.put SYS_FW_STATUS.key SYS_FW_STATUS.LOAD_STATE fwIdle
  let y := s2.event srcFw eRESTART_DONE true 0
  have hnote : Noted s2 y [] := .event _ _ _ _ _ (by decide) _
  have hrestart : y.on CMD_STATUS.key CMD_STATUS.RESTARTING = false := by
    rw [hnote.on (by simp) (by decide)]
    exact (State.on_put_other _ _ _ _ _ _ (by decide)).trans (State.on_put_zero _ _ _ (by decide) rfl)
  have hkept : (y.finishLong resFw status 0 []).cmd.held = [] := by
    rw [State.finishLong_held _ _ _ _ _ hrestart, State.event_cmd _ _ _ _ _ (by decide)]
    exact hheld
  have hx : s.restartEnds status = y.finishLong resFw status 0 [] := State.releaseHeld_nil _ hkept
  refine ⟨y, ?_, ?_, ?_, hrestart, fun f hf hd => ?_⟩
  · exact ((Noted.put _ _ _ _ (by simp)).trans (.put _ _ _ _ (by simp))).trans (hnote.mono (by simp))
  · rw [hx]; exact State.finishLong_reported _ _ _ _ _
  · rw [State.loadState, hnote.get (by simp) (by decide)]
    exact State.get_put_same _ _ _ _ (by decide)
  · rw [hnote.get (by simp) (by decide)]
    exact (State.get_put_field _ _ _ _ _ hf hd).trans (State.get_put_other _ _ _ _ _ _ (by decide))

/-- What a restart's end leaves, of the state and of SYS_FW_STATUS and CMD_STATUS. -/
theorem State.restartEnds_leaves (s : State) (status : Nat) (hheld : s.cmd.held = []) :
    let x := s.restartEnds status
    x.dev.boot = s.dev.boot ∧ x.fw = { s.fw with starting := false, up := false } ∧ x.loadState = fwIdle ∧
    x.on CMD_STATUS.key CMD_STATUS.RESTARTING = false ∧ x.running resFw = none ∧
    (x.ports = s.ports ∧ x.cal = s.cal ∧ x.grate = s.grate) ∧
    x.on SYS_FW_STATUS.key SYS_FW_STATUS.FALLBACK_HIST = s.on SYS_FW_STATUS.key SYS_FW_STATUS.FALLBACK_HIST := by
  obtain ⟨y, hy, hx, hload, hrestart, hfw⟩ := s.restartEnds_reported status hheld
  have hfall := hx.on (k := SYS_FW_STATUS.key) (by decide) SYS_FW_STATUS.FALLBACK_HIST
  rw [State.endLong_on] at hfall
  refine ⟨?_, ?_, ?_, ?_, ?_, ⟨?_, ?_, ?_⟩, hfall.trans ?_⟩
  · rw [hx.boot, State.endLong_dev, hy.1]; rfl
  · rw [hx.fw, State.endLong_fw, hy.1]; rfl
  · rw [State.loadState, hx.get (by decide)]; exact hload
  · rw [hx.cmdStatus _ (by decide) (by decide)]; exact hrestart
  · rw [hx.cmd_running_find, State.running_endLong]
  · rw [hx.ports, State.endLong_ports, hy.1]; rfl
  · rw [hx.cal, State.endLong_cal, hy.1]; rfl
  · rw [hx.grate, State.endLong_grate, hy.1]; rfl
  · simp only [State.on, hfw SYS_FW_STATUS.FALLBACK_HIST (by decide) (by decide)]

/-- An image rejected for a cause: the cause, the history bit, the event, and the load state idle. -/
theorem State.rejects_noted (s : State) (c : Nat) :
    ∃ y, y = ((s.rejectImage c).setLoad fwIdle).event srcFw eIMAGE_REJECTED true 0 ∧ Noted s y [SYS_FW_STATUS.key] ∧ y.loadState = fwIdle ∧
    y.get SYS_FW_STATUS.key SYS_FW_STATUS.REJECT_CAUSE = c % 16 ∧
    y.on SYS_FW_STATUS.key SYS_FW_STATUS.REJECT_HIST = true ∧ y.raised srcFw eIMAGE_REJECTED true := by
  have hnote : Noted ((s.rejectImage c).setLoad fwIdle) _ [] := .event _ srcFw eIMAGE_REJECTED true 0 (by decide) _
  refine ⟨_, rfl, ?_, ?_, ?_, ?_, State.raised_event _ _ _ _ _ (by decide)⟩
  · exact (((Noted.put _ _ _ _ (by simp)).trans (.put _ _ _ _ (by simp))).trans (.put _ _ _ _ (by simp))).trans
      (hnote.mono (by simp))
  · rw [State.loadState, hnote.get (by simp) (by decide)]
    exact State.get_put_same _ _ _ _ (by decide)
  · rw [hnote.get (by simp) (by decide), State.setLoad, State.rejectImage]
    simp (disch := decide) only [State.get_put_field, State.get_put_same]
    rfl
  · rw [hnote.on (by simp) (by decide), State.setLoad, State.on_put_field _ _ _ _ _ (by decide) (by decide)]
    exact State.on_put_one _ _ _ (by decide) rfl

/-- What a verification's end leaves alone, and SYS_FW_STATUS after the answer. -/
theorem State.verified_leaves {s y x : State} (hy : Noted s y [SYS_FW_STATUS.key]) (hx : Reported (y.endLong resFw) x) :
    (x.running resFw = none ∧ x.fw = s.fw ∧ x.cal = s.cal ∧ x.grate = s.grate ∧ x.ports = s.ports) ∧
    x.rd SYS_FW_STATUS.key = y.rd SYS_FW_STATUS.key := by
  refine ⟨⟨by rw [hx.cmd_running_find, State.running_endLong], ?_, ?_, ?_, ?_⟩, hx.rd (by decide)⟩
  · rw [hx.fw, State.endLong_fw, hy.1]
  · rw [hx.cal, State.endLong_cal, hy.1]
  · rw [hx.grate, State.endLong_grate, hy.1]
  · rw [hx.ports, State.endLong_ports, hy.1]

/-- A verification that finds no cause ends with the image ready. -/
theorem State.verifyDone_ready (s : State) (o : ImageOutcome) (hrun : (s.running resFw).isSome)
    (hload : s.loadState = fwVerifying) (hc : s.imageCause o = 0) :
    s.verifyDone o = (s.setLoad fwReady).finishLong resFw stOK 0 [] := by
  obtain ⟨op, hop⟩ := Option.isSome_iff_exists.mp hrun
  simp only [State.verifyDone, hop, hload, hc, ne_eq, not_true_eq_false, if_false, if_true]

/-- A verification that finds a cause ends with the image rejected. -/
theorem State.verifyDone_rejects (s : State) (o : ImageOutcome) (hrun : (s.running resFw).isSome)
    (hload : s.loadState = fwVerifying) (hc : s.imageCause o ≠ 0) :
    s.verifyDone o = (((s.rejectImage (s.imageCause o)).setLoad fwIdle).event srcFw eIMAGE_REJECTED true 0).finishLong
      resFw stBAD_PARAM 0 [] := by
  obtain ⟨op, hop⟩ := Option.isSome_iff_exists.mp hrun
  simp only [State.verifyDone, hop, hload, hc, ne_eq, not_true_eq_false, if_false]

/-- An image that runs: the boot state and the slot, and registers of its own. -/
theorem State.imageRuns_frame (s : State) (n : Nat) :
    (s.imageRuns n).dev.boot = .running ∧ (s.imageRuns n).fw = { s.fw with running := n, started := true } ∧
    (s.imageRuns n).cmd = s.cmd ∧ (s.imageRuns n).ports = s.ports ∧ (s.imageRuns n).cal = s.cal ∧
    (s.imageRuns n).grate = s.grate := by
  simp [State.imageRuns]

/-- Where firmware ran before, the start of the new image is its run and the end of the restart. -/
theorem State.imageStart_fwDone (s : State) (hstart : s.fw.starting = true)
    (hrunning : s.on SYS_FW_STATUS.key SYS_FW_STATUS.RUNNING = true) :
    s.imageStart.fwDone = ((s.updFw fun f => { f with up := true }).imageRuns s.fw.freeSlot).restartEnds stOK := by
  have hup : s.imageStart = s.updFw fun f => { f with up := true } := if_pos hstart
  rw [hup]
  refine (if_pos (by simp [hstart])).trans ?_
  rw [State.updFw_on, hrunning]
  rfl

/-- A fallback boots what ran before, or the ROM responder. -/
theorem State.fallBack_eq (s : State) (hstart : s.fw.starting = true) (hup : s.fw.up = false) :
    s.fallBack = ({ s.put SYS_FW_STATUS.key SYS_FW_STATUS.FALLBACK_HIST 1 with
      dev := { s.dev with boot := if s.on SYS_FW_STATUS.key SYS_FW_STATUS.RUNNING then .running else .rom } } :
        State).restartEnds stBUSY := by
  have hkeep : (s.put SYS_FW_STATUS.key SYS_FW_STATUS.FALLBACK_HIST 1).on SYS_FW_STATUS.key SYS_FW_STATUS.RUNNING =
      s.on SYS_FW_STATUS.key SYS_FW_STATUS.RUNNING := State.on_put_field _ _ _ _ _ (by decide) (by decide)
  rw [← hkeep]
  exact if_pos (by simp [hstart, hup])

end Sys2Proof.Machine

open Sys2Proof Sys2Proof.Machine

/-- Settles O9: each outcome is registers of its own, an event, and the end of the long operation; a restart's end
releases no completion where none is held. -/
theorem firmwareOutcomes : Obligations.FirmwareOutcomes := by
  unfold Obligations.FirmwareOutcomes
  intro s
  refine ⟨fun o hrun hload => answers_of rfl ?_, fun hstart hrunning hheld => answers_of rfl ?_,
    fun hstart hup hheld => answers_of rfl ?_⟩
  · by_cases hc : s.imageCause o = 0
    · have hy : Noted s (s.setLoad fwReady) [SYS_FW_STATUS.key] := .put _ _ _ _ (by simp)
      have hx := State.finishLong_reported (s.setLoad fwReady) resFw stOK 0 []
      rw [← s.verifyDone_ready o hrun hload hc] at hx
      obtain ⟨⟨h1, h2, h3, h4, h5⟩, hrd⟩ := State.verified_leaves hy hx
      exact ⟨h1, h2, h3, h4, h5, fun _ => (State.get_of_rd hrd _).trans (State.get_put_same _ _ _ _ (by decide)),
        fun hne => absurd hc hne⟩
    · obtain ⟨y, hey, hy, hidle, hcause, hhist, e, he, hev⟩ := s.rejects_noted (s.imageCause o)
      have hx := State.finishLong_reported y resFw stBAD_PARAM 0 []
      rw [hey, ← s.verifyDone_rejects o hrun hload hc, ← hey] at hx
      obtain ⟨⟨h1, h2, h3, h4, h5⟩, hrd⟩ := State.verified_leaves hy hx
      exact ⟨h1, h2, h3, h4, h5, fun h0 => absurd h0 hc, fun _ => ⟨(State.get_of_rd hrd _).trans hidle,
        (State.get_of_rd hrd _).trans hcause, (State.on_of_rd hrd _).trans hhist, e, hx.tick_mem he, hev⟩⟩
  · rw [s.imageStart_fwDone hstart hrunning]
    obtain ⟨hb, hf, hcmd, hp, hc, hg⟩ := (s.updFw fun f => { f with up := true }).imageRuns_frame s.fw.freeSlot
    generalize (s.updFw fun f => { f with up := true }).imageRuns s.fw.freeSlot = y at hb hf hcmd hp hc hg ⊢
    obtain ⟨hboot, hfw, hload, hrestart, hrun, ⟨hports, hcal, hgrate⟩, _⟩ :=
      y.restartEnds_leaves stOK ((congrArg CmdSt.held hcmd).trans hheld)
    exact ⟨hboot.trans hb, by rw [hfw, hf]; rfl, by rw [hfw], hload, hrestart, hrun, hports.trans hp, hcal.trans hc,
      hgrate.trans hg⟩
  · rw [s.fallBack_eq hstart hup]
    obtain ⟨hboot, hfw, hload, hrestart, hrun, ⟨hports, hcal, hgrate⟩, hhist⟩ :=
      ({ s.put SYS_FW_STATUS.key SYS_FW_STATUS.FALLBACK_HIST 1 with
        dev := { s.dev with boot := if s.on SYS_FW_STATUS.key SYS_FW_STATUS.RUNNING then .running else .rom } } :
        State).restartEnds_leaves stBUSY hheld
    exact ⟨hboot, by rw [hfw]; rfl, by rw [hfw], hload, hhist.trans (State.on_put_one s _ _ (by decide) rfl), hrestart,
      hrun, hports, hcal, hgrate⟩
end

section
/-! PROOF. The host-visible queues (R240 to R243): removals, insertions, LEVEL, LEGACY, resets and pointer mismatches. -/

namespace Sys2Proof.Machine

/-! ### Stores at one key -/

theorem Tbl.put_put_same {α : Type} (t : Tbl α) (k : Nat) (v w : α) : (t.put k v).put k w = t.put k w := by
  induction t with
  | nil => simp [Tbl.put]
  | cons e t ih =>
    obtain ⟨j, u⟩ := e
    simp only [Tbl.put]
    split
    · simp [Tbl.put]
    · split
      · simp [Tbl.put]
      · next h1 h2 => simp [Tbl.put, h1, h2, ih]

theorem Tbl.drop_drop_same {α : Type} (t : Tbl α) (k : Nat) : (t.drop k).drop k = t.drop k := by
  induction t with
  | nil => rfl
  | cons e t ih =>
    obtain ⟨j, u⟩ := e
    simp only [Tbl.drop]
    split
    · exact ih
    · next h => simp [Tbl.drop, h, ih]

theorem State.setQueue_twice (s : State) (q : Nat) (x : Queue) : (s.setQueue q x).setQueue q x = s.setQueue q x := by
  unfold State.setQueue Tbl.store
  split
  · simp [Tbl.drop_drop_same]
  · simp [Tbl.put_put_same]

theorem State.setQueue_setQueue (s : State) (q : Nat) {x y : Queue} (hx : x ≠ {}) (hy : y ≠ {}) :
    (s.setQueue q x).setQueue q y = s.setQueue q y := by
  simp only [State.setQueue, Tbl.store, hx, hy, if_false, Tbl.put_put_same]

/-! ### Events leave the queues and their registers -/

theorem Raised.queue {s x : State} {es : List EventRec} (h : Raised s x es) (j : Nat) : x.queue j = s.queue j := by
  unfold State.queue; rw [h.1]

theorem State.queue_event (s : State) (source code : Nat) (set : Bool) (entity j : Nat) (h : source < 384) :
    (s.event source code set entity).queue j = s.queue j := (s.event_raised source code set entity h).queue j

@[simp] theorem State.queue_put (s : State) (k : Nat) (f : Fld) (v j : Nat) : (s.put k f v).queue j = s.queue j := rfl
@[simp] theorem State.queue_bump (s : State) (k : Nat) (f : Fld) (n j : Nat) : (s.bump k f n).queue j = s.queue j := rfl

theorem noteReg_qstat (q : Fin 8) : noteReg (SYS_QSTAT.key q) = false := by revert q; decide
theorem reportReg_qcfg (q : Fin 8) : reportReg (SYS_QCFG.key q) = false := by revert q; decide
theorem reportReg_qdataLo (q : Fin 8) : reportReg (SYS_QDATA_LO.key q) = false := by revert q; decide

/-- A bit of a queue's status set before an event is set after it. -/
theorem State.on_qstat_event (s : State) (q : Fin 8) (f : Fld) (source code : Nat) (set : Bool) (entity : Nat)
    (h : source < 384) : (s.event source code set entity).on (SYS_QSTAT.key q) f = s.on (SYS_QSTAT.key q) f :=
  State.on_of_rd ((s.event_raised source code set entity h).2.1 _ (noteReg_qstat q)) f

/-! ### The level -/

/-- A queue below its LEVEL, or with LEVEL 0, is armed. -/
theorem State.judgeLevel_below (s : State) (q : Nat) (h : s.get (SYS_QCFG.key q) SYS_QCFG.LEVEL = 0 ∨
    s.fill q < s.get (SYS_QCFG.key q) SYS_QCFG.LEVEL) :
    s.judgeLevel q = s.setQueue q { s.queue q with levelArmed := true } := if_pos h

/-- An armed queue at its LEVEL reports the crossing and is disarmed. -/
theorem State.judgeLevel_crosses (s : State) (q : Nat) (hlevel : s.get (SYS_QCFG.key q) SYS_QCFG.LEVEL ≠ 0)
    (hfill : s.get (SYS_QCFG.key q) SYS_QCFG.LEVEL ≤ s.fill q) (harmed : (s.queue q).levelArmed = true) :
    s.judgeLevel q = ((s.setQueue q { s.queue q with levelArmed := false }).put (SYS_QSTAT.key q) SYS_QSTAT.LEVEL_HIST
      1).event (queueSource q) 0x80 true q := by
  have h : ¬ (s.get (SYS_QCFG.key q) SYS_QCFG.LEVEL = 0 ∨ s.fill q < s.get (SYS_QCFG.key q) SYS_QCFG.LEVEL) := by omega
  exact (if_neg h).trans (if_pos harmed)

/-- Judging the level can arm or disarm its queue, and changes nothing else of any queue. -/
theorem State.queue_judgeLevel (s : State) (q : Fin 8) :
    ∃ armed, ∀ j, (s.judgeLevel q).queue j = if j = q.val then { s.queue q with levelArmed := armed } else s.queue j := by
  unfold State.judgeLevel
  dsimp only
  split
  · exact ⟨true, fun j => State.queue_setQueue ..⟩
  · split
    · refine ⟨false, fun j => ?_⟩
      rw [State.queue_event _ _ _ _ _ _ (queueSource_lt q q.isLt), State.queue_put, State.queue_setQueue]
    · refine ⟨(s.queue q).levelArmed, fun j => ?_⟩
      split
      · next h => subst h; rfl
      · rfl

/-! ### Removals (R240) -/

/-- The words left by a removal, and the report of a poisoned one. -/
theorem State.removeWord_cons (s : State) (q : Fin 8) {w : BitVec 64} {ws : List (BitVec 64)}
    (h : (s.queue q).words = w :: ws) :
    (s.removeWord q).1 = w ∧ Reported s (s.removeWord q).2 ∧ ((s.removeWord q).2.queue q).words = ws ∧
    (∀ j, j ≠ q.val → (s.removeWord q).2.queue j = s.queue j) ∧
    (w.toNat / 2 ^ 62 = 2 → (s.removeWord q).2.on (SYS_QSTAT.key q) SYS_QSTAT.POISON_HIST = true ∧
      (s.removeWord q).2.raised (363 + q) 0x82 true) := by
  have hq := queueSource_lt q q.isLt
  have hjudged : Reported s ((s.setQueue q { s.queue q with words := ws }).judgeLevel q) :=
    (Reported.setQueue _ _ _).trans (State.judgeLevel_reported _ q q.isLt)
  obtain ⟨armed, hqueue⟩ := (s.setQueue q { s.queue q with words := ws }).queue_judgeLevel q
  unfold State.removeWord
  simp only [h]
  generalize (s.setQueue q { s.queue q with words := ws }).judgeLevel q = t at hjudged hqueue ⊢
  have hwords : (t.queue q).words = ws := by rw [hqueue, if_pos rfl, State.queue_setQueue, if_pos rfl]
  have hothers : ∀ j, j ≠ q.val → t.queue j = s.queue j := fun j hj => by
    rw [hqueue, if_neg hj, State.queue_setQueue, if_neg hj]
  by_cases hpoison : w.toNat / 2 ^ 62 = 2
  · rw [if_pos hpoison]
    refine ⟨rfl, (hjudged.trans (.putQstat _ _ q.isLt _ _)).trans (.event _ _ _ _ _ hq), ?_, fun j hj => ?_, fun _ => ⟨?_, ?_⟩⟩
    · rw [State.queue_event _ _ _ _ _ _ hq, State.queue_put, hwords]
    · rw [State.queue_event _ _ _ _ _ _ hq, State.queue_put, hothers j hj]
    · rw [State.on_qstat_event _ _ _ _ _ _ _ hq, State.on_put_one _ _ _ (by decide) rfl]
    · exact State.raised_event _ _ _ _ _ hq
  · rw [if_neg hpoison]
    exact ⟨rfl, hjudged, hwords, hothers, fun hp => absurd hp hpoison⟩

theorem ButObsCnts.reported {s x : State} (h : ButObsCnts s x) : Reported s x := by
  refine ⟨by rw [h], fun k _ => h.rd k, fun f _ _ => State.get_of_rd (h.rd _) f, ?_⟩
  rw [h]

theorem ButObsCnts.queue {s x : State} (h : ButObsCnts s x) (q : Nat) : x.queue q = s.queue q := by rw [h]; rfl

/-- A read of SYS_QDATA_HI_q removes a word and latches its low half. -/
theorem State.hostRead_qdataHi (s : State) (q : Fin 8) (hboot : s.dev.boot ≠ .held) :
    s.hostRead (SYS_QDATA_HI.key q) =
      (((s.hostSeen (SYS_QDATA_HI.key q)).removeWord q).2.wr (SYS_QDATA_LO.key q)
        (BitVec.ofNat 32 ((s.hostSeen (SYS_QDATA_HI.key q)).removeWord q).1.toNat)).returns
        [BitVec.ofNat 32 (((s.hostSeen (SYS_QDATA_HI.key q)).removeWord q).1.toNat / 2 ^ 32)] := by
  have hreg : ∀ q : Fin 8, regOf (SYS_QDATA_HI.key q) = some SYS_QDATA_HI.desc := by decide +kernel
  have hd : ∀ q : Fin 8, (readers.map Prod.fst).find? (fun d => (d.index (SYS_QDATA_HI.key q)).isSome) =
      some SYS_QDATA_HI.desc := by decide +kernel
  have hi : ∀ q : Fin 8, SYS_QDATA_HI.desc.index (SYS_QDATA_HI.key q) = some (q.val, 0) := by decide +kernel
  have halign : SYS_QDATA_HI.key q % 4 = 0 := by unfold SYS_QDATA_HI.key; omega
  have hread : ∀ t : State, t.readReg (SYS_QDATA_HI.key q) = t.readQdata q := fun t =>
    t.readReg_reader (g := fun s q _ => s.readQdata q) (List.mem_of_getElem? (i := 2) rfl) (hd q) (hi q)
  rw [s.hostRead_chip hboot halign (hreg q) (.inl (by unfold SYS_QDATA_HI.key; omega)), hread]
  rfl

/-! ### Insertions (R241) -/

/-- A record that fits clears its queue's run of losses and touches no other queue. -/
theorem State.insertWords_fits_queue (s : State) (q : Fin 8) (ws : List (BitVec 64))
    (h : s.fill q + ws.length + 1 ≤ queueCap q) :
    ((s.insertWords q ws).2.queue q).lostRun = 0 ∧ ((s.insertWords q ws).2.queue q).inRun = false ∧
    ∀ j, j ≠ q.val → (s.insertWords q ws).2.queue j = s.queue j := by
  let qu : Queue := { s.queue q with
    words := (s.queue q).words ++ owedMarkers (s.queue q) ++ ws, lostRun := 0, inRun := false, resetOwed := none }
  have he : s.insertWords q ws = (true, (s.setQueue q qu).judgeLevel q) := if_pos h
  obtain ⟨armed, hqueue⟩ := (s.setQueue q qu).queue_judgeLevel q
  rw [he]
  refine ⟨?_, ?_, fun j hj => ?_⟩
  · rw [hqueue, if_pos rfl, State.queue_setQueue, if_pos rfl]
  · rw [hqueue, if_pos rfl, State.queue_setQueue, if_pos rfl]
  · rw [hqueue, if_neg hj, State.queue_setQueue, if_neg hj]

/-- Words lost whole are counted in their queue's run of losses; a new run raises OVERFLOW. -/
theorem State.loseWords_queue (s : State) (q : Fin 8) (n : Nat) :
    (∀ j, (s.loseWords q n).queue j =
      if j = q.val then { s.queue q with lostRun := (s.queue q).lostRun + n, inRun := true } else s.queue j) ∧
    (s.loseWords q n).on (SYS_QSTAT.key q) SYS_QSTAT.OVERFLOW_HIST = true ∧
    ((s.queue q).inRun = false → (s.loseWords q n).raised (363 + q) 0x81 true) := by
  have hq := queueSource_lt q q.isLt
  unfold State.loseWords
  dsimp only
  split
  · next hrun => 
    refine ⟨fun j => ?_, State.on_put_one _ _ _ (by decide) rfl, fun h => ?_⟩
    · rw [State.queue_put, State.queue_bump, State.queue_setQueue]
    · rw [h] at hrun; exact absurd hrun (by decide)
  · refine ⟨fun j => ?_, ?_, fun _ => State.raised_event _ _ _ _ _ hq⟩
    · rw [State.queue_event _ _ _ _ _ _ hq, State.queue_put, State.queue_bump, State.queue_setQueue]
    · rw [State.on_qstat_event _ _ _ _ _ _ _ hq, State.on_put_one _ _ _ (by decide) rfl]

theorem State.insertWords_lost (s : State) (q : Nat) (ws : List (BitVec 64))
    (h : queueCap q < s.fill q + ws.length + 1) : s.insertWords q ws = (false, s.loseWords q ws.length) :=
  if_neg (by omega)

/-! ### LEVEL, LEGACY, resets (R242, R243) -/

/-- The queue as a reset leaves it. -/
def resetQueueOf (qu : Queue) : Queue :=
  { qu with words := [], lostRun := 0, inRun := false,
            resetOwed := some (qu.words.length + qu.lostRun + qu.resetOwed.getD 0), levelArmed := true }

/-- A reset empties its queue, which is below any LEVEL then. -/
theorem State.resetQueue_eq (s : State) (q : Nat) : s.resetQueue q = s.setQueue q (resetQueueOf (s.queue q)) := by
  let owed := (s.queue q).words.length + (s.queue q).lostRun + (s.queue q).resetOwed.getD 0
  let qu : Queue := { s.queue q with words := [], lostRun := 0, inRun := false, resetOwed := some owed }
  have hqueue : (s.setQueue q qu).queue q = qu := by rw [State.queue_setQueue, if_pos rfl]
  have hbelow : (s.setQueue q qu).get (SYS_QCFG.key q) SYS_QCFG.LEVEL = 0 ∨
      (s.setQueue q qu).fill q < (s.setQueue q qu).get (SYS_QCFG.key q) SYS_QCFG.LEVEL := by
    rw [State.fill, hqueue]
    exact Nat.eq_zero_or_pos _
  refine (State.judgeLevel_below _ _ hbelow).trans ?_
  rw [hqueue]
  exact State.setQueue_setQueue _ _ (fun h => by simpa using congrArg Queue.resetOwed h)
    (fun h => by simpa using congrArg Queue.resetOwed h)

theorem State.get_levelWrite_level (s : State) (q : Nat) (level : BitVec 14) :
    (s.put (SYS_QCFG.key q) SYS_QCFG.LEVEL level.toNat).get (SYS_QCFG.key q) SYS_QCFG.LEVEL = level.toNat := by
  rw [State.get_put_same _ _ _ _ (by decide)]
  exact Nat.mod_eq_of_lt level.isLt

/-- A LEVEL above the fill, or 0, arms the queue. -/
theorem State.levelWrite_below (s : State) (q : Nat) (level : BitVec 14)
    (h : level.toNat = 0 ∨ (s.queue q).words.length < level.toNat) :
    s.levelWrite q level.toNat = (s.put (SYS_QCFG.key q) SYS_QCFG.LEVEL level.toNat).setQueue q
      { s.queue q with levelArmed := true } := by
  let y := (s.put (SYS_QCFG.key q) SYS_QCFG.LEVEL level.toNat).setQueue q { s.queue q with levelArmed := true }
  have hqueue : y.queue q = { s.queue q with levelArmed := true } := by
    rw [State.queue_setQueue, if_pos rfl]
  have hlevel : y.get (SYS_QCFG.key q) SYS_QCFG.LEVEL = level.toNat :=
    (State.setQueue_get _ _ _ _ _).trans (s.get_levelWrite_level q level)
  refine (State.judgeLevel_below y q ?_).trans ?_
  · rwa [hlevel, State.fill, hqueue]
  · rw [hqueue]
    exact State.setQueue_twice _ _ _

/-- A LEVEL at or below the fill is a crossing. -/
theorem State.levelWrite_crosses (s : State) (q : Nat) (level : BitVec 14) (hlevel : level.toNat ≠ 0)
    (hfill : level.toNat ≤ (s.queue q).words.length) :
    ∃ y : State, Reported (s.put (SYS_QCFG.key q) SYS_QCFG.LEVEL level.toNat) y ∧
      y.queues = ((s.put (SYS_QCFG.key q) SYS_QCFG.LEVEL level.toNat).setQueue q
        { s.queue q with levelArmed := true }).queues ∧
      (∀ k, y.rd k = (s.put (SYS_QCFG.key q) SYS_QCFG.LEVEL level.toNat).rd k) ∧ y.cmd = s.cmd ∧
      s.levelWrite q level.toNat = ((y.setQueue q { s.queue q with levelArmed := false }).put (SYS_QSTAT.key q)
        SYS_QSTAT.LEVEL_HIST 1).event (queueSource q) 0x80 true q := by
  let y := (s.put (SYS_QCFG.key q) SYS_QCFG.LEVEL level.toNat).setQueue q { s.queue q with levelArmed := true }
  have hqueue : y.queue q = { s.queue q with levelArmed := true } := by
    rw [State.queue_setQueue, if_pos rfl]
  have hget : y.get (SYS_QCFG.key q) SYS_QCFG.LEVEL = level.toNat :=
    (State.setQueue_get _ _ _ _ _).trans (s.get_levelWrite_level q level)
  refine ⟨y, Reported.setQueue _ _ _, rfl, fun k => State.setQueue_rd _ _ _ _, rfl, ?_⟩
  have hcross := State.judgeLevel_crosses y q (by rwa [hget]) (by rwa [hget, State.fill, hqueue]) (by rw [hqueue])
  rw [hqueue] at hcross
  exact hcross

end Sys2Proof.Machine

open Sys2Proof Sys2Proof.Machine

/-- Settles O11: the read counts its bus happening, removes a word and writes its low half to the latch. -/
theorem queueReadRemovesWord : Obligations.QueueReadRemovesWord := by
  unfold Obligations.QueueReadRemovesWord
  intro s q hboot
  have hseen := s.hostSeen_butObsCnts (SYS_QDATA_HI.key q)
  have hread := s.hostRead_qdataHi q hboot
  generalize s.hostSeen (SYS_QDATA_HI.key q) = t at hseen hread
  refine ⟨fun hempty => answers_of rfl ?_, fun w ws hwords => answers_of rfl ?_⟩
  · have hnone : t.removeWord q = (0, t) := by
      simp only [State.removeWord, hseen.queue, hempty]
    have he : s.hostRead (SYS_QDATA_HI.key q) = (t.wr (SYS_QDATA_LO.key q) 0).returns [0] := by
      rw [hread, hnone]
      simp
    rw [he]
    exact ⟨.of_onlyRegs hseen (.wr t (SYS_QDATA_LO.key q) 0 (List.mem_singleton_self _)) [0], State.rd_wr_same t _ 0⟩
  · obtain ⟨hw, hreport, hleft, hothers, hpoison⟩ := t.removeWord_cons q ((congrArg Queue.words (hseen.queue q)).trans hwords)
    rw [hread, hw]
    generalize (t.removeWord q).2 = y at hreport hleft hothers hpoison ⊢
    have hy := hseen.reported.trans hreport
    refine ⟨⟨y, hy, ?_, fun k hk => State.rd_wr_other _ _ _ _ hk⟩, State.rd_wr_same _ _ _, hleft, fun j hj => ?_,
      fun hp => ⟨?_, (hpoison hp).2⟩⟩
    · rw [← hy.pins]; rfl
    · exact (hothers j hj).trans (hseen.queue j)
    · refine Eq.trans (State.on_of_rd (State.rd_wr_other _ _ _ _ ?_) _) (hpoison hp).1
      unfold SYS_QSTAT.key SYS_QDATA_LO.key; omega

/-- Settles O13: a record that fits is inserted after the markers owed, one that does not is a loss of the queue. -/
theorem queueInsertion : Obligations.QueueInsertion := by
  unfold Obligations.QueueInsertion
  intro s q ws
  have hreport := s.insertWords_reported q ws q.isLt
  refine ⟨fun hfits => ?_, fun hfull => ?_, fun j hj => ?_⟩
  · obtain ⟨htrue, hwords, _⟩ := s.insertWords_fits q ws q.isLt hfits
    obtain ⟨hlost, hrun, _⟩ := s.insertWords_fits_queue q ws hfits
    exact ⟨htrue, hreport, hwords, hlost, hrun⟩
  · obtain ⟨hqueue, hhist, hevent⟩ := s.loseWords_queue q ws.length
    rw [s.insertWords_lost q ws hfull] at hreport ⊢
    have hq := hqueue q
    rw [if_pos rfl] at hq
    exact ⟨rfl, hreport, by rw [hq], by rw [hq], hhist, hevent⟩
  · by_cases hfits : s.fill q + ws.length + 1 ≤ queueCap q
    · exact (s.insertWords_fits_queue q ws hfits).2.2 j hj
    · rw [s.insertWords_lost q ws (by omega), (s.loseWords_queue q ws.length).1 j, if_neg hj]

/-- Settles O14: LEVEL is judged anew, a change of LEGACY and a mismatch reset the queue, and a reset queue is below any
LEVEL. -/
theorem queueRegisterWrites : Obligations.QueueRegisterWrites := by
  unfold Obligations.QueueRegisterWrites
  intro s q hboot qu empty
  have hq := queueSource_lt q q.isLt
  refine ⟨fun level => answers_of rfl ?_, fun on hon => answers_of rfl ?_, fun on hon => answers_of rfl ?_,
    answers_of rfl ?_, fun hlegacy => answers_of rfl ?_, fun hlegacy => answers_of rfl ?_⟩
  all_goals rw [State.alive_of_booted hboot]
  · by_cases hbelow : level.toNat = 0 ∨ (s.queue q).words.length < level.toNat
    · rw [s.levelWrite_below q level hbelow]
      refine ⟨(State.setQueue_get _ _ _ _ _).trans (s.get_levelWrite_level q level),
        fun _ => ⟨_, .put _ _ _ _ (by simp), rfl⟩, fun h0 hle => ?_⟩
      exact absurd hbelow (not_or.mpr ⟨h0, Nat.not_lt.mpr hle⟩)
    · obtain ⟨h0, hle⟩ := not_or.mp hbelow
      obtain ⟨y, hy, hqueues, hrd, hcmd, he⟩ := s.levelWrite_crosses q level h0 (Nat.not_lt.mp hle)
      rw [he]
      have hx := (Reported.setQueue y q { s.queue q with levelArmed := false }).trans
        ((Reported.putQstat _ q q.isLt SYS_QSTAT.LEVEL_HIST 1).trans (.event _ (queueSource q) 0x80 true q hq))
      refine ⟨?_, fun h => absurd h hbelow, fun _ _ => ⟨?_, fun j hj => ?_, ?_, State.raised_event _ _ _ _ _ hq,
        ?_, ?_, ?_, ?_⟩⟩
      · rw [hx.get (reportReg_qcfg q), State.get_of_rd (hrd _), s.get_levelWrite_level]
      · rw [State.queue_event _ _ _ _ _ _ hq, State.queue_put, State.queue_setQueue, if_pos rfl]
      · rw [State.queue_event _ _ _ _ _ _ hq, State.queue_put, State.queue_setQueue, if_neg hj]
        unfold State.queue
        rw [hqueues]
        exact (State.queue_setQueue _ _ _ _).trans (if_neg hj)
      · rw [State.on_qstat_event _ _ _ _ _ _ _ hq, State.on_put_one _ _ _ (by decide) rfl]
      · rw [hx.ports, hy.ports, State.put_ports]
      · rw [hx.cal, hy.cal, State.put_cal]
      · rw [State.event_cmd _ _ _ _ _ hq, State.put_cmd, State.setQueue_cmd, hcmd]
      · rw [hx.grate, hy.grate, State.put_grate]
  · exact if_pos hon
  · have he : s.legacyWrite q on = (s.put (SYS_QCFG.key q) SYS_QCFG.LEGACY (bit on)).resetQueue q := if_neg hon
    rw [he, State.resetQueue_eq]
    exact ⟨⟨_, .put _ _ _ _ (by simp), rfl⟩,
      (State.setQueue_on _ _ _ _ _).trans (State.on_put_bit _ _ _ _ (by decide) rfl)⟩
  · exact s.resetQueue_eq q
  · exact if_pos (by simp [hlegacy])
  · have he : s.ptrMismatch q = ((s.resetQueue q).put (SYS_QSTAT.key q) SYS_QSTAT.MISMATCH_HIST 1).event
        (queueSource q) 0x83 true q := if_neg (by simp [hlegacy])
    rw [he, State.resetQueue_eq]
    refine ⟨((Reported.setQueue _ _ _).trans (.putQstat _ _ q.isLt _ _)).trans (.event _ _ _ _ _ hq), ?_, fun j hj => ?_,
      ?_, State.raised_event _ _ _ _ _ hq⟩
    · rw [State.queue_event _ _ _ _ _ _ hq, State.queue_put, State.queue_setQueue, if_pos rfl]; rfl
    · rw [State.queue_event _ _ _ _ _ _ hq, State.queue_put, State.queue_setQueue, if_neg hj]
    · rw [State.on_qstat_event _ _ _ _ _ _ _ hq, State.on_put_one _ _ _ (by decide) rfl]
end

section
/-! PROOF. Writes of registers whose writing does more than settle their fields, and of counters (R275, R278). -/

namespace Sys2Proof.Machine

/-! ### Registers whose writing does more than settle their fields -/

/-- Each writer stands once in the list. -/
theorem writers_nodup : (writers.map Prod.fst).Nodup := by decide +kernel

theorem banked_find_none {k : Nat} (h : isBanked k = false) : banked.find? (fun b => (b.1.index k).isSome) = none := by
  rw [List.find?_eq_none]
  intro b hb
  have := List.any_eq_false.mp h b hb
  simpa using this

/-- A register with one bank is written by the writer of the first array that holds its key. -/
theorem State.writeReg_writer (s : State) {d e : RegDesc} {g : State → Nat → Nat → Word → State} {k i j : Nat} (v : Word)
    (hbank : isBanked k = false) (hg : (d, g) ∈ writers)
    (hd : (writers.map Prod.fst).find? (fun d => (d.index k).isSome) = some d) (hi : d.index k = some (i, j)) :
    s.writeReg k e v = g s i j v := by
  rw [List.find?_map, Option.map_eq_some_iff] at hd
  obtain ⟨w, hw, hwd⟩ := hd
  have hwg : w = (d, g) := List.inj_on_of_nodup_map writers_nodup (List.mem_of_find?_eq_some hw) hg hwd
  have hf : (writers.find? fun w => (w.1.index k).isSome) = some (d, g) := hwg ▸ hw
  simp only [State.writeReg, banked_find_none hbank, hf, hi]

/-- A register with one bank and no writer of its own takes a write by its access types. -/
theorem State.writeReg_plain (s : State) {d : RegDesc} {k : Nat} (v : Word) (hbank : isBanked k = false)
    (hw : (writers.all fun w => (w.1.index k).isNone) = true) : s.writeReg k d v = s.writePlain k d v := by
  have hf : (writers.find? fun w => (w.1.index k).isSome) = none := by
    rw [List.find?_eq_none]
    intro w hmem
    have := List.all_eq_true.mp hw w hmem
    simpa using this
  simp only [State.writeReg, banked_find_none hbank, hf]

/-- A whole, aligned write that leads to a register: its bus happening is counted, and the register is written. -/
theorem State.writeAddr_reg (s : State) (q : Req) {addr k : Nat} {d : RegDesc} (v : Word) (halign : addr % 4 = 0)
    (habsent : s.absentBank addr = false) (hloc : s.locate addr = .reg k d) (hright : isBanked k = false ∨ q.expert = true) :
    s.writeAddr q addr v true = (false, (s.obsBus true q.bus addr q.host 1).writeReg k d v) := by
  have hl := ((s.obsBus_butObsCnts true q.bus addr q.host 1).locate addr).trans hloc
  have hlevel : (isBanked k && !q.expert) = false := by rcases hright with h | h <;> simp [h]
  have hfirst : s.writeAddr q addr v true = s.writeWith q addr fun _ _ => v :=
    (if_neg (by simp [halign])).trans (if_neg (by simp [habsent]))
  simp only [hfirst, State.writeWith, hl, hlevel, Bool.false_eq_true, if_false]

theorem ButObsCnts.hostAccess {s x : State} (h : ButObsCnts s x) (ks : List Nat) : HostAccess s x ks s.pins.lastRead := by
  refine ⟨?_, fun k _ => h.rd k⟩
  rw [h]

/-! ### Counters -/

/-- An increment of 0 leaves a counter as it is. -/
theorem addCtr_zero (wrap : Bool) (c : Ctr) (h : c.value ≤ ctrTop) : addCtr wrap c 0 = c := if_pos h

theorem addCtr_fits (wrap : Bool) (c : Ctr) (n : Nat) (h : c.value + n < 2 ^ 48) :
    addCtr wrap c n = { c with value := c.value + n } := if_pos (by unfold ctrTop; omega)

/-- A saturating counter holds at its top, with OVF. -/
theorem addCtr_holds (c : Ctr) (n : Nat) (h : 2 ^ 48 ≤ c.value + n) :
    addCtr false c n = { c with value := 2 ^ 48 - 1, ovf := true } :=
  (if_neg (by unfold ctrTop; omega)).trans (if_neg (by simp))

theorem word_lt (v : Word) : v.toNat < 2 ^ 48 := lt_trans v.isLt (by decide)

/-- Port counter `k` counts up by its own mode; the other counters of its port stay. -/
theorem State.cnts_countPort (s : State) (p n : Nat) (k : Fin 4) (j : Nat) :
    ((s.countPort p k n).port p).cnts.getD j {} = if j = k.val then
      counted ((s.get (PRT_CNT_CFG.key p) PRT_CNT_CFG.WRAP_MODE).testBit k) ((s.port p).cnts.getD k {}) n
      else (s.port p).cnts.getD j {} := by
  by_cases hn : n = 0
  · rw [State.countPort, if_pos hn, counted, if_pos hn]
    split
    · next h => rw [h]
    · rfl
  · rw [State.countPort, if_neg hn, if_pos k.isLt, counted, if_neg hn, State.port_updPort, if_pos rfl]
    exact Tbl.getD_store ..

/-- The first four counters of a port stand in its record, and nothing else of the state counts. -/
theorem State.countPort_frame (s : State) (p n : Nat) (k : Fin 4) :
    s.countPort p k n = { s with ports := (s.countPort p k n).ports } ∧
    ∀ q, q ≠ p → (s.countPort p k n).port q = s.port q := by
  unfold State.countPort
  split
  · exact ⟨rfl, fun _ _ => rfl⟩
  · rw [if_pos k.isLt]
    exact ⟨rfl, fun q hq => (State.port_updPort ..).trans (if_neg hq)⟩

theorem isBanked_prtCntLo : ∀ (p : Port) (k : Fin 4), isBanked (PRT_CNT_LO.key p k) = false := by decide +kernel

/-- Writing a port counter's register writes the counter. -/
theorem State.writeReg_prtCntLo (s : State) (p : Port) (k : Fin 4) (e : RegDesc) (v : Word) :
    s.writeReg (PRT_CNT_LO.key p k) e v = s.writePortCnt p k v 0 := by
  have hd : ∀ (p : Port) (k : Fin 4), (writers.map Prod.fst).find? (fun d => (d.index (PRT_CNT_LO.key p k)).isSome) =
      some PRT_CNT_LO.desc := by decide +kernel
  have hi : ∀ (p : Port) (k : Fin 4), PRT_CNT_LO.desc.index (PRT_CNT_LO.key p k) = some (p.val, k.val) := by decide +kernel
  exact s.writeReg_writer (g := fun s p k v => s.writePortCnt p k v 0) v (isBanked_prtCntLo p k)
    (List.mem_of_getElem? (i := 11) rfl) (hd p k) (hi p k)

/-- A write of a port counter of a framer block that works stores the value and leaves OVF. -/
theorem State.writeAddr_prtCntLo (s : State) (q : Req) (p : Port) (k : Fin 4) (v : Word)
    (hvariant : s.dev.variant48 = false ∨ p.val < 48)
    (hup : s.domainUp (domFramer (s.physOf (framerPos p))) = true) :
    (s.writeAddr q (PRT_CNT_LO.key p k) v true).2 =
      (s.obsBus true q.bus (PRT_CNT_LO.key p k) q.host 1).updPort p fun x =>
        { x with cnts := x.cnts.store k { value := v.toNat, ovf := (x.cnts.getD k {}).ovf } {} } := by
  have habsent : s.absentBank (PRT_CNT_LO.key p k) = false := by
    rw [State.absentBank_prtCntLo]
    rcases hvariant with h | h <;> simp [h]
  have halign : PRT_CNT_LO.key p k % 4 = 0 := by unfold PRT_CNT_LO.key; omega
  rw [s.writeAddr_reg q v halign habsent (s.locate_prtCntLo p k hup) (.inl (isBanked_prtCntLo p k)),
    State.writeReg_prtCntLo, State.writePortCnt, State.countPort, if_pos rfl]

/-- With the counters running, a write of an observation counter stores the value and then counts up. -/
theorem State.cnts_writeObsCnt (s : State) (n : Nat) (v : Word) (inc : Nat) (h : s.obsFrozen = false)
    (hfits : v.toNat + inc < 2 ^ 48) :
    s.writeObsCnt n v inc = { s with obs := { s.obs with cnts := (s.writeObsCnt n v inc).obs.cnts } } ∧
    ∀ j, (s.writeObsCnt n v inc).obs.cnts.getD j {} = if j = n then
      { value := v.toNat + inc, ovf := (s.obs.cnts.getD n {}).ovf } else s.obs.cnts.getD j {} := by
  let t := s.updObs fun o => { o with cnts := o.cnts.store n { value := v.toNat, ovf := (o.cnts.getD n {}).ovf } {} }
  have ht : ∀ j, t.obs.cnts.getD j {} = if j = n then { value := v.toNat, ovf := (s.obs.cnts.getD n {}).ovf }
      else s.obs.cnts.getD j {} := fun j => Tbl.getD_store ..
  by_cases hinc : inc = 0
  · have he : s.writeObsCnt n v inc = t := if_pos (.inl hinc)
    rw [he, hinc]
    exact ⟨rfl, ht⟩
  · have he : s.writeObsCnt n v inc =
        t.updObs fun o => { o with cnts := o.cnts.store n (addCtr false (o.cnts.getD n {}) inc) {} } :=
      if_neg (not_or.mpr ⟨hinc, fun hf => Bool.false_ne_true (h.symm.trans hf)⟩)
    rw [he]
    refine ⟨rfl, fun j => (Tbl.getD_store ..).trans ?_⟩
    rw [ht, ht, if_pos rfl, addCtr_fits _ _ _ hfits]
    split <;> rfl

end Sys2Proof.Machine

open Sys2Proof Sys2Proof.Machine

/-- Settles O12: a counter is stored whole by its write, and then counts up as any counter does. -/
theorem counterWrites : Obligations.CounterWrites := by
  unfold Obligations.CounterWrites
  refine fun s hboot => ⟨fun p k v inc hvariant hup => answers_of rfl ?_, fun n v inc hfrozen hfits => answers_of rfl ?_⟩
  all_goals rw [State.alive_of_booted hboot]
  · have hseen := s.obsBus_butObsCnts true (s.hostReq (.pcie 0)).bus (PRT_CNT_LO.key p k) (s.hostReq (.pcie 0)).host 1
    rw [s.writeAddr_prtCntLo _ p k v hvariant hup]
    generalize s.obsBus true _ _ _ 1 = t at hseen ⊢
    have hport := fun q => State.port_updPort t p q fun x =>
      { x with cnts := x.cnts.store k { value := v.toNat, ovf := (x.cnts.getD k {}).ovf } {} }
    have hget := fun key f => State.get_congr (s := t) (t := t.updPort p fun x =>
      { x with cnts := x.cnts.store k { value := v.toNat, ovf := (x.cnts.getD k {}).ovf } {} }) rfl key f
    have hframe : t.updPort p (fun x =>
      { x with cnts := x.cnts.store k { value := v.toNat, ovf := (x.cnts.getD k {}).ovf } {} }) =
        { t with ports := (t.updPort p fun x =>
          { x with cnts := x.cnts.store k { value := v.toNat, ovf := (x.cnts.getD k {}).ovf } {} }).ports } := rfl
    generalize (t.updPort p _) = u at hport hget hframe ⊢
    obtain ⟨hcount, hother⟩ := u.countPort_frame p inc k
    have hcnts := u.cnts_countPort p inc k
    have hwrap : u.get (PRT_CNT_CFG.key p) PRT_CNT_CFG.WRAP_MODE = s.get (PRT_CNT_CFG.key p) PRT_CNT_CFG.WRAP_MODE :=
      (hget _ _).trans (State.get_of_rd (hseen.rd _) _)
    have hstored : ∀ j, (u.port p).cnts.getD j {} = if j = k.val then
        { value := v.toNat, ovf := ((s.port p).cnts.getD k {}).ovf } else (s.port p).cnts.getD j {} := fun j => by
      rw [hport, if_pos rfl, ← hseen.port]
      exact Tbl.getD_store ..
    rw [hstored, if_pos rfl, hwrap] at hcnts
    have hk := hcnts k
    rw [if_pos rfl, counted] at hk
    refine ⟨⟨t, hseen.hostAccess _, ?_⟩, fun q hq => ?_, fun j hj => ?_, fun hfits => ?_, fun htop hsat => ?_⟩
    · rw [hcount, hframe]
    · rw [hother q hq, hport, if_neg hq, hseen.port]
    · rw [hcnts, if_neg hj, hstored, if_neg hj]
    · rw [hk]
      split
      · next h => rw [h]; rfl
      · rw [addCtr_fits _ _ _ hfits]
    · have hpos : inc ≠ 0 := fun h => by have := word_lt v; omega
      rw [hk, if_neg hpos, hsat, addCtr_holds _ _ htop]
  · obtain ⟨hframe, hcnts⟩ := s.cnts_writeObsCnt n v inc hfrozen hfits
    exact ⟨hframe, (hcnts n).trans (if_pos rfl), fun j hj => (hcnts j).trans (if_neg hj)⟩
end

section
/-! PROOF. Classes of SEQ (R348), rows of effective times (Table 02-3), flips (R55), access types (Table 17-5), masks and
message-signalled interrupts (R400), the claim pins (R311). -/

namespace Sys2Proof.Machine

/-! ### SEQ -/

theorem seqClass_ahead {h seq : Nat} (seen : List Nat) (ha : 1 ≤ (seq + 65536 - h) % 65536)
    (hb : (seq + 65536 - h) % 65536 ≤ 32767) : seqClass (some h) seen seq = .new := if_pos ⟨ha, hb⟩

theorem seqClass_behind {h seq : Nat} (seen : List Nat)
    (hahead : ¬ (1 ≤ (seq + 65536 - h) % 65536 ∧ (seq + 65536 - h) % 65536 ≤ 32767))
    (ha : 1 ≤ (h + 65536 - seq) % 65536) (hb : (h + 65536 - seq) % 65536 ≤ 1023) :
    seqClass (some h) seen seq = if seq ∈ seen then .replay else .late := by
  refine (if_neg hahead).trans ?_
  by_cases hs : seq ∈ seen
  · rw [if_pos hs]
    exact if_neg (by simp [hs])
  · rw [if_neg hs]
    exact if_pos ⟨ha, hb, by simpa using hs⟩

theorem seqClass_replay {h seq : Nat} (seen : List Nat)
    (hahead : ¬ (1 ≤ (seq + 65536 - h) % 65536 ∧ (seq + 65536 - h) % 65536 ≤ 32767))
    (hbehind : ¬ (1 ≤ (h + 65536 - seq) % 65536 ∧ (h + 65536 - seq) % 65536 ≤ 1023)) :
    seqClass (some h) seen seq = .replay :=
  (if_neg hahead).trans (if_neg fun hh => hbehind ⟨hh.1, hh.2.1⟩)

/-! ### Effective times of port keys -/

theorem atOrBeyond_iff {pfn n : Nat} (hn : n < 2 ^ 32) :
    atOrBeyond pfn n = true ↔ (pfn + 2 ^ 32 - n) % 2 ^ 32 < 2 ^ 31 := by
  rw [atOrBeyond, Nat.mod_eq_of_lt hn, decide_eq_true_iff]

/-- A key at or behind the frame number, or nearer than the lead, is late. -/
theorem effPort_late (q : Nat) {pfn lead n : Nat} (late : Bool) (hp : pfn < 2 ^ 32) (hn : n < 2 ^ 32)
    (h : (pfn + 2 ^ 32 - n) % 2 ^ 32 < 2 ^ 31 ∨ (n + 2 ^ 32 - pfn) % 2 ^ 32 < lead) :
    effPort q pfn lead n late = if late then .scheduled (.port q n) true else .refused stLATE := by
  refine if_pos ?_
  rwa [atOrBeyond_iff hn, Nat.mod_eq_of_lt hp]

/-- Any other key is too far or is taken. -/
theorem effPort_ahead (q : Nat) {pfn lead n : Nat} (late : Bool) (hp : pfn < 2 ^ 32) (hn : n < 2 ^ 32)
    (h1 : 2 ^ 31 ≤ (pfn + 2 ^ 32 - n) % 2 ^ 32) (h2 : lead ≤ (n + 2 ^ 32 - pfn) % 2 ^ 32) :
    effPort q pfn lead n late =
      if 2 ^ 24 < (n + 2 ^ 32 - pfn) % 2 ^ 32 then .refused stTOO_FAR else .scheduled (.port q n) false := by
  refine (if_neg ?_).trans ?_
  · rw [atOrBeyond_iff hn, Nat.mod_eq_of_lt hp]
    omega
  · rw [Nat.mod_eq_of_lt hp]

/-! ### Flips -/

theorem State.wr_rdStaged (s : State) (k : Nat) (w : Word) (j : Nat) : (s.wr k w).rdStaged j = s.rdStaged j := rfl

theorem State.flipRegs_onlyRegs (s : State) (ks : List Nat) : OnlyRegs s (s.flipRegs ks) ks := by
  induction ks generalizing s with
  | nil => exact .refl s []
  | cons k ks ih =>
    exact (OnlyRegs.wr s k (s.rdStaged k) (by simp)).trans ((ih _).mono (List.subset_cons_self k ks))

theorem State.flipRegs_rdStaged (s : State) (ks : List Nat) (k : Nat) : (s.flipRegs ks).rdStaged k = s.rdStaged k := by
  unfold State.rdStaged
  rw [(s.flipRegs_onlyRegs ks).1]

/-- The active bank takes the staged one, wherever in the list the register stands. -/
theorem State.flipRegs_rd (s : State) {ks : List Nat} {k : Nat} (h : k ∈ ks) : (s.flipRegs ks).rd k = s.rdStaged k := by
  induction ks generalizing s with
  | nil => exact absurd h List.not_mem_nil
  | cons j ks ih =>
    by_cases hk : k ∈ ks
    · exact ih (s.wr j (s.rdStaged j)) hk
    · have hj : k = j := (List.mem_cons.mp h).resolve_right hk
      subst hj
      exact ((State.flipRegs_onlyRegs _ ks).2 k hk).trans (State.rd_wr_same ..)

/-! ### Access types -/

/-- The bit that a software write of `v` leaves where a field of the access type holds `old`. -/
def Access.bitAfter (a : Access) (old v : Bool) : Bool :=
  match a with
  | .rw | .rwh | .cnt => v
  | .w1c => old && !v
  | .ro | .sc | .wo => old

theorem Fld.getLsbD_set (f : Fld) (w : Word) (v i : Nat) (hi : i < 32) :
    (f.set w v).getLsbD i = if f.lo ≤ i ∧ i < f.lo + f.width then v.testBit (i - f.lo) else w.getLsbD i := by
  rw [Fld.set, BitVec.getLsbD_ofNat, putBits_testBit]
  by_cases h1 : i < f.lo
  · rw [if_pos h1, if_neg (by omega)]; simp [hi, BitVec.getLsbD]
  · by_cases h2 : i < f.lo + f.width
    · rw [if_neg h1, if_pos h2, if_pos ⟨by omega, h2⟩]; simp [hi]
    · rw [if_neg h1, if_neg h2, if_neg (by omega)]; simp [hi, BitVec.getLsbD]

/-- A field is read from its own bits. -/
theorem Fld.get_congr (f : Fld) {a b : Word} (h : ∀ i, f.lo ≤ i → i < f.lo + f.width → a.getLsbD i = b.getLsbD i) :
    f.get a = f.get b := by
  refine Nat.eq_of_testBit_eq fun i => ?_
  rw [Fld.get, Fld.get, bitsOf, bitsOf, Nat.testBit_mod_two_pow, Nat.testBit_mod_two_pow, Nat.testBit_shiftRight,
    Nat.testBit_shiftRight]
  by_cases hi : i < f.width
  · have := h (f.lo + i) (by omega) (by omega)
    simp only [BitVec.getLsbD] at this
    rw [this]
  · simp [hi]

/-- A write of one field acts on its bits by its access type, and on no other bit. -/
theorem FldDesc.getLsbD_write (f : FldDesc) (v w : Word) (i : Nat) (hi : i < 32) :
    (f.write v w).getLsbD i = if f.fld.lo ≤ i ∧ i < f.fld.lo + f.fld.width then
      f.acc.bitAfter (w.getLsbD i) (v.getLsbD i) else w.getLsbD i := by
  have hset : ∀ x : Word, (f.fld.set w (f.fld.get x)).getLsbD i =
      if f.fld.lo ≤ i ∧ i < f.fld.lo + f.fld.width then x.getLsbD i else w.getLsbD i := fun x => by
    rw [Fld.getLsbD_set _ _ _ _ hi]
    split
    · next h =>
      rw [Fld.get, bitsOf, Nat.testBit_mod_two_pow, Nat.testBit_shiftRight, Nat.add_sub_cancel' h.1]
      simp [BitVec.getLsbD, show i - f.fld.lo < f.fld.width by omega]
    · rfl
  unfold FldDesc.write Access.bitAfter
  cases f.acc
  case rw | rwh | cnt => exact hset v
  case ro | sc | wo => exact (ite_self _).symm
  case w1c =>
    dsimp only
    rw [Fld.getLsbD_set _ _ _ _ hi]
    split
    · next h =>
      rw [Nat.testBit_shiftRight, Nat.add_sub_cancel' h.1]
      change (w &&& ~~~v).getLsbD i = _
      simp [hi]
    · rfl

/-- No two fields of a register overlap, and all lie in its word. -/
def RegDesc.fieldsApart (d : RegDesc) : Bool :=
  d.flds.all (fun f => decide (f.fld.lo + f.fld.width ≤ 32)) &&
  decide (d.flds.Pairwise fun f g => f.fld.lo + f.fld.width ≤ g.fld.lo ∨ g.fld.lo + g.fld.width ≤ f.fld.lo)

theorem allRegs_fieldsApart : (allRegs.all fun d => d.fieldsApart) = true := by decide +kernel

/-- A bit of no field keeps what it holds. -/
theorem foldl_write_outside (flds : List FldDesc) (v w : Word) (i : Nat) (hi : i < 32)
    (h : ∀ f ∈ flds, i < f.fld.lo ∨ f.fld.lo + f.fld.width ≤ i) :
    (flds.foldl (fun w f => f.write v w) w).getLsbD i = w.getLsbD i := by
  induction flds generalizing w with
  | nil => rfl
  | cons f flds ih =>
    have hf := h f List.mem_cons_self
    rw [List.foldl_cons, ih _ fun g hg => h g (List.mem_cons_of_mem _ hg), f.getLsbD_write v w i hi, if_neg (by omega)]

/-- A bit of a field is left as its access type says, whatever the other fields do. -/
theorem foldl_write_inside (flds : List FldDesc) (v w : Word) (i : Nat) (hi : i < 32)
    (hapart : flds.Pairwise fun f g => f.fld.lo + f.fld.width ≤ g.fld.lo ∨ g.fld.lo + g.fld.width ≤ f.fld.lo)
    {f : FldDesc} (hf : f ∈ flds) (hlo : f.fld.lo ≤ i) (hhi : i < f.fld.lo + f.fld.width) :
    (flds.foldl (fun w f => f.write v w) w).getLsbD i = f.acc.bitAfter (w.getLsbD i) (v.getLsbD i) := by
  induction flds generalizing w with
  | nil => exact absurd hf List.not_mem_nil
  | cons g flds ih =>
    obtain ⟨hg, htail⟩ := List.pairwise_cons.mp hapart
    rw [List.foldl_cons]
    rcases List.mem_cons.mp hf with rfl | hmem
    · rw [foldl_write_outside _ _ _ _ hi fun e he => by have := hg e he; omega, f.getLsbD_write v w i hi,
        if_pos ⟨hlo, hhi⟩]
    · have := hg f hmem
      rw [ih _ htail hmem, g.getLsbD_write v w i hi, if_neg (by omega)]

/-! ### The claim pins -/

/-- A pulse within 0.125 µs of a code's width carries the code. -/
theorem pulseCode_code {e : Int} {w v : Nat} (hv : v < 256) (he : e.natAbs ≤ 5000) (hw : w ≤ 103625)
    (hlo : 8000 + 375 * v ≤ w + 125) (hhi : w ≤ 8125 + 375 * v) : pulseCode e w = some v := by
  have hcode : (w + 187 - 8000) / 375 = v := by omega
  refine (if_pos ⟨he, hw, by omega⟩).trans ?_
  simp only [hcode]
  exact if_pos ⟨hv, by omega, by omega⟩

/-- A pulse too far from its moment, too wide, or between two codes carries nothing. -/
theorem pulseCode_none {e : Int} {w : Nat} (h : 5000 < e.natAbs ∨ 103625 < w ∨ w < 7875 ∨
    ∃ v, 8125 + 375 * v < w ∧ w + 125 < 8375 + 375 * v) : pulseCode e w = none := by
  unfold pulseCode
  dsimp only
  split
  · next hin =>
    obtain ⟨v, hlo, hhi⟩ : ∃ v, 8125 + 375 * v < w ∧ w + 125 < 8375 + 375 * v := by
      rcases h with h | h | h | h
      · omega
      · omega
      · omega
      · exact h
    have hcode : (w + 187 - 8000) / 375 = v ∨ (w + 187 - 8000) / 375 = v + 1 := by omega
    refine if_neg fun hcodes => ?_
    rcases hcode with hc | hc <;> rw [hc] at hcodes <;> omega
  · rfl

/-- A history bit set stands. -/
theorem State.testBit_histBit (s : State) (k : Nat) (f : Fld) (i : Nat) (h : f.lo + f.width ≤ 32) (hi : i < f.width) :
    ((s.histBit k f i).get k f).testBit i = true := by
  rw [State.histBit, State.get_put_same _ _ _ _ h, Nat.testBit_mod_two_pow, Nat.testBit_or, Nat.testBit_two_pow_self]
  simp [hi]

theorem State.clmLive_rises (s : State) (f : Fld) (code hist : Nat) (h : s.on CLM_STATUS.key f = false) :
    s.clmLive f code hist true = (((s.put CLM_STATUS.key f 1).setCond ⟨srcPair, 0, code⟩ true).histBit CLM_STATUS.key
      CLM_STATUS.HIST hist).event srcPair code true 0 := by
  rw [State.clmLive, if_neg (by simp [h])]
  rfl

/-- The pin channel is lost: its live bit, its condition, its history bit and its event. -/
theorem State.pinsLost_reports (s : State) (h : s.on CLM_STATUS.key CLM_STATUS.PINS_LOST = false) :
    let x := s.clmLive CLM_STATUS.PINS_LOST ePINS_LOST 1 true
    Noted s x [CLM_STATUS.key] ∧ x.on CLM_STATUS.key CLM_STATUS.PINS_LOST = true ∧
    (x.get CLM_STATUS.key CLM_STATUS.HIST).testBit 1 = true ∧ x.raised srcPair ePINS_LOST true := by
  intro x
  let y := (s.put CLM_STATUS.key CLM_STATUS.PINS_LOST 1).setCond ⟨srcPair, 0, ePINS_LOST⟩ true
  let z := y.histBit CLM_STATUS.key CLM_STATUS.HIST 1
  have hx : x = z.event srcPair ePINS_LOST true 0 := s.clmLive_rises _ _ _ h
  have hsrc : srcPair < 384 := by decide
  have hevent : Noted z x [] := hx ▸ .event z srcPair ePINS_LOST true 0 hsrc []
  have hz : Noted s z [CLM_STATUS.key] := ((Noted.put s _ _ _ (List.mem_singleton_self _)).trans
    (.setCond _ _ _ _)).trans (.histBit _ _ _ _ (List.mem_singleton_self _))
  refine ⟨hz.trans (hevent.mono (by simp)), ?_, ?_, hx ▸ State.raised_event z srcPair ePINS_LOST true 0 hsrc⟩
  · refine (hevent.on (k := CLM_STATUS.key) List.not_mem_nil (by decide) _).trans ((State.on_put_field _ _ _ _ _ (by decide) (by decide)).trans ?_)
    exact (State.setCond_on _ _ _ _ _).trans (State.on_put_one s _ _ (by decide) rfl)
  · rw [hevent.get List.not_mem_nil (by decide)]
    exact State.testBit_histBit _ _ _ _ (by decide) (by decide)

/-! ### Message-signalled interrupts -/

/-- The gap has ended: the waiting message leaves if it is still wanted, and waits no more. -/
theorem State.msiGap_ended (s : State) (m : Nat) {t : Nat} (hwait : (s.master m).msiWaiting = true)
    (hlast : (s.master m).msiLast = some t) (hgap : t + s.get (EVT_CTRL.key m) EVT_CTRL.MSI_GAP ≤ s.dev.ticks) :
    s.msiGap m = s.updMaster m fun y =>
      if s.pendingBit m && s.on (EVT_CTRL.key m) EVT_CTRL.MSI_EN then
        { y with msiLast := some s.dev.ticks, msiSent := y.msiSent + 1, msiWaiting := false }
      else { y with msiWaiting := false } := by
  let s1 := s.updMaster m fun x => { x with msiWaiting := false }
  have hregs : s1.regs = s.regs := by rw [show s1 = _ from State.updMaster_eq ..]
  have hdev : s1.dev = s.dev := by rw [show s1 = _ from State.updMaster_eq ..]
  have hends : s.msiGap m = if s1.pendingBit m && s1.on (EVT_CTRL.key m) EVT_CTRL.MSI_EN then s1.sendMsi m else s1 := by
    refine if_pos ?_
    simp [hwait, hlast, hgap]
  have hfree : s1.msiHeld m = false := by
    rw [State.msiHeld, State.master_updMaster_same]
    simp [hlast, hdev, State.get_congr hregs, hgap]
  rw [hends, State.pendingBit_congr hregs, State.on_congr hregs]
  split
  · rw [State.sendMsi, if_neg (by simp [hfree]), State.updMaster_updMaster, hdev]
  · rfl

/-- Within the gap nothing leaves. -/
theorem State.msiGap_held (s : State) (m : Nat) {t : Nat} (hlast : (s.master m).msiLast = some t)
    (hgap : s.dev.ticks < t + s.get (EVT_CTRL.key m) EVT_CTRL.MSI_GAP) : s.msiGap m = s := by
  refine if_neg ?_
  simp [hlast, hgap]

end Sys2Proof.Machine

open Sys2Proof Sys2Proof.Machine

/-- Settles O22: the class is told by the distances ahead of HIGH and behind it, of which one at most is short. -/
theorem sequenceClasses : Obligations.SequenceClasses := by
  unfold Obligations.SequenceClasses
  intro h seq seen hh hseq
  refine ⟨rfl, fun ⟨k, h1, h2, he⟩ => ?_, fun ⟨k, h1, h2, he⟩ => ?_, fun hnew hlate => ?_, ?_, fun x hx => ?_⟩
  · exact seqClass_ahead seen (by omega) (by omega)
  · exact seqClass_behind seen (by omega) (by omega) (by omega)
  · refine seqClass_replay seen (fun ⟨h1, h2⟩ => hnew ⟨_, h1, h2, by omega⟩) (fun ⟨h1, h2⟩ => hlate ⟨_, h1, h2, by omega⟩)
  · exact seqClass_replay _ (by omega) (by omega)
  · rcases List.mem_cons.mp hx with rfl | hmem
    · exact .inl rfl
    · obtain ⟨hin, hkeep⟩ := List.mem_filter.mp hmem
      exact .inr ⟨hin, (of_decide_eq_true hkeep).1⟩

/-- Settles O23: the distance ahead of the frame number, modulo 2^32, decides the row of a port key. -/
theorem effectiveTimes : Obligations.EffectiveTimes := by
  unfold Obligations.EffectiveTimes
  refine ⟨fun now e => rfl, fun now e h => if_pos h, by decide, by decide, by decide, by decide, ?_⟩
  intro q pfn lead n hp hn hlead hle
  refine ⟨fun k hk he => ⟨?_, ?_⟩, fun k h1 h2 he late => ?_, fun k h1 h2 he late => ?_, fun k h1 h2 he => ?_⟩
  · exact effPort_late q false hp hn (by omega)
  · exact effPort_late q true hp hn (by omega)
  · rw [effPort_ahead q late hp hn (by omega) (by omega), if_neg (by omega)]
  · rw [effPort_ahead q late hp hn (by omega) (by omega), if_pos (by omega)]
  · exact effPort_late q false hp hn (by omega)

/-- Settles O29, by induction on the registers that the flip names. -/
theorem flipsCopyStagedBanks : Obligations.FlipsCopyStagedBanks := by
  unfold Obligations.FlipsCopyStagedBanks
  intro s ks
  refine ⟨s.flipRegs_onlyRegs ks, fun k hk => s.flipRegs_rd hk, fun k hk => ?_, s.flipRegs_rdStaged ks⟩
  rw [s.flipRegs_rdStaged, s.flipRegs_rd hk]

/-- Settles O33: the fields of every register are apart, so each is left as its own access type says. -/
theorem accessTypes : Obligations.AccessTypes := by
  unfold Obligations.AccessTypes
  intro d hd old v
  have hfields := List.all_eq_true.mp allRegs_fieldsApart d hd
  simp only [RegDesc.fieldsApart, Bool.and_eq_true, List.all_eq_true, decide_eq_true_iff] at hfields
  obtain ⟨hword, hapart⟩ := hfields
  refine ⟨fun f hf => ?_, fun i hi => ?_⟩
  · have hbits : ∀ i, f.fld.lo ≤ i → i < f.fld.lo + f.fld.width →
        (d.write old v).getLsbD i = f.acc.bitAfter (old.getLsbD i) (v.getLsbD i) := fun i hlo hhi =>
      foldl_write_inside d.flds v old i (lt_of_lt_of_le hhi (hword f hf)) hapart hf hlo hhi
    have hw := hword f hf
    cases hacc : f.acc <;> rw [hacc] at hbits <;> refine f.fld.get_congr fun i hlo hhi => (hbits i hlo hhi).trans ?_
    case w1c => simp [Access.bitAfter, show i < 32 by omega]
    all_goals rfl
  · by_cases h32 : i < 32
    · exact foldl_write_outside d.flds v old i h32 hi
    · rw [BitVec.getLsbD_of_ge _ _ (by omega), BitVec.getLsbD_of_ge _ _ (by omega)]

/-- Settles O15: a mask takes its word; a message leaves at once, or waits for the end of the gap. -/
theorem interruptRows : Obligations.InterruptRows := by
  unfold Obligations.InterruptRows
  intro s m sent wants
  refine ⟨fun hboot k v => answers_of rfl ?_, fun hboot => answers_of rfl ?_, fun t hwait hlast hgap => answers_of rfl ?_,
    fun t hlast hgap => answers_of rfl ?_⟩
  · rw [State.alive_of_booted hboot]
    exact ⟨.wr s _ v (List.mem_singleton_self _), State.rd_wr_same ..⟩
  · rw [State.alive_of_booted hboot, State.rearm, Bool.and_assoc]
    by_cases hw : (s.isGateway && wants) = true
    · rw [if_pos hw, if_neg (by simp [hw]), State.sendMsi]
      split <;> rfl
    · rw [if_neg hw, if_pos (by simpa using hw)]
  · exact s.msiGap_ended m hwait hlast hgap
  · exact s.msiGap_held m hlast hgap

/-- Settles O45: the width nearest to a pulse's tells its code; the fourth bad pair loses the channel. -/
theorem claimPins : Obligations.ClaimPins := by
  unfold Obligations.ClaimPins
  intro s
  refine ⟨fun e w hoff => answers_of rfl (if_pos hoff), fun hon => ?_, fun hkept => answers_of rfl ?_,
    fun hbad hlost => answers_of rfl ?_⟩
  · intro heard
    have hheard : ∀ (e : Int) (w : Nat), heard (pulseCode e w) (s.claimPulse e w) := fun e w => by
      refine (if_neg (by simp [State.pinsOn, hon])).trans ?_
      split <;> rfl
    refine ⟨fun e w v hv he hw hlo hhi => answers_of rfl ?_, fun e w h => answers_of rfl ?_⟩
    · exact pulseCode_code hv he hw hlo hhi ▸ hheard e w
    · exact pulseCode_none h ▸ hheard e w
  · unfold State.pinLoss
    split
    · next h => exact if_pos (hkept.resolve_left (by omega))
    · rfl
  · rw [State.pinLoss, if_pos hbad]
    exact s.pinsLost_reports hlost
end

section
/-! PROOF. FP_IN, references, synthesis loops and clock outputs (R42, R44, R323, R328, R335, R339, R342, R472). -/

namespace Sys2Proof.Machine

/-! ### Notes around another part of the state -/

theorem State.has_put (s : State) (k : Nat) (f : Fld) (v : Nat) (c : Cond) : (s.put k f v).has c = s.has c := rfl
theorem State.has_histBit (s : State) (k : Nat) (f : Fld) (i : Nat) (c : Cond) : (s.histBit k f i).has c = s.has c := rfl

theorem State.has_event (s : State) (source code : Nat) (set : Bool) (entity : Nat) (h : source < 384) (c : Cond) :
    (s.event source code set entity).has c = s.has c := (s.event_raised source code set entity h).has c

/-- What is noted after `s`, time apart, goes on through what a further step notes. -/
theorem Noted.fill_time {s t u : State} {ks : List Nat} (h1 : Noted s { t with time := s.time } ks) (h2 : Noted t u ks) :
    Noted s { u with time := s.time } ks :=
  h1.trans ⟨by rw [h2.1], h2.2.1, h2.2.2⟩

/-- The same where the further step ends in another time. -/
theorem Noted.compose_time {s t u : State} {ks : List Nat} (h1 : Noted s { t with time := s.time } ks)
    (h2 : Noted t { u with time := t.time } ks) : Noted s { u with time := s.time } ks :=
  h1.trans ⟨congrArg (fun z : State => { z with time := s.time }) h2.1, h2.2.1, h2.2.2⟩

theorem Noted.fill_timers {s t u : State} {ks : List Nat} (h1 : Noted s { t with timers := s.timers } ks)
    (h2 : Noted t u ks) : Noted s { u with timers := s.timers } ks :=
  h1.trans ⟨by rw [h2.1], h2.2.1, h2.2.2⟩

theorem Noted.fill_sync {s t u : State} {ks : List Nat} (h1 : Noted s { t with sync := s.sync } ks) (h2 : Noted t u ks) :
    Noted s { u with sync := s.sync } ks :=
  h1.trans ⟨by rw [h2.1], h2.2.1, h2.2.2⟩

/-! ### FP_IN -/

theorem twos_lt (w : Nat) (v : Int) : twos w v < 2 ^ w := by
  have hpos : (0 : Int) < 2 ^ w := Int.pow_pos (by decide)
  have hlt := Int.emod_lt_of_pos v hpos
  have hle := Int.emod_nonneg v (ne_of_gt hpos)
  have : ((2 ^ w : Nat) : Int) = 2 ^ w := by push_cast; rfl
  unfold twos
  omega

theorem condFpLost_ne_misaligned : (⟨177, 0, 0x81⟩ : Cond) ≠ condFpLost := by decide

/-- The offset measured is shown and judged. -/
theorem State.setOffset_shows (s : State) (v : Int) :
    let bad := decide (10 * s.get DPL_CFG.key DPL_CFG.ALIGN_TOL < v.natAbs)
    let x := s.setOffset v
    Noted s { x with time := s.time } [DPL_FRAME_OFFSET.key, DPL_STATUS.key, SYS_TIME_STATUS.key] ∧
    x.time = { s.time with fpOffsetNs := v } ∧
    x.has ⟨177, 0, 0x81⟩ = bad ∧ x.on DPL_STATUS.key DPL_STATUS.FRAME_MISALIGNED = bad ∧
    x.get DPL_FRAME_OFFSET.key DPL_FRAME_OFFSET.OFFSET = twos 32 v ∧ x.has condFpLost = s.has condFpLost ∧
    x.rd SYS_TIME_STATUS.key = s.rd SYS_TIME_STATUS.key := by
  intro bad x
  let ks := [DPL_FRAME_OFFSET.key, DPL_STATUS.key, SYS_TIME_STATUS.key]
  let t : State := { s with time := { s.time with fpOffsetNs := v } }
  let y := t.put DPL_FRAME_OFFSET.key DPL_FRAME_OFFSET.OFFSET (twos 32 v)
  let z := y.put DPL_STATUS.key DPL_STATUS.FRAME_MISALIGNED (bit bad)
  have htol : y.get DPL_CFG.key DPL_CFG.ALIGN_TOL = s.get DPL_CFG.key DPL_CFG.ALIGN_TOL :=
    State.get_put_other t _ _ _ _ _ (by decide)
  have hx : x = z.cond ⟨177, 0, 0x81⟩ bad := by
    change (y.setDpl _ _).cond _ _ = _
    rw [htol]
    rfl
  have hc : Noted z x [] := hx ▸ .cond z _ _ (by decide) []
  have hz : Noted t z ks := (Noted.put t _ _ _ (by simp [ks])).trans (.put y _ _ _ (by simp [ks]))
  refine ⟨Noted.fill_time (Noted.fill_time (t := t) (.refl s ks) hz) (hc.mono (by simp)), ?_, ?_, ?_, ?_, ?_, ?_⟩
  · rw [hc.1]; rfl
  · rw [hx, State.has_cond_same _ _ _ (by decide)]
  · rw [hc.on List.not_mem_nil (by decide), State.on_put_bit y _ _ bad (by decide) rfl]
  · rw [hc.get List.not_mem_nil (by decide), State.get_put_other y _ _ _ _ _ (by decide),
      State.get_put_same t _ _ _ (by decide)]
    exact Nat.mod_eq_of_lt (twos_lt 32 v)
  · rw [hx, State.has_cond_other _ _ _ _ (by decide) condFpLost_ne_misaligned.symm]
    rfl
  · rw [hc.rd List.not_mem_nil (by decide), State.rd_put_other y _ _ _ _ (by decide),
      State.rd_put_other t _ _ _ _ (by decide)]
    rfl

/-- A valid pulse on the root marks its second, ends FP_IN_LOST, and aligns the divider or is measured. -/
theorem State.fpPulse_valid (s : State) {w : Nat} (off : Int) (hroot : s.isGateway = true)
    (hw : framePulse w = true ∨ markerPulse w = true) :
    let v := if s.time.fpAligned then off else 0
    ∃ t : State, s.fpPulse w off = t.setOffset v ∧
      Noted s { t with time := s.time } [DPL_FRAME_OFFSET.key, DPL_STATUS.key, SYS_TIME_STATUS.key] ∧
      t.time = { s.time with marker := markerPulse w, fpAligned := true } ∧ t.has condFpLost = false ∧
      t.get DPL_CFG.key DPL_CFG.ALIGN_TOL = s.get DPL_CFG.key DPL_CFG.ALIGN_TOL ∧
      (s.time.fpAligned = false → t.on SYS_TIME_STATUS.key SYS_TIME_STATUS.FP_IN_VALID = true) ∧
      (s.time.fpAligned = true → t.rd SYS_TIME_STATUS.key = s.rd SYS_TIME_STATUS.key) := by
  intro v
  let ks := [DPL_FRAME_OFFSET.key, DPL_STATUS.key, SYS_TIME_STATUS.key]
  let s1 : State := { s with time := { s.time with marker := markerPulse w } }
  let s2 := s1.cond condFpLost false
  have hc : Noted s1 s2 [] := .cond s1 _ _ (by decide) []
  have h2 : Noted s { s2 with time := s.time } ks := Noted.fill_time (t := s1) (.refl s ks) (hc.mono (by simp))
  have hhas : s2.has condFpLost = false := State.has_cond_same _ _ _ (by decide)
  have htime : s2.time = { s.time with marker := markerPulse w } := by rw [hc.1]
  have hvalid : (!framePulse w && !markerPulse w) = false := by rcases hw with h | h <;> simp [h]
  have hfirst : s.fpPulse w off = if s.time.fpAligned then s2.setOffset off else
      (({ s2 with time := { s2.time with fpAligned := true } } : State).put SYS_TIME_STATUS.key
        SYS_TIME_STATUS.FP_IN_VALID 1).setOffset 0 :=
    (if_neg (by simp [hroot])).trans (if_neg (by simp [hvalid]))
  by_cases hal : s.time.fpAligned = true
  · refine ⟨s2, ?_, h2, ?_, hhas, ?_, fun h => ?_, fun _ => ?_⟩
    · rw [hfirst, if_pos hal, show v = off from if_pos hal]
    · rw [htime, ← hal]
    · exact (hc.get (k := DPL_CFG.key) List.not_mem_nil (by decide) _).trans (State.get_congr rfl _ _)
    · rw [h] at hal; exact absurd hal (by decide)
    · exact (hc.rd (k := SYS_TIME_STATUS.key) List.not_mem_nil (by decide)).trans (State.rd_congr rfl _)
  · let s3 : State := { s2 with time := { s2.time with fpAligned := true } }
    refine ⟨s3.put SYS_TIME_STATUS.key SYS_TIME_STATUS.FP_IN_VALID 1, ?_, ?_, ?_, hhas, ?_, fun _ => ?_, fun h => absurd h hal⟩
    · rw [hfirst, if_neg hal, show v = 0 from if_neg hal]
    · exact Noted.fill_time (t := s3) h2 (.put s3 _ _ _ (by simp))
    · rw [State.put_time]
      change { s2.time with fpAligned := true } = _
      rw [htime]
    · rw [State.get_put_other s3 _ _ _ _ _ (by decide)]
      exact (hc.get (k := DPL_CFG.key) List.not_mem_nil (by decide) _).trans (State.get_congr rfl _ _)
    · exact State.on_put_one s3 _ _ (by decide) rfl

/-- A pulse missed on an aligned root that slews nothing: FP_IN_LOST and its condition. -/
theorem State.fpMissing_lost (s : State) (hroot : s.isGateway = true) (hal : s.time.fpAligned = true)
    (hslew : s.get DPL_STATUS.key DPL_STATUS.ALIGNING = 0) :
    Noted s s.fpMissing [SYS_TIME_STATUS.key] ∧
    s.fpMissing.on SYS_TIME_STATUS.key SYS_TIME_STATUS.FP_IN_VALID = false ∧
    s.fpMissing.on SYS_TIME_STATUS.key SYS_TIME_STATUS.FP_IN_LOST = true ∧ s.fpMissing.has condFpLost = true := by
  let y := s.put SYS_TIME_STATUS.key SYS_TIME_STATUS.FP_IN_VALID 0
  let z := y.put SYS_TIME_STATUS.key SYS_TIME_STATUS.FP_IN_LOST 1
  have hx : s.fpMissing = z.cond condFpLost true := by
    refine (if_neg (by simp [hroot, hal])).trans (if_neg ?_)
    unfold State.dpl
    omega
  have hc : Noted z s.fpMissing [] := hx ▸ .cond z _ _ (by decide) []
  have hz : Noted s z [SYS_TIME_STATUS.key] :=
    (Noted.put s _ _ _ (List.mem_singleton_self _)).trans (.put y _ _ _ (List.mem_singleton_self _))
  refine ⟨hz.trans (hc.mono (by simp)), ?_, ?_, ?_⟩
  · rw [hc.on List.not_mem_nil (by decide), State.on_put_field y _ _ _ _ (by decide) (by decide)]
    exact State.on_put_zero s _ _ (by decide) rfl
  · rw [hc.on List.not_mem_nil (by decide)]
    exact State.on_put_one y _ _ (by decide) rfl
  · rw [hx, State.has_cond_same _ _ _ (by decide)]

theorem State.fpMissing_idle (s : State) (h : s.isGateway = false ∨ s.time.fpAligned = false) : s.fpMissing = s :=
  if_pos (by rcases h with h | h <;> simp [h])

/-! ### References -/

theorem refSource_lt (n : Nat) (h : n < 12) : refSource n < 384 := by
  unfold refSource
  split
  · omega
  · split <;> decide

theorem noteReg_refStatus : ∀ n : Fin 12, noteReg (DPL_REF_STATUS.key n) = false := by decide

/-- A wait-to-restore that has run: QUALIFIED follows the checks and PRIORITY. -/
theorem State.refWtrExpiry_due (s : State) (n : Fin 12) (hdue : s.timerDue (.refWtr n) = true) :
    let q := !s.refFailed n && decide (s.get (DPL_REF_CFG.key n) DPL_REF_CFG.PRIORITY ≠ 0)
    let x := s.refWtrExpiry n
    (∃ y, Noted s y [DPL_REF_STATUS.key n] ∧
      x = { y with timers := s.timers.filter fun t => decide (t.kind ≠ .refWtr n) }) ∧
    x.on (DPL_REF_STATUS.key n) DPL_REF_STATUS.QUALIFIED = q ∧
    (q = true → s.on (DPL_REF_STATUS.key n) DPL_REF_STATUS.QUALIFIED = false →
      x.raised (refSource n) (eREF_QUAL n) true) := by
  intro q x
  let t := s.stopTimer (.refWtr n)
  have htimer : t.hasTimer (.refWtr n) = false := State.hasTimer_stopTimer s _
  have hq : (!t.refFailed n && decide (t.refCfg n DPL_REF_CFG.PRIORITY ≠ 0) && !t.hasTimer (.refWtr n)) = q := by
    rw [htimer, Bool.not_false, Bool.and_true]
    rfl
  have hx : x = if s.on (DPL_REF_STATUS.key n) DPL_REF_STATUS.QUALIFIED = q then t
      else (t.put (DPL_REF_STATUS.key n) DPL_REF_STATUS.QUALIFIED (bit q)).event (refSource n) (eREF_QUAL n) q n := by
    refine (if_pos hdue).trans ?_
    change t.settleQualified n = _
    unfold State.settleQualified
    rw [hq]
    rfl
  by_cases hsame : s.on (DPL_REF_STATUS.key n) DPL_REF_STATUS.QUALIFIED = q
  · rw [if_pos hsame] at hx
    rw [hx]
    refine ⟨⟨s, .refl s _, rfl⟩, (State.stopTimer_on _ _ _ _).trans hsame, fun htrue hfalse => ?_⟩
    rw [hfalse, htrue] at hsame
    exact absurd hsame (by decide)
  · rw [if_neg hsame] at hx
    let y := t.put (DPL_REF_STATUS.key n) DPL_REF_STATUS.QUALIFIED (bit q)
    have hev : Noted y x [] := hx ▸ .event y _ _ _ _ (refSource_lt n n.isLt) []
    have hy : Noted t y [DPL_REF_STATUS.key n] := Noted.put t _ _ _ (List.mem_singleton_self _)
    refine ⟨⟨{ x with timers := s.timers }, ?_, ?_⟩, ?_, fun htrue _ => ?_⟩
    · exact Noted.fill_timers (Noted.fill_timers (t := t) (.refl s _) hy) (hev.mono (by simp))
    · rw [hev.1]; rfl
    · rw [hev.on List.not_mem_nil (noteReg_refStatus n)]
      exact State.on_put_bit t _ _ q (by decide) rfl
    · rw [hx, htrue]
      exact State.raised_event _ _ _ _ _ (refSource_lt n n.isLt)

/-! ### Synthesis loops -/

theorem State.testBit_synBit (s : State) (f : Fld) (i : Nat) (on : Bool) (h : f.lo + f.width ≤ 32) (hi : i < f.width) :
    ((s.synBit f i on).get SYN_STATUS.key f).testBit i = on := by
  rw [State.synBit, State.get_put_same _ _ _ _ h, Nat.testBit_mod_two_pow, putBits_testBit, if_neg (lt_irrefl i),
    if_pos (Nat.lt_succ_self i), Nat.sub_self]
  cases on <;> simp [hi, bit]

theorem Noted.synBit (s : State) (f : Fld) (i : Nat) (on : Bool) : Noted s (s.synBit f i on) [SYN_STATUS.key] :=
  .put s _ _ _ (List.mem_singleton_self _)

theorem State.get_synBit_other (s : State) (f g : Fld) (i : Nat) (on : Bool) (hg : g.lo + g.width ≤ 32)
    (h : g.lo + g.width ≤ f.lo ∨ f.lo + f.width ≤ g.lo) :
    (s.synBit f i on).get SYN_STATUS.key g = s.get SYN_STATUS.key g := State.get_put_field _ _ _ _ _ hg h

theorem State.get_histBit_other (s : State) (k : Nat) (f g : Fld) (i : Nat) (hg : g.lo + g.width ≤ 32)
    (h : g.lo + g.width ≤ f.lo ∨ f.lo + f.width ≤ g.lo) : (s.histBit k f i).get k g = s.get k g :=
  State.get_put_field _ _ _ _ _ hg h

/-- The history of a loop's loss, its field and its event. -/
def synHist (refLost : Bool) : Fld := if refLost then SYN_STATUS.REF_LOSS_HIST else SYN_STATUS.LOL_HIST
def synEvent (refLost : Bool) : Nat := if refLost then 0x81 else 0x80

/-- The loop before the datapath stops: on bypass, its history bit set, its event and its condition raised. -/
def State.synFallen (s : State) (i : Nat) (refLost : Bool) : State :=
  (((((s.synBit SYN_STATUS.LOCK i false).synBit SYN_STATUS.BYPASS i true).histBit SYN_STATUS.key (synHist refLost) i).event
    (180 + i) (synEvent refLost) true i).cond ⟨180 + i, i, 0x82⟩ true)

theorem State.synLoss_eq (s : State) (i : Nat) (refLost : Bool) :
    s.synLoss i refLost = { s.synFallen i refLost with
      dev := { (s.synFallen i refLost).dev with coreBypass := (s.synFallen i refLost).dev.coreBypass || decide (i = 0) } } := by
  unfold State.synLoss State.synFallen
  by_cases hi : i = 0
  · cases refLost <;> simp only [hi, if_true, Bool.false_eq_true, if_false, decide_true, Bool.or_true] <;> rfl
  · cases refLost <;> simp only [hi, if_true, Bool.false_eq_true, if_false, decide_false, Bool.or_false] <;> rfl

theorem State.synFallen_shows (s : State) (i : Fin 6) (refLost : Bool) :
    let x := s.synFallen i refLost
    Noted s x [SYN_STATUS.key] ∧ (x.get SYN_STATUS.key SYN_STATUS.LOCK).testBit i = false ∧
    (x.get SYN_STATUS.key SYN_STATUS.BYPASS).testBit i = true ∧
    (x.get SYN_STATUS.key (synHist refLost)).testBit i = true ∧ x.raised (180 + i) (synEvent refLost) true ∧
    x.has ⟨180 + i, i, 0x82⟩ = true := by
  intro x
  let t1 := s.synBit SYN_STATUS.LOCK i false
  let t2 := t1.synBit SYN_STATUS.BYPASS i true
  let t3 := t2.histBit SYN_STATUS.key (synHist refLost) i
  let t4 := t3.event (180 + i) (synEvent refLost) true i
  have hsrc : 180 + i.val < 384 := by omega
  have hi : i.val < 6 := i.isLt
  have h4 : Noted t3 t4 [] := .event t3 _ _ _ _ hsrc []
  have h5 : Noted t4 x [] := .cond t4 _ _ hsrc []
  have hnote : Noted t3 x [] := h4.trans h5
  have h3 : Noted s t3 [SYN_STATUS.key] :=
    ((Noted.synBit s _ _ _).trans (.synBit t1 _ _ _)).trans (.histBit t2 _ _ _ (List.mem_singleton_self _))
  have hget : ∀ f, x.get SYN_STATUS.key f = t3.get SYN_STATUS.key f :=
    hnote.get List.not_mem_nil (by decide)
  refine ⟨h3.trans (hnote.mono (by simp)), ?_, ?_, ?_, h5.raised_kept (State.raised_event _ _ _ _ _ hsrc),
    State.has_cond_same _ _ _ hsrc⟩
  · rw [hget, State.get_histBit_other t2 _ _ _ _ (by decide) (by cases refLost <;> decide),
      State.get_synBit_other t1 _ _ _ _ (by decide) (by decide), State.testBit_synBit s _ _ _ (by decide) hi]
  · rw [hget, State.get_histBit_other t2 _ _ _ _ (by decide) (by cases refLost <;> decide),
      State.testBit_synBit t1 _ _ _ (by decide) hi]
  · rw [hget]
    exact State.testBit_histBit t2 _ _ _ (by cases refLost <;> decide) (by cases refLost <;> exact hi)

theorem State.synLock_regains (s : State) (i : Fin 6)
    (h : (s.get SYN_STATUS.key SYN_STATUS.LOCK).testBit i = false) :
    let x := s.synLock i
    Noted s x [SYN_STATUS.key] ∧ (x.get SYN_STATUS.key SYN_STATUS.LOCK).testBit i = true ∧
    (x.get SYN_STATUS.key SYN_STATUS.BYPASS).testBit i = false ∧ x.has ⟨180 + i, i, 0x82⟩ = false ∧
    x.raised (180 + i) 0x83 true := by
  intro x
  let t1 := s.synBit SYN_STATUS.LOCK i true
  let t2 := t1.synBit SYN_STATUS.BYPASS i false
  let t3 := t2.cond ⟨180 + i, i, 0x82⟩ false
  have hsrc : 180 + i.val < 384 := by omega
  have hi : i.val < 6 := i.isLt
  have hx : x = t3.event (180 + i) 0x83 true i := if_neg (by simp [h])
  have h3 : Noted t2 t3 [] := .cond t2 _ _ hsrc []
  have h4 : Noted t3 x [] := hx ▸ .event t3 _ _ _ _ hsrc []
  have hget : ∀ f, x.get SYN_STATUS.key f = t2.get SYN_STATUS.key f :=
    (h3.trans h4).get List.not_mem_nil (by decide)
  refine ⟨((Noted.synBit s _ _ _).trans (.synBit t1 _ _ _)).trans ((h3.trans h4).mono (by simp)), ?_, ?_, ?_, ?_⟩
  · rw [hget, State.get_synBit_other t1 _ _ _ _ (by decide) (by decide), State.testBit_synBit s _ _ _ (by decide) hi]
  · rw [hget, State.testBit_synBit t1 _ _ _ (by decide) hi]
  · rw [hx, State.has_event _ _ _ _ _ hsrc, State.has_cond_same _ _ _ hsrc]
  · rw [hx]
    exact State.raised_event _ _ _ _ _ hsrc

/-! ### Clock outputs -/

/-- A held clock output restarts with its event. -/
theorem State.clkRestart_held (s : State) (n : Fin 8) (h : n.val ∈ s.sync.clkHold) :
    (∃ y, Noted s y [] ∧ s.clkRestart n = { y with
      sync := { s.sync with clkHold := s.sync.clkHold.filter fun k => decide (k ≠ n.val) } }) ∧
    (s.clkRestart n).raised (186 + n / 4) 0x81 true := by
  let t := s.updSync fun x => { x with clkHold := x.clkHold.filter fun k => decide (k ≠ n.val) }
  have hsrc : 186 + n.val / 4 < 384 := by omega
  have hx : s.clkRestart n = t.event (186 + n / 4) 0x81 true n := if_pos (by simpa using h)
  have hev : Noted t (s.clkRestart n) [] := hx ▸ .event t _ _ _ _ hsrc []
  refine ⟨⟨{ s.clkRestart n with sync := s.sync }, Noted.fill_sync (t := t) (.refl s _) hev, ?_⟩, ?_⟩
  · rw [hev.1]; rfl
  · rw [hx]
    exact State.raised_event _ _ _ _ _ hsrc

end Sys2Proof.Machine

open Sys2Proof Sys2Proof.Machine

/-- Settles O16: each row is what one operation of the timing block leaves. -/
theorem timingRows : Obligations.TimingRows := by
  unfold Obligations.TimingRows
  refine ⟨fun s w off => ?_, fun s n => ?_, fun s => ?_⟩
  · intro misaligned
    refine ⟨fun hroot hw => answers_of rfl ?_, fun hroot hal hslew => ?_, fun h => answers_of rfl (s.fpMissing_idle h)⟩
    · intro v
      obtain ⟨t, hx, ht, htime, hhas, htol, hvalid, hkept⟩ := s.fpPulse_valid off hroot hw
      obtain ⟨hnote, hxtime, hmis, hbit, hoff, hlost, hstatus⟩ := t.setOffset_shows v
      rw [htol] at hmis hbit
      rw [hx]
      refine ⟨⟨{ t.setOffset v with time := s.time }, ht.compose_time hnote, ?_⟩, hlost.trans hhas, hmis, hbit, hoff, fun h => ?_,
        fun h => hstatus.trans (hkept h)⟩
      · rw [htime] at hxtime
        exact congrArg (fun T : TimeSt => ({ t.setOffset v with time := T } : State)) hxtime
      · exact (State.on_of_rd hstatus _).trans (hvalid h)
    · intro lost
      have hlost := s.fpMissing_lost hroot hal hslew
      refine ⟨answers_of rfl hlost, fun hframe hmarker => answers_of rfl ?_⟩
      have hx : s.fpPulse w off = s.fpMissing :=
        (if_neg (by simp [hroot])).trans (if_pos (by simp [hframe, hmarker]))
      rw [hx]
      exact hlost
  · refine ⟨fun c feed phase failing => answers_of rfl rfl, fun h => answers_of rfl (if_neg (by simp [h])),
      fun h => answers_of rfl ?_⟩
    obtain ⟨hframe, hq, hevent⟩ := s.refWtrExpiry_due n h
    exact ⟨hframe, hq, fun hok hpri hwas => hevent (by simp [hok, hpri]) hwas⟩
  · refine ⟨fun i refLost => answers_of rfl ?_, fun i h => answers_of rfl (if_pos h),
      fun i h => answers_of rfl (s.synLock_regains i h), fun n h => answers_of rfl (if_neg (by simpa using h)),
      fun n h => answers_of rfl (s.clkRestart_held n h)⟩
    obtain ⟨hnote, hlock, hbypass, hhist, hevent, hcond⟩ := s.synFallen_shows i refLost
    rw [s.synLoss_eq i refLost]
    have hby : (s.synFallen i refLost).dev.coreBypass = s.dev.coreBypass := by rw [hnote.1]
    generalize s.synFallen i refLost = z at hnote hlock hbypass hhist hevent hcond hby ⊢
    exact ⟨⟨z, hnote, congrArg (fun b : Bool => ({ z with
      dev := { z.dev with coreBypass := b || decide (i.val = 0) } } : State)) hby⟩, hlock, hbypass, hhist, hevent, hcond⟩
end

section
/-! PROOF. The DPLL's states and its mirror (R331, R332, R337, Tables 13-6 and 13-7). -/

namespace Sys2Proof.Machine

/-- What only writes registers is told by the registers it leaves. -/
theorem OnlyRegs.of_rd {s x : State} {ks : List Nat} (h : ∀ k, k ∉ ks → x.rd k = s.rd k) :
    OnlyRegs s { s with regs := x.regs } ks := ⟨rfl, h⟩

/-! ### Reads of DPL_STATUS -/

theorem State.get_setDpl_same (s : State) (f : Fld) (v : Nat) (h : f.lo + f.width ≤ 32) :
    (s.setDpl f v).get DPL_STATUS.key f = v % 2 ^ f.width := State.get_put_same _ _ _ _ h

theorem State.get_setDpl_other (s : State) (f g : Fld) (v : Nat) (hg : g.lo + g.width ≤ 32)
    (h : g.lo + g.width ≤ f.lo ∨ f.lo + f.width ≤ g.lo) : (s.setDpl f v).get DPL_STATUS.key g = s.get DPL_STATUS.key g :=
  State.get_put_field _ _ _ _ _ hg h

theorem State.rd_setDpl (s : State) (f : Fld) (v : Nat) {k : Nat} (h : k ≠ DPL_STATUS.key) : (s.setDpl f v).rd k = s.rd k :=
  State.rd_put_other _ _ _ _ _ h

/-! ### A change of state -/

/-- What entering a state of the DPLL leaves. -/
theorem State.enterDpll_leaves (s : State) (st : Nat) :
    let x := s.enterDpll st
    (∀ k, k ≠ DPL_STATUS.key → x.rd k = s.rd k) ∧
    x.get DPL_STATUS.key DPL_STATUS.STATE = st % 2 ^ 2 ∧
    (st < 4 → (x.get DPL_STATUS.key DPL_STATUS.STATE_HIST).testBit st = true) ∧
    x.get DPL_STATUS.key DPL_STATUS.IN_USE = s.get DPL_STATUS.key DPL_STATUS.IN_USE ∧
    x = { s with
      regs := x.regs
      sync := { s.sync with
        lockedSince := if s.get DPL_STATUS.key DPL_STATUS.STATE = dpLOCKED ∧ st ≠ dpLOCKED then none
          else s.sync.lockedSince }
      arrivals := s.arrivals ++
        if s.get DPL_STATUS.key DPL_STATUS.STATE = st then [] else [.event 168 0x80 true 0 []] } := by
  intro x
  let y := s.setDpl DPL_STATUS.STATE st
  let z := y.histBit DPL_STATUS.key DPL_STATUS.STATE_HIST st
  have hregs : x.regs = z.regs := by
    unfold x State.enterDpll
    dsimp only
    split <;> split <;> rfl
  have hget : ∀ f, x.get DPL_STATUS.key f = z.get DPL_STATUS.key f := State.get_congr hregs _
  refine ⟨fun k hk => ?_, ?_, fun hst => ?_, ?_, ?_⟩
  · rw [State.rd_congr hregs]
    exact (State.rd_put_other _ _ _ _ _ hk).trans (State.rd_setDpl s _ _ hk)
  · rw [hget, State.get_histBit_other y _ _ _ _ (by decide) (by decide), State.get_setDpl_same s _ _ (by decide)]
    rfl
  · rw [hget]
    exact State.testBit_histBit y _ _ _ (by decide) hst
  · rw [hget, State.get_histBit_other y _ _ _ _ (by decide) (by decide),
      State.get_setDpl_other s _ _ _ (by decide) (by decide)]
  · unfold x State.enterDpll State.dpl
    dsimp only
    simp only [decide_eq_true_iff]
    split_ifs
    · rw [List.append_nil]; rfl
    · rw [List.append_nil]; rfl
    · rfl
    · rfl

/-- Lock has been held for 8 s. -/
theorem State.dpllLocked_due (s : State) {t : Nat} (hst : s.get DPL_STATUS.key DPL_STATUS.STATE = 1)
    (hfound : s.sync.lockFound = some t) (hdue : t + 64000 ≤ s.dev.ticks) :
    s.dpllLocked = ((s.enterDpll dpLOCKED).setDpl DPL_STATUS.BW_STEP 4).updSync fun x =>
      { x with lockedSince := some s.dev.ticks } := by
  rw [State.dpllLocked, hfound]
  exact if_pos ⟨hst, hdue⟩

theorem State.dpllLocked_early (s : State) (h : s.get DPL_STATUS.key DPL_STATUS.STATE ≠ 1 ∨
    ∃ t, s.sync.lockFound = some t ∧ s.dev.ticks < t + 64000) : s.dpllLocked = s := by
  unfold State.dpllLocked
  split
  · next t ht =>
    refine if_neg fun ⟨hst, hdue⟩ => ?_
    rcases h with h | ⟨u, hu, hearly⟩
    · exact h hst
    · rw [ht, Option.some.injEq] at hu
      have : bwTicks 4 = 64000 := by decide
      omega
  · rfl

/-- Lock lost: acquiring on the same reference. -/
theorem State.dpllLockLost_eq (s : State) (hst : s.get DPL_STATUS.key DPL_STATUS.STATE = 2) :
    s.dpllLockLost = ((((s.enterDpll dpACQUIRING).setDpl DPL_STATUS.IN_USE (s.dpl DPL_STATUS.IN_USE)).setDpl
      DPL_STATUS.BW_STEP 0).updSync fun x => { x with lockFound := none }).arrive (.event 168 0x81 true 0 []) := by
  refine (if_pos hst).trans ?_
  rw [State.acquire, if_pos rfl]

/-- What declaring lock leaves. -/
theorem State.dpllLocked_leaves (s : State) {t : Nat} (hst : s.get DPL_STATUS.key DPL_STATUS.STATE = 1)
    (hfound : s.sync.lockFound = some t) (hdue : t + 64000 ≤ s.dev.ticks) :
    (∃ y, OnlyRegs s y [DPL_STATUS.key] ∧ s.dpllLocked = { y with
      sync := { s.sync with lockedSince := some s.dev.ticks }
      arrivals := s.arrivals ++ [.event 168 0x80 true 0 []] }) ∧
    s.dpllLocked.get DPL_STATUS.key DPL_STATUS.STATE = 2 ∧ s.dpllLocked.get DPL_STATUS.key DPL_STATUS.BW_STEP = 4 ∧
    (s.dpllLocked.get DPL_STATUS.key DPL_STATUS.STATE_HIST).testBit 2 = true := by
  obtain ⟨hrd, hstate, hhist, _, hframe⟩ := s.enterDpll_leaves dpLOCKED
  rw [s.dpllLocked_due hst hfound hdue]
  generalize s.enterDpll dpLOCKED = e at hrd hstate hhist hframe
  have hne : ¬ s.get DPL_STATUS.key DPL_STATUS.STATE = dpLOCKED := fun h => absurd (hst.symm.trans h) (by decide)
  have hzrd : ∀ k, k ≠ DPL_STATUS.key → (e.setDpl DPL_STATUS.BW_STEP 4).rd k = s.rd k := fun k hk =>
    (State.rd_setDpl e _ _ hk).trans (hrd k hk)
  have hzstate := State.get_setDpl_other e DPL_STATUS.BW_STEP DPL_STATUS.STATE 4 (by decide) (by decide)
  have hzhist := State.get_setDpl_other e DPL_STATUS.BW_STEP DPL_STATUS.STATE_HIST 4 (by decide) (by decide)
  have hzstep := State.get_setDpl_same e DPL_STATUS.BW_STEP 4 (by decide)
  have hz : e.setDpl DPL_STATUS.BW_STEP 4 = { e with regs := (e.setDpl DPL_STATUS.BW_STEP 4).regs } := State.put_eq ..
  generalize e.setDpl DPL_STATUS.BW_STEP 4 = z at hzrd hzstate hzhist hzstep hz ⊢
  refine ⟨⟨{ s with regs := z.regs }, OnlyRegs.of_rd fun k hk => hzrd k fun h => hk (h ▸ List.mem_singleton_self _), ?_⟩,
    ?_, ?_, ?_⟩
  · rw [if_neg hne] at hframe
    rw [hz, hframe]
    rfl
  · rw [State.updSync_get, hzstate, hstate]
    rfl
  · rw [State.updSync_get, hzstep]
    rfl
  · rw [State.updSync_get, hzhist]
    exact hhist (by decide)

/-- What losing lock leaves. -/
theorem State.dpllLockLost_leaves (s : State) (hst : s.get DPL_STATUS.key DPL_STATUS.STATE = 2) :
    (∃ y, OnlyRegs s y [DPL_STATUS.key] ∧ s.dpllLockLost = { y with
      sync := { s.sync with lockFound := none, lockedSince := none }
      arrivals := s.arrivals ++ [.event 168 0x80 true 0 [], .event 168 0x81 true 0 []] }) ∧
    s.dpllLockLost.get DPL_STATUS.key DPL_STATUS.STATE = 1 ∧ s.dpllLockLost.get DPL_STATUS.key DPL_STATUS.BW_STEP = 0 ∧
    s.dpllLockLost.get DPL_STATUS.key DPL_STATUS.IN_USE = s.get DPL_STATUS.key DPL_STATUS.IN_USE := by
  obtain ⟨hrd, hstate, _, _, hframe⟩ := s.enterDpll_leaves dpACQUIRING
  rw [s.dpllLockLost_eq hst]
  generalize s.enterDpll dpACQUIRING = e at hrd hstate hframe
  have hne : ¬ s.get DPL_STATUS.key DPL_STATUS.STATE = dpACQUIRING := fun h => absurd (hst.symm.trans h) (by decide)
  have hleft : s.get DPL_STATUS.key DPL_STATUS.STATE = dpLOCKED ∧ dpACQUIRING ≠ dpLOCKED := ⟨hst, by decide⟩
  let e1 := e.setDpl DPL_STATUS.IN_USE (s.dpl DPL_STATUS.IN_USE)
  refine ⟨⟨_, OnlyRegs.of_rd (x := e1.setDpl DPL_STATUS.BW_STEP 0) fun k hk => ?_, ?_⟩, ?_, ?_, ?_⟩
  · have hk' : k ≠ DPL_STATUS.key := fun h => hk (h ▸ List.mem_singleton_self _)
    rw [State.rd_setDpl e1 _ _ hk', State.rd_setDpl e _ _ hk', hrd k hk']
  · rw [if_neg hne, if_pos hleft] at hframe
    change { e with regs := _, sync := { e.sync with lockFound := none }, arrivals := e.arrivals ++ _ } = _
    rw [hframe]
    dsimp only
    rw [List.append_assoc]
    rfl
  · rw [State.arrive_get, State.updSync_get, State.get_setDpl_other e1 _ _ _ (by decide) (by decide),
      State.get_setDpl_other e _ _ _ (by decide) (by decide), hstate]
    rfl
  · rw [State.arrive_get, State.updSync_get, State.get_setDpl_same e1 _ _ (by decide)]
    rfl
  · rw [State.arrive_get, State.updSync_get, State.get_setDpl_other e1 _ _ _ (by decide) (by decide),
      State.get_setDpl_same e _ _ (by decide)]
    exact Nat.mod_eq_of_lt (Fld.get_lt _ _)

/-- The DPLL in service fails and no other takes over: banked, on no reference. -/
theorem State.dpllFail_leaves (s : State) :
    s.dpllFail.get DPL_STATUS.key DPL_STATUS.STATE = 3 ∧ s.dpllFail.get DPL_STATUS.key DPL_STATUS.IN_USE = 12 ∧
    s.dpllFail.sync.failed = true ∧ s.dpllFail.has ⟨170, 0, 0x83⟩ = true ∧ s.dpllFail.ports = s.ports ∧
    s.dpllFail.cmd = s.cmd ∧ s.dpllFail.cal = s.cal := by
  obtain ⟨_, hstate, _, _, hframe⟩ := s.enterDpll_leaves dpBANKED
  let t1 := (s.enterDpll dpBANKED).setDpl DPL_STATUS.IN_USE 12
  let t2 := t1.setDpl DPL_STATUS.BW_STEP 0
  obtain ⟨y, hy, hregs, hfailed, hports, hcmd, hcal⟩ : ∃ y : State, s.dpllFail = y.cond ⟨170, 0, 0x83⟩ true ∧
      y.regs = t2.regs ∧ y.sync.failed = true ∧ y.ports = t2.ports ∧ y.cmd = t2.cmd ∧ y.cal = t2.cal :=
    ⟨_, rfl, rfl, rfl, rfl, rfl, rfl⟩
  have hc : Noted y s.dpllFail [] := hy ▸ .cond y _ _ (by decide) []
  have hget : ∀ f, s.dpllFail.get DPL_STATUS.key f = t2.get DPL_STATUS.key f := fun f =>
    (hc.get List.not_mem_nil (by decide) f).trans (State.get_congr hregs _ f)
  refine ⟨?_, ?_, ?_, ?_, ?_, ?_, ?_⟩
  · rw [hget, State.get_setDpl_other t1 _ _ _ (by decide) (by decide),
      State.get_setDpl_other _ _ _ _ (by decide) (by decide), hstate]
    rfl
  · rw [hget, State.get_setDpl_other t1 _ _ _ (by decide) (by decide), State.get_setDpl_same _ _ _ (by decide)]
    rfl
  · rw [hc.1]
    exact hfailed
  · rw [hy, State.has_cond_same _ _ _ (by decide)]
  · rw [hc.1]
    exact hports.trans (by rw [show t2.ports = (s.enterDpll dpBANKED).ports from rfl, hframe])
  · rw [hc.1]
    exact hcmd.trans (by rw [show t2.cmd = (s.enterDpll dpBANKED).cmd from rfl, hframe])
  · rw [hc.1]
    exact hcal.trans (by rw [show t2.cal = (s.enterDpll dpBANKED).cal from rfl, hframe])

/-- A bandwidth step is due every 2 s from lock found, up to the third. -/
theorem State.bwStep_acquiring (s : State) {t : Nat} (hst : s.get DPL_STATUS.key DPL_STATUS.STATE = 1)
    (hfound : s.sync.lockFound = some t) :
    s.bwStep = s.setDpl DPL_STATUS.BW_STEP (min 3 ((s.dev.ticks - t) / 16000)) := by
  have hticks : bwTicks 1 = 16000 := by decide
  refine (if_pos hst).trans ?_
  rw [State.bwDue, hfound, ← hticks]

theorem State.historyValid_due (s : State) {t : Nat} (hlocked : s.sync.lockedSince = some t)
    (hdue : t + (max 1 (s.get DPL_CFG.key DPL_CFG.HIST_WIN) + 1) * ticksPerSecond ≤ s.dev.ticks) :
    s.historyValid = s.setDpl DPL_STATUS.HIST_VALID 1 := by
  rw [State.historyValid, hlocked]
  exact if_pos hdue

/-- A mirror that fails its checks again within 1 s of re-synchronising is isolated. -/
theorem State.mirrorCheckFail_recent (s : State) (hmirror : s.sync.mirror = true)
    (hrecent : (s.sync.resynced.any fun t => decide (s.dev.ticks ≤ t + ticksPerSecond)) = true) :
    s.mirrorCheckFail = (s.updSync fun x => { x with mirror := false }).cond ⟨170, 0, 0x82⟩ true :=
  (if_neg (by simp [hmirror])).trans (if_pos hrecent)

theorem State.mirrorCheckFail_old (s : State) (hmirror : s.sync.mirror = true)
    (hold : (s.sync.resynced.any fun t => decide (s.dev.ticks ≤ t + ticksPerSecond)) = false) :
    s.mirrorCheckFail = s.resync :=
  (if_neg (by simp [hmirror])).trans (if_neg (by simp [hold]))

/-- The mirror is re-synchronised after a note of the DPLLs and before its event. -/
theorem State.resync_reports (s : State) {ks : List Nat} {t : State} (ht : Noted s t ks) (code : Nat) :
    let x := t.resync.event 170 code true 0
    (∃ y, Noted s y ks ∧ x = { y with sync := { s.sync with resynced := some s.dev.ticks } }) ∧
    (∀ k, noteReg k = false → x.rd k = t.rd k) ∧ x.raised 170 code true := by
  intro x
  have hev : Noted t.resync x [] := .event _ _ _ _ _ (by decide) []
  have hsync : t.sync = s.sync := by rw [ht.1]
  have hdev : t.dev.ticks = s.dev.ticks := by rw [ht.1]
  have hxsync : x.sync = { s.sync with resynced := some s.dev.ticks } := by
    rw [hev.1]
    change { t.sync with resynced := some t.dev.ticks } = _
    rw [hsync, hdev]
  refine ⟨⟨{ x with sync := s.sync }, ?_, ?_⟩, fun k hk => hev.rd List.not_mem_nil hk, State.raised_event _ _ _ _ _ (by decide)⟩
  · refine Noted.fill_sync (t := t.resync) ?_ (hev.mono (by simp))
    exact ⟨congrArg (fun z : State => { z with sync := s.sync }) ht.1, ht.2.1, ht.2.2⟩
  · exact congrArg (fun S : SyncSt => ({ x with sync := S } : State)) hxsync

end Sys2Proof.Machine

open Sys2Proof Sys2Proof.Machine

/-- Settles O17: the rows of the DPLL each act in the state that the manual names and do nothing outside it. -/
theorem dpllRows : Obligations.DpllRows := by
  unfold Obligations.DpllRows
  refine ⟨fun s => ?_, fun s => ?_⟩
  · intro st
    refine ⟨answers_of rfl ?_, fun hst => ⟨answers_of rfl (if_neg hst), answers_of rfl (s.dpllLocked_early (.inl hst))⟩,
      fun hst => answers_of rfl (if_neg hst), fun t hst hfound => ⟨answers_of rfl ?_,
        fun hearly => answers_of rfl (s.dpllLocked_early (.inr ⟨t, hfound, hearly⟩)), fun hdue => answers_of rfl ?_⟩,
      fun hst => answers_of rfl ?_, fun t hlocked hdue => answers_of rfl ?_⟩
    · rfl
    · rw [s.bwStep_acquiring hst hfound]
      refine ⟨.put s _ _ _ (List.mem_singleton_self _), ?_, ?_⟩
      · rw [State.get_setDpl_same _ _ _ (by decide)]
        exact Nat.mod_eq_of_lt (lt_of_le_of_lt (Nat.min_le_left 3 _) (by decide))
      · rw [State.get_setDpl_other s _ _ _ (by decide) (by decide)]
        exact hst
    · exact s.dpllLocked_leaves hst hfound hdue
    · exact s.dpllLockLost_leaves hst
    · rw [s.historyValid_due hlocked hdue]
      exact ⟨.put s _ _ _ (List.mem_singleton_self _), State.get_setDpl_same s _ _ (by decide)⟩
  · intro st recent
    refine ⟨fun hok hmirror => answers_of rfl ?_, fun hok hmirror => answers_of rfl ?_, fun hfailed => answers_of rfl ?_,
      fun hmirror hst => answers_of rfl ?_, fun h => answers_of rfl ?_, fun hmirror hrecent => answers_of rfl ?_,
      fun hmirror hold => answers_of rfl ?_⟩
    · let t1 := s.setDpl DPL_STATUS.B_IN_SERVICE (1 - s.dpl DPL_STATUS.B_IN_SERVICE)
      let t2 := t1.setDpl DPL_STATUS.TAKEOVER_HIST 1
      have hx : s.takeover = t2.resync.event 170 0x80 true 0 := (if_neg (by simp [hok])).trans (if_pos hmirror)
      have ht : Noted s t2 [DPL_STATUS.key] :=
        (Noted.put s _ _ _ (List.mem_singleton_self _)).trans (.put t1 _ _ _ (List.mem_singleton_self _))
      obtain ⟨hframe, hrd, hevent⟩ := s.resync_reports ht 0x80
      rw [hx]
      refine ⟨hframe, ?_, ?_, hevent⟩
      · rw [State.get_of_rd (hrd _ (by decide)), State.get_setDpl_other t1 _ _ _ (by decide) (by decide),
          State.get_setDpl_same s _ _ (by decide)]
        exact Nat.mod_eq_of_lt (lt_of_le_of_lt (Nat.sub_le 1 _) (by decide))
      · rw [State.on_of_rd (hrd _ (by decide))]
        exact State.on_put_one t1 _ _ (by decide) rfl
    · have hx : s.takeover = s.dpllFail := (if_neg (by simp [hok])).trans (if_neg (by simp [hmirror]))
      rw [hx]
      exact s.dpllFail_leaves
    · exact if_pos hfailed
    · let t := s.setDpl DPL_STATUS.DIVERGED_HIST 1
      have hx : s.dpllDiverge = t.resync.event 170 0x81 true 0 := if_pos ⟨hmirror, hst⟩
      have ht : Noted s t [DPL_STATUS.key] := .put s _ _ _ (List.mem_singleton_self _)
      obtain ⟨hframe, hrd, hevent⟩ := s.resync_reports ht 0x81
      rw [hx]
      refine ⟨hframe, ?_, hevent⟩
      rw [State.on_of_rd (hrd _ (by decide))]
      exact State.on_put_one s _ _ (by decide) rfl
    · refine if_neg fun ⟨hmirror, hst⟩ => ?_
      rcases h with h | ⟨h0, h3⟩
      · rw [h] at hmirror; exact absurd hmirror (by decide)
      · exact hst.elim h0 h3
    · let t := s.updSync fun x => { x with mirror := false }
      have hx : s.mirrorCheckFail = t.cond ⟨170, 0, 0x82⟩ true := s.mirrorCheckFail_recent hmirror hrecent
      have hc : Noted t s.mirrorCheckFail [] := hx ▸ .cond t _ _ (by decide) []
      refine ⟨⟨{ s.mirrorCheckFail with sync := s.sync }, Noted.fill_sync (t := t) (.refl s _) hc, ?_⟩, ?_⟩
      · rw [hc.1]; rfl
      · rw [hx, State.has_cond_same _ _ _ (by decide)]
    · exact s.mirrorCheckFail_old hmirror hold
end

section
/-! PROOF. The flue ring: its SFN (R45, R384), links and wraps (R381 to R383), members, beacons and addresses (R376, R384,
R385). -/

namespace Sys2Proof.Machine

theorem Noted.compose_ring {s t u : State} {ks : List Nat} (h1 : Noted s { t with ring := s.ring } ks)
    (h2 : Noted t { u with ring := t.ring } ks) : Noted s { u with ring := s.ring } ks :=
  h1.trans ⟨congrArg (fun z : State => { z with ring := s.ring }) h2.1, h2.2.1, h2.2.2⟩

/-- What is noted keeps the ring. -/
theorem Noted.around_ring {t u : State} {ks : List Nat} (h : Noted t u ks) : Noted t { u with ring := t.ring } ks :=
  ⟨congrArg (fun z : State => { z with ring := t.ring }) h.1, h.2.1, h.2.2⟩

theorem Noted.ring {s x : State} {ks : List Nat} (h : Noted s x ks) : x.ring = s.ring := by rw [h.1]
theorem Noted.time {s x : State} {ks : List Nat} (h : Noted s x ks) : x.time = s.time := by rw [h.1]
theorem Noted.timers {s x : State} {ks : List Nat} (h : Noted s x ks) : x.timers = s.timers := by rw [h.1]
theorem Noted.arrivals {s x : State} {ks : List Nat} (h : Noted s x ks) : x.arrivals = s.arrivals := by rw [h.1]
theorem Noted.cmd {s x : State} {ks : List Nat} (h : Noted s x ks) : x.cmd = s.cmd := by rw [h.1]
theorem Noted.ticks {s x : State} {ks : List Nat} (h : Noted s x ks) : x.dev.ticks = s.dev.ticks := by rw [h.1]

/-! ### The ring SFN -/

/-- A member loses the ring SFN: it flywheels, with the condition. -/
theorem State.sfnLoss_flywheels (s : State) (hmember : s.isGateway = false)
    (hfly : s.on SYS_TIME_STATUS.key SYS_TIME_STATUS.FLYWHEEL = false) :
    (∃ y, Noted s y [SYS_TIME_STATUS.key] ∧ s.sfnLoss = { y with ring := { s.ring with adopted := false } }) ∧
    s.sfnLoss.on SYS_TIME_STATUS.key SYS_TIME_STATUS.FLYWHEEL = true ∧ s.sfnLoss.has ⟨290, 0, 0x80⟩ = true := by
  let t := s.put SYS_TIME_STATUS.key SYS_TIME_STATUS.FLYWHEEL 1
  let y := t.cond ⟨290, 0, 0x80⟩ true
  have hc : Noted t y [] := .cond t _ _ (by decide) []
  have hy : Noted s y [SYS_TIME_STATUS.key] := (Noted.put s _ _ _ (List.mem_singleton_self _)).trans (hc.mono (by simp))
  have hx : s.sfnLoss = y.updRing fun x => { x with adopted := false } := if_neg (by simp [hmember, hfly])
  refine ⟨⟨y, hy, ?_⟩, ?_, ?_⟩
  · rw [hx, State.updRing_eq, hy.ring]
  · rw [hx, State.updRing_on, hc.on List.not_mem_nil (by decide)]
    exact State.on_put_one s _ _ (by decide) rfl
  · rw [hx]
    exact State.has_cond_same t _ _ (by decide)

theorem State.sfnLoss_idle (s : State) (h : s.isGateway = true ∨
    s.on SYS_TIME_STATUS.key SYS_TIME_STATUS.FLYWHEEL = true) : s.sfnLoss = s := if_pos h

/-- The state in which a member that flywheels compares itself with the ring. -/
theorem State.sfnReturn_compares (s : State) (v epoch : Nat) (hmember : s.isGateway = false)
    (hfly : s.on SYS_TIME_STATUS.key SYS_TIME_STATUS.FLYWHEEL = true) :
    ∃ t : State, s.sfnReturn v epoch = t.alignSfn v epoch ∧
      Noted s { t with ring := s.ring } [SYS_TIME_STATUS.key] ∧ t.ring = { s.ring with adopted := true } ∧
      t.on SYS_TIME_STATUS.key SYS_TIME_STATUS.FLYWHEEL = false ∧ t.has ⟨290, 0, 0x80⟩ = false ∧
      t.on SYS_TIME_STATUS.key SYS_TIME_STATUS.SFN_CONFLICT = s.on SYS_TIME_STATUS.key SYS_TIME_STATUS.SFN_CONFLICT := by
  let u := s.put SYS_TIME_STATUS.key SYS_TIME_STATUS.FLYWHEEL 0
  let y := u.cond ⟨290, 0, 0x80⟩ false
  have hc : Noted u y [] := .cond u _ _ (by decide) []
  have hy : Noted s y [SYS_TIME_STATUS.key] := (Noted.put s _ _ _ (List.mem_singleton_self _)).trans (hc.mono (by simp))
  refine ⟨y.updRing fun x => { x with adopted := true }, ?_, hy.around_ring, ?_, ?_, State.has_cond_same u _ _ (by decide), ?_⟩
  · exact (if_neg (by simp [hmember])).trans (if_neg (by simp [hfly]))
  · rw [State.updRing_eq, hy.ring]
  · rw [State.updRing_on, hc.on List.not_mem_nil (by decide)]
    exact State.on_put_zero s _ _ (by decide) rfl
  · rw [State.updRing_on, hc.on List.not_mem_nil (by decide), State.on_put_field s _ _ _ _ (by decide) (by decide)]

/-- The comparison with the ring in the same epoch, without a conflict: what it does to time, or the conflict. -/
theorem State.alignSfn_near (s : State) (v epoch : Nat) (hepoch : epoch = s.time.epoch)
    (hok : s.on SYS_TIME_STATUS.key SYS_TIME_STATUS.SFN_CONFLICT = false) :
    let next := s.time.nextSfn.getD (s.time.sfn + 1)
    (next = v → s.alignSfn v epoch = s) ∧
    (next < v → s.alignSfn v epoch = { s with time := { s.time with nextSfn := some v, jump := true } }) ∧
    (v < next → next ≤ v + 64 → s.time.suppress = 0 →
      s.alignSfn v epoch = { s with time := { s.time with suppress := next - v } }) ∧
    (v + 64 < next → s.alignSfn v epoch =
      (s.put SYS_TIME_STATUS.key SYS_TIME_STATUS.SFN_CONFLICT 1).cond ⟨290, 0, 0x81⟩ true) := by
  intro next
  have hfirst : s.alignSfn v epoch = if next < v then { s with time := { s.time with nextSfn := some v, jump := true } }
      else if next = v then s
      else if next - v ≤ 64 then
        (if s.time.suppress = 0 then { s with time := { s.time with suppress := next - v } } else s)
      else (s.put SYS_TIME_STATUS.key SYS_TIME_STATUS.SFN_CONFLICT 1).cond ⟨290, 0, 0x81⟩ true :=
    (if_neg (by simp [hepoch])).trans (if_neg (by simp [hok]))
  rw [hfirst]
  refine ⟨fun h => ?_, fun h => if_pos h, fun h1 h2 h3 => ?_, fun h => ?_⟩
  · rw [if_neg (by omega), if_pos h]
  · rw [if_neg (by omega), if_neg (by omega), if_pos (by omega), if_pos h3]
  · rw [if_neg (by omega), if_neg (by omega), if_neg (by omega)]

/-- A difference too large to make up is a conflict, which the bit and the condition show. -/
theorem State.sfnConflict_shows (s : State) :
    let x := (s.put SYS_TIME_STATUS.key SYS_TIME_STATUS.SFN_CONFLICT 1).cond ⟨290, 0, 0x81⟩ true
    Noted s x [SYS_TIME_STATUS.key] ∧ x.on SYS_TIME_STATUS.key SYS_TIME_STATUS.SFN_CONFLICT = true ∧
    x.on SYS_TIME_STATUS.key SYS_TIME_STATUS.FLYWHEEL = s.on SYS_TIME_STATUS.key SYS_TIME_STATUS.FLYWHEEL ∧
    x.has ⟨290, 0, 0x81⟩ = true ∧ x.has ⟨290, 0, 0x80⟩ = s.has ⟨290, 0, 0x80⟩ := by
  intro x
  let u := s.put SYS_TIME_STATUS.key SYS_TIME_STATUS.SFN_CONFLICT 1
  have hc : Noted u x [] := .cond u _ _ (by decide) []
  refine ⟨(Noted.put s _ _ _ (List.mem_singleton_self _)).trans (hc.mono (by simp)), ?_, ?_,
    State.has_cond_same u _ _ (by decide), ?_⟩
  · rw [hc.on List.not_mem_nil (by decide)]
    exact State.on_put_one s _ _ (by decide) rfl
  · rw [hc.on List.not_mem_nil (by decide), State.on_put_field s _ _ _ _ (by decide) (by decide)]
  · exact (State.has_cond_other u _ _ _ (by decide) (by decide)).trans (State.has_put ..)

/-- A member that arrives adopts the ring's SFN whatever its own. -/
theorem State.sfnReturn_adopts (s : State) (v epoch : Nat) (hmember : s.isGateway = false)
    (hfly : s.on SYS_TIME_STATUS.key SYS_TIME_STATUS.FLYWHEEL = false) (hnew : s.ring.adopted = false) :
    s.sfnReturn v epoch = s.adoptSfn v epoch :=
  (if_neg (by simp [hmember])).trans (if_pos (by simp [hnew, hfly]))

end Sys2Proof.Machine

open Sys2Proof Sys2Proof.Machine

/-- Settles O20: on its return the ring SFN ends the flywheel, and the distance from the member's next SFN decides. -/
theorem ringTime : Obligations.RingTime := by
  unfold Obligations.RingTime
  intro s v epoch fly next k back
  refine ⟨fun h => ⟨answers_of rfl (s.sfnLoss_idle (.inl h)), answers_of rfl (if_pos h)⟩,
    fun _ h => answers_of rfl (s.sfnLoss_idle (.inr h)), fun hm hf => answers_of rfl (s.sfnLoss_flywheels hm hf),
    fun hm hf had => answers_of rfl ?_, fun hm hf hepoch hok => ?_⟩
  · rw [s.sfnReturn_adopts _ _ hm hf had, State.adoptSfn, Nat.mod_eq_of_lt epoch.isLt]
    rfl
  · obtain ⟨t, hx, ht, hring, hfly, hcond, hconflict⟩ := s.sfnReturn_compares v.toNat epoch.toNat hm hf
    have htime : t.time = s.time := ht.time
    obtain ⟨hsame, hahead, hbehind, hfar⟩ := t.alignSfn_near v.toNat epoch.toNat (htime ▸ hepoch) (hconflict.trans hok)
    rw [htime] at hsame hahead hbehind hfar
    have hback : ∀ T : TimeSt, back T { t with time := T } := fun T =>
      ⟨⟨_, ht, by rw [← hring]⟩, hfly, hcond⟩
    have hkept : back s.time t := htime ▸ hback t.time
    refine ⟨fun h => answers_of rfl ?_, fun h => answers_of rfl ?_, fun h1 h2 h3 => answers_of rfl ?_,
      fun h => answers_of rfl ?_⟩
    · rw [hx, hsame h]
      exact hkept
    · rw [hx, hahead h]
      exact hback _
    · rw [hx, hbehind h1 h2 h3]
      exact hback _
    · rw [hx, hfar h]
      obtain ⟨hnote, hset, hkeeps, hhas, hother⟩ := t.sfnConflict_shows
      generalize (t.put SYS_TIME_STATUS.key SYS_TIME_STATUS.SFN_CONFLICT 1).cond ⟨290, 0, 0x81⟩ true = u at hnote hset hkeeps hhas hother ⊢
      exact ⟨⟨⟨_, ht.compose_ring hnote.around_ring, by rw [← hring, ← hnote.ring, ← htime, ← hnote.time]⟩,
        hkeeps.trans hfly, hother.trans hcond⟩, hset, hhas⟩
end

section
/-! PROOF. Ring links, wraps, members, beacons and addresses (R376, R381 to R385). -/

namespace Sys2Proof.Machine

/-- The ring, what arrives, and the timers of `t` put back to those of `s`. -/
def State.withRing (t s : State) : State := { t with ring := s.ring, arrivals := s.arrivals, timers := s.timers }

theorem Noted.compose_ringWork {s t u : State} {ks : List Nat} (h1 : Noted s (t.withRing s) ks)
    (h2 : Noted t (u.withRing t) ks) : Noted s (u.withRing s) ks :=
  h1.trans ⟨congrArg (fun z : State => z.withRing s) h2.1, h2.2.1, h2.2.2⟩

theorem Noted.around_ringWork {t u : State} {ks : List Nat} (h : Noted t u ks) : Noted t (u.withRing t) ks :=
  ⟨congrArg (fun z : State => z.withRing t) h.1, h.2.1, h.2.2⟩

theorem State.linkReport_eq (s : State) (east good : Bool) :
    s.linkReport east good = { s with
      arrivals := s.arrivals ++ (if s.isGateway then [.linkReport s.address east good] else [])
      ring := { s.ring with tx := s.ring.tx ++ (if s.isGateway then [] else [⟨7, s.ring.ringNo * 64, 8⟩]) } } := by
  unfold State.linkReport
  split
  · rw [List.append_nil]; rfl
  · rw [List.append_nil]; rfl

theorem State.isGateway_of_rd {s t : State} (hk : t.rd SYS_BOOT_STATUS.key = s.rd SYS_BOOT_STATUS.key) (hcmd : t.cmd = s.cmd) :
    t.isGateway = s.isGateway := by
  unfold State.isGateway
  rw [State.get_of_rd hk, hcmd]

theorem State.get_setFlu_other (s : State) (f g : Fld) (v : Nat) (hg : g.lo + g.width ≤ 32)
    (h : g.lo + g.width ≤ f.lo ∨ f.lo + f.width ≤ g.lo) : (s.setFlu f v).get FLU_STATUS.key g = s.get FLU_STATUS.key g :=
  State.get_put_field _ _ _ _ _ hg h

theorem State.on_setFlu_other (s : State) (f g : Fld) (v : Nat) (hg : g.lo + g.width ≤ 32)
    (h : g.lo + g.width ≤ f.lo ∨ f.lo + f.width ≤ g.lo) : (s.setFlu f v).on FLU_STATUS.key g = s.on FLU_STATUS.key g :=
  State.on_put_field _ _ _ _ _ hg h

theorem Noted.setFlu (s : State) (f : Fld) (v : Nat) : Noted s (s.setFlu f v) [FLU_STATUS.key] :=
  .put s _ _ _ (List.mem_singleton_self _)

theorem Noted.fluHist (s : State) (i : Nat) : Noted s (s.fluHist i) [FLU_STATUS.key] :=
  .histBit s _ _ _ (List.mem_singleton_self _)

theorem State.testBit_fluHist (s : State) (i j : Nat) (hj : j < 5) :
    ((s.fluHist i).get FLU_STATUS.key FLU_STATUS.HIST).testBit j =
      (decide (j = i) || (s.get FLU_STATUS.key FLU_STATUS.HIST).testBit j) := by
  have hword : FLU_STATUS.HIST.lo + FLU_STATUS.HIST.width ≤ 32 := by decide
  rw [State.fluHist, State.histBit, State.get_put_same _ _ _ _ hword, Nat.testBit_mod_two_pow, Nat.testBit_or,
    Nat.testBit_two_pow, decide_eq_true (show j < FLU_STATUS.HIST.width from hj), Bool.true_and, Bool.or_comm]
  congr 1
  exact decide_eq_decide.mpr eq_comm

/-! ### A link goes down -/

/-- The port wrapped: the notes of its fall. -/
def State.portFallen (s : State) (east : Bool) : State :=
  (((s.setFlu (upFld east) 0).fluHist (bit east)).cond ⟨288, 0, 0x80 + bit east⟩ true)

/-- The fallen port wraps and its hold stops. -/
def State.portWraps (s : State) (east : Bool) : State :=
  ((((s.portFallen east).stopTimer (.unwrap east)).setFlu (wrapFld east) 1).fluHist 2)

theorem State.ringDown_eq (s : State) (east : Bool) (h : s.ringUp east = true) :
    s.ringDown east = ((s.portWraps east).updRingPort east fun x => { x with good := 0 }).linkReport east false :=
  if_neg (by simp [h])

theorem State.portWraps_shows (s : State) (east : Bool) :
    let x := s.portWraps east
    Noted s (x.withRing s) [FLU_STATUS.key] ∧ x.on FLU_STATUS.key (upFld east) = false ∧
    x.on FLU_STATUS.key (wrapFld east) = true ∧
    (x.get FLU_STATUS.key FLU_STATUS.HIST).testBit (bit east) = true ∧
    (x.get FLU_STATUS.key FLU_STATUS.HIST).testBit 2 = true ∧ x.has ⟨288, 0, 0x80 + bit east⟩ = true ∧
    x.hasTimer (.unwrap east) = false ∧ x.ring = s.ring ∧ x.arrivals = s.arrivals ∧
    x.rd SYS_BOOT_STATUS.key = s.rd SYS_BOOT_STATUS.key ∧ x.cmd = s.cmd ∧ x.address = s.address := by
  intro x
  let t1 := s.setFlu (upFld east) 0
  let t2 := t1.fluHist (bit east)
  let t3 := t2.cond ⟨288, 0, 0x80 + bit east⟩ true
  let t4 := t3.stopTimer (.unwrap east)
  let t5 := t4.setFlu (wrapFld east) 1
  have h2 : Noted s t2 [FLU_STATUS.key] := (Noted.setFlu s _ _).trans (.fluHist t1 _)
  have hsrc : (288 : Nat) < 384 := by decide
  have h3 : Noted t2 t3 [] := .cond t2 _ _ hsrc []
  have h5 : Noted t4 x [FLU_STATUS.key] := (Noted.setFlu t4 _ _).trans (.fluHist t5 _)
  have hnote : Noted s (x.withRing s) [FLU_STATUS.key] :=
    Noted.compose_ringWork (t := t4) (h2.trans (h3.mono (by simp))).around_ringWork h5.around_ringWork
  have hhist : ∀ f : Fld, f.lo + f.width ≤ 32 → f.lo + f.width ≤ FLU_STATUS.HIST.lo →
      x.on FLU_STATUS.key f = t5.on FLU_STATUS.key f := fun f hf hlo => State.on_put_field t5 _ _ _ _ hf (.inl hlo)
  have hwraps : ∀ j, j < 5 → (x.get FLU_STATUS.key FLU_STATUS.HIST).testBit j =
      (decide (j = 2) || (t5.get FLU_STATUS.key FLU_STATUS.HIST).testBit j) := State.testBit_fluHist t5 2
  have hfallen : ∀ f, t3.get FLU_STATUS.key f = t2.get FLU_STATUS.key f := h3.get List.not_mem_nil (by decide)
  refine ⟨hnote, ?_, ?_, ?_, ?_, ?_, ?_, ?_, ?_, ?_, ?_, ?_⟩
  · rw [hhist _ (by cases east <;> decide) (by cases east <;> decide),
      State.on_setFlu_other t4 _ _ _ (by cases east <;> decide) (by cases east <;> decide), State.stopTimer_on,
      h3.on List.not_mem_nil (by decide)]
    refine (State.on_put_field t1 _ _ _ _ (by cases east <;> decide) (by cases east <;> decide)).trans ?_
    exact State.on_put_zero s _ _ (by cases east <;> decide) (by cases east <;> rfl)
  · rw [hhist _ (by cases east <;> decide) (by cases east <;> decide)]
    exact State.on_put_one t4 _ _ (by cases east <;> decide) (by cases east <;> rfl)
  · rw [hwraps _ (by cases east <;> decide), State.get_setFlu_other t4 _ _ _ (by decide)
      (by cases east <;> decide), State.stopTimer_get, hfallen, State.testBit_fluHist t1 _ _ (by cases east <;> decide)]
    simp
  · rw [hwraps 2 (by decide)]
    rfl
  · exact State.has_cond_same t2 _ _ hsrc
  · exact State.hasTimer_stopTimer t3 _
  · exact h5.ring.trans ((h2.trans (h3.mono (by simp))).ring)
  · exact h5.arrivals.trans ((h2.trans (h3.mono (by simp))).arrivals)
  · exact hnote.rd (by decide) (by decide)
  · exact hnote.cmd
  · have hlast : x.address = t3.address := ((State.get_histBit_other t5 _ _ _ _ (by decide) (by decide)).trans
      (State.get_setFlu_other t4 _ _ _ (by decide) (by cases east <;> decide))).trans (State.stopTimer_get ..)
    exact (hlast.trans (hfallen _)).trans ((State.get_histBit_other t1 _ _ _ _ (by decide) (by decide)).trans
      (State.get_setFlu_other s _ _ _ (by decide) (by cases east <;> decide)))

/-- What the fall of a port leaves, its report included. -/
theorem State.ringDown_leaves (s : State) (east : Bool) (h : s.ringUp east = true) :
    let x := s.ringDown east
    (∃ y, Noted s y [FLU_STATUS.key] ∧ x = { y with ring := x.ring, arrivals := x.arrivals, timers := x.timers }) ∧
    x.on FLU_STATUS.key (upFld east) = false ∧ x.on FLU_STATUS.key (wrapFld east) = true ∧
    (x.get FLU_STATUS.key FLU_STATUS.HIST).testBit (bit east) = true ∧
    (x.get FLU_STATUS.key FLU_STATUS.HIST).testBit 2 = true ∧ x.has ⟨288, 0, 0x80 + bit east⟩ = true ∧
    x.hasTimer (.unwrap east) = false ∧
    x.arrivals = s.arrivals ++ (if s.isGateway then [.linkReport s.address east false] else []) ∧
    x.ring.tx = s.ring.tx ++ (if s.isGateway then [] else [⟨7, s.ring.ringNo * 64, 8⟩]) := by
  intro x
  obtain ⟨hnote, hup, hwrap, hhist, hhist2, hcond, htimer, hring, harr, hboot, hcmd, haddr⟩ := s.portWraps_shows east
  have hx : x = ((s.portWraps east).updRingPort east fun r => { r with good := 0 }).linkReport east false :=
    s.ringDown_eq east h
  rw [State.linkReport_eq] at hx
  generalize s.portWraps east = w at hnote hup hwrap hhist hhist2 hcond htimer hring harr hboot hcmd haddr hx
  have hgate : (w.updRingPort east fun r => { r with good := 0 }).isGateway = s.isGateway :=
    State.isGateway_of_rd (s := s) hboot hcmd
  have htx : (w.updRingPort east fun r => { r with good := 0 }).ring.tx = s.ring.tx ∧
      (w.updRingPort east fun r => { r with good := 0 }).ring.ringNo = s.ring.ringNo := by
    rw [← hring]
    cases east <;> exact ⟨rfl, rfl⟩
  rw [hgate, htx.1, htx.2] at hx
  rw [hx]
  refine ⟨⟨_, hnote, rfl⟩, hup, hwrap, hhist, hhist2, hcond, htimer, ?_, rfl⟩
  change w.arrivals ++ (if s.isGateway then [.linkReport w.address east false] else []) = _
  rw [harr, haddr]

/-! ### A link comes up, and the hold -/

/-- What the rise of a port leaves. -/
theorem State.ringIsUp_leaves (s : State) (east : Bool) (h : s.ringUp east = false) :
    let x := s.ringIsUp east
    (∃ y, Noted s y [FLU_STATUS.key] ∧ x = { y with timers := x.timers }) ∧
    x.on FLU_STATUS.key (upFld east) = true ∧ x.has ⟨288, 0, 0x80 + bit east⟩ = false ∧
    (s.ringWrapped east = false → x.timers = s.timers) ∧
    (s.ringWrapped east = true → ⟨.unwrap east, s.dev.ticks + unwrapHold s⟩ ∈ x.timers) := by
  intro x
  let t := s.setFlu (upFld east) 1
  let y := t.cond ⟨288, 0, 0x80 + bit east⟩ false
  have hsrc : (288 : Nat) < 384 := by decide
  have hc : Noted t y [] := .cond t _ _ hsrc []
  have hy : Noted s y [FLU_STATUS.key] := (Noted.setFlu s _ _).trans (hc.mono (by simp))
  have hx : x = if y.ringWrapped east then y.startTimer (.unwrap east) (unwrapHold s) else y := if_neg (by simp [h])
  have hwrapped : y.ringWrapped east = s.ringWrapped east :=
    (hc.on (k := FLU_STATUS.key) List.not_mem_nil (by decide) _).trans
      (State.on_setFlu_other s _ _ _ (by cases east <;> decide) (by cases east <;> decide))
  have hup : y.on FLU_STATUS.key (upFld east) = true :=
    (hc.on (k := FLU_STATUS.key) List.not_mem_nil (by decide) _).trans
      (State.on_put_one s _ _ (by cases east <;> decide) (by cases east <;> rfl))
  have hhas : y.has ⟨288, 0, 0x80 + bit east⟩ = false := State.has_cond_same t _ _ hsrc
  rw [hwrapped] at hx
  by_cases hw : s.ringWrapped east = true
  · rw [if_pos hw] at hx
    rw [hx]
    refine ⟨⟨y, hy, rfl⟩, (State.startTimer_on ..).trans hup, hhas, fun hf => absurd hw (by simp [hf]), fun _ => ?_⟩
    have := State.startTimer_mem y (.unwrap east) (unwrapHold s)
    rwa [hy.ticks] at this
  · rw [if_neg hw] at hx
    rw [hx]
    exact ⟨⟨y, hy, rfl⟩, hup, hhas, fun _ => hy.timers, fun ht => absurd ht hw⟩

/-- The hold has run on a wrapped port whose link is up: it reports good. -/
theorem State.unwrapExpiry_reports (s : State) (east : Bool) (hdue : s.timerDue (.unwrap east) = true)
    (hup : s.ringUp east = true) (hwrap : s.ringWrapped east = true) :
    s.unwrapExpiry east = { s with
      timers := s.timers.filter fun t => decide (t.kind ≠ .unwrap east)
      arrivals := s.arrivals ++ (if s.isGateway then [.linkReport s.address east true] else [])
      ring := { s.ring with tx := s.ring.tx ++ (if s.isGateway then [] else [⟨7, s.ring.ringNo * 64, 8⟩]) } } := by
  let t := s.stopTimer (.unwrap east)
  have hboth : (t.ringUp east && t.ringWrapped east) = true := by
    rw [Bool.and_eq_true]
    exact ⟨hup, hwrap⟩
  have hx : s.unwrapExpiry east = t.linkReport east true := (if_pos hdue).trans (if_pos hboth)
  rw [hx, State.linkReport_eq]
  rfl

/-! ### Unwrapping -/

theorem State.unwrapPort_noted (s : State) (east : Bool) : Noted s (s.unwrapPort east) [FLU_STATUS.key] := by
  unfold State.unwrapPort
  split
  · exact .setFlu s _ _
  · exact .refl s _

theorem wrapFld_apart (east : Bool) (f : Fld) (hf : f = upFld false ∨ f = upFld true ∨ f = wrapFld (!east)) :
    f.lo + f.width ≤ 32 ∧ (f.lo + f.width ≤ (wrapFld east).lo ∨ (wrapFld east).lo + (wrapFld east).width ≤ f.lo) := by
  rcases hf with rfl | rfl | rfl <;> cases east <;> decide

/-- Unwrapping one port leaves the links and the other port's wrap. -/
theorem State.on_unwrapPort_other (s : State) (east : Bool) (f : Fld)
    (hf : f = upFld false ∨ f = upFld true ∨ f = wrapFld (!east)) :
    (s.unwrapPort east).on FLU_STATUS.key f = s.on FLU_STATUS.key f := by
  obtain ⟨hword, hapart⟩ := wrapFld_apart east f hf
  unfold State.unwrapPort
  split
  · exact State.on_setFlu_other s _ _ _ hword hapart
  · rfl

/-- A port whose link is up is not wrapped after it; one whose link is down stays as it is. -/
theorem State.ringWrapped_unwrapPort (s : State) (east : Bool) :
    (s.ringUp east = true → (s.unwrapPort east).ringWrapped east = false) ∧
    (s.ringUp east = false → (s.unwrapPort east).ringWrapped east = s.ringWrapped east) := by
  unfold State.unwrapPort
  split
  · next h =>
    refine ⟨fun _ => State.on_put_zero s _ _ (by cases east <;> decide) (by cases east <;> rfl), fun hdown => ?_⟩
    rw [hdown, Bool.and_false] at h
    exact absurd h (by decide)
  · next h =>
    refine ⟨fun hup => ?_, fun _ => rfl⟩
    simpa [hup] using h

/-- From U on each wrapped port whose link is up has unwrapped. -/
theorem State.ringUnwrap_leaves (s : State) (east : Bool) {u : Nat} (hu : s.ring.unwrapAt = some u) (hdue : u ≤ s.time.sfn) :
    (∃ y, Noted s y [FLU_STATUS.key] ∧ s.ringUnwrap = { y with
      ring := { s.ring with unwrapAt := none, wrapped := [], goodReports := [] } }) ∧
    (s.ringUp east = true → s.ringUnwrap.ringWrapped east = false) ∧
    (s.ringUp east = false → s.ringUnwrap.ringWrapped east = s.ringWrapped east) ∧ s.ringUnwrap.raised 288 0x83 true := by
  let t1 := s.unwrapPort false
  let t2 := t1.unwrapPort true
  let t3 := t2.updRing fun x => { x with unwrapAt := none, wrapped := [], goodReports := [] }
  have hsrc : (288 : Nat) < 384 := by decide
  have hx : s.ringUnwrap = t3.event 288 0x83 true 0 := by
    rw [State.ringUnwrap, hu]
    exact if_neg (by omega)
  have h2 : Noted s t2 [FLU_STATUS.key] := (s.unwrapPort_noted false).trans (t1.unwrapPort_noted true)
  have hev : Noted t3 s.ringUnwrap [] := hx ▸ .event t3 _ _ _ _ hsrc []
  have hwrapped : s.ringUnwrap.ringWrapped east = t2.ringWrapped east := hev.on List.not_mem_nil (by decide) _
  have hring : t3.ring = { s.ring with unwrapAt := none, wrapped := [], goodReports := [] } := by
    rw [← h2.ring]; rfl
  obtain ⟨hup1, hdown1⟩ := s.ringWrapped_unwrapPort false
  obtain ⟨hup2, hdown2⟩ := t1.ringWrapped_unwrapPort true
  have hlink : t1.ringUp true = s.ringUp true := s.on_unwrapPort_other false _ (.inr (.inl rfl))
  have hwest : t2.ringWrapped false = t1.ringWrapped false := t1.on_unwrapPort_other true _ (.inr (.inr rfl))
  have heast : t1.ringWrapped true = s.ringWrapped true := s.on_unwrapPort_other false _ (.inr (.inr rfl))
  refine ⟨⟨{ s.ringUnwrap with ring := s.ring }, ?_, ?_⟩, ?_, ?_, hx ▸ State.raised_event t3 _ _ _ _ hsrc⟩
  · exact Noted.compose_ring (t := t3) h2.around_ring (hev.mono (by simp)).around_ring
  · rw [← hring, ← hev.ring]
  · intro h
    rw [hwrapped]
    cases east with
    | false => exact hwest.trans (hup1 h)
    | true => exact hup2 (hlink.trans h)
  · intro h
    rw [hwrapped]
    cases east with
    | false => exact hwest.trans (hdown1 h)
    | true => exact (hdown2 (hlink.trans h)).trans heast

theorem State.ringUnwrap_early (s : State) {u : Nat} (hu : s.ring.unwrapAt = some u) (h : s.time.sfn < u) :
    s.ringUnwrap = s := by
  rw [State.ringUnwrap, hu]
  exact if_pos h

/-! ### Members and addresses -/

theorem noteReg_fluMembers : ∀ pos : Fin 64, noteReg (FLU_MEMBERS.key (pos.val / 32)) = false := by decide

/-- The one member present has missed three beacons. -/
theorem State.beaconMissing_leaves (s : State) {e : RingEntry} (pos : Fin 64) (htable : s.ring.table = [e])
    (hpresent : e.present = true) (hpos : e.ident.addr.toNat % 64 = pos.val) (hmiss : 3 ≤ e.missing) :
    let x := s.beaconMissing pos
    (∃ y, Noted s y [FLU_MEMBERS.key (pos.val / 32)] ∧ x = { y with
      ring := { s.ring with table := [] }, arrivals := s.arrivals ++ [.notPresent e.ident.addr.toNat] }) ∧
    (x.get (FLU_MEMBERS.key (pos.val / 32)) FLU_MEMBERS.PRESENT).testBit (pos.val % 32) = false ∧
    x.raised 289 0x81 true := by
  intro x
  let t1 := s.updRing fun x => { x with table := x.table.filter fun y => decide (y.ident.fuse ≠ e.ident.fuse) }
  let t2 := t1.setMember (identPos e.ident) false
  let t3 := t2.event 289 0x81 true (identPos e.ident)
  have hsrc : (289 : Nat) < 384 := by decide
  have hid : identPos e.ident = pos.val := hpos
  have hx : x = t3.arrive (.notPresent e.ident.addr.toNat) := by
    have hfound : s.ring.table.find? (fun e => e.present && decide (identPos e.ident = pos) && decide (3 ≤ e.missing)) =
        some e := by
      rw [htable]
      exact List.find?_cons_of_pos (by simp [hpresent, hid, hmiss])
    change s.beaconMissing pos = _
    rw [State.beaconMissing, hfound]
    rfl
  have h2 : Noted t1 t2 [FLU_MEMBERS.key (pos.val / 32)] := by
    rw [← hid]
    exact .put t1 _ _ _ (List.mem_singleton_self _)
  have h3 : Noted t2 t3 [] := .event t2 _ _ _ _ hsrc []
  have h13 : Noted t1 t3 [FLU_MEMBERS.key (pos.val / 32)] := h2.trans (h3.mono (by simp))
  have hring : t3.ring = { s.ring with table := [] } := by
    rw [h13.ring]
    change { s.ring with table := s.ring.table.filter fun y => decide (y.ident.fuse ≠ e.ident.fuse) } = _
    rw [htable]
    simp
  have hkey : noteReg (FLU_MEMBERS.key (pos.val / 32)) = false := noteReg_fluMembers pos
  rw [hx]
  refine ⟨⟨{ t3 with ring := s.ring }, Noted.compose_ring (t := t1) (.refl s _) h13.around_ring, ?_⟩, ?_, ?_⟩
  · rw [← hring]
    change { t3 with arrivals := t3.arrivals ++ _ } = _
    rw [h13.arrivals]
    rfl
  · rw [State.arrive_get, h3.get List.not_mem_nil hkey, ← hid]
    change (((t1.setMember (identPos e.ident) false).get _ _).testBit _) = false
    rw [State.setMember, State.get_put_same t1 _ _ _ (by decide), Nat.testBit_mod_two_pow, putBits_testBit,
      if_neg (lt_irrefl _), if_pos (Nat.lt_succ_self _), Nat.sub_self]
    simp [bit]
  · exact State.raised_event t2 _ _ _ _ hsrc

theorem State.beaconMissing_heard (s : State) {e : RingEntry} (pos : Nat) (htable : s.ring.table = [e])
    (hmiss : e.missing < 3) : s.beaconMissing pos = s := by
  have hnone : s.ring.table.find? (fun e => e.present && decide (identPos e.ident = pos) && decide (3 ≤ e.missing)) =
      none := by
    rw [htable]
    simp
    omega
  rw [State.beaconMissing, hnone]

/-- A member takes the address assigned to its fuse ID, or drops it. -/
theorem State.takeAssign_own (s : State) (addr : BitVec 10) (valid : Bool) (h : s.isGateway = false) :
    let x := s.takeAssign s.dev.fuseId addr.toNat valid
    OnlyRegs s x [FLU_STATUS.key] ∧ x.on FLU_STATUS.key FLU_STATUS.ADDR_VALID = valid ∧
    x.get FLU_STATUS.key FLU_STATUS.ADDR = if valid then addr.toNat else 0 := by
  intro x
  let t := s.setFlu FLU_STATUS.ADDR (if valid then addr.toNat else 0)
  have hx : x = t.setFlu FLU_STATUS.ADDR_VALID (bit valid) := by
    refine (if_neg (by simp [h])).trans ?_
    cases valid <;> rfl
  rw [hx]
  refine ⟨(OnlyRegs.put s _ _ _ (List.mem_singleton_self _)).trans (.put t _ _ _ (List.mem_singleton_self _)),
    State.on_put_bit t _ _ valid (by decide) rfl, ?_⟩
  rw [State.get_setFlu_other t _ _ _ (by decide) (by decide)]
  refine (State.get_put_same s _ _ _ (by decide)).trans (Nat.mod_eq_of_lt ?_)
  cases valid
  · exact Nat.two_pow_pos _
  · exact addr.isLt

/-- An address whose beacon has not come in time: its command ends with a reply. -/
theorem State.assignExpiry_due (s : State) {a : Assign} (hone : s.ring.assigns = [a]) (hdue : a.due ≤ s.dev.ticks) :
    Reported { s with ring := { s.ring with assigns := [] } } s.assignExpiry := by
  have hfilter : (s.ring.assigns.filter fun a => decide (a.due ≤ s.dev.ticks)) = [a] := by
    rw [hone]
    simp [hdue]
  have hring : (s.updRing fun x => { x with assigns := x.assigns.filter fun b => decide (b ≠ a) }) =
      { s with ring := { s.ring with assigns := [] } } := by
    rw [State.updRing_eq, hone]
    simp
  rw [State.assignExpiry, hfilter]
  change Reported _ (s.endAssign a stNOT_PRESENT)
  rw [State.endAssign, hring]
  exact State.reply_reported ..

theorem State.assignExpiry_early (s : State) (h : ∀ a ∈ s.ring.assigns, s.dev.ticks < a.due) : s.assignExpiry = s := by
  have hfilter : (s.ring.assigns.filter fun a => decide (a.due ≤ s.dev.ticks)) = [] := by
    rw [List.filter_eq_nil_iff]
    intro a ha
    have := h a ha
    simpa using this
  rw [State.assignExpiry, hfilter]
  rfl

end Sys2Proof.Machine

open Sys2Proof Sys2Proof.Machine

/-- Settles O19: each row is what one operation of the ring leaves. -/
theorem ringLinksAndMembers : Obligations.RingLinksAndMembers := by
  unfold Obligations.RingLinksAndMembers
  refine ⟨fun s east => ?_, fun s => ?_⟩
  · have hfld : (if east then FLU_STATUS.EAST_UP else FLU_STATUS.WEST_UP) = upFld east ∧
        (if east then FLU_STATUS.WRAP_E else FLU_STATUS.WRAP_W) = wrapFld east ∧ (if east then 1 else 0) = bit east ∧
        (if east then 0x81 else 0x80) = 0x80 + bit east := by cases east <;> decide
    obtain ⟨hup, hwrap, hbit, hcode⟩ := hfld
    intro up wrap k
    simp only [up, wrap, k, hup, hwrap, hbit, hcode]
    refine ⟨fun h => answers_of rfl (if_pos (by simp [State.ringUp, h])),
      fun h => answers_of rfl (s.ringDown_leaves east h), fun h => answers_of rfl (if_pos h),
      fun h => answers_of rfl (s.ringIsUp_leaves east h), fun h => answers_of rfl (if_neg (by simp [h])),
      fun hdue h1 h2 => answers_of rfl (s.unwrapExpiry_reports east hdue h1 h2),
      fun u hu h => answers_of rfl (s.ringUnwrap_early hu h), fun u hu h => answers_of rfl (s.ringUnwrap_leaves east hu h)⟩
  · refine ⟨fun _ _ _ => answers_of rfl rfl, fun _ _ => answers_of rfl rfl, fun _ _ => answers_of rfl rfl,
      fun _ => answers_of rfl rfl, fun pos e htable hp hpos => ⟨fun h => answers_of rfl (s.beaconMissing_heard pos htable h),
        fun h => answers_of rfl (s.beaconMissing_leaves pos htable hp hpos h)⟩,
      fun f addr valid h => answers_of rfl (if_pos h), fun addr valid h => answers_of rfl (s.takeAssign_own addr valid h),
      fun h => answers_of rfl (s.assignExpiry_early h), fun a hone hdue => answers_of rfl (s.assignExpiry_due hone hdue)⟩
end

section
/-! PROOF. Ring headers and the packets that a ring frame carries (R380, R381, Table 15-6). -/

namespace Sys2Proof.Machine

/-- The ring with the record of one port replaced. -/
def ringWith (r : RingSt) (east : Bool) (p : RingPort) : RingSt :=
  if east then { r with east := p } else { r with west := p }

theorem State.updRingPort_eq (s : State) (east : Bool) (f : RingPort → RingPort) :
    s.updRingPort east f = { s with ring := ringWith s.ring east (f (s.ringPort east)) } := by
  cases east <;> rfl

/-! ### Headers that fail their check -/

/-- A header that fails before the third in a row is counted and ends the run of good ones. -/
theorem State.ringReceive_bad (s : State) (east : Bool) {h : RingHdr} (hbad : h.checkOk = false)
    (hmiss : (s.ringPort east).miss < 2) :
    s.ringReceive east h = { s.bump FLU_ERR_CNT.key FLU_ERR_CNT.HDR_ERR 1 with
      ring := ringWith s.ring east { s.ringPort east with good := 0, miss := (s.ringPort east).miss + 1 } } := by
  let s1 := (s.bump FLU_ERR_CNT.key FLU_ERR_CNT.HDR_ERR 1).updRingPort east fun x => { x with good := 0, miss := x.miss + 1 }
  have hport : s1.ringPort east = { s.ringPort east with good := 0, miss := (s.ringPort east).miss + 1 } := by
    cases east <;> rfl
  have hkept : ¬ 3 ≤ (s1.ringPort east).miss := by
    rw [hport]
    change ¬ 3 ≤ (s.ringPort east).miss + 1
    omega
  have hboth : ¬ (8 ≤ s1.ring.west.miss ∧ 8 ≤ s1.ring.east.miss) := by
    intro hall
    cases east with
    | false => exact hkept (le_trans (by decide) hall.1)
    | true => exact hkept (le_trans (by decide) hall.2)
  have hx : s.ringReceive east h = s1 := by
    refine (if_pos (by simp [hbad])).trans ?_
    dsimp only
    rw [if_neg hkept, if_neg hboth]
  exact hx.trans (State.updRingPort_eq ..)

/-! ### Accepted headers -/

/-- An accepted header without FAR_FAIL on a port that is up counts as good; on the path that times the device it is
taken. -/
theorem State.ringReceive_good (s : State) (east : Bool) {h : RingHdr} (hok : h.checkOk = true)
    (hfar : h.flags.toNat.testBit 6 = false) (hup : s.ringUp east = true) (hpath : east = false ∨ s.ringUp false = false) :
    s.ringReceive east h = ({ s with
      ring := ringWith s.ring east { good := (s.ringPort east).good + 1, miss := 0, far := 0 } } : State).takeHeader east h := by
  let s1 : State := { s with ring := ringWith s.ring east { good := (s.ringPort east).good + 1, miss := 0, far := 0 } }
  have hs1 : (s.updRingPort east fun x => { x with
      miss := 0, far := if h.flags.toNat.testBit 6 then x.far + 1 else 0
      good := if h.flags.toNat.testBit 6 then 0 else x.good + 1 }) = s1 := by
    rw [State.updRingPort_eq]
    simp only [hfar]
    rfl
  have hfar1 : ¬ 2 ≤ (s1.ringPort east).far := by cases east <;> exact Nat.not_succ_le_zero 1
  have hisup : s1.ringIsUp east = s1 := if_pos hup
  have honpath : s1.onPath east = true := by
    cases east with
    | false => rfl
    | true =>
      have : s.ringUp false = false := hpath.resolve_left (by decide)
      change (!s.ringUp false) = true
      simp [this]
  refine (if_neg (by simp [hok])).trans ?_
  dsimp only
  rw [hs1, if_neg hfar1, hisup, ite_self, if_pos honpath]

theorem State.gatewayRule_keeps (s : State) {h : RingHdr} (hk : s.isGateway = false ∨ s.dev.fuseId.toNat ≤ h.rootFuse.toNat) :
    s.gatewayRule h = s := by
  refine if_neg ?_
  rcases hk with hk | hk
  · simp [hk]
  · simp; omega

/-- The root takes the delay of the link, and nothing else. -/
theorem State.takeHeader_root (s : State) (east : Bool) {h : RingHdr} (hroot : s.isGateway = true)
    (hfuse : s.dev.fuseId.toNat ≤ h.rootFuse.toNat) :
    s.takeHeader east h = s.put FLU_DELAY.key (if east then FLU_DELAY.LINK_E else FLU_DELAY.LINK_W) h.linkDelayNs := by
  let t := s.put FLU_DELAY.key (if east then FLU_DELAY.LINK_E else FLU_DELAY.LINK_W) h.linkDelayNs
  have hgate : t.isGateway = true :=
    (State.isGateway_of_rd (s := s) (State.rd_put_other _ _ _ _ _ (by decide)) rfl).trans hroot
  have hrule : t.gatewayRule h = t := t.gatewayRule_keeps (.inr hfuse)
  change (if (t.gatewayRule h).isGateway then _ else _) = t
  rw [hrule, if_pos hgate]

/-- The ring number of a header, taken by a member. -/
theorem State.ringNumber_member (s : State) (n : Nat) (hmember : s.isGateway = false) :
    s.ringNumber n = if s.get FLU_STATUS.key FLU_STATUS.ADDR_VALID = 0 then { s with ring := { s.ring with ringNo := n } }
      else ({ s with ring := { s.ring with ringNo := n } } : State).setFlu FLU_STATUS.ADDR (n * 64 + s.address % 64) := by
  unfold State.ringNumber State.flu
  simp only [hmember, Bool.false_eq_true, false_or]
  rfl

theorem State.alignSfn_agrees (s : State) (v epoch : Nat) (hepoch : epoch = s.time.epoch)
    (hok : s.on SYS_TIME_STATUS.key SYS_TIME_STATUS.SFN_CONFLICT = false)
    (hnext : v = s.time.nextSfn.getD (s.time.sfn + 1)) : s.alignSfn v epoch = s :=
  (s.alignSfn_near v epoch hepoch hok).1 hnext.symm

/-- A member that agrees with the ring takes a header on its path: what it takes, step by step. -/
theorem State.takeHeader_member (s : State) {h : RingHdr} (hmember : s.isGateway = false)
    (hgo : h.flags.toNat.testBit 5 = false) (hadopted : s.ring.adopted = true) (hepoch : h.epoch.toNat = s.time.epoch)
    (hok : s.on SYS_TIME_STATUS.key SYS_TIME_STATUS.SFN_CONFLICT = false)
    (hnext : h.sfn.toNat = s.time.nextSfn.getD (s.time.sfn + 1)) :
    ∃ v : State, s.takeHeader false h =
        (v.put FLU_CUM_DELAY.key FLU_CUM_DELAY.CUM_DELAY (h.cumDelay.toNat + 10 * h.linkDelayNs)).setFlu
          FLU_STATUS.HOP (h.hop.toNat + 1) ∧
      v = { s with regs := v.regs, ring := { s.ring with rootFuse := h.rootFuse, ringNo := h.ring.toNat } } ∧
      (∀ k, k ≠ FLU_DELAY.key → k ≠ FLU_STATUS.key → v.rd k = s.rd k) ∧
      v.get FLU_DELAY.key FLU_DELAY.LINK_W = h.linkDelayNs % 2 ^ 16 ∧
      (s.get FLU_STATUS.key FLU_STATUS.ADDR_VALID ≠ 0 →
        v.get FLU_STATUS.key FLU_STATUS.ADDR = h.ring.toNat * 64 + s.address % 64) := by
  let s1 := s.put FLU_DELAY.key FLU_DELAY.LINK_W h.linkDelayNs
  let s2 := s1.updRing fun x => { x with rootFuse := h.rootFuse }
  let v := s2.ringNumber h.ring.toNat
  let w := v.put FLU_CUM_DELAY.key FLU_CUM_DELAY.CUM_DELAY (h.cumDelay.toNat + 10 * h.linkDelayNs)
  let x := w.setFlu FLU_STATUS.HOP (h.hop.toNat + 1)
  have hgate : s1.isGateway = false :=
    (State.isGateway_of_rd (s := s) (State.rd_put_other _ _ _ _ _ (by decide)) rfl).trans hmember
  have hrule : s1.gatewayRule h = s1 := s1.gatewayRule_keeps (.inl hgate)
  have hvalid : s2.get FLU_STATUS.key FLU_STATUS.ADDR_VALID = s.get FLU_STATUS.key FLU_STATUS.ADDR_VALID :=
    State.get_put_other s _ _ _ _ _ (by decide)
  have haddr : s2.address = s.address := State.get_put_other s _ _ _ _ _ (by decide)
  have hdelay : s2.get FLU_DELAY.key FLU_DELAY.LINK_W = h.linkDelayNs % 2 ^ 16 := State.get_put_same s _ _ _ (by decide)
  have hrd2 : ∀ k, k ≠ FLU_DELAY.key → s2.rd k = s.rd k := fun k hk => State.rd_put_other s _ _ _ _ hk
  have hnumber := s2.ringNumber_member h.ring.toNat hgate
  rw [hvalid, haddr] at hnumber
  have hframe2 : s2 = { s with regs := s2.regs, ring := { s.ring with rootFuse := h.rootFuse } } := rfl
  have hv : v = { s with regs := v.regs, ring := { s.ring with rootFuse := h.rootFuse, ringNo := h.ring.toNat } } ∧
      (∀ k, k ≠ FLU_DELAY.key → k ≠ FLU_STATUS.key → v.rd k = s.rd k) ∧
      v.get FLU_DELAY.key FLU_DELAY.LINK_W = h.linkDelayNs % 2 ^ 16 ∧
      (s.get FLU_STATUS.key FLU_STATUS.ADDR_VALID ≠ 0 →
        v.get FLU_STATUS.key FLU_STATUS.ADDR = h.ring.toNat * 64 + s.address % 64) := by
    by_cases hzero : s.get FLU_STATUS.key FLU_STATUS.ADDR_VALID = 0
    · rw [if_pos hzero] at hnumber
      rw [show v = _ from hnumber]
      exact ⟨rfl, fun k hk _ => hrd2 k hk, hdelay, fun hne => absurd hzero hne⟩
    · rw [if_neg hzero] at hnumber
      rw [show v = _ from hnumber]
      refine ⟨rfl, fun k hk hk' => (State.rd_put_other _ _ _ _ _ hk').trans (hrd2 k hk),
        (State.get_put_other _ _ _ _ _ _ (by decide)).trans hdelay, fun _ => ?_⟩
      refine (State.get_put_same _ _ _ _ (by decide)).trans (Nat.mod_eq_of_lt ?_)
      have := h.ring.isLt
      change h.ring.toNat * 64 + s.address % 64 < 1024
      omega
  refine ⟨v, ?_, hv⟩
  obtain ⟨hframe, hrd, _⟩ := hv
  have hx : x.ring.adopted = true ∧ x.time = s.time ∧
      x.on SYS_TIME_STATUS.key SYS_TIME_STATUS.SFN_CONFLICT = s.on SYS_TIME_STATUS.key SYS_TIME_STATUS.SFN_CONFLICT := by
    refine ⟨?_, ?_, ?_⟩
    · change v.ring.adopted = true
      rw [hframe]
      exact hadopted
    · change v.time = s.time
      rw [hframe]
    · refine State.on_of_rd ?_ _
      exact ((State.rd_put_other w _ _ _ _ (by decide)).trans (State.rd_put_other v _ _ _ _ (by decide))).trans
        (hrd _ (by decide) (by decide))
  obtain ⟨hxad, hxtime, hxon⟩ := hx
  have hflag : ∀ y z : State, (if h.flags.toNat.testBit 5 then y else z) = z := fun _ _ => if_neg (by simp [hgo])
  have halign : x.alignSfn h.sfn.toNat h.epoch.toNat = x :=
    x.alignSfn_agrees _ _ (hxtime ▸ hepoch) (hxon.trans hok) (hxtime ▸ hnext)
  have hfirst : s.takeHeader false h = (if x.ring.adopted then x.alignSfn h.sfn.toNat h.epoch.toNat
      else if 8 ≤ (x.ringPort false).good then x.sfnReturn h.sfn.toNat h.epoch.toNat else x) := by
    rw [State.takeHeader, if_neg Bool.false_ne_true]
    change (if (s1.gatewayRule h).isGateway then s1.gatewayRule h else _) = _
    rw [show s.put FLU_DELAY.key FLU_DELAY.LINK_W h.linkDelayNs = s1 from rfl, hrule, if_neg (by simp [hgate])]
    dsimp only
    rw [hflag]
  rw [hfirst, if_pos hxad, halign]

/-! ### Frames sent -/

/-- What fits is a leading part, within the room, and the next packet no longer fits. -/
theorem takeFor_spec (room : Nat) (ps : List RingPkt) :
    ∃ rest, ps = takeFor room ps ++ rest ∧ rest = ps.drop (takeFor room ps).length ∧
      ((takeFor room ps).map RingPkt.len).sum ≤ room ∧
      ∀ p, rest.head? = some p → room < ((takeFor room ps).map RingPkt.len).sum + p.len := by
  induction ps generalizing room with
  | nil => exact ⟨[], rfl, rfl, Nat.zero_le _, fun p hp => absurd hp (by simp)⟩
  | cons p ps ih =>
    by_cases hp : p.len ≤ room
    · obtain ⟨rest, happ, hdrop, hsum, hnext⟩ := ih (room - p.len)
      have ht : takeFor room (p :: ps) = p :: takeFor (room - p.len) ps := if_pos hp
      rw [ht]
      refine ⟨rest, by rw [List.cons_append, ← happ], by simpa using hdrop, ?_, fun q hq => ?_⟩
      · simp only [List.map_cons, List.sum_cons]
        omega
      · have := hnext q hq
        simp only [List.map_cons, List.sum_cons]
        omega
    · have ht : takeFor room (p :: ps) = [] := if_neg hp
      rw [ht]
      refine ⟨p :: ps, rfl, rfl, Nat.zero_le _, fun q hq => ?_⟩
      obtain rfl : p = q := by simpa using hq
      simp
      omega

/-- The flags of the frame that is sent. -/
def State.frameFlags (s : State) : Nat :=
  128 * bit (s.ringWrapped false || s.ringWrapped true) + 64 * bit (!s.ringUp false || !s.ringUp true) +
    32 * bit (s.isGateway && s.unwrapNext)

theorem State.ringTransmit_unwrap (s : State) (h : s.unwrapNext = true) :
    s.ringTransmit.ring.sent = [] ∧ s.ringTransmit.ring.tx = s.ring.tx ∧ s.ringTransmit.cmd = s.cmd ∧
    s.ringTransmit.evt = s.evt ∧ s.ringTransmit.ports = s.ports := by
  let s0 := s.updRing fun x => { x with sent := [], sentFlags := s.frameFlags }
  have hx : s.ringTransmit = if s.isGateway then s0.setFlu FLU_STATUS.HOP 0 else s0 := if_pos h
  rw [hx]
  split <;> exact ⟨rfl, rfl, rfl, rfl, rfl⟩

theorem State.beaconPkts_root (s : State) (h : s.isGateway = true) : s.beaconPkts = [] := if_pos (.inl h)

/-- The root sends what may go into any frame and then what fits, in order. -/
theorem State.ringTransmit_root (s : State) (hun : s.unwrapNext = false) (hroot : s.isGateway = true) :
    s.ringTransmit = { s.put FLU_STATUS.key FLU_STATUS.HOP 0 with
      ring := { s.ring with
        sent := s.ring.tx.filter RingPkt.free ++ takeFor rootAllowance (s.ring.tx.filter fun p => !p.free)
        sentFlags := s.frameFlags
        tx := (s.ring.tx.filter fun p => !p.free).drop
          (takeFor rootAllowance (s.ring.tx.filter fun p => !p.free)).length } } := by
  let s0 := s.updRing fun x => { x with sent := [], sentFlags := s.frameFlags }
  let out := takeFor rootAllowance (s.ring.tx.filter fun p => !p.free)
  have hx : s.ringTransmit = (if s.isGateway then s0.setFlu FLU_STATUS.HOP 0 else s0).updRing fun x =>
      { x with
        tx := (s.ring.tx.filter fun p => !p.free).drop out.length
        sent := s.ring.tx.filter RingPkt.free ++ s.beaconPkts ++ out } :=
    (if_neg (by simp [hun])).trans (if_pos hroot)
  rw [hx, if_pos hroot, s.beaconPkts_root hroot, List.append_nil]
  rfl

/-- A member whose turn it is not sends what may go into any frame. -/
theorem State.ringTransmit_member (s : State) (hun : s.unwrapNext = false) (hmember : s.isGateway = false)
    (hturn : s.time.sfn % 2 ≠ s.get FLU_STATUS.key FLU_STATUS.HOP % 2) :
    s.ringTransmit = { s with ring := { s.ring with
      sent := s.ring.tx.filter RingPkt.free ++ s.beaconPkts
      sentFlags := s.frameFlags
      tx := s.ring.tx.filter fun p => !p.free } } := by
  let s0 := s.updRing fun x => { x with sent := [], sentFlags := s.frameFlags }
  have hx : s.ringTransmit = (if s.isGateway then s0.setFlu FLU_STATUS.HOP 0 else s0).updRing fun x =>
      { x with
        tx := s.ring.tx.filter fun p => !p.free
        sent := s.ring.tx.filter RingPkt.free ++ s.beaconPkts } :=
    (if_neg (by simp [hun])).trans ((if_neg (by simp [hmember])).trans (if_neg hturn))
  rw [hx, if_neg (by simp [hmember])]
  rfl

end Sys2Proof.Machine

open Sys2Proof Sys2Proof.Machine

/-- Settles O18: a header moves the record of its port, and the path takes it; a frame takes whole packets that fit. -/
theorem ringHeadersAndFrames : Obligations.RingHeadersAndFrames := by
  unfold Obligations.RingHeadersAndFrames
  refine ⟨fun s east h => ?_, fun s => ?_⟩
  · intro port withPort goodPort
    refine ⟨fun hbad hmiss => answers_of rfl ?_, fun hok hfar hup hpath hroot hfuse => answers_of rfl ?_,
      fun hok hfar hgo heast hup hmember hadopted hconf hepoch hnext => answers_of rfl ?_⟩
    · rw [s.ringReceive_bad east hbad hmiss]
      exact ⟨⟨_, .bump s _ _ _ (List.mem_singleton_self _), rfl⟩, State.get_bump s _ _ _ (by decide)⟩
    · rw [(s.ringReceive_good east hok hfar hup hpath).trans (State.takeHeader_root _ east hroot hfuse)]
      refine ⟨⟨_, .put s _ _ _ (List.mem_singleton_self _), rfl⟩, ?_⟩
      exact (State.get_put_same _ _ _ _ (by cases east <;> decide)).trans (by cases east <;> rfl)
    · rw [s.ringReceive_good false hok hfar hup (.inl rfl)]
      obtain ⟨v, hx, hframe, hrd, hdelay, haddr⟩ := State.takeHeader_member
        { s with ring := ringWith s.ring false { good := (s.ringPort false).good + 1, miss := 0, far := 0 } }
        hmember hgo hadopted hepoch hconf hnext
      rw [hx]
      let w := v.put FLU_CUM_DELAY.key FLU_CUM_DELAY.CUM_DELAY (h.cumDelay.toNat + 10 * h.linkDelayNs)
      refine ⟨⟨_, OnlyRegs.of_rd (x := w.setFlu FLU_STATUS.HOP (h.hop.toNat + 1)) fun k hk => ?_, ?_⟩, ?_, ?_, ?_,
        fun hvalid => ?_⟩
      · simp only [List.mem_cons, List.not_mem_nil, or_false, not_or] at hk
        obtain ⟨h1, h2, h3⟩ := hk
        exact ((State.rd_put_other w _ _ _ _ h3).trans (State.rd_put_other v _ _ _ _ h2)).trans (hrd k h1 h3)
      · have hw : w.setFlu FLU_STATUS.HOP (h.hop.toNat + 1) =
            { v with regs := (w.setFlu FLU_STATUS.HOP (h.hop.toNat + 1)).regs } := rfl
        change w.setFlu FLU_STATUS.HOP (h.hop.toNat + 1) = _
        generalize w.setFlu FLU_STATUS.HOP (h.hop.toNat + 1) = x at hw ⊢
        rw [hw, hframe]
        obtain rfl : east = false := heast
        rfl
      · exact ((State.get_put_other w _ _ _ _ _ (by decide)).trans (State.get_put_other v _ _ _ _ _ (by decide))).trans hdelay
      · exact (State.get_put_other w _ _ _ _ _ (by decide)).trans (State.get_put_same v _ _ _ (by decide))
      · exact State.get_put_same w _ _ _ (by decide)
      · exact ((State.get_put_field w _ _ _ _ (by decide) (by decide)).trans
          (State.get_put_other v _ _ _ _ _ (by decide))).trans (haddr hvalid)
  · intro free bound
    refine ⟨fun hun => answers_of rfl (s.ringTransmit_unwrap hun), fun hun hroot => answers_of rfl ?_,
      fun hun hmember hturn => answers_of rfl (by rw [s.ringTransmit_member hun hmember hturn])⟩
    obtain ⟨rest, happ, hrest, hsum, hnext⟩ := takeFor_spec rootAllowance bound
    rw [s.ringTransmit_root hun hroot]
    refine ⟨⟨_, .put s _ _ _ (List.mem_singleton_self _), rfl⟩, State.get_put_same s _ _ _ (by decide),
      takeFor rootAllowance bound, rfl, ?_, hsum, ?_⟩
    · exact hrest ▸ happ
    · exact hrest ▸ hnext
end

section
/-! PROOF. Replies at the gateway (R368, R370). -/

namespace Sys2Proof.Machine

theorem ButTrace.queue {s x : State} (h : ButTrace s x) (j : Nat) : x.queue j = s.queue j := by
  unfold State.queue; rw [h.1]

/-- A reply packet that fits enters the reply queue of its master whole. -/
theorem State.deliverPacket_words (s : State) (m : Nat) (bs : List Byte) (hm : m < 2)
    (hfits : (s.queue (2 + m)).words.length + (replyRecord bs).length + 1 ≤ queueCap (2 + m)) :
    ((s.deliverPacket m bs).queue (2 + m)).words =
      (s.queue (2 + m)).words ++ owedMarkers (s.queue (2 + m)) ++ replyRecord bs := by
  obtain ⟨htrue, hwords, _⟩ := s.insertWords_fits (2 + m) (replyRecord bs) (by omega) hfits
  have hx : s.deliverPacket m bs =
      (s.insertWords (2 + m) (replyRecord bs)).2.tracePacket 1 m (bs.getD 24 0).toNat bs := if_pos htrue
  rw [hx, ← hwords]
  exact congrArg Queue.words ((State.capture_butTrace _ _ _ _ _).queue _)

theorem State.updMaster_queue (s : State) (m : Nat) (g : Master → Master) (j : Nat) :
    (s.updMaster m g).queue j = s.queue j := by
  rw [State.updMaster_eq]; rfl

/-- Setting what a master awaits to what it awaits changes nothing. -/
theorem State.updMaster_awaiting_self (s : State) (m : Nat) :
    (s.updMaster m fun y => { y with awaiting := (s.master m).awaiting }) = s := by
  unfold State.updMaster State.master
  split <;> rfl

theorem State.updMaster_congr (s : State) (m : Nat) {f g : Master → Master} (h : f (s.master m) = g (s.master m)) :
    s.updMaster m f = s.updMaster m g := by
  unfold State.updMaster
  unfold State.master at h
  split
  · next hm => rw [if_pos hm] at h; rw [h]
  · next hm => rw [if_neg hm] at h; rw [h]

/-- The last reply of the one command awaited under its SEQ ends its record. -/
theorem State.gatewayReply_ends (s : State) (m : Nat) {a : Await} (bs : List Byte) (hone : (s.master m).awaiting = [a])
    (hto : a.timedOut = false) (hmore : fieldAt bs 18 2 < 2 ^ 15) (hphase : fieldAt bs 25 1 ≠ 1) :
    s.gatewayReply m a.packet.seq.toNat bs = (s.updMaster m fun y => { y with awaiting := [] }).deliverPacket m bs := by
  have hfind : (s.master m).awaiting.find? (fun b => decide (b.packet.seq.toNat = a.packet.seq.toNat)) = some a := by
    rw [hone]
    exact List.find?_cons_of_pos (by simp)
  rw [State.gatewayReply, hfind]
  have hkeep : (decide (2 ^ 15 ≤ fieldAt bs 18 2) || decide (fieldAt bs 25 1 = 1)) = false := by
    simp [hphase]
    omega
  simp only [hkeep, hto, Bool.false_eq_true, false_and, if_false]
  rw [hone]
  simp

/-- A reply that no record awaits is passed on as it came. -/
theorem State.gatewayReply_unawaited (s : State) (m : Nat) (seq : BitVec 16) (bs : List Byte)
    (h : ∀ a ∈ (s.master m).awaiting, a.packet.seq ≠ seq) : s.gatewayReply m seq.toNat bs = s.deliverPacket m bs := by
  have hfind : (s.master m).awaiting.find? (fun b => decide (b.packet.seq.toNat = seq.toNat)) = none := by
    rw [List.find?_eq_none]
    intro a ha hseq
    exact h a ha (BitVec.eq_of_toNat_eq (of_decide_eq_true hseq))
  rw [State.gatewayReply, hfind]

theorem State.replyFor_reported (s : State) (p : Packet) (status detail : Nat) :
    Reported s (s.replyFor p status detail) := by
  unfold State.replyFor
  split
  · exact .refl s
  · exact State.emit_reported _ _ (Packet.master_lt p)

/-- A command whose first reply has not come by its TIMEOUT is answered for, and its record is kept as timed out. -/
theorem State.gatewayExpiry_due (s : State) (m : Nat) {a : Await} (hone : (s.master m).awaiting = [a])
    (hans : a.answered = false) (hto : a.timedOut = false) (hdue : a.due ≤ s.dev.ticks) :
    s.gatewayExpiry m a.packet.seq.toNat =
      ((((s.updMaster m fun z => { z with awaiting := [{ a with timedOut := true }] }).replyFor a.packet stBUSY 0x0007).put
        CMD_STATUS.key CMD_STATUS.TIMEOUT_HIST 1).event (258 + m) 0x83 true 0) := by
  have hfind : (s.master m).awaiting.find? (fun b => decide (b.packet.seq.toNat = a.packet.seq.toNat ∧
      b.due ≤ s.dev.ticks) && !b.answered && !b.timedOut) = some a := by
    rw [hone]
    exact List.find?_cons_of_pos (by simp [hans, hto, hdue])
  have hupd : (s.updMaster m fun x => { x with awaiting := x.awaiting.map fun b =>
      if b.packet.seq.toNat = a.packet.seq.toNat then { b with timedOut := true } else b }) =
      s.updMaster m fun z => { z with awaiting := [{ a with timedOut := true }] } := by
    refine s.updMaster_congr m ?_
    rw [hone]
    simp
  rw [State.gatewayExpiry, hfind]
  dsimp only
  rw [hupd]

theorem State.gatewayExpiry_early (s : State) (m seq : Nat) {a : Await} (hone : (s.master m).awaiting = [a])
    (hdue : s.dev.ticks < a.due) : s.gatewayExpiry m seq = s := by
  have hfind : (s.master m).awaiting.find? (fun b => decide (b.packet.seq.toNat = seq ∧
      b.due ≤ s.dev.ticks) && !b.answered && !b.timedOut) = none := by
    rw [hone]
    refine List.find?_cons_of_neg ?_
    simp
    omega
  rw [State.gatewayExpiry, hfind]

end Sys2Proof.Machine

open Sys2Proof Sys2Proof.Machine

/-- Settles O21: a reply is delivered whole if it fits, with what its record awaits; an expiry is answered for. -/
theorem gatewayReplies : Obligations.GatewayReplies := by
  unfold Obligations.GatewayReplies
  intro s m seq bytes q delivered
  have hdelivered : ∀ kept : List Await, ∀ x : State,
      x = (s.updMaster m fun y => { y with awaiting := kept }).deliverPacket m bytes →
      Reported (s.updMaster m fun y => { y with awaiting := kept }) x ∧
      ((s.queue q).words.length + (replyRecord bytes).length + 1 ≤ queueCap q →
        (x.queue q).words = (s.queue q).words ++ owedMarkers (s.queue q) ++ replyRecord bytes) := fun kept x hx => by
    have hqueue := s.updMaster_queue m (fun y => { y with awaiting := kept }) q
    rw [hx, ← hqueue]
    exact ⟨State.deliverPacket_reported _ _ _ m.isLt, State.deliverPacket_words _ _ _ m.isLt⟩
  refine ⟨fun h => answers_of rfl (hdelivered _ _ ?_), fun a hone hseq hto hmore hphase => answers_of rfl (hdelivered _ _ ?_),
    fun a hone hseq hans hto => ⟨fun h => answers_of rfl (s.gatewayExpiry_early m _ hone h),
      fun hdue => answers_of rfl ?_⟩⟩
  · rw [s.updMaster_awaiting_self, s.gatewayReply_unawaited m seq bytes h]
  · rw [← hseq]
    exact s.gatewayReply_ends m bytes hone hto hmore hphase
  · rw [← hseq, s.gatewayExpiry_due m hone hans hto hdue]
    have hsrc : 258 + m.val < 384 := by omega
    have hreport := State.replyFor_reported (s.updMaster m fun z => { z with awaiting := [{ a with timedOut := true }] })
      a.packet stBUSY 0x0007
    generalize (s.updMaster m fun z => { z with awaiting := [{ a with timedOut := true }] }).replyFor a.packet stBUSY
      0x0007 = y at hreport ⊢
    have hev : Noted (y.put CMD_STATUS.key CMD_STATUS.TIMEOUT_HIST 1)
        ((y.put CMD_STATUS.key CMD_STATUS.TIMEOUT_HIST 1).event (258 + m) 0x83 true 0) [] := .event _ _ _ _ _ hsrc []
    refine ⟨⟨y, hreport, (Noted.put y _ _ _ (List.mem_singleton_self _)).trans (hev.mono (by simp))⟩, ?_,
      State.raised_event _ _ _ _ _ hsrc⟩
    rw [hev.on List.not_mem_nil (by decide)]
    exact State.on_put_one y _ _ (by decide) rfl
end

section
/-! PROOF. Host commands: the rows of the acceptance order (Table 14-5). -/

namespace Sys2Proof

/-- The packet that a row takes: its opcode, and its selecting byte where it has one. -/
def HostRow.taken (h : HostRow) : Packet :=
  match h.selector with
  | none => h.packet.forOp h.opcode
  | some (off, v) => h.packet.forByte h.opcode off v

theorem putByte_same (bs : List Byte) (off : Nat) (v : Nat) (h : ∀ b, bs[off]? = some b → b.toNat = v) :
    Machine.putByte bs off (BitVec.ofNat 8 v) = bs := by
  unfold Machine.putByte
  refine List.ext_getElem? fun i => ?_
  rw [List.getElem?_set]
  split
  · next hi =>
    subst hi
    cases hb : bs[off]? with
    | none => simp [List.getElem?_eq_none_iff.mp hb]
    | some b =>
      have hlt : off < bs.length := (List.getElem?_eq_some_iff.mp hb).1
      rw [if_pos hlt, ← h b hb]
      simp
  · rfl

/-- A packet of the row is taken as it is. -/
theorem HostRow.taken_eq {h : HostRow} (hm : h.matchesRow = true) : h.taken = h.packet := by
  obtain ⟨hop, hsel⟩ := Bool.and_eq_true_iff.mp hm
  have hopcode : BitVec.ofNat 8 h.opcode = h.packet.opcode := by
    rw [← of_decide_eq_true hop]
    simp
  unfold HostRow.taken
  split
  · rw [Packet.forOp, hopcode]
  · next off v hs =>
    rw [hs] at hsel
    have hbyte : ∀ b, h.packet.payload[off]? = some b → b.toNat = v := fun b hb => by
      simpa [hb] using hsel
    rw [Packet.forByte, hopcode, putByte_same _ _ _ hbyte]

end Sys2Proof

namespace Sys2Proof.Machine

/-- A host command runs the acceptance order on the packet of its row. -/
theorem exec_hostRow {c : Instr} {h : HostRow} (hc : c.hostRow = some h) (s : State) :
    exec c s = .next (s.takeCommand h.taken).settle := by
  cases c <;> cases hc <;> rfl

theorem exec_taken {c : Instr} {h : HostRow} (hc : c.hostRow = some h) (hm : h.matchesRow = true) (s : State) :
    exec c s = .next (s.takeCommand h.packet).settle := by
  rw [exec_hostRow hc, h.taken_eq hm]

theorem HostRow.packet_op {h : HostRow} (hm : h.matchesRow = true) : h.packet.op = h.opcode :=
  of_decide_eq_true (Bool.and_eq_true_iff.mp hm).1

/-- Every row has an opcode of Table 14-6. -/
theorem hostRow_assigned {c : Instr} {h : HostRow} (hc : c.hostRow = some h) : assigned h.opcode = true := by
  cases c <;> cases hc <;> rfl


/-! ### The acceptance order -/

theorem State.takeCommand_bad (s : State) {p : Packet} {d : Nat} (hserves : s.answersPackets = true)
    (hfault : (s.noteTaken p).checkFault p = some d) : s.takeCommand p = (s.noteTaken p).badCheck p d := by
  simp only [State.takeCommand, hserves, Bool.true_eq_false, if_false, hfault]

theorem State.takeCommand_replay (s : State) {p : Packet} (hserves : s.answersPackets = true)
    (hfault : (s.noteTaken p).checkFault p = none)
    (hreplay : ((s.noteTaken p).present p.master).classify p = .replay) :
    s.takeCommand p = ((s.noteTaken p).present p.master).replayed p := by
  simp only [State.takeCommand, hserves, Bool.true_eq_false, if_false, hfault, hreplay]

/-- A packet that passes row 1 meets row 2 with its SEQ recorded. -/
theorem State.takeCommand_passes (s : State) {p : Packet} (h : Passes1 s p) : s.takeCommand p = (s.passed p).rows2 p := by
  obtain ⟨hserves, hfault, hseq⟩ := h
  simp only [State.takeCommand, hserves, Bool.true_eq_false, if_false, hfault, State.passed]

/-- Rows 2 to 7 refuse in order. -/
theorem State.rows2_restart (t : State) {p : Packet} (h : t.restartBusy p = true) :
    t.rows2 p = t.reply0 p stBUSY 0x0009 [] := if_pos h

theorem State.rows2_rows3 (t : State) {p : Packet} (h : t.restartBusy p = false) (hop : assigned p.op = true) :
    t.rows2 p = if t.levelShort p then t.reply0 p stREJECTED_LEVEL 0 []
      else match t.roleBusy p with
        | some d => t.reply0 p stBUSY d []
        | none => match t.paramFault p with
          | some d => t.reply0 p stBAD_PARAM d []
          | none => match t.row7 p with
            | (some d, _) => t.reply0 p stCONFLICT d []
            | (none, s1) => s1.accepts p :=
  (if_neg (by simp [h])).trans (if_neg (by simp [hop]))

/-- A packet that passes rows 1 to 7 meets row 8 with its leases preempted. -/
theorem State.takeCommand_accepts (s : State) {p : Packet} (h : Passes7 s p) (hop : assigned p.op = true) :
    s.takeCommand p = (s.leased p).accepts p := by
  obtain ⟨h1, hrestart, hlevel, hrole, hparam, hlease⟩ := h
  rw [s.takeCommand_passes h1, State.rows2_rows3 _ hrestart hop, if_neg (by simp [hlevel])]
  simp only [hrole, hparam, State.leased]
  cases hr : (s.passed p).row7 p with
  | mk d s1 =>
    rw [hr] at hlease
    subst hlease
    rfl

/-! ### Leases -/

/-- An operation that leaves the leases. -/
def KeepsLeases (s x : State) : Prop := x.cmd.leases = s.cmd.leases

theorem KeepsLeases.trans {s t u : State} (h1 : KeepsLeases s t) (h2 : KeepsLeases t u) : KeepsLeases s u :=
  Eq.trans h2 h1

theorem KeepsLeases.each {α : Type} {f : State → α → State} (h : ∀ s a, KeepsLeases s (f s a)) (s : State) (xs : List α) :
    KeepsLeases s (s.each xs f) :=
  State.each_rel (R := KeepsLeases) (fun _ => rfl) (fun h1 h2 => h1.trans h2) h s xs

theorem Reported.keepsLeases {s x : State} (h : Reported s x) : KeepsLeases s x := h.cmd_leases

theorem KeepsLeases.holder {s t : State} (h : KeepsLeases s t) (r : Res) : t.holder r = s.holder r := by
  rw [State.holder, State.holder, h]

theorem State.dropTu_keepsLeases (s : State) (now : Nat) (pair : Option (Nat × Nat)) :
    KeepsLeases s (s.dropTu now pair) := by
  unfold State.dropTu
  split <;> rfl

theorem State.foldl_keepsLeases {α : Type} (f : State → α → State) (hf : ∀ s a, KeepsLeases s (f s a)) (xs : List α)
    (s : State) : KeepsLeases s (xs.foldl f s) := by
  induction xs generalizing s with
  | nil => rfl
  | cons a xs ih => exact (hf s a).trans (ih _)

theorem State.unreserve_keepsLeases (s : State) (tag : Nat × Nat) : KeepsLeases s (s.unreserve tag) := by
  unfold State.unreserve
  extract_lets mine sinks s1 s2 g cs
  have h1 : KeepsLeases s s1 := State.foldl_keepsLeases _ (fun u (c : Nat × Conn) =>
    (u.dropTu_keepsLeases u.dev.ticks c.2.pair).trans (State.dropTu_keepsLeases _ u.dev.ticks c.2.pair2)) mine s
  have h2 : KeepsLeases s1 s2 :=
    State.foldl_keepsLeases _ (fun u (x : Sink) => u.dropTu_keepsLeases u.dev.ticks x.pair) sinks s1
  exact h1.trans h2

theorem State.unwindFw_keepsLeases (s : State) (p : Packet) : KeepsLeases s (s.unwindFw p) := by
  unfold State.unwindFw
  split
  · rfl
  · split <;> rfl

theorem State.unwind_keepsLeases (s : State) (p : Packet) : KeepsLeases s (s.unwind p) :=
  (s.unreserve_keepsLeases _).trans (State.unwindFw_keepsLeases _ p)

theorem State.complete_keepsLeases (s : State) (p : Packet) (c : Option Nat) (st d cf : Nat) (r : List Byte) :
    KeepsLeases s (s.complete p c st d cf r) := (s.complete_reported p c st d cf r).keepsLeases

theorem State.flushEntry_keepsLeases (s : State) (e : Entry) (d : Nat) : KeepsLeases s (s.flushEntry e d) := by
  have htrace : KeepsLeases s ((s.removeEntry e.creation).traceEntry e stFLUSHED 0) :=
    (show KeepsLeases s (s.removeEntry e.creation) from rfl).trans
      (State.capture_butTrace _ _ _ _ _).reported.keepsLeases
  unfold State.flushEntry
  split
  · exact htrace.trans ((State.unwind_keepsLeases _ _).trans (State.complete_keepsLeases ..))
  · exact htrace

theorem State.flushWhere_keepsLeases (s : State) (pick : Entry → Bool) (d : Nat) : KeepsLeases s (s.flushWhere pick d) :=
  KeepsLeases.each (fun u (e : Entry) => u.flushEntry_keepsLeases e d) s _

/-- The first lease on a resource. -/
def firstLease (ls : List Lease) (r : Res) : Option Lease := ls.find? fun l => decide (leaseRes l = r)

/-- The holder that a list of leases gives. -/
def holderOf (ls : List Lease) (r : Res) : Nat :=
  match firstLease ls r with
  | some l => l.master + 1
  | none => 0

theorem State.holder_eq (s : State) (r : Res) : s.holder r = holderOf s.cmd.leases r := by
  have hpred : (fun l : Lease => decide (l.cls = r.1 ∧ l.sub = r.2.1 ∧ l.index = r.2.2)) =
      fun l => decide (leaseRes l = r) := by
    funext l
    obtain ⟨a, b, c⟩ := r
    simp [leaseRes]
  rw [State.holder, hpred, holderOf, firstLease] <;> rfl

theorem holderOf_append (ls : List Lease) (l : Lease) (r : Res) :
    holderOf (ls ++ [l]) r = if holderOf ls r ≠ 0 then holderOf ls r else if leaseRes l = r then l.master + 1 else 0 := by
  unfold holderOf firstLease
  rw [List.find?_append]
  cases ls.find? (fun l => decide (leaseRes l = r)) with
  | some a => simp
  | none => by_cases h : leaseRes l = r <;> simp [h]

/-- Dropping the leases of the resources of a list frees them and leaves the holder of every other. -/
theorem holderOf_filter (ls : List Lease) (rs : List Res) (r : Res) :
    holderOf (ls.filter fun l => !rs.contains (leaseRes l)) r = if r ∈ rs then 0 else holderOf ls r := by
  have hfirst : firstLease (ls.filter fun l => !rs.contains (leaseRes l)) r = if r ∈ rs then none else firstLease ls r := by
    unfold firstLease
    induction ls with
    | nil => simp
    | cons l ls ih =>
      by_cases hl : leaseRes l ∈ rs
      · by_cases hr : leaseRes l = r
        · rw [List.filter_cons_of_neg (by simpa using hl), ih, if_pos (hr ▸ hl), if_pos (hr ▸ hl)]
        · rw [List.filter_cons_of_neg (by simpa using hl), ih, List.find?_cons_of_neg (by simpa using hr)]
      · by_cases hr : leaseRes l = r
        · rw [List.filter_cons_of_pos (by simpa using hl), List.find?_cons_of_pos (by simpa using hr),
            List.find?_cons_of_pos (by simpa using hr), if_neg (hr ▸ hl)]
        · rw [List.filter_cons_of_pos (by simpa using hl), List.find?_cons_of_neg (by simpa using hr), ih,
            List.find?_cons_of_neg (by simpa using hr)]
  rw [holderOf, hfirst, holderOf]
  by_cases hr : r ∈ rs <;> simp [hr]

/-- One lease taken: nothing but the list of leases changes, which is only added to. -/
def AddsLeases (s x : State) : Prop :=
  x = { s with cmd := { s.cmd with leases := x.cmd.leases } } ∧ s.cmd.leases <+: x.cmd.leases

theorem AddsLeases.trans {s t u : State} (h1 : AddsLeases s t) (h2 : AddsLeases t u) : AddsLeases s u := by
  obtain ⟨e1, p1⟩ := h1
  obtain ⟨e2, p2⟩ := h2
  refine ⟨?_, p1.trans p2⟩
  rw [e2, e1]

/-- The list of leases with those of `rs` taken that are free. -/
theorem State.takeLeases_adds (s : State) (m : Nat) (rs : List Res) : AddsLeases s (s.takeLeases m rs) := by
  unfold State.takeLeases
  refine State.each_rel (R := AddsLeases) (fun _ => ⟨rfl, List.prefix_rfl⟩) (fun h1 h2 => h1.trans h2) (fun s r => ?_) s rs
  split
  · exact ⟨rfl, List.prefix_append _ _⟩
  · exact ⟨rfl, List.prefix_rfl⟩

/-- Taking leases keeps what is held and takes what is free of those named. -/
theorem State.holder_takeLeases (s : State) (m : Nat) (rs : List Res) (r : Res) :
    (s.takeLeases m rs).holder r = if s.holder r ≠ 0 then s.holder r else if r ∈ rs then m + 1 else 0 := by
  induction rs generalizing s with
  | nil =>
    rw [show s.takeLeases m [] = s from rfl]
    by_cases h : s.holder r = 0 <;> simp [h]
  | cons q rs ih =>
    have hcons : s.takeLeases m (q :: rs) = (s.takeLeases m [q]).takeLeases m rs := rfl
    have hone : (s.takeLeases m [q]).holder r =
        if s.holder r ≠ 0 then s.holder r else if q = r then m + 1 else 0 := by
      by_cases hq : s.holder q = 0
      · have hx : (s.takeLeases m [q]).cmd.leases = s.cmd.leases ++ [⟨q.1, q.2.1, q.2.2, m, s.dev.ticks⟩] :=
          congrArg (fun z : State => z.cmd.leases) (if_pos hq)
        rw [State.holder_eq, hx, holderOf_append, ← State.holder_eq]
        rfl
      · have hx : s.takeLeases m [q] = s := if_neg hq
        rw [hx]
        by_cases hqr : q = r
        · simp [← hqr, hq]
        · by_cases h : s.holder r = 0 <;> simp [h, hqr]
    rw [hcons, ih, hone]
    by_cases h : s.holder r = 0
    · by_cases hqr : q = r
      · simp [h, hqr]
      · have hrq : ¬ r = q := fun e => hqr e.symm
        simp [h, hqr, hrq]
    · simp [h]

/-- A PREEMPT takes every lease it names that another master held (R361); what it flushes keeps the leases. -/
theorem State.preempt_keepsLeases (s : State) (m : Nat) (rs : List Res) :
    let taken := rs.filter fun r => decide (s.holder r ≠ 0 ∧ s.holder r ≠ m + 1)
    KeepsLeases ((s.dropLeases fun l => taken.contains (leaseRes l)).takeLeases m taken) (s.preempt m rs) := by
  intro taken
  unfold State.preempt
  extract_lets hits s0 s1 s2 imm s3 cmd s4
  have h1 : KeepsLeases s0 s1 := s0.flushWhere_keepsLeases _ _
  have h2 : KeepsLeases s1 s2 := KeepsLeases.each (fun u (o : LongOp) =>
    (show KeepsLeases u (u.clearSlot o.res) from rfl).trans (State.complete_keepsLeases ..)) s1 _
  have h3 : KeepsLeases s2 s3 := KeepsLeases.each (fun u (o : Taken) =>
    (u.unwind_keepsLeases o.packet).trans (State.complete_keepsLeases ..)) s2 imm
  have h4 : KeepsLeases s0 s4 := (h1.trans h2).trans (h3.trans rfl)
  split
  · exact h4
  · exact h4.trans (Reported.event s4 _ _ _ _ (by decide)).keepsLeases

/-- Held by no master but `m`. -/
def State.freeFor (s : State) (m : Nat) (r : Res) : Prop := s.holder r = 0 ∨ s.holder r = m + 1

theorem State.preempt_freeFor (s : State) (m : Nat) (rs : List Res) {r : Res} (hr : r ∈ rs) :
    (s.preempt m rs).freeFor m r := by
  have hkeep := s.preempt_keepsLeases m rs
  dsimp only at hkeep
  unfold State.freeFor
  rw [hkeep.holder, State.holder_takeLeases, State.holder_eq]
  have hdrop : ∀ taken : List Res, (s.dropLeases fun l => taken.contains (leaseRes l)).cmd.leases =
      s.cmd.leases.filter fun l => !taken.contains (leaseRes l) := fun _ => rfl
  rw [hdrop, holderOf_filter, ← State.holder_eq]
  by_cases ht : r ∈ rs.filter fun r => decide (s.holder r ≠ 0 ∧ s.holder r ≠ m + 1)
  · simp only [if_pos ht]
    exact .inr rfl
  · simp only [if_neg ht]
    have hfree : s.holder r = 0 ∨ s.holder r = m + 1 := by
      by_contra hn
      exact ht (List.mem_filter.mpr ⟨hr, by simpa [not_or] using hn⟩)
    rcases hfree with h | h <;> simp [h]

/-- Without a conflict no lease named is another master's. -/
theorem State.freeFor_of_noConflict (s : State) (m : Nat) (rs : List Res) (h : s.leaseConflict m rs = none) {r : Res}
    (hr : r ∈ rs) : s.freeFor m r := by
  unfold State.freeFor
  rw [State.holder_eq, holderOf]
  have hnone : s.cmd.leases.find? (fun l => decide (l.master ≠ m) && rs.contains (leaseRes l)) = none := by
    unfold State.leaseConflict at h
    split at h
    · cases h
    · assumption
  cases hf : firstLease s.cmd.leases r with
  | none => exact .inl rfl
  | some l =>
    have hmem := List.mem_of_find?_eq_some hf
    have hres : leaseRes l = r := by simpa using List.find?_some hf
    have hl := List.find?_eq_none.mp hnone l hmem
    have hm : l.master = m := by simpa [hres, hr] using hl
    exact .inr (by simp [hm])

/-- Every lease that a command needs is free for its master once row 7 has let it pass. -/
theorem Passes7.freeFor {s : State} {p : Packet} (h : Passes7 s p) {r : Res} (hr : r ∈ needs p) :
    (s.leased p).freeFor p.master r := by
  obtain ⟨_, _, _, _, _, hrow⟩ := h
  unfold State.leased
  revert hrow
  unfold State.row7
  dsimp only
  split
  · next hnil => exact absurd hr (hnil ▸ List.not_mem_nil)
  · by_cases hpre : p.preempt = true
    · simp only [if_pos hpre]
      by_cases hhigh : (s.passed p).highMaster = p.master
      · simp only [if_pos hhigh]
        exact fun _ => State.preempt_freeFor _ _ _ hr
      · simp only [if_neg hhigh]
        exact fun h => nomatch h
    · simp only [if_neg hpre]
      exact fun h => State.freeFor_of_noConflict _ _ _ h hr

theorem Passes7.accepted_freeFor {s s1 : State} {p : Packet} (h : Passes7 s p) (hkeep : KeepsLeases (s.leased p) s1)
    {r : Res} (hr : r ∈ needs p) : s1.freeFor p.master r := by
  unfold State.freeFor
  rw [hkeep.holder]
  exact h.freeFor hr

/-- A master that takes what is free for it holds it. -/
theorem State.holder_takeLeases_free (s : State) (m : Nat) (rs : List Res) {r : Res} (hfree : s.freeFor m r)
    (hr : r ∈ rs) : (s.takeLeases m rs).holder r = m + 1 := by
  rw [State.holder_takeLeases]
  rcases hfree with h | h <;> simp [h, hr]

/-! ### Rows 8 to 11 -/

theorem State.accepts_answer (s : State) {p : Packet} {st : Nat} {r : List Byte} {s1 : State}
    (hnow : actsAtOnce p.op = true) (ha : s.answers p = .answer st r s1) :
    s.accepts p = (if isRead p.op then s1 else s1.mirror p noCreation []).reply0 p st 0 r := by
  simp only [State.accepts, hnow, if_true, ha]

theorem State.accepts_immediate (s : State) {p : Packet} {r : List Byte} {s1 : State} (hnow : actsAtOnce p.op = false)
    (heff : s.effective p = .immediate) (hc : s.chapter p = .accept s1 r) :
    s.accepts p = ((s1.takeLeases p.master (needs p ++ givenRes s1 p r)).mirror p noCreation r).takeImmediate p r := by
  simp only [State.accepts, hnow, heff, hc, State.enters, Bool.false_eq_true, if_false]

theorem State.accepts_scheduled (s : State) {p : Packet} {r : List Byte} {s1 : State} {key : CalKey} {late : Bool}
    (hnow : actsAtOnce p.op = false) (heff : s.effective p = .scheduled key late) (hc : s.chapter p = .accept s1 r) :
    s.accepts p =
      if s.hostRoom p.master = false then s.quotaFull p
      else if s.sfnRoom key = false then s.reply0 p stBUSY 0 []
      else ((s1.takeLeases p.master (needs p ++ givenRes s1 p r)).mirror p s1.cal.nextCreation r).takeScheduled p key late r := by
  simp only [State.accepts, hnow, heff, hc, State.enters, Bool.false_eq_true, if_false]

/-- The mirror adds to what is forwarded to the mate (R305). -/
theorem State.mirror_eq (s : State) (p : Packet) (c : Nat) (r : List Byte) :
    s.mirror p c r = { s with pair := (s.mirror p c r).pair } := by
  unfold State.mirror
  split <;> rfl

/-- Acceptance takes the leases and forwards the command in the mirror: nothing else but the list of leases, which is
only added to, and the forwarded commands changes. -/
theorem State.taken_mirrored (s : State) (p : Packet) (c : Nat) (r : List Byte) (rs : List Res)
    (hfree : ∀ res ∈ needs p, s.freeFor p.master res) :
    let x := (s.takeLeases p.master (needs p ++ rs)).mirror p c r
    x = { s with pair := x.pair, cmd := { s.cmd with leases := x.cmd.leases } } ∧ s.cmd.leases <+: x.cmd.leases ∧
    ∀ res ∈ needs p, x.holder res = p.master + 1 := by
  intro x
  obtain ⟨hframe, hprefix⟩ := s.takeLeases_adds p.master (needs p ++ rs)
  have hmirror := (s.takeLeases p.master (needs p ++ rs)).mirror_eq p c r
  have hkeep : KeepsLeases (s.takeLeases p.master (needs p ++ rs)) x :=
    (congrArg (fun z : State => z.cmd.leases) hmirror :)
  refine ⟨?_, hkeep ▸ hprefix, fun res hres => ?_⟩
  · rw [hkeep]
    refine hmirror.trans ?_
    exact congrArg (fun z : State => { z with pair := x.pair }) hframe
  · rw [hkeep.holder]
    exact s.holder_takeLeases_free _ _ (hfree res hres) (List.mem_append_left _ hres)

/-- A reply of PHASE 0 of one fragment enters the reply queue of its master whole, where it fits. -/
theorem State.reply0_words (s : State) {p : Packet} (st : Nat) (r : List Byte) (hgw : s.isGateway = true)
    (hreply : p.noReply = false) (hr : r.length ≤ 4052)
    (hfits : (s.queue (2 + p.master)).words.length +
      (replyRecord (replyBytes s.address s.time.epoch (s.makeReply p 0 st 0 noCreation p.eff.toNat 0 r) 0 r)).length + 1 ≤
        queueCap (2 + p.master)) :
    ((s.reply0 p st 0 r).queue (2 + p.master)).words =
      (s.queue (2 + p.master)).words ++ owedMarkers (s.queue (2 + p.master)) ++
        replyRecord (replyBytes s.address s.time.epoch (s.makeReply p 0 st 0 noCreation p.eff.toNat 0 r) 0 r) := by
  have hsup : suppressed p 0 st = false := by rw [suppressed, hreply, Bool.false_and]
  have hparts : fragments 64 r = [r] := if_pos hr
  have hpackets : replyPackets s.address s.time.epoch (s.makeReply p 0 st 0 noCreation p.eff.toNat 0 r) =
      [replyBytes s.address s.time.epoch (s.makeReply p 0 st 0 noCreation p.eff.toNat 0 r) 0 r] :=
    if_pos (by rw [show (s.makeReply p 0 st 0 noCreation p.eff.toNat 0 r).result = r from rfl, hparts]; exact Nat.le_refl 1)
  have hx : s.reply0 p st 0 r = s.deliverPacket p.master
      (replyBytes s.address s.time.epoch (s.makeReply p 0 st 0 noCreation p.eff.toNat 0 r) 0 r) := by
    rw [State.reply0, State.reply, if_neg (by simp [hsup]), State.emit, if_neg (fun h => nomatch h.2), if_pos hgw, hpackets]
    rfl
  rw [hx]
  exact s.deliverPacket_words _ _ (Packet.master_lt p) hfits

theorem State.put_withCal (s : State) (c : CalSt) (k : Nat) (f : Fld) (v : Nat) :
    ({ s with cal := c } : State).put k f v = { s.put k f v with cal := c } := rfl

theorem State.put_withPairCmd (s : State) (y : PairSt) (c : CmdSt) (k : Nat) (f : Fld) (v : Nat) :
    ({ s with pair := y, cmd := c } : State).put k f v = { s.put k f v with pair := y, cmd := c } := rfl

/-- The entry that an accepted scheduled command makes. -/
def State.entryOfHost (s : State) (p : Packet) (key : CalKey) (late : Bool) (r : List Byte) : Entry :=
  { creation := s.cal.nextCreation, key := key, late := late, action := .host (settled p r)
    notBefore := if late then s.dev.ticks + 1 else 0 }

/-- A new entry is appended under the next creation number, and PEAK follows. -/
theorem State.addEntry_hostEntry (s : State) (p : Packet) (key : CalKey) (late : Bool) (r : List Byte) :
    s.addEntry key (.host (settled p r)) late 0 (if late then s.dev.ticks + 1 else 0) =
      { s.put CAL_STATUS.key CAL_STATUS.PEAK
          (max (s.get CAL_STATUS.key CAL_STATUS.PEAK) (s.cal.entries ++ [s.entryOfHost p key late r]).length) with
        cal := { entries := s.cal.entries ++ [s.entryOfHost p key late r], nextCreation := s.cal.nextCreation + 1 } } :=
  State.put_withCal s _ _ _ _

/-- A command of no port-keyed kind makes its entry and is answered ACCEPTED. -/
theorem State.takeScheduled_reported (s : State) {p : Packet} (key : CalKey) (late : Bool) (r : List Byte)
    (hport : portKeyed p.op = false) :
    Reported (s.addEntry key (.host (settled p r)) late 0 (if late then s.dev.ticks + 1 else 0))
      (s.takeScheduled p key late r) := by
  have hshow : ∀ z : State, z.showKeyed p key = z := fun z => by
    cases key with
    | sfn _ => rfl
    | port q n => exact if_neg (by simp [hport])
  unfold State.takeScheduled
  dsimp only
  rw [hshow]
  exact State.reply_reported ..

/-- A PHASE 1 reply goes only for SET_ADDRESS to a member: other immediate commands wait in silence. -/
theorem State.takeImmediate_silent (s : State) {p : Packet} (r : List Byte) (h : s.answersFirst p = false) :
    s.takeImmediate p r = { s with cmd := { s.cmd with immediates := s.cmd.immediates ++ [⟨settled p r, s.dev.ticks⟩] } } :=
  if_neg (by
    rw [show State.answersFirst { s with cmd := { s.cmd with immediates := s.cmd.immediates ++
      [⟨settled p r, s.dev.ticks⟩] } } p = s.answersFirst p from rfl, h]
    decide)

/-- The acceptance of SET_ADDRESS, the one command that can answer first, changes nothing. -/
theorem State.answersFirst_accepted (s : State) {p : Packet} {s1 : State} {r : List Byte} (hnow : actsAtOnce p.op = false)
    (hc : s.chapter p = .accept s1 r) (h : s.answersFirst p = false) : s1.answersFirst p = false := by
  have hfuse : p.op = 0x0C → s1.dev.fuseId = s.dev.fuseId := by
    intro hop
    have hadmit : s.setAddressAdmit p = .accept s1 r := by
      rw [State.chapter, hnow, if_neg Bool.false_ne_true] at hc
      split at hc
      · cases hc
      · rw [← hc, State.admits, hop]
        rfl
    unfold State.setAddressAdmit at hadmit
    dsimp only at hadmit
    split_ifs at hadmit <;> cases hadmit <;> rfl
  unfold State.answersFirst State.assignsMember at h ⊢
  by_cases hop : p.op = 0x0C
  · rw [hfuse hop]
    exact h
  · rw [decide_eq_false hop, Bool.false_and]

end Sys2Proof.Machine

open Sys2Proof Sys2Proof.Machine

/-- Settles O24: each row of Table 14-5 answers once the rows before it have let the packet pass. -/
theorem hostCommandsRefused : Obligations.HostCommandsRefused := by
  intro c h s hc hm hserves p t refused
  have hop : assigned p.op = true := by
    rw [HostRow.packet_op hm]
    exact hostRow_assigned hc
  have hexec : exec c s = .next (s.takeCommand p).settle := exec_taken hc hm s
  have hrow : ∀ status detail, s.takeCommand p = t.reply0 p status detail [] → refused status detail :=
    fun status detail hx => answers_of hexec hx
  refine ⟨fun d hd => answers_of hexec (s.takeCommand_bad hserves hd),
    fun hf hr => answers_of hexec (s.takeCommand_replay hserves hf hr), fun h1 => ?_⟩
  have hpass := s.takeCommand_passes h1
  have h3 := fun hbusy => hpass.trans (State.rows2_rows3 t (p := p) hbusy hop)
  refine ⟨fun hb => hrow _ _ (hpass.trans (State.rows2_restart t hb)), fun hb hl => hrow _ _ ?_,
    fun hb hl d hr => hrow _ _ ?_, fun hb hl hr d hp => hrow _ _ ?_, fun hb hl hr hp d hd => hrow _ _ ?_⟩
  · rw [h3 hb, if_pos hl]
  · simp only [h3 hb, hl, hr, Bool.false_eq_true, if_false]
  · simp only [h3 hb, hl, hr, hp, Bool.false_eq_true, if_false]
  · simp only [h3 hb, hl, hr, hp, Bool.false_eq_true, if_false]
    cases h7 : t.row7 p with
    | mk d' s1 =>
      rw [h7] at hd
      subst hd
      rfl

/-- Settles O25: row 8 answers from the chapter, in the state that rows 1 to 7 leave. -/
theorem hostReadsAnswer : Obligations.HostReadsAnswer := by
  intro c h s s1 st r hc hm p h7 hnow ha
  have hop : assigned p.op = true := by
    rw [HostRow.packet_op hm]
    exact hostRow_assigned hc
  refine answers_of (exec_taken hc hm s) ?_
  intro y q words
  have hx : s.takeCommand p = y.reply0 p st 0 r :=
    (s.takeCommand_accepts h7 hop).trans (State.accepts_answer _ hnow ha)
  change Reported y (s.takeCommand p) ∧ _
  rw [hx]
  exact ⟨State.reply0_reported y p st 0 r, fun hgw hreply hr hfits => y.reply0_words st r hgw hreply hr hfits⟩

/-- Settles O26: row 11 appends the command to the immediate commands once its leases are taken. -/
theorem immediateCommandsTaken : Obligations.ImmediateCommandsTaken := by
  intro c h s s1 r hc hm p h7 hnow heff hchap hsilent hleases
  have hop : assigned p.op = true := by
    rw [HostRow.packet_op hm]
    exact hostRow_assigned hc
  refine answers_of (exec_taken hc hm s) ?_
  have hx := (s.takeCommand_accepts h7 hop).trans (State.accepts_immediate _ hnow heff hchap)
  have hfirst := State.answersFirst_accepted _ hnow hchap hsilent
  obtain ⟨hframe, hprefix, hholds⟩ := s1.taken_mirrored p noCreation r (givenRes s1 p r)
    (fun res hres => h7.accepted_freeFor hleases hres)
  generalize (s1.takeLeases p.master (needs p ++ givenRes s1 p r)).mirror p noCreation r = w at hx hframe hprefix hholds
  have hwfirst : w.answersFirst p = false := by
    rw [hframe]
    exact hfirst
  rw [w.takeImmediate_silent r hwfirst] at hx
  change s.takeCommand p = _ ∧ _ ∧ _
  rw [hx]
  refine ⟨?_, hprefix, hholds⟩
  rw [hframe]

/-- Settles O27: with room, row 11 makes the entry once the leases are taken; without room, row 10 refuses. -/
theorem scheduledCommandsTaken : Obligations.ScheduledCommandsTaken := by
  intro c h s s1 r key late hc hm p t h7 hnow heff hchap
  have hop : assigned p.op = true := by
    rw [HostRow.packet_op hm]
    exact hostRow_assigned hc
  have hexec := exec_taken hc hm s
  have hx := (s.takeCommand_accepts h7 hop).trans (State.accepts_scheduled _ hnow heff hchap)
  refine ⟨fun hroom hsfn hport hleases => answers_of hexec ?_,
    fun hroom => answers_of hexec (hx.trans (if_pos hroom)),
    fun hroom hsfn => answers_of hexec (hx.trans ((if_neg (by simp [t, hroom])).trans (if_pos hsfn)))⟩
  replace hx := hx.trans ((if_neg (by simp [t, hroom])).trans (if_neg (by simp [t, hsfn])))
  obtain ⟨hframe, hprefix, hholds⟩ := s1.taken_mirrored p s1.cal.nextCreation r (givenRes s1 p r)
    (fun res hres => h7.accepted_freeFor hleases hres)
  generalize (s1.takeLeases p.master (needs p ++ givenRes s1 p r)).mirror p s1.cal.nextCreation r = w
    at hx hframe hprefix hholds
  have hreport := w.takeScheduled_reported key late r hport
  rw [State.addEntry_hostEntry, ← hx] at hreport
  change ∃ y, OnlyRegs s1 y _ ∧ Reported { y with
    pair := (s.takeCommand p).pair, cmd := { y.cmd with leases := (s.takeCommand p).cmd.leases }, cal := _ } (s.takeCommand p) ∧ _
  have hpair : (s.takeCommand p).pair = w.pair := hreport.pair
  have hleases' : KeepsLeases w (s.takeCommand p) := hreport.cmd_leases
  refine ⟨s1.put CAL_STATUS.key CAL_STATUS.PEAK
      (max (w.get CAL_STATUS.key CAL_STATUS.PEAK) (w.cal.entries ++ [w.entryOfHost p key late r]).length),
    .put s1 _ _ _ (List.mem_singleton_self _), ?_, hleases' ▸ hprefix, fun res hres => (hleases'.holder res).trans (hholds res hres)⟩
  rw [hpair, hleases']
  generalize max (w.get CAL_STATUS.key CAL_STATUS.PEAK) (w.cal.entries ++ [w.entryOfHost p key late r]).length = v at hreport ⊢
  rw [hframe, State.put_withPairCmd] at hreport
  exact hreport

end

section
/-! PROOF. The input buffers (R367, R369), the absence of a master (R359) and the pending slots (R366). -/

namespace Sys2Proof.Machine

/-! ### Packets submitted -/

theorem State.bufferPacket_room (s : State) {p : Packet} (h : (s.master p.master).inbuf.length < 32) :
    s.bufferPacket p = s.updMaster p.master fun y => { y with inbuf := y.inbuf ++ [p] } := if_neg (Nat.not_le.mpr h)

theorem State.bufferPacket_full (s : State) {p : Packet} (h : 32 ≤ (s.master p.master).inbuf.length) :
    s.bufferPacket p = s.reply0 p stBUSY 0x0006 [] := if_pos h

/-- A packet of a master for the gateway itself enters the input buffer of that master. -/
theorem State.submit_own (s : State) {m : Nat} {p : Packet} (hdem : s.cmd.demoted = false) (hm : p.master = m)
    (hring : p.srcRing = s.address / 64) (hdest : p.dest.toNat % 1024 = s.address) : s.submit m p = s.bufferPacket p :=
  (if_neg (by simp [hdem])).trans ((if_neg (by simp [hm, hring])).trans (if_pos hdest))

/-- GO takes LENGTH bytes of the window, on a booted gateway and for a length that a packet can have. -/
theorem State.txGo_refused (s : State) {m : Nat}
    (h : s.bootedGateway = false ∨ s.get (CMD_TX.key m) CMD_TX.LENGTH < 28 ∨ 4096 < s.get (CMD_TX.key m) CMD_TX.LENGTH) :
    s.txGo m = s := if_pos h

theorem State.txGo_submits (s : State) {m n : Nat} (hgw : s.bootedGateway = true)
    (hlen : s.get (CMD_TX.key m) CMD_TX.LENGTH = n) (hlo : 28 ≤ n) (hhi : n ≤ 4096) :
    s.txGo m = s.submit m (packetOf ((List.range n).map fun i => (s.master m).window.getD i 0) n) := by
  subst hlen
  exact if_neg (by simp [hgw]; omega)

theorem cmdTx_apart : ∀ m : Fin 2, SYS_BOOT_STATUS.key ∉ [CMD_TX.key m] ∧ FLU_STATUS.key ∉ [CMD_TX.key m] := by decide

/-! ### Timers -/

theorem State.masterAbsence_early (s : State) (m : Nat)
    (h : ¬ (s.get CMD_CFG.key CMD_CFG.MASTER_TIMEOUT ≠ 0 ∧ s.absent m = false ∧
      (s.master m).lastPacket + s.get CMD_CFG.key CMD_CFG.MASTER_TIMEOUT * 8000 ≤ s.dev.ticks)) :
    s.masterAbsence m = s := if_pos (by
  by_contra hn
  rw [not_or, not_or] at hn
  exact h ⟨hn.1, by simpa using hn.2.1, Nat.le_of_not_lt hn.2.2⟩)

/-- The bit of a master that is absent. -/
def absentFld (m : Nat) : Fld := if m = 0 then CMD_STATUS.ABSENT_M0 else CMD_STATUS.ABSENT_M1

theorem absentFld_bit (m : Nat) : (absentFld m).lo + (absentFld m).width ≤ 32 ∧ (absentFld m).width = 1 := by
  unfold absentFld
  split <;> decide

theorem State.masterAbsence_due (s : State) (m : Nat)
    (h : s.get CMD_CFG.key CMD_CFG.MASTER_TIMEOUT ≠ 0 ∧ s.absent m = false ∧
      (s.master m).lastPacket + s.get CMD_CFG.key CMD_CFG.MASTER_TIMEOUT * 8000 ≤ s.dev.ticks) :
    s.masterAbsence m =
      (((s.put CMD_STATUS.key (absentFld m) 1).dropLeases fun l => decide (l.master = m)).event (258 + m) 0x80 true 0) := by
  obtain ⟨ht, habs, hdue⟩ := h
  refine (if_neg ?_).trans rfl
  rw [not_or, not_or]
  exact ⟨ht, by simp [habs], Nat.not_lt.mpr hdue⟩

theorem Noted.compose_cmd {s t u : State} {ks : List Nat} (h1 : Noted s { t with cmd := s.cmd } ks) (h2 : Noted t u ks) :
    Noted s { u with cmd := s.cmd } ks :=
  h1.trans ⟨congrArg (fun z : State => { z with cmd := s.cmd }) h2.1, h2.2.1, h2.2.2⟩

/-- A master unheard for MASTER_TIMEOUT is absent. -/
theorem State.masterAbsence_shows (s : State) (m : Fin 2)
    (h : s.get CMD_CFG.key CMD_CFG.MASTER_TIMEOUT ≠ 0 ∧ s.absent m = false ∧
      (s.master m).lastPacket + s.get CMD_CFG.key CMD_CFG.MASTER_TIMEOUT * 8000 ≤ s.dev.ticks) :
    (∃ y, Noted s y [CMD_STATUS.key] ∧ s.masterAbsence m = { y with cmd := { s.cmd with
      leases := s.cmd.leases.filter fun l => decide (l.master ≠ m.val) } }) ∧
    (s.masterAbsence m).absent m = true ∧ (s.masterAbsence m).raised (258 + m) 0x80 true := by
  have hsrc : 258 + m.val < 384 := by omega
  rw [s.masterAbsence_due m h]
  have hdrop : (s.put CMD_STATUS.key (absentFld m) 1).dropLeases (fun l => decide (l.master = m.val)) =
      { s.put CMD_STATUS.key (absentFld m) 1 with cmd := { s.cmd with
        leases := s.cmd.leases.filter fun l => decide (l.master ≠ m.val) } } := by
    have hpick : (fun l : Lease => !decide (l.master = m.val)) = fun l => decide (l.master ≠ m.val) := by
      funext l
      simp
    rw [← hpick]
    rfl
  rw [hdrop]
  have hput : Noted s (s.put CMD_STATUS.key (absentFld m) 1) [CMD_STATUS.key] := .put s _ _ _ (List.mem_singleton_self _)
  have hon : (s.put CMD_STATUS.key (absentFld m) 1).on CMD_STATUS.key (absentFld m) = true :=
    State.on_put_one s _ _ (absentFld_bit m).1 (absentFld_bit m).2
  have hcmd : (s.put CMD_STATUS.key (absentFld m) 1).cmd = s.cmd := hput.cmd
  generalize s.put CMD_STATUS.key (absentFld m) 1 = z at hput hon hcmd ⊢
  have hev : Noted { z with cmd := { s.cmd with leases := s.cmd.leases.filter fun l => decide (l.master ≠ m.val) } }
      (State.event { z with cmd := { s.cmd with leases := s.cmd.leases.filter fun l => decide (l.master ≠ m.val) } }
        (258 + m) 0x80 true 0) [CMD_STATUS.key] := .event _ _ _ _ _ hsrc _
  refine ⟨⟨_, Noted.compose_cmd (hcmd ▸ hput) hev, ?_⟩, ?_, State.raised_event _ _ _ _ _ hsrc⟩
  · rw [hev.1]
  · exact ((Noted.event _ (258 + m) 0x80 true 0 hsrc []).on List.not_mem_nil (by decide) _).trans hon

/-! ### Pending slots -/

theorem State.slotOf_one (s : State) {o : LongOp} {r : Res} (h : s.cmd.slots = [o]) (hr : o.res = r) : s.slotOf r = some o := by
  rw [State.slotOf, h]
  exact List.find?_cons_of_pos (decide_eq_true hr)

theorem State.clearSlot_one (s : State) {o : LongOp} {r : Res} (h : s.cmd.slots = [o]) (hr : o.res = r) :
    s.clearSlot r = { s with cmd := { s.cmd with slots := [] } } := by
  unfold State.clearSlot
  rw [h, List.filter_cons_of_neg (by simp [hr]), List.filter_nil]

theorem State.slotExpiry_early (s : State) {o : LongOp} {r : Res} (h : s.slotOf r = some o) (hdue : s.dev.ticks < o.due) :
    s.slotExpiry r = s := by
  unfold State.slotExpiry
  rw [h]
  exact if_pos hdue

theorem State.slotExpiry_due (s : State) {o : LongOp} {r : Res} (h : s.slotOf r = some o) (hdue : o.due ≤ s.dev.ticks) :
    s.slotExpiry r = (((((s.clearSlot r).unwind o.packet).complete o.packet o.made stBUSY 0x0008 0 []).put CMD_STATUS.key
      CMD_STATUS.TIMEOUT_HIST 1).event (258 + o.packet.master) 0x83 true 0) := by
  unfold State.slotExpiry
  rw [h]
  exact if_neg (Nat.not_lt.mpr hdue)

/-- Where nothing is reserved, a reservation leaves nothing to drop. -/
theorem State.unreserve_nothing (s : State) (tag : Nat × Nat) (hc : s.grate.conns = []) (hr : s.grate.runs = [])
    (ha : s.grate.allocs = []) : s.unreserve tag = s := by
  have hs : { s with grate := { s.grate with conns := [], runs := [], allocs := [] } } = s := by rw [← hc, ← hr, ← ha]
  have hempty : State.unreserve { s with grate := { s.grate with conns := [], runs := [], allocs := [] } } tag =
      { s with grate := { s.grate with conns := [], runs := [], allocs := [] } } := rfl
  rwa [hs] at hempty

theorem State.unwindFw_other (s : State) {p : Packet} (h2 : p.op ≠ 0xF2) (h3 : p.op ≠ 0xF3) : s.unwindFw p = s :=
  (if_neg fun h => h2 h.1).trans (if_neg fun h => h3 h.1)

theorem State.startPending_busy (s : State) {r : Res} (h : (s.running r).isSome) : s.startPending r = s := by
  unfold State.startPending
  split
  · rfl
  · exact if_pos (.inl h)

/-- ALIGN_FRAME_OUTPUTS starts the slew of an aligned divider (R336). -/
theorem State.alignRun_starts (s : State) {p : Packet} {c : Option Nat} (hop : p.op = 0x64) (hidle : s.running resDpll = none)
    (hal : s.time.fpAligned = true) (hlost : s.has condFpLost = false) :
    s.runCommand p c = runsOn ((s.beginLong resDpll p c).setDpl DPL_STATUS.ALIGNING 1) := by
  have hrun : s.runCommand p c = s.alignRun p c := by
    unfold State.runCommand State.runs2
    rw [hop]
    rfl
  rw [hrun, State.alignRun, State.long, hidle]
  refine if_neg ?_
  rw [not_or]
  exact ⟨fun h => absurd (hlost.symm.trans h) Bool.false_ne_true, fun h => absurd (hal.symm.trans h) (by decide)⟩

/-- A long operation that begins from a slot keeps its resource, its packet and its creation number. -/
theorem State.beginLong_slot (s : State) {o : LongOp} {r : Res} (hr : o.res = r) :
    s.beginLong r o.packet o.made = { s with cmd := { s.cmd with
      running := s.cmd.running ++ [{ o with since := s.dev.ticks, due := 0 }] } } := by
  have hmade : o.made.getD noCreation = o.creation := by
    unfold LongOp.made
    split
    · next h => exact h.symm
    · rfl
  unfold State.beginLong
  rw [hmade, ← hr]
  rfl

/-- The pending ALIGN_FRAME_OUTPUTS starts once nothing runs on the DPLL. -/
theorem State.startPending_align (s : State) {o : LongOp} (hslot : s.slotOf resDpll = some o) (hop : o.packet.op = 0x64)
    (hidle : s.running resDpll = none) (hal : s.time.fpAligned = true) (hlost : s.has condFpLost = false) :
    s.startPending resDpll = ((s.clearSlot resDpll).beginLong resDpll o.packet o.made).setDpl DPL_STATUS.ALIGNING 1 := by
  unfold State.startPending
  rw [hslot]
  have hrun : (s.clearSlot resDpll).runCommand o.packet o.made =
      runsOn (((s.clearSlot resDpll).beginLong resDpll o.packet o.made).setDpl DPL_STATUS.ALIGNING 1) :=
    State.alignRun_starts _ hop hidle hal hlost
  have hfree : ¬ ((s.running resDpll).isSome ∨ (resDpll.1 = 8 ∧ s.planRuns resDpll.2.2 = true) ∨
      (resDpll.1 = 0x0D ∧ s.pair.handover.isSome)) := by
    rw [hidle]
    rintro (h | ⟨h, _⟩ | ⟨h, _⟩) <;> exact absurd h (by decide)
  refine (if_neg hfree).trans ?_
  dsimp only
  rw [hrun]
  rfl

end Sys2Proof.Machine

open Sys2Proof Sys2Proof.Machine

/-- Settles O30: GO submits the packet of the window, and the buffer of its master takes it while it has room. -/
theorem packetsSubmitted : Obligations.PacketsSubmitted := by
  intro s
  refine ⟨fun p hs hroom => answers_of rfl ?_, fun p hs hfull => answers_of rfl ?_,
    fun p hs => answers_of rfl (if_neg (by simp [hs])), fun m len hboot => ?_⟩
  · rw [if_pos hs, s.bufferPacket_room hroom]
  · rw [if_pos hs, s.bufferPacket_full hfull]
  intro p
  have hput : OnlyRegs s (s.put (CMD_TX.key m) CMD_TX.LENGTH len.toNat) [CMD_TX.key m] :=
    .put s _ _ _ (List.mem_singleton_self _)
  have hlen : (s.put (CMD_TX.key m) CMD_TX.LENGTH len.toNat).get (CMD_TX.key m) CMD_TX.LENGTH = len.toNat :=
    (State.get_put_same s _ _ _ (by decide)).trans (Nat.mod_eq_of_lt len.isLt)
  have hexec : exec (.cmdTxGo m len) s =
      .next ((s.put (CMD_TX.key m) CMD_TX.LENGTH len.toNat).txGo m).settle := by
    rw [← State.alive_of_booted hboot fun s => (s.put (CMD_TX.key m) CMD_TX.LENGTH len.toNat).txGo m]
    rfl
  have hgw : (s.put (CMD_TX.key m) CMD_TX.LENGTH len.toNat).bootedGateway = s.bootedGateway := by
    unfold State.bootedGateway
    rw [hput.get (cmdTx_apart m).1]
  have haddr : (s.put (CMD_TX.key m) CMD_TX.LENGTH len.toNat).address = s.address := hput.get (cmdTx_apart m).2 _
  have hmaster : ∀ n, (s.put (CMD_TX.key m) CMD_TX.LENGTH len.toNat).master n = s.master n := fun n => by
    rw [State.master, State.put_cmd]; rfl
  have hcmd := State.put_cmd s (CMD_TX.key m) CMD_TX.LENGTH len.toNat
  generalize s.put (CMD_TX.key m) CMD_TX.LENGTH len.toNat = z at hput hlen hexec hgw haddr hmaster hcmd
  refine ⟨fun h => answers_of hexec ?_, fun hbooted hlo hhi hdem hm hring hdest hroom => answers_of hexec ?_⟩
  · rw [z.txGo_refused (by rw [hgw, hlen]; exact h)]
    exact ⟨hput, hlen⟩
  · rw [z.txGo_submits (hgw.trans hbooted) hlen hlo hhi, hmaster]
    change (∃ y, OnlyRegs s y _ ∧ z.submit m p = _) ∧ _
    rw [z.submit_own (by rw [hcmd, hdem]) hm (by rw [haddr, hring]) (by rw [haddr, hdest]),
      z.bufferPacket_room (by rw [hm, hmaster]; exact hroom)]
    refine ⟨⟨z, hput, by rw [hm]⟩, ?_⟩
    rw [State.updMaster_get, hlen]

/-- Settles O31: the absence of a master, and the start and the timeout of the command in a pending slot. -/
theorem commandTimers : Obligations.CommandTimers := by
  intro s
  refine ⟨fun m => ⟨fun h => answers_of rfl (s.masterAbsence_early m h), fun h => answers_of rfl (s.masterAbsence_shows m h)⟩,
    fun cls sub index o hslots hres => ?_⟩
  have hslot := s.slotOf_one hslots hres
  have hclear := s.clearSlot_one hslots hres
  refine ⟨fun h => answers_of rfl (s.slotExpiry_early hslot h), fun hdue hcode hc hr ha => answers_of rfl ?_,
    fun h => answers_of rfl (s.startPending_busy (hres ▸ h)), fun hidle hr9 hcode hal hlost => answers_of rfl ?_⟩
  · have hop : o.packet.op = 0x64 := congrArg BitVec.toNat hcode
    have hsrc : 258 + o.packet.master < 384 := by have := Packet.master_lt o.packet; omega
    have hx := s.slotExpiry_due hslot hdue
    obtain ⟨z, hz⟩ : ∃ z : State, z = { s with cmd := { s.cmd with slots := [] } } := ⟨_, rfl⟩
    have hunwind : z.unwind o.packet = z := by
      rw [State.unwind, z.unreserve_nothing _ (hz ▸ hc) (hz ▸ hr) (hz ▸ ha),
        z.unwindFw_other (by rw [hop]; decide) (by rw [hop]; decide)]
    rw [hclear, ← hz, hunwind] at hx
    have hreport := z.complete_reported o.packet o.made stBUSY 0x0008 0 []
    rw [hx, ← hz]
    generalize z.complete o.packet o.made stBUSY 0x0008 0 [] = y at hreport
    have hev := Noted.event (y.put CMD_STATUS.key CMD_STATUS.TIMEOUT_HIST 1) (258 + o.packet.master) 0x83 true 0 hsrc
      [CMD_STATUS.key]
    refine ⟨⟨y, hreport, (Noted.put y _ _ _ (List.mem_singleton_self _)).trans hev⟩, ?_,
      State.raised_event _ _ _ _ _ hsrc⟩
    exact ((Noted.event _ _ 0x83 true 0 hsrc []).on List.not_mem_nil (by decide) _).trans
      (State.on_put_one y _ _ (by decide) rfl)
  · have hr : (cls.toNat, sub.toNat, index.toNat) = resDpll := hres.symm.trans hr9
    have hop : o.packet.op = 0x64 := congrArg BitVec.toNat hcode
    rw [hr9] at hidle
    rw [hr] at hslot hclear ⊢
    rw [s.startPending_align hslot hop hidle hal hlost, hclear]
    have hlong : State.beginLong _ resDpll _ _ = _ :=
      State.beginLong_slot { s with cmd := { s.cmd with slots := [] } } hr9
    rw [hlong]
    refine ⟨⟨s.put DPL_STATUS.key DPL_STATUS.ALIGNING 1, .put s _ _ _ (List.mem_singleton_self _), ?_⟩,
      State.on_put_one _ _ _ (by decide) rfl⟩
    rfl
end

section
/-! PROOF. Check-value units (R421, R424), the occupancy peak, and memory windows (R415, R419, R420). -/

namespace Sys2Proof.Machine

/-! ### Check-value units -/

theorem State.cvuStart_fixed (s : State) {u : Nat} (h : u < 12) : s.cvuStart u = s := if_pos (decide_eq_true h)

theorem State.cvuData_fixed (s : State) {u : Nat} (v : Word) (h : u < 12) : s.cvuData u v = s := if_pos (decide_eq_true h)

/-- What a general unit holds after START, by its FOLD_MODE. -/
def State.cvuStarted (s : State) (u : Nat) : Nat :=
  if s.get (CVU_S_CFG.key u) CVU_S_CFG.FOLD_MODE = 1 ∨ s.get (CVU_S_CFG.key u) CVU_S_CFG.FOLD_MODE = 2 then
    (s.cvuCfg u).bytes (s.cvuCfg u).init (s.cvuFold u) else (s.cvuCfg u).init

theorem State.cvuStart_general (s : State) {u : Nat} (h : 12 ≤ u) :
    s.cvuStart u = { s with bus := { s.bus with
      cvu := s.bus.cvu.put u (s.cvuStarted u), cvuBytes := s.bus.cvuBytes.drop u
      cvuHeld := if s.get (CVU_S_CFG.key u) CVU_S_CFG.FOLD_MODE = 2 then s.bus.cvuHeld.put u 1 else s.bus.cvuHeld.drop u } } :=
  if_neg (by simp [cvuFixed]; omega)

theorem State.cvuStart_shows (s : State) {u : Nat} (h : 12 ≤ u) :
    let x := s.cvuStart u
    x = { s with bus := { s.bus with cvu := x.bus.cvu, cvuBytes := x.bus.cvuBytes, cvuHeld := x.bus.cvuHeld } } ∧
    x.bus.cvu.find u = some (s.cvuStarted u) ∧
    x.bus.cvuHeld.getD u 0 = (if s.get (CVU_S_CFG.key u) CVU_S_CFG.FOLD_MODE = 2 then 1 else 0) ∧
    ∀ j, j ≠ u → x.bus.cvu.find j = s.bus.cvu.find j := by
  intro x
  rw [show x = _ from s.cvuStart_general h]
  refine ⟨rfl, Tbl.find_put_same .., ?_, fun j hj => Tbl.find_put_other _ _ _ _ hj⟩
  split <;> simp [Tbl.getD]

/-- A DATA write of a general unit whose stream field has been folded takes its bytes and clears LAST_BYTES. -/
theorem State.cvuData_general (s : State) {u : Nat} (v : Word) (h : 12 ≤ u) (hheld : s.bus.cvuHeld.getD u 0 = 0) :
    s.cvuData u v = (s.setCvu u ((s.cvuCfg u).bytes (s.bus.cvu.getD u 0) ((beBytes 4 v.toNat).take
      (if s.get (CVU_S_CFG.key u) CVU_S_CFG.LAST_BYTES = 0 then 4 else s.get (CVU_S_CFG.key u) CVU_S_CFG.LAST_BYTES)))).put
        (CVU_S_CFG.key u) CVU_S_CFG.LAST_BYTES 0 :=
  (if_neg (by simp [cvuFixed]; omega)).trans
    (congrArg (fun z : State => z.put (CVU_S_CFG.key u) CVU_S_CFG.LAST_BYTES 0) (if_pos hheld))

theorem State.put_withBus (s : State) (b : BusSt) (k : Nat) (f : Fld) (v : Nat) :
    ({ s with bus := b } : State).put k f v = { s.put k f v with bus := b } := rfl

/-! ### Faults of a window access -/

/-- A fault of a missing right or level is its record and the event of an access refused. -/
theorem State.busFault_refused (s : State) {cause : Nat} (bus addr : Nat) (write : Bool) (fn : Nat)
    (h : cause = fWINDOW ∨ cause = fLEVEL) :
    ∃ rest, s.busFault cause bus addr write fn =
      (s.recordFault (cause + 8 * rest) addr).arrive (.event 361 0x81 true 0 []) := by
  have hinfo : cause + bus * 8 + addr / 2 ^ 28 % 16 * 64 + bit write * 1024 + (if bus = 0 then fn else 0) * 2048 =
      cause + 8 * (bus + addr / 2 ^ 28 % 16 * 8 + bit write * 128 + (if bus = 0 then fn else 0) * 256) := by omega
  have hcode : (if cause = fWINDOW ∨ cause = fLEVEL then 0x81 else 0x80) = 0x81 := if_pos h
  refine ⟨bus + addr / 2 ^ 28 % 16 * 8 + bit write * 128 + (if bus = 0 then fn else 0) * 256, ?_⟩
  unfold State.busFault
  dsimp only
  rw [hcode, hinfo]
  rfl

/-- A window access that is refused is a fault of cause 2; a read returns 0. -/
theorem State.windowFault_shows (s : State) (off : Nat) (write : Bool) (fn : Nat) (read : List Word) :
    let x := (s.busFault fWINDOW 0 off write fn).returns read
    (∃ y, OnlyRegs s y faultKeys ∧
      x = { y with arrivals := s.arrivals ++ [.event 361 0x81 true 0 []], pins := { s.pins with lastRead := read } }) ∧
    x.get BUS_FAULT_INFO.key BUS_FAULT_INFO.CAUSE = 2 := by
  intro x
  obtain ⟨rest, h⟩ := s.busFault_refused 0 off write fn (.inl rfl)
  have hregs := s.recordFault_onlyRegs (fWINDOW + 8 * rest) off
  have hcause := s.recordFault_cause rest off (show fWINDOW < 8 by decide)
  have hx : x = ((s.recordFault (fWINDOW + 8 * rest) off).arrive (.event 361 0x81 true 0 [])).returns read :=
    congrArg (fun z : State => z.returns read) h
  rw [hx]
  generalize s.recordFault (fWINDOW + 8 * rest) off = y at hregs hcause
  have harrivals : y.arrivals = s.arrivals := by rw [hregs.1]
  have hpins : y.pins = s.pins := by rw [hregs.1]
  refine ⟨⟨y, hregs, ?_⟩, hcause⟩
  rw [← harrivals, ← hpins]
  rfl

/-! ### Bytes of the memory -/

/-- Four bytes that have been written are read without a free value. -/
theorem State.memBytes_four (s : State) {a : Nat} {b0 b1 b2 b3 : Byte} (h0 : Tbl.find s.bus.mem a = some b0)
    (h1 : Tbl.find s.bus.mem (a + 1) = some b1) (h2 : Tbl.find s.bus.mem (a + 2) = some b2)
    (h3 : Tbl.find s.bus.mem (a + 3) = some b3) : s.memBytes a 4 = ([b0, b1, b2, b3], s) := by
  have hone : ∀ {c : Nat} {b : Byte}, Tbl.find s.bus.mem c = some b → s.memByte c = (b, s) := fun h => by
    rw [State.memByte, h]
  simp only [State.memBytes, hone h0, hone h1, Nat.add_assoc, Nat.reduceAdd, hone h2, hone h3]

theorem toNat_append_byte {n : Nat} (x : BitVec n) (b : Byte) : (x ++ b).toNat = x.toNat * 2 ^ 8 + b.toNat := by
  rw [BitVec.toNat_append, ← Nat.shiftLeft_add_eq_or_of_lt b.isLt, Nat.shiftLeft_eq]

/-- The word of four bytes, most significant first. -/
theorem word_of_four (b0 b1 b2 b3 : Byte) : BitVec.ofNat 32 (beVal [b0, b1, b2, b3]) = b0 ++ b1 ++ b2 ++ b3 := by
  refine BitVec.eq_of_toNat_eq ?_
  simp only [toNat_append_byte, BitVec.toNat_ofNat, beVal, List.foldl_cons, List.foldl_nil]
  have h0 := b0.isLt
  have h1 := b1.isLt
  have h2 := b2.isLt
  have h3 := b3.isLt
  omega

theorem ButObsCnts.targetSize {s x : State} (h : ButObsCnts s x) (t : Nat) : x.targetSize t = s.targetSize t := by
  rw [h]; rfl

/-- An access that counts its bus happening and then changes the memory alone. -/
theorem ButObsCnts.thenMem {s z x : State} (h : ButObsCnts s z) (hx : x = { z with bus := { z.bus with mem := x.bus.mem } }) :
    x = { s with bus := { s.bus with mem := x.bus.mem }, obs := { s.obs with cnts := x.obs.cnts } } := by
  have hobs : x.obs = z.obs := by rw [hx]
  rw [hobs]
  refine hx.trans ?_
  exact congrArg (fun w : State => { w with bus := { w.bus with mem := x.bus.mem } }) h

/-- All four bytes lie inside a target that reaches that far. -/
theorem inside_four {o size : Nat} (h : o + 4 ≤ size) : min 4 (size - o) = 4 := by omega

theorem ButObsCnts.master {s x : State} (h : ButObsCnts s x) (m : Nat) : x.master m = s.master m := by
  rw [h]; rfl

theorem ButObsCnts.bus {s x : State} (h : ButObsCnts s x) : x.bus = s.bus := by rw [h]

/-- A write through a window with the right, to four bytes inside its target, by a master with the level. -/
theorem State.windowAccess_write (s : State) {fn off n t o : Nat} {v : Word} (hat : s.windowAt off = some (n, t, o))
    (hright : s.windowRight n fn true = true) (hin : o + 4 ≤ s.targetSize t)
    (hlevel : (t ≠ 1 ∧ t ≠ 5) ∨ (s.master fn).expert = true) :
    s.windowAccess fn off (some v) =
      (0, (s.obsBus true 0 (busAddr t o) (some fn) 1).memWrite (busAddr t o) (beBytes 4 v.toNat)) := by
  have hcnts := s.obsBus_butObsCnts true 0 (busAddr t o) (some fn) 1
  unfold State.windowAccess
  rw [hat]
  refine (if_neg (by simp [hright])).trans ?_
  simp only [Option.isSome_some]
  generalize s.obsBus true 0 (busAddr t o) (some fn) 1 = z at hcnts ⊢
  have hinside : min 4 (z.targetSize t - o) = 4 := by
    rw [hcnts.targetSize]
    exact inside_four hin
  generalize min 4 (z.targetSize t - o) = inside at hinside ⊢
  subst hinside
  rw [if_neg (by rw [hcnts.master]; rintro ⟨ht, he⟩; simp [he] at hlevel; omega), if_neg (by decide)]
  rfl

/-- A read through a window with the right, of four bytes inside its target that have been written. -/
theorem State.windowAccess_read (s : State) {fn off n t o : Nat} (hat : s.windowAt off = some (n, t, o))
    (hright : s.windowRight n fn false = true) (hin : o + 4 ≤ s.targetSize t) {b0 b1 b2 b3 : Byte}
    (h0 : Tbl.find s.bus.mem (busAddr t o) = some b0) (h1 : Tbl.find s.bus.mem (busAddr t o + 1) = some b1)
    (h2 : Tbl.find s.bus.mem (busAddr t o + 2) = some b2) (h3 : Tbl.find s.bus.mem (busAddr t o + 3) = some b3) :
    s.windowAccess fn off none = (b0 ++ b1 ++ b2 ++ b3, s.obsBus false 0 (busAddr t o) (some fn) 1) := by
  have hcnts := s.obsBus_butObsCnts false 0 (busAddr t o) (some fn) 1
  unfold State.windowAccess
  rw [hat]
  refine (if_neg (by simp [hright])).trans ?_
  simp only [Option.isSome_none]
  generalize s.obsBus false 0 (busAddr t o) (some fn) 1 = z at hcnts ⊢
  have hinside : min 4 (z.targetSize t - o) = 4 := by
    rw [hcnts.targetSize]
    exact inside_four hin
  generalize min 4 (z.targetSize t - o) = inside at hinside ⊢
  subst hinside
  rw [← hcnts.bus] at h0 h1 h2 h3
  rw [z.memBytes_four h0 h1 h2 h3, if_neg (by decide)]
  exact congrArg (·, z) (word_of_four b0 b1 b2 b3)

end Sys2Proof.Machine

open Sys2Proof Sys2Proof.Machine

/-- Settles O36: START, DATA and PEAK_CLR, by the kind of the unit. -/
theorem checkUnits : Obligations.CheckUnits := by
  refine ⟨by decide +kernel, fun s u v hboot => ?_⟩
  have hstart : exec (.cvuStart u) s = .next (s.cvuStart u).settle := by
    rw [← State.alive_of_booted hboot fun s => s.cvuStart u]
    rfl
  have hdata : exec (.cvuDataWrite u v) s = .next (s.cvuData u v).settle := by
    rw [← State.alive_of_booted hboot fun s => s.cvuData u v]
    rfl
  intro c mode n taken
  refine ⟨answers_of (x := s.peakClear) ?_ ⟨.put s _ _ _ (List.mem_singleton_self _), State.get_put_same s _ _ _ (by decide)⟩,
    fun h => ⟨answers_of hstart (s.cvuStart_fixed h), answers_of hdata (s.cvuData_fixed v h)⟩,
    fun h => ⟨answers_of hstart (s.cvuStart_shows h), fun hheld => answers_of hdata ?_⟩⟩
  · rw [← State.alive_of_booted hboot State.peakClear]
    rfl
  · rw [s.cvuData_general v h hheld, State.setCvu, State.updBus, State.put_withBus]
    exact ⟨⟨s.put (CVU_S_CFG.key u) CVU_S_CFG.LAST_BYTES 0, .put s _ _ _ (List.mem_singleton_self _), rfl⟩,
      Tbl.find_put_same .., State.get_put_same s _ _ _ (by decide), fun j hj => Tbl.find_put_other _ _ _ _ hj⟩

/-- Settles O35: a window access with the right reaches its four bytes; one without is a fault of cause 2. -/
theorem memoryWindows : Obligations.MemoryWindows := by
  intro s fn off wr hboot missed
  have hexec : ∀ z w, s.windowAccess fn off.toNat wr = (w, z) →
      exec (.windowAccess fn off wr) s = .next (if wr.isSome then z else z.returns [w]).settle := by
    intro z w h
    have hrun : exec (.windowAccess fn off wr) s = .next (s.alive fun s =>
        if wr.isSome then (s.windowAccess fn off.toNat wr).2
        else (s.windowAccess fn off.toNat wr).2.returns [(s.windowAccess fn off.toNat wr).1]).settle := rfl
    rw [hrun, State.alive_of_booted hboot, h]
  have hmissed : s.windowAccess fn off.toNat wr = (0, s.busFault fWINDOW 0 off.toNat wr.isSome fn) →
      Answers (.windowAccess fn off wr) s missed := fun h => by
    refine answers_of (hexec _ _ h) ?_
    cases wr with
    | none => exact s.windowFault_shows off.toNat false fn [0]
    | some v => exact s.windowFault_shows off.toNat true fn s.pins.lastRead
  refine ⟨fun h => hmissed ?_, fun n t o hat => ⟨fun hright => hmissed ?_, fun hright hin => ?_⟩⟩
  · rw [State.windowAccess, h]
  · rw [State.windowAccess, hat]
    exact if_pos hright
  refine ⟨fun v hwr hlevel => ?_, fun b0 b1 b2 b3 hwr h0 h1 h2 h3 => ?_⟩
  · subst hwr
    refine answers_of (hexec _ _ (s.windowAccess_write hat hright hin hlevel)) ?_
    have hcnts := s.obsBus_butObsCnts true 0 (busAddr t o) (some fn) 1
    have hmem : (s.obsBus true 0 (busAddr t o) (some fn) 1).bus.mem = s.bus.mem := by rw [hcnts]
    generalize s.obsBus true 0 (busAddr t o) (some fn) 1 = z at hcnts hmem
    refine ⟨?_, fun i hi => z.memWrite_same _ _ _ hi, fun a ha => hmem ▸ z.memWrite_other _ _ a ha,
      fun hwf => z.memWrite_wf _ _ (hmem ▸ hwf)⟩
    exact ButObsCnts.thenMem hcnts (z.memWrite_frame _ _)
  · subst hwr
    refine answers_of (hexec _ _ (s.windowAccess_read hat hright hin h0 h1 h2 h3)) ?_
    exact HostAccess.of_onlyRegs (s.obsBus_butObsCnts ..) (.refl _ _) _
end

section
/-! PROOF. Register access by the host port and the SPI slave (R403, R408, R412, R57). -/

namespace Sys2Proof.Machine

/-! ### What a register shows and answers -/

/-- A register without a view of its own shows what it holds. -/
theorem State.shown_plain (s : State) {k : Nat} (hv : (views.all fun w => (w.1.index k).isNone) = true) :
    s.shown k = s.rd k := by
  have hf : (views.find? fun v => (v.1.index k).isSome) = none := by
    rw [List.find?_eq_none]
    intro w hmem
    simpa using List.all_eq_true.mp hv w hmem
  simp only [State.shown, hf]

/-- A register without a reader of its own answers what it shows. -/
theorem State.readReg_plain (s : State) {k : Nat} (hr : (readers.all fun w => (w.1.index k).isNone) = true) :
    s.readReg k = (s.shown k, s) := by
  have hf : (readers.find? fun v => (v.1.index k).isSome) = none := by
    rw [List.find?_eq_none]
    intro w hmem
    simpa using List.all_eq_true.mp hr w hmem
  simp only [State.readReg, hf]

/-! ### Places -/

theorem State.readAddr_blank (s : State) (q : Req) {addr : Nat} (halign : addr % 4 = 0)
    (habsent : s.absentBank addr = false) (hloc : s.locate addr = .blank) :
    s.readAddr q addr = (0, false, s.obsBus false q.bus addr q.host 1) := by
  have hl := ((s.obsBus_butObsCnts false q.bus addr q.host 1).locate addr).trans hloc
  simp [State.readAddr, halign, habsent, hl]

/-- A read of a register without a reader and a view of its own answers what it holds. -/
theorem State.readAddr_shows (s : State) (q : Req) {addr k : Nat} {d : RegDesc} (halign : addr % 4 = 0)
    (habsent : s.absentBank addr = false) (hloc : s.locate addr = .reg k d)
    (hr : (readers.all fun w => (w.1.index k).isNone) = true) (hv : (views.all fun w => (w.1.index k).isNone) = true) :
    s.readAddr q addr = (s.rd k, false, s.obsBus false q.bus addr q.host 1) := by
  rw [s.readAddr_reg q halign habsent hloc, State.readReg_plain _ hr, State.shown_plain _ hv,
    (s.obsBus_butObsCnts false q.bus addr q.host 1).rd]

theorem State.writeAddr_blank (s : State) (q : Req) {addr : Nat} (v : Word) (halign : addr % 4 = 0)
    (habsent : s.absentBank addr = false) (hloc : s.locate addr = .blank) :
    s.writeAddr q addr v true = (false, s.obsBus true q.bus addr q.host 1) := by
  have hl := ((s.obsBus_butObsCnts true q.bus addr q.host 1).locate addr).trans hloc
  have hfirst : s.writeAddr q addr v true = s.writeWith q addr fun _ _ => v :=
    (if_neg (by simp [halign])).trans (if_neg (by simp [habsent]))
  simp only [hfirst, State.writeWith, hl]

/-- A write of an active bank without expert level is a fault of cause 3 (R57). -/
theorem State.writeAddr_level (s : State) (q : Req) {addr k : Nat} {d : RegDesc} (v : Word) (halign : addr % 4 = 0)
    (habsent : s.absentBank addr = false) (hloc : s.locate addr = .reg k d) (hbank : isBanked k = true)
    (hexpert : q.expert = false) :
    s.writeAddr q addr v true = (true, (s.obsBus true q.bus addr q.host 1).busFault fLEVEL q.bus addr true q.fn) := by
  have hl := ((s.obsBus_butObsCnts true q.bus addr q.host 1).locate addr).trans hloc
  have hlevel : (isBanked k && !q.expert) = true := by simp [hbank, hexpert]
  have hfirst : s.writeAddr q addr v true = s.writeWith q addr fun _ _ => v :=
    (if_neg (by simp [halign])).trans (if_neg (by simp [habsent]))
  simp only [hfirst, State.writeWith, hl, hlevel, if_true]

theorem State.writePlain_onlyRegs (s : State) (k : Nat) (d : RegDesc) (v : Word) : OnlyRegs s (s.writePlain k d v) [k] :=
  .wr s _ _ (List.mem_singleton_self _)

theorem State.writePlain_rd (s : State) (k : Nat) (d : RegDesc) (v : Word) :
    (s.writePlain k d v).rd k = d.write (s.rd k) v := State.rd_wr_same ..

/-- A write that counts its bus happening and then writes registers, with no read after it. -/
theorem HostAccess.of_write {s t x : State} {ks : List Nat} (hc : ButObsCnts s t) (hr : OnlyRegs t x ks) :
    HostAccess s x ks s.pins.lastRead := by
  obtain ⟨he, hk⟩ := hr
  have hobs : x.obs.cnts = t.obs.cnts := by rw [he]
  refine ⟨?_, fun k hks => (hk k hks).trans (hc.rd k)⟩
  rw [hobs]
  refine he.trans ?_
  exact congrArg (fun z : State => { z with regs := x.regs }) hc

/-- A write at a register with one bank and no writer of its own, as the row leaves the state. -/
theorem State.writeAddr_plain (s : State) (q : Req) {addr k : Nat} {d : RegDesc} (v : Word) (halign : addr % 4 = 0)
    (habsent : s.absentBank addr = false) (hloc : s.locate addr = .reg k d) (hbank : isBanked k = false)
    (hw : (writers.all fun w => (w.1.index k).isNone) = true) :
    HostAccess s (s.writeAddr q addr v true).2 [k] s.pins.lastRead ∧
    (s.writeAddr q addr v true).2.rd k = d.write (s.rd k) v := by
  have hcnts := s.obsBus_butObsCnts true q.bus addr q.host 1
  rw [s.writeAddr_reg q v halign habsent hloc (.inl hbank), State.writeReg_plain _ v hbank hw]
  refine ⟨.of_write hcnts (State.writePlain_onlyRegs _ _ _ _), ?_⟩
  rw [State.writePlain_rd, hcnts.rd]

/-! ### The SPI slave -/

theorem State.spiWrites_one (s : State) (addr : BitVec 24) (v : Word) :
    (s.writeWords (s.hostReq .spi) addr.toNat [v]) = (s.writeAddr (s.hostReq .spi) addr.toNat v true).2 := by
  rw [State.writeWords, Nat.mod_eq_of_lt addr.isLt]
  rfl

theorem State.spiReads_one (s : State) (q : Req) (addr : BitVec 24) :
    (s.readWords q addr.toNat 1).1 = [(s.readAddr q addr.toNat).1] ∧
    (s.readWords q addr.toNat 1).2.2 = (s.readAddr q addr.toNat).2.2 := by
  rw [State.readWords, Nat.mod_eq_of_lt addr.isLt]
  exact ⟨rfl, rfl⟩

/-- A SPI read answers the word that the address leads to. -/
theorem State.spiReads_answers (s : State) (addr : BitVec 24) {w : Word} (hboot : s.dev.boot ≠ .held) {z : State}
    {faulted : Bool} (hz : ButObsCnts s z) (h : s.readAddr (s.hostReq .spi) addr.toNat = (w, faulted, z)) :
    HostAccess s (s.spiReads addr.toNat 1) [] [w] := by
  have hread : s.spiReads addr.toNat 1 = (s.readAddr (s.hostReq .spi) addr.toNat).2.2.returns
      [(s.readAddr (s.hostReq .spi) addr.toNat).1] := by
    rw [← (s.spiReads_one _ addr).1, ← (s.spiReads_one _ addr).2]
    exact State.alive_of_booted hboot _
  rw [hread, h]
  exact HostAccess.of_onlyRegs hz (OnlyRegs.refl z []) [w]

/-- A fault of cause 3 of an access whose bus happening has been counted. -/
theorem State.levelFault_shows (s : State) {z : State} (hz : ButObsCnts s z) (bus addr fn : Nat) :
    let x := z.busFault fLEVEL bus addr true fn
    (∃ y, HostAccess s y faultKeys s.pins.lastRead ∧
      x = { y with arrivals := s.arrivals ++ [.event 361 0x81 true 0 []] }) ∧
    x.get BUS_FAULT_INFO.key BUS_FAULT_INFO.CAUSE = 3 := by
  intro x
  obtain ⟨rest, h⟩ := z.busFault_refused bus addr true fn (.inr rfl)
  have hregs := z.recordFault_onlyRegs (fLEVEL + 8 * rest) addr
  have hcause := z.recordFault_cause rest addr (show fLEVEL < 8 by decide)
  rw [show x = _ from h]
  generalize z.recordFault (fLEVEL + 8 * rest) addr = y at hregs hcause
  have harrivals : y.arrivals = s.arrivals := by rw [hregs.1, hz]
  refine ⟨⟨y, .of_write hz hregs, ?_⟩, hcause⟩
  rw [← harrivals]
  rfl

/-! ### Active banks -/

/-- Each double-banked array stands once in the list. -/
theorem banked_nodup : (banked.map Prod.fst).Nodup := by decide +kernel

/-- A double-banked register is written as its array says. -/
theorem State.writeReg_banked (s : State) {d e : RegDesc} {g : State → Nat → Nat → Nat → Word → State} {k i j : Nat}
    (v : Word) (hg : (d, g) ∈ banked) (hd : (banked.map Prod.fst).find? (fun d => (d.index k).isSome) = some d)
    (hi : d.index k = some (i, j)) : s.writeReg k e v = g s k i j (e.write (s.rd k) v) := by
  rw [List.find?_map, Option.map_eq_some_iff] at hd
  obtain ⟨b, hb, hbd⟩ := hd
  have hbg : b = (d, g) := List.inj_on_of_nodup_map banked_nodup (List.mem_of_find?_eq_some hb) hg hbd
  have hf : (banked.find? fun b => (b.1.index k).isSome) = some (d, g) := hbg ▸ hb
  simp only [State.writeReg, hf, hi]

/-- The state in which an active bank is written: its own value staged, then the value written, then the flip. -/
theorem State.activePlain_eq (s : State) (k : Nat) (v : Word) :
    s.activePlain k v =
      ((((s.wrStaged k (s.rd k)).wrStaged k v).flipRegs [k]).wrStaged k (s.rdStaged k)) := rfl

theorem State.rdStaged_wrStaged (s : State) (k : Nat) (v : Word) (j : Nat) :
    (s.wrStaged k v).rdStaged j = if j = k then v else s.rdStaged j := by
  unfold State.rdStaged
  rw [show (s.wrStaged k v).staged = s.staged.store k v (regReset k) from rfl]
  by_cases h : j = k
  · subst h
    rw [Tbl.getD_store]
  · rw [if_neg h, Tbl.getD, Tbl.getD, Tbl.find_store_other _ _ _ _ _ h]

/-- A write of an active bank acts at once and leaves every staged bank (R57). -/
theorem State.activePlain_shows (s : State) (k : Nat) (v : Word) :
    let x := s.activePlain k v
    x.rd k = v ∧ (∀ j, j ≠ k → x.rd j = s.rd j) ∧ (∀ j, x.rdStaged j = s.rdStaged j) ∧
    x = { s with regs := x.regs, staged := x.staged } := by
  intro x
  let u := (s.wrStaged k (s.rd k)).wrStaged k v
  have hflip : OnlyRegs u (u.flipRegs [k]) [k] := State.flipRegs_onlyRegs _ _
  refine ⟨?_, fun j hj => ?_, fun j => ?_, ?_⟩
  · have h1 : x.rd k = (u.flipRegs [k]).rd k := State.wrStaged_rd ..
    rw [h1, State.flipRegs_rd u (List.mem_singleton_self k), State.rdStaged_wrStaged, if_pos rfl]
  · have h1 : x.rd j = (u.flipRegs [k]).rd j := State.wrStaged_rd ..
    rw [h1, hflip.rd (by simpa using hj)]
    rfl
  · have h1 : x.rdStaged j = if j = k then s.rdStaged k else (u.flipRegs [k]).rdStaged j := State.rdStaged_wrStaged ..
    rw [h1, State.flipRegs_rdStaged, State.rdStaged_wrStaged, State.rdStaged_wrStaged]
    by_cases hj : j = k <;> simp [hj]
  · rfl

theorem State.writeReg_plainFlip (s : State) {d e : RegDesc} {k n i j : Nat} (v : Word)
    (hn : banked[n]? = some (d, fun s k _ _ v => State.activePlain s k v))
    (hd : (banked.map Prod.fst).find? (fun d => (d.index k).isSome) = some d) (hi : d.index k = some (i, j)) :
    s.writeReg k e v = s.activePlain k (e.write (s.rd k) v) :=
  s.writeReg_banked v (List.mem_of_getElem? hn) hd hi

theorem prtDamper_found : ∀ p : Port, (banked.map Prod.fst).find? (fun d => (d.index (PRT_DAMPER.key p)).isSome) =
    some PRT_DAMPER.desc ∧ PRT_DAMPER.desc.index (PRT_DAMPER.key p) = some (p.val, 0) := by decide +kernel

/-- A write of the active bank of a register whose flip does nothing more. -/
theorem State.writeReg_activePlain (s : State) {k : Nat} (e : RegDesc) (v : Word)
    (hk : k = DPL_CFG.key ∨ k = HLT_CFG.key ∨ k = OBS_SAMPLE_CFG.key ∨ ∃ p : Port, k = PRT_DAMPER.key p) :
    s.writeReg k e v = s.activePlain k (e.write (s.rd k) v) := by
  rcases hk with rfl | rfl | rfl | ⟨p, rfl⟩
  · exact s.writeReg_plainFlip (n := 22) (i := 0) (j := 0) v rfl (by decide +kernel) (by decide +kernel)
  · exact s.writeReg_plainFlip (n := 28) (i := 0) (j := 0) v rfl (by decide +kernel) (by decide +kernel)
  · exact s.writeReg_plainFlip (n := 33) (i := 0) (j := 0) v rfl (by decide +kernel) (by decide +kernel)
  · exact s.writeReg_plainFlip (n := 2) (i := p.val) (j := 0) v rfl (prtDamper_found p).1 (prtDamper_found p).2

theorem activePlain_aligned {k : Nat}
    (hk : k = DPL_CFG.key ∨ k = HLT_CFG.key ∨ k = OBS_SAMPLE_CFG.key ∨ ∃ p : Port, k = PRT_DAMPER.key p) : k % 4 = 0 := by
  have hdamper : ∀ p : Port, PRT_DAMPER.key p % 4 = 0 := by decide +kernel
  rcases hk with rfl | rfl | rfl | ⟨p, rfl⟩
  · decide
  · decide
  · decide
  · exact hdamper p

end Sys2Proof.Machine

open Sys2Proof Sys2Proof.Machine

/-- Settles O34: an access counts its bus happening and then writes or reads the register that its address leads to. -/
theorem registerAccess : Obligations.RegisterAccess := by
  refine ⟨fun s o addr v k d hboot halign habsent => ?_, fun s m addr v d hboot hexpert habsent hloc hk => ?_⟩
  · intro fn plainWrite readsAs
    have hwrite : exec (.registerWrite o addr v 0xF) s = .next (s.writeAddr (s.hostReq o) addr.toNat v true).2.settle := by
      rw [← State.alive_of_booted hboot fun s => (s.writeAddr (s.hostReq o) addr.toNat v true).2]
      rfl
    have hspi : s.spiWrites addr.toNat [v] false = (s.writeAddr (s.hostReq .spi) addr.toNat v true).2 := by
      rw [← s.spiWrites_one]
      exact State.alive_of_booted hboot _
    refine ⟨fun hloc hbank hw => ?_, fun hloc hbank hlevel => answers_of hwrite ?_, fun hloc hr hv => ?_, fun hloc => ?_⟩
    · have hplain := fun q => s.writeAddr_plain q v halign habsent hloc hbank hw
      exact ⟨answers_of hwrite (hplain _), answers_of rfl (hspi ▸ hplain _), answers_of rfl (hspi ▸ hplain _)⟩
    · rw [s.writeAddr_level _ v halign habsent hloc hbank hlevel]
      have hz := s.obsBus_butObsCnts true (s.hostReq o).bus addr.toNat (s.hostReq o).host 1
      dsimp only
      generalize s.obsBus true (s.hostReq o).bus addr.toNat (s.hostReq o).host 1 = z at hz ⊢
      exact s.levelFault_shows hz (s.hostReq o).bus addr.toNat (s.hostReq o).fn
    · have hx := s.spiReads_answers addr hboot (s.obsBus_butObsCnts ..) (s.readAddr_shows _ halign habsent hloc hr hv)
      exact ⟨answers_of rfl hx, answers_of rfl hx⟩
    · have hx := s.spiReads_answers addr hboot (s.obsBus_butObsCnts ..) (s.readAddr_blank _ halign habsent hloc)
      refine ⟨answers_of rfl hx, answers_of rfl hx, answers_of hwrite ?_⟩
      rw [s.writeAddr_blank _ v halign habsent hloc]
      have hz := s.obsBus_butObsCnts true (s.hostReq o).bus addr.toNat (s.hostReq o).host 1
      dsimp only
      generalize s.obsBus true (s.hostReq o).bus addr.toNat (s.hostReq o).host 1 = z at hz ⊢
      exact hz.hostAccess []
  · have hwrite : exec (.registerWrite (.pcie m) addr v 0xF) s =
        .next (s.writeAddr (s.hostReq (.pcie m)) addr.toNat v true).2.settle := by
      rw [← State.alive_of_booted hboot fun s => (s.writeAddr (s.hostReq (.pcie m)) addr.toNat v true).2]
      rfl
    refine answers_of hwrite ?_
    have hcnts := s.obsBus_butObsCnts true (s.hostReq (.pcie m)).bus addr.toNat (s.hostReq (.pcie m)).host 1
    rw [s.writeAddr_reg _ v (activePlain_aligned hk) habsent hloc (.inr hexpert), State.writeReg_activePlain _ d v hk]
    dsimp only
    generalize s.obsBus true (s.hostReq (.pcie m)).bus addr.toNat (s.hostReq (.pcie m)).host 1 = z at hcnts ⊢
    obtain ⟨hsame, hother, hstaged, hframe⟩ := z.activePlain_shows addr.toNat (d.write (z.rd addr.toNat) v)
    generalize z.activePlain addr.toNat (d.write (z.rd addr.toNat) v) = x at hsame hother hstaged hframe
    refine ⟨hcnts.rd addr.toNat ▸ hsame, fun j hj => (hother j hj).trans (hcnts.rd j), fun j => (hstaged j).trans ?_, ?_⟩
    · rw [hcnts]; rfl
    · have hobs : x.obs = z.obs := by rw [hframe]
      rw [hobs]
      exact hframe.trans (congrArg (fun w : State => { w with regs := x.regs, staged := x.staged }) hcnts)
end

section
/-! PROOF. The observation unit: the cycle count, trace records and precise samples (R446, R448 to R450). -/

namespace Sys2Proof.Machine

/-! ### The cycle count -/

theorem State.obsFreeze_again (s : State) (h : s.obsFrozen = true) : s.obsFreeze = s := if_pos h

/-- The cycle count while it runs: a value of the current tick, with a free value used. -/
theorem State.cyclesNow_running (s : State) (h : s.obsFrozen = false) :
    ∃ n, n < 100000 ∧ s.cyclesNow =
      ((s.obs.cycles + n) % 2 ^ 64, { s with dev := { s.dev with freeCtr := s.dev.freeCtr + 1 } }) :=
  ⟨s.fresh.1 % 100000, Nat.mod_lt _ (by decide), if_neg (by simp [h])⟩

theorem State.put_withDevObs (s : State) (d : Dev) (o : ObsSt) (k : Nat) (f : Fld) (v : Nat) :
    ({ s with dev := d, obs := o } : State).put k f v = { s.put k f v with dev := d, obs := o } := rfl

/-- FREEZE stops the cycle count at a value of the current tick. -/
theorem State.obsFreeze_stops (s : State) (h : s.obsFrozen = false) :
    let x := s.obsFreeze
    (∃ y, OnlyRegs s y [OBS_CNT_CTRL.key] ∧ x = { y with
      dev := { s.dev with freeCtr := s.dev.freeCtr + 1 }, obs := { s.obs with cycles := x.obs.cycles } }) ∧
    x.obsFrozen = true ∧ ∃ n, n < 100000 ∧ x.obs.cycles = (s.obs.cycles + n) % 2 ^ 64 := by
  intro x
  obtain ⟨n, hn, hnow⟩ := s.cyclesNow_running h
  have hx : x = { s.put OBS_CNT_CTRL.key OBS_CNT_CTRL.FREEZE 1 with
      dev := { s.dev with freeCtr := s.dev.freeCtr + 1 }, obs := { s.obs with cycles := (s.obs.cycles + n) % 2 ^ 64 } } := by
    rw [← State.put_withDevObs]
    refine (if_neg (by simp [h])).trans ?_
    rw [hnow]
    rfl
  rw [hx]
  exact ⟨⟨_, .put s _ _ _ (List.mem_singleton_self _), rfl⟩, State.on_put_one s _ _ (by decide) rfl, n, hn, rfl⟩

/-- A read of the running count latches the high half of one value of the current tick. -/
theorem State.cycleLoRead_running (s : State) (hboot : s.dev.boot ≠ .held) (h : s.obsFrozen = false) :
    ∃ n, n < 100000 ∧ let c := (s.obs.cycles + n) % 2 ^ 64
      let x := s.hostRead OBS_CYCLE_LO.key
      x.pins.lastRead = [BitVec.ofNat 32 c] ∧ x.rd OBS_CYCLE_HI.key = BitVec.ofNat 32 (c / 2 ^ 32) ∧
      ∀ k, k ≠ OBS_CYCLE_HI.key → x.rd k = s.rd k := by
  have hseen := s.hostSeen_butObsCnts OBS_CYCLE_LO.key
  rw [s.hostRead_chip hboot rfl (d := OBS_CYCLE_LO.desc) (by decide +kernel) (by decide), State.readReg_cycleLo]
  generalize s.hostSeen OBS_CYCLE_LO.key = z at hseen ⊢
  have hfrozen : z.obsFrozen = false := by
    rw [State.obsFrozen, State.on, State.get, hseen.rd]
    exact h
  obtain ⟨n, hn, hnow⟩ := z.cyclesNow_running hfrozen
  have hcycles : z.obs.cycles = s.obs.cycles := by rw [hseen]
  refine ⟨n, hn, ?_⟩
  rw [State.readCycle, hnow, hcycles]
  refine ⟨rfl, State.rd_wr_same _ _ _, fun k hk => ?_⟩
  exact (State.rd_wr_other _ _ _ _ hk).trans (hseen.rd k)

/-! ### Trace records -/

theorem State.storeRecord_empty (s : State) (h : s.obs.fifo = []) : s.storeRecord = s := by
  rw [State.storeRecord, h]

/-- A record leaves the FIFO for the buffer while it fits. -/
theorem State.storeRecord_fits (s : State) {r : TraceRec} {rest : List TraceRec} (h : s.obs.fifo = r :: rest)
    (hwait : s.obs.waiting = none) (hfits : recordsBytes s.obs.buffer + r.length ≤ s.traceCap) :
    s.storeRecord = { s with obs := { s.obs with
      fifo := rest, buffer := s.obs.buffer ++ [if s.obs.dropBefore then r.mark else r], dropBefore := false } } := by
  have hadmit : (s.updObs fun o => { o with fifo := rest }).admitSample = s.updObs fun o => { o with fifo := rest } := by
    rw [State.admitSample, show (s.updObs fun o => { o with fifo := rest }).obs.waiting = none from hwait]
  unfold State.storeRecord
  rw [h]
  dsimp only
  rw [hadmit]
  exact if_pos hfits

theorem State.readout_idle (s : State)
    (h : s.obs.buffer = [] ∨ s.on OBS_TRACE_CFG.key OBS_TRACE_CFG.READOUT_EN = false) : s.readout = s := by
  unfold State.readout
  split
  · rfl
  · next r rest hb =>
    rcases h with h | h
    · rw [h] at hb
      cases hb
    · exact if_neg (by simp [h])

/-- The oldest record moves to queue 6 whole. -/
theorem State.readout_moves (s : State) {r : TraceRec} {rest : List TraceRec} (h : s.obs.buffer = r :: rest)
    (hen : s.on OBS_TRACE_CFG.key OBS_TRACE_CFG.READOUT_EN = true)
    (hfits : (s.queue 6).words.length + (owedMarkers (s.queue 6)).length +
      (replyRecord (if s.obs.moveDrop then r.mark else r).bytes).length + 1 ≤ queueCap 6) :
    s.readout = (State.insertWords { s with obs := { s.obs with buffer := rest, moveDrop := false } } 6
      (replyRecord (if s.obs.moveDrop then r.mark else r).bytes)).2 := by
  unfold State.readout
  rw [h]
  exact if_pos ⟨hen, hfits⟩

/-! ### Precise samples -/

theorem State.preciseSample_off (s : State) (priv : Bool) (seq : Nat) (pc insn latency : Word)
    (h : s.on OBS_SAMPLE_CFG.key OBS_SAMPLE_CFG.SAMPLE_EN = false ∨ s.captures 6 none = false) :
    s.preciseSample priv seq pc insn latency = s := if_pos h

/-- The record of a precise sample. -/
def State.sampleRecord (s : State) (priv : Bool) (seq : Nat) (pc insn latency : Word) : TraceRec :=
  (s.makeRecord 6 false (beBytes 1 (s.get OBS_SAMPLE_CFG.key OBS_SAMPLE_CFG.ENGINE) ++ beBytes 1 (bit priv) ++
    beBytes 2 (if priv then seq else 0) ++ beBytes 4 pc.toNat ++ beBytes 4 insn.toNat ++ beBytes 4 latency.toNat)).1

theorem State.sampleRecord_body (s : State) (priv : Bool) (seq : Nat) (pc insn latency : Word) :
    (s.sampleRecord priv seq pc insn latency).body.drop 4 =
      beBytes 4 pc.toNat ++ beBytes 4 insn.toNat ++ beBytes 4 latency.toNat := rfl

/-- An enabled sample enters the FIFO. -/
theorem State.preciseSample_taken (s : State) (priv : Bool) (seq : Nat) (pc insn latency : Word)
    (hen : s.on OBS_SAMPLE_CFG.key OBS_SAMPLE_CFG.SAMPLE_EN = true) (hcap : s.captures 6 none = true)
    (hwait : s.obs.waiting = none) (hroom : s.obs.fifo.length < 256) :
    s.preciseSample priv seq pc insn latency = { s with
      dev := { s.dev with freeCtr := s.dev.freeCtr + 1 }
      obs := { s.obs with
        fifo := s.obs.fifo ++ [s.sampleRecord priv seq pc insn latency], seq := (s.obs.seq + 1) % 2 ^ 32 } } := by
  refine (if_neg (by simp [hen, hcap])).trans ((if_neg (by simp [hwait])).trans ((if_pos hroom).trans (if_pos hroom)))

end Sys2Proof.Machine

open Sys2Proof Sys2Proof.Machine

/-- Settles O37: the cycle count, the trace's FIFO and buffer, and precise samples. -/
theorem observationRows : Obligations.ObservationRows := by
  intro s
  refine ⟨fun h => answers_of rfl (s.obsFreeze_again h), fun h => answers_of rfl (s.obsFreeze_stops h),
    answers_of rfl ⟨.put s _ _ _ (List.mem_singleton_self _), State.on_put_zero s _ _ (by decide) rfl⟩,
    fun h hboot => answers_of rfl (s.cycleLoRead_running hboot h), fun h => answers_of rfl (s.storeRecord_empty h),
    fun r rest h hwait hfits => answers_of rfl (s.storeRecord_fits h hwait hfits), fun h => answers_of rfl (s.readout_idle h),
    ?_, fun priv seq pc insn latency => ⟨fun h => answers_of rfl (s.preciseSample_off priv _ pc insn latency h), ?_⟩⟩
  · intro r rest h hen words hfits
    refine answers_of rfl ?_
    rw [s.readout_moves h hen hfits]
    refine ⟨State.insertWords_reported _ 6 words (by decide), ?_⟩
    exact (State.insertWords_fits _ 6 words (by decide) (by
      change (s.queue 6).words.length + words.length + 1 ≤ queueCap 6
      omega)).2.1
  · intro hen hcap hwait hroom
    exact answers_of rfl ⟨s.sampleRecord priv seq.toNat pc insn latency, rfl, rfl, Nat.mod_lt _ (by decide),
      s.sampleRecord_body priv _ pc insn latency, s.preciseSample_taken priv _ pc insn latency hen hcap hwait hroom⟩
end

section
/-! SUPPORT. Decided defects: what a decision leaves, and what it makes of the state of every condition (R97, R267). -/

namespace Sys2Proof.Machine

/-! ### The state of a condition as last decided -/

theorem State.decided_congr {s x : State} (ha : x.arrivals = s.arrivals) (hc : x.evt.conds = s.evt.conds) (c : Cond) :
    x.decided c = s.decided c := by
  rw [State.decided, State.decided, ha, State.has, State.has, hc]

/-- The last change on its way decides. -/
theorem State.decided_arrive (s : State) (c : Cond) (set : Bool) (d : Cond) :
    (s.arrive (.defect c set)).decided d = if d = c then set else s.decided d := by
  unfold State.decided State.arrive
  rw [List.foldl_append]
  by_cases h : d = c
  · subst h
    simp
  · have hcd : ¬ c = d := fun e => h e.symm
    simp only [List.foldl_cons, List.foldl_nil, h, hcd, if_false]
    rfl

/-- An arrival that is no defect decides nothing. -/
theorem State.decided_arrive_other (s : State) {a : Arrival} (h : a.isDefect = false) (d : Cond) :
    (s.arrive a).decided d = s.decided d := by
  unfold State.decided State.arrive
  rw [List.foldl_append]
  cases a with
  | defect c set => cases h
  | _ => rfl

/-! ### A decision -/

theorem State.rule_same (s : State) {c : Cond} {set : Bool} (h : s.decided c = set) : s.rule c set = s := if_pos h

theorem State.rule_clears (s : State) {c : Cond} (h : s.decided c ≠ false) :
    s.rule c false = s.arrive (.defect c false) := if_neg h

theorem State.rule_sets (s : State) {c : Cond} (h : s.decided c ≠ true) :
    s.rule c true = (s.defectHist c).arrive (.defect c true) := if_neg h

/-- The sticky bit of a defect lies in a register or in the context of a path, an ODU or a tributary. -/
theorem State.defectHist_frame (s : State) (c : Cond) : ∃ r ps os ts,
    s.defectHist c = { s with regs := r, paths := ps, odus := os, tribs := ts } := by
  unfold State.defectHist
  dsimp only
  repeat' split
  all_goals exact ⟨_, _, _, _, rfl⟩

theorem State.defectHist_arrivals (s : State) (c : Cond) : (s.defectHist c).arrivals = s.arrivals := by
  obtain ⟨r, ps, os, ts, h⟩ := s.defectHist_frame c
  rw [h]

theorem State.defectHist_evt (s : State) (c : Cond) : (s.defectHist c).evt = s.evt := by
  obtain ⟨r, ps, os, ts, h⟩ := s.defectHist_frame c
  rw [h]

/-- A decision leaves the condition as decided and every other as it was. -/
theorem State.rule_decided (s : State) (c : Cond) (set : Bool) (d : Cond) :
    (s.rule c set).decided d = if d = c then set else s.decided d := by
  by_cases h : s.decided c = set
  · rw [s.rule_same h]
    by_cases hd : d = c
    · rw [if_pos hd, hd, h]
    · rw [if_neg hd]
  · cases set with
    | false => rw [s.rule_clears h, State.decided_arrive]
    | true =>
      rw [s.rule_sets h, State.decided_arrive]
      rw [State.decided_congr (s.defectHist_arrivals c) (congrArg EvtSt.conds (s.defectHist_evt c))]

theorem State.rule_decided_same (s : State) (c : Cond) (set : Bool) : (s.rule c set).decided c = set := by
  rw [s.rule_decided, if_pos rfl]

theorem State.rule_decided_other (s : State) {c d : Cond} (set : Bool) (h : d ≠ c) :
    (s.rule c set).decided d = s.decided d := by
  rw [s.rule_decided, if_neg h]

/-- A decision adds to the arrivals. -/
theorem State.rule_arrivals (s : State) (c : Cond) (set : Bool) : s.arrivals <+: (s.rule c set).arrivals := by
  by_cases h : s.decided c = set
  · rw [s.rule_same h]
  · cases set with
    | false => rw [s.rule_clears h]; exact List.prefix_append _ _
    | true =>
      rw [s.rule_sets h]
      exact (s.defectHist_arrivals c) ▸ List.prefix_append _ _

/-- A list of operations that each leave the state leave it together. -/
theorem State.each_same {α : Type} {f : State → α → State} {xs : List α} (s : State) (h : ∀ a ∈ xs, f s a = s) :
    s.each xs f = s := by
  induction xs with
  | nil => rfl
  | cons a xs ih =>
    have h1 : s.each (a :: xs) f = (f s a).each xs f := rfl
    rw [h1, h a List.mem_cons_self]
    exact ih fun b hb => h b (List.mem_cons_of_mem _ hb)

/-! ### Defects of a port -/

/-- `x` is `s` but for the registers named and for what arrives in the next tick. -/
def Decides (s x : State) (ks : List Nat) : Prop :=
  (∃ y, OnlyRegs s y ks ∧ x = { y with arrivals := x.arrivals }) ∧ s.arrivals <+: x.arrivals

theorem Decides.refl (s : State) (ks : List Nat) : Decides s s ks := ⟨⟨s, .refl s ks, rfl⟩, List.prefix_rfl⟩

theorem Decides.trans {s t u : State} {ks : List Nat} (h1 : Decides s t ks) (h2 : Decides t u ks) : Decides s u ks := by
  obtain ⟨⟨y, hy, ht⟩, ha⟩ := h1
  obtain ⟨⟨z, hz, hu⟩, hb⟩ := h2
  refine ⟨⟨{ z with arrivals := s.arrivals }, ⟨?_, fun k hk => ?_⟩, hu⟩, ha.trans hb⟩
  · rw [hz.1, ht, hy.1]
  · refine (hz.2 k hk).trans ?_
    rw [ht]
    exact hy.2 k hk

theorem Decides.mono {s x : State} {ks js : List Nat} (h : Decides s x ks) (hs : ks ⊆ js) : Decides s x js := by
  obtain ⟨⟨y, hy, hx⟩, ha⟩ := h
  exact ⟨⟨y, hy.mono hs, hx⟩, ha⟩

theorem Decides.ofRegs {s x : State} {ks : List Nat} (h : OnlyRegs s x ks) : Decides s x ks := by
  refine ⟨⟨x, h, rfl⟩, ?_⟩
  rw [h.1]

theorem Decides.rd {s x : State} {ks : List Nat} (h : Decides s x ks) {k : Nat} (hk : k ∉ ks) : x.rd k = s.rd k := by
  obtain ⟨⟨y, hy, hx⟩, _⟩ := h
  rw [hx]
  exact hy.2 k hk

theorem Decides.get {s x : State} {ks : List Nat} (h : Decides s x ks) {k : Nat} (hk : k ∉ ks) (f : Fld) :
    x.get k f = s.get k f := by rw [State.get, State.get, h.rd hk]

theorem Decides.on {s x : State} {ks : List Nat} (h : Decides s x ks) {k : Nat} (hk : k ∉ ks) (f : Fld) :
    x.on k f = s.on k f := by rw [State.on, State.on, h.get hk]

theorem Decides.ports {s x : State} {ks : List Nat} (h : Decides s x ks) : x.ports = s.ports := by
  obtain ⟨⟨y, hy, hx⟩, _⟩ := h
  rw [hx, hy.1]

theorem Decides.evt {s x : State} {ks : List Nat} (h : Decides s x ks) : x.evt = s.evt := by
  obtain ⟨⟨y, hy, hx⟩, _⟩ := h
  rw [hx, hy.1]

theorem Decides.cal {s x : State} {ks : List Nat} (h : Decides s x ks) : x.cal = s.cal := by
  obtain ⟨⟨y, hy, hx⟩, _⟩ := h
  rw [hx, hy.1]

/-- A decision whose sticky bit lies in the registers named. -/
theorem Decides.rule (s : State) (c : Cond) (set : Bool) {ks : List Nat} (h : OnlyRegs s (s.defectHist c) ks) :
    Decides s (s.rule c set) ks := by
  refine ⟨?_, s.rule_arrivals c set⟩
  by_cases hd : s.decided c = set
  · rw [s.rule_same hd]
    exact ⟨s, .refl s ks, rfl⟩
  · cases set with
    | false => rw [s.rule_clears hd]; exact ⟨s, .refl s ks, rfl⟩
    | true => rw [s.rule_sets hd]; exact ⟨_, h, rfl⟩

/-- The sticky bit of a section defect of an SDH or SONET port. -/
theorem State.defectHist_sdh (s : State) {p : Nat} (code : Nat) (hp : p < 96) (h : s.isSdh p = true) :
    s.defectHist (condPort p code) = match placeOf code sdhStatusCodes with
      | some i => s.histBit (SDH_STATUS.key p) SDH_STATUS.HIST i
      | none => s := by
  refine (if_pos hp).trans ((if_neg (by decide : ¬ 0 / 2 ^ 28 = 2)).trans ((if_neg (by decide : ¬ 0 / 2 ^ 28 = 3)).trans
    ((if_neg (by decide : ¬ 0 / 2 ^ 28 = 4)).trans ((if_pos h).trans ?_))))
  rfl

theorem State.defectHist_sdh_onlyRegs (s : State) {p : Nat} (code : Nat) (hp : p < 96) (h : s.isSdh p = true) :
    OnlyRegs s (s.defectHist (condPort p code)) [SDH_STATUS.key p] := by
  rw [s.defectHist_sdh code hp h]
  split
  · exact .put s _ _ _ (List.mem_singleton_self _)
  · exact .refl s _

end Sys2Proof.Machine
end

section
/-! PROOF. Decided defects and their arrival (R97, R267, R269, R58). -/

namespace Sys2Proof.Machine

/-! ### A defect outside the ports -/

theorem State.defectDecided_unit (s : State) {c : Cond} (set : Bool) (h : 168 ≤ c.source) :
    s.defectDecided c set = s.rule c set := by
  have h96 : ¬ c.source < 96 := by omega
  refine (if_neg fun h => h96 h.1).trans ?_
  exact congrArg (fun z : State => z.rule c set) (if_neg fun h => h96 h.1)

theorem State.defectHist_unit (s : State) {c : Cond} (h : 168 ≤ c.source) : s.defectHist c = s :=
  (if_neg (by omega)).trans (if_neg (by omega))

/-! ### Section defects of an SDH port -/

theorem State.isEth_of_isSdh {s : State} {p : Nat} (h : s.isSdh p = true) : s.isEth p = false := by
  unfold State.isSdh at h
  unfold State.isEth
  simp only [Bool.or_eq_true, beq_iff_eq] at h
  rcases h with h | h <;> rw [h] <;> rfl

theorem sdhCodes_place : ∀ i : Fin 7, placeOf (sdhStatusCodes.getD i 0) sdhStatusCodes = some i.val ∧
    laneDefect (sdhStatusCodes.getD i 0) = false := by decide

/-- A section defect declared sets its bit of HIST. -/
theorem State.defectDecided_section (s : State) (p : Port) (i : Fin 7) (h : s.isSdh p = true)
    (hd : s.decided (condPort p (sdhStatusCodes.getD i 0)) = false) :
    s.defectDecided (condPort p (sdhStatusCodes.getD i 0)) true =
      (s.histBit (SDH_STATUS.key p) SDH_STATUS.HIST i).arrive (.defect (condPort p (sdhStatusCodes.getD i 0)) true) := by
  obtain ⟨hplace, hlane⟩ := sdhCodes_place i
  have hhist := s.defectHist_sdh (sdhStatusCodes.getD i 0) p.isLt h
  rw [hplace] at hhist
  have heth := State.isEth_of_isSdh h
  have hrow : s.defectDecided (condPort p (sdhStatusCodes.getD i 0)) true =
      s.rule (condPort p (sdhStatusCodes.getD i 0)) true := by
    refine (if_neg fun h => absurd (hlane.symm.trans h.2) Bool.false_ne_true).trans ?_
    exact congrArg (fun z : State => z.rule (condPort p (sdhStatusCodes.getD i 0)) true)
      (if_neg fun h => absurd (heth.symm.trans h.2) Bool.false_ne_true)
  rw [hrow, s.rule_sets (by rw [hd]; decide), hhist]

/-! ### LOS of a lane -/

theorem lanStatus_apart : ∀ p : Port, PRT_CFG.key p ∉ [LAN_STATUS.key p] ∧ LAN_CFG.key p ∉ [LAN_STATUS.key p] ∧
    SDH_CFG.key p ∉ [LAN_STATUS.key p] ∧ OTN_CFG.key p ∉ [LAN_STATUS.key p] := by decide +kernel

/-- LAN_STATUS as a decision of LOS leaves it. -/
def State.losShown (s : State) (l : Nat) (set : Bool) : State :=
  let k := LAN_STATUS.key l
  let s1 := (s.put k LAN_STATUS.LOS (bit set)).put k LAN_STATUS.CDR_LOCK (bit (!set && !s.decided (s.condLane l dCDR_LOL)))
  if set then s1.put k LAN_STATUS.LOS_HIST 1 else s1

theorem State.losShown_onlyRegs (s : State) (l : Nat) (set : Bool) : OnlyRegs s (s.losShown l set) [LAN_STATUS.key l] := by
  have h1 := OnlyRegs.trans (.put s (LAN_STATUS.key l) LAN_STATUS.LOS (bit set) (List.mem_singleton_self _))
    (.put _ (LAN_STATUS.key l) LAN_STATUS.CDR_LOCK (bit (!set && !s.decided (s.condLane l dCDR_LOL)))
      (List.mem_singleton_self _))
  unfold State.losShown
  cases set with
  | false => exact h1
  | true => exact h1.trans (.put _ _ _ _ (List.mem_singleton_self _))

theorem State.losShown_los (s : State) (l : Nat) (set : Bool) :
    (s.losShown l set).on (LAN_STATUS.key l) LAN_STATUS.LOS = set := by
  unfold State.losShown
  cases set with
  | false =>
    refine (State.on_put_field _ _ _ _ _ (by decide) (by decide)).trans ?_
    exact State.on_put_bit s _ _ false (by decide) rfl
  | true =>
    refine (State.on_put_field _ _ _ _ _ (by decide) (by decide)).trans
      ((State.on_put_field _ _ _ _ _ (by decide) (by decide)).trans ?_)
    exact State.on_put_bit s _ _ true (by decide) rfl

theorem State.losShown_hist (s : State) (l : Nat) :
    (s.losShown l true).on (LAN_STATUS.key l) LAN_STATUS.LOS_HIST = true := State.on_put_one _ _ _ (by decide) rfl

theorem State.laneDecided_los (s : State) {l : Nat} (set : Bool)
    (h : s.on (LAN_STATUS.key l) LAN_STATUS.SUBSTITUTING = false) :
    s.laneDecided l dLOS set = (s.losShown l set).reportLane l dLOS set :=
  (if_neg fun hs => absurd (h.symm.trans hs.1) Bool.false_ne_true).trans (if_pos rfl)

/-- What only changes LAN_STATUS leaves the port of a single lane as it was. -/
theorem OnlyRegs.sameLane {s z : State} {p : Port} (h : OnlyRegs s z [LAN_STATUS.key p]) (hq : s.isQuad p = false) :
    z.family p = s.family p ∧ z.isQuad p = s.isQuad p ∧ z.isMember p = s.isMember p ∧ z.laneTest p = s.laneTest p := by
  obtain ⟨hprt, hlan, hsdh, hotn⟩ := lanStatus_apart p
  have hquad : z.isQuad p = s.isQuad p := h.on hprt _
  have hfam : z.family p = s.family p := h.get hprt _
  refine ⟨hfam, hquad, h.on hprt _, ?_⟩
  have hlanes : ∀ t : State, t.isQuad p = false → t.lanesOf p = [p.val] := fun t ht => if_neg (by simp [ht])
  rw [State.laneTest, State.laneTest, hlanes z (hquad.trans hq), hlanes s hq, State.isSdh, State.isSdh, State.isOtn,
    State.isOtn, hfam]
  simp only [List.any_cons, List.any_nil, h.get hlan, h.on hsdh, h.on hotn]

/-- LOS decided on the lane of a port that reports it. -/
theorem State.defectDecided_los (s : State) (p : Port) (set : Bool) (hq : s.isQuad p = false) (hm : s.isMember p = false)
    (hf : s.family p ≠ 0) (ht : s.laneTest p = false) (hsdh : s.isSdh p = true)
    (hsub : s.on (LAN_STATUS.key p) LAN_STATUS.SUBSTITUTING = false) (hd : s.decided (condPort p dLOS) ≠ set) :
    s.defectDecided (condPort p dLOS) set = (s.losShown p set).arrive (.defect (condPort p dLOS) set) := by
  have hlane : s.laneOf (condPort p dLOS) = p.val := if_neg (by simp [condPort, hq])
  have hrow : s.defectDecided (condPort p dLOS) set = s.laneDecided p dLOS set := by
    refine (if_pos ⟨p.isLt, show laneDefect dLOS = true from rfl⟩).trans ?_
    rw [hlane]
    rfl
  have hz := s.losShown_onlyRegs p set
  rw [hrow, s.laneDecided_los set hsub]
  generalize s.losShown p set = z at hz
  obtain ⟨hfam, hquad, hmem, htest⟩ := hz.sameLane hq
  have hport : z.portOfLane p = p.val := if_neg (by simp [hmem, hm])
  have hentity : z.laneEntity p = 0 := if_neg (by simp [hport, hquad, hq])
  have hcond : z.condLane p dLOS = condPort p dLOS := by rw [State.condLane, hport, hentity]; rfl
  have hdz : z.decided (condPort p dLOS) ≠ set := by
    rwa [State.decided_congr (by rw [hz.1]) (by rw [hz.1])]
  have hhist : z.defectHist (condPort p dLOS) = z := by
    have hsdhz : z.isSdh p = true := by rwa [State.isSdh, hfam]
    rw [z.defectHist_sdh dLOS p.isLt hsdhz]
    rfl
  have hreport : z.reportLane p dLOS set = z.rule (condPort p dLOS) set := by
    rw [← hcond]
    refine if_neg ?_
    rw [hport, hfam, htest, ht]
    simp [hf]
  rw [hreport]
  cases set with
  | false => exact z.rule_clears hdz
  | true => rw [z.rule_sets hdz, hhist]

/-! ### Arrival -/

theorem State.mapRecs_none (s : State) (f : Nat → PmRec → PmRec) (h : s.pm.recs = []) : s.mapRecs f = s := by
  have hmap : (s.pm.recs.map fun x => (x.1, f x.1 x.2)) = s.pm.recs := by rw [h, List.map_nil]
  rw [State.mapRecs, hmap]

/-- Where no entity has performance records, marking leaves the state. -/
theorem State.markDefects_none (s : State) (h : s.pm.recs = []) : s.markDefects = s := s.mapRecs_none _ h

/-- Where nothing follows from defects, their rules leave the state. -/
theorem State.defectRules_none (s : State) (hrecs : s.pm.recs = []) (hprot : s.prot.groups = []) (hvcat : s.vcats = [])
    (hbond : ∀ g, g < groupsBonding → s.bondOn g = false) (hhrp : ∀ g, g < groupsHrp → s.hrpOn g = false) :
    s.defectRules = s := by
  have hprot' : s.protArrivals = s := by
    unfold State.protArrivals
    rw [hprot]
    rfl
  have hvcat' : s.vcatStates = s := by
    unfold State.vcatStates
    rw [hvcat]
    rfl
  have hbonds : s.each (List.range groupsBonding) State.bondStates = s :=
    s.each_same fun g hg => if_pos (by simp [hbond g (List.mem_range.mp hg)])
  have hhrps : s.each (List.range groupsHrp) State.hrpStates = s :=
    s.each_same fun g hg => if_pos (by simp [hhrp g (List.mem_range.mp hg)])
  unfold State.defectRules
  rw [s.markDefects_none hrecs, hprot', hvcat']
  dsimp only
  rw [hbonds, hhrps]

theorem groups_apart : (∀ g : Fin 12, noteReg (BND_CFG.key g) = false) ∧ ∀ g : Fin 24, noteReg (HRP_CFG.key g) = false := by
  decide +kernel

theorem Noted.bondOn {s x : State} (h : Noted s x []) {g : Nat} (hg : g < groupsBonding) : x.bondOn g = s.bondOn g := by
  rw [State.bondOn, State.bondOn, h.get List.not_mem_nil (groups_apart.1 ⟨g, hg⟩)]

theorem Noted.hrpOn {s x : State} (h : Noted s x []) {g : Nat} (hg : g < groupsHrp) : x.hrpOn g = s.hrpOn g := by
  rw [State.hrpOn, State.hrpOn, State.hrpMain, State.hrpMain, h.get List.not_mem_nil (groups_apart.2 ⟨g, hg⟩)]

/-- The one defect that arrives is declared or clears. -/
theorem State.takeArrivals_defect (s : State) {c : Cond} {set : Bool} (h : s.arrivals = [.defect c set])
    (hsrc : c.source < 384) (hrecs : s.pm.recs = []) :
    s.takeArrivals Arrival.isDefect = ({ s with arrivals := [] } : State).cond c set := by
  have hmine : s.arrivals.filter Arrival.isDefect = [.defect c set] := by rw [h]; rfl
  have hrest : (s.arrivals.filter fun a => !a.isDefect) = [] := by rw [h]; rfl
  have hnote : Noted { s with arrivals := [] } (({ s with arrivals := [] } : State).cond c set) [] := .cond _ _ _ hsrc []
  have htake : ({ s with arrivals := [] } : State).takeDefect c set = ({ s with arrivals := [] } : State).cond c set := by
    unfold State.takeDefect
    generalize ({ s with arrivals := [] } : State).cond c set = z at hnote ⊢
    have hz : z.pm.recs = [] := by rw [hnote.1]; exact hrecs
    cases set with
    | false => rfl
    | true => exact z.markDefects_none hz
  unfold State.takeArrivals
  rw [hmine, hrest]
  exact htake

/-- The state after step 1 took the one defect. -/
theorem State.defectArrival_eq (s : State) {c : Cond} {set : Bool} (h : s.arrivals = [.defect c set])
    (hsrc : c.source < 384) (hrecs : s.pm.recs = []) (hprot : s.prot.groups = []) (hvcat : s.vcats = [])
    (hbond : ∀ g, g < groupsBonding → s.bondOn g = false) (hhrp : ∀ g, g < groupsHrp → s.hrpOn g = false) :
    (s.takeArrivals Arrival.isDefect).defectRules = ({ s with arrivals := [] } : State).cond c set := by
  rw [s.takeArrivals_defect h hsrc hrecs]
  have hnote : Noted { s with arrivals := [] } (({ s with arrivals := [] } : State).cond c set) [] := .cond _ _ _ hsrc []
  generalize ({ s with arrivals := [] } : State).cond c set = z at hnote ⊢
  have hpm : z.pm = s.pm := by rw [hnote.1]
  have hpr : z.prot = s.prot := by rw [hnote.1]
  have hvc : z.vcats = s.vcats := by rw [hnote.1]
  exact z.defectRules_none (hpm ▸ hrecs) (hpr ▸ hprot) (hvc ▸ hvcat) (fun g hg => (hnote.bondOn hg).trans (hbond g hg))
    fun g hg => (hnote.hrpOn hg).trans (hhrp g hg)

end Sys2Proof.Machine

open Sys2Proof Sys2Proof.Machine

/-- Settles O38: a decision by the kind of its condition, and the arrival of one defect. -/
theorem defectRows : Obligations.DefectRows := by
  intro s
  refine ⟨fun c set h hd => answers_of rfl ?_, fun c set h hd => answers_of rfl ?_, fun p i h => ?_,
    fun p set hq hm hf ht _ hsdh hsub hd => answers_of rfl ?_,
    fun c set h hsrc hrecs hprot hvcat hbond hhrp => answers_of rfl ?_⟩
  · rw [s.defectDecided_unit set h, s.rule_same hd]
  · rw [s.defectDecided_unit set h]
    cases set with
    | false => exact s.rule_clears hd
    | true => rw [s.rule_sets hd, s.defectHist_unit h]; rfl
  · intro c hd
    refine answers_of rfl ?_
    rw [s.defectDecided_section p i h hd]
    exact ⟨⟨_, .put s _ _ _ (List.mem_singleton_self _), rfl⟩,
      State.testBit_histBit s _ _ _ (by decide) (by simp [SDH_STATUS.HIST])⟩
  · rw [s.defectDecided_los p set hq hm hf ht hsdh hsub hd]
    refine ⟨⟨s.losShown p set, s.losShown_onlyRegs p set, ?_⟩, s.losShown_los p set, fun hset => ?_⟩
    · have harrivals : (s.losShown p set).arrivals = s.arrivals := by rw [(s.losShown_onlyRegs p set).1]
      rw [State.arrive, harrivals]
    · subst hset
      exact s.losShown_hist p
  · have hx := s.defectArrival_eq h hsrc hrecs hprot hvcat hbond hhrp
    rw [hx]
    refine ⟨.cond _ c set hsrc [], State.has_cond_same _ c set hsrc, fun hne => ?_, fun hsame => if_pos hsame⟩
    have hcond : ({ s with arrivals := [] } : State).cond c set =
        (State.setCond { s with arrivals := [] } c set).event c.source c.code set c.entity := if_neg hne
    rw [hcond]
    exact State.raised_event _ _ _ _ _ hsrc
end

section
/-! PROOF. Lane faults, spare lanes and squelched ports (R85, R88, R273). -/

namespace Sys2Proof.Machine

/-! ### Lane faults -/

theorem State.laneRetry_idle (s : State) (l : Nat) (held : Bool)
    (h : s.on (LAN_STATUS.key l) LAN_STATUS.LANE_FAULT = false ∨ s.timerDue (.laneRetry l) = false) :
    s.laneRetry l held = s := if_pos (by simpa using h)

/-- A retry that finds the fault still there waits for the next. -/
theorem State.laneRetry_again (s : State) (l : Nat) (hf : s.on (LAN_STATUS.key l) LAN_STATUS.LANE_FAULT = true)
    (hd : s.timerDue (.laneRetry l) = true) :
    s.laneRetry l false = (s.bump (LAN_STATUS.key l) LAN_STATUS.RETRIES 1).startTimer (.laneRetry l)
      (retryGap ((s.bump (LAN_STATUS.key l) LAN_STATUS.RETRIES 1).get (LAN_STATUS.key l) LAN_STATUS.RETRIES)) :=
  if_neg (by simp [hf, hd])

/-- LAN_STATUS as the end of a fault leaves it. -/
def State.faultEnded (s : State) (l : Nat) : State :=
  (s.bump (LAN_STATUS.key l) LAN_STATUS.RETRIES 1).put (LAN_STATUS.key l) LAN_STATUS.LANE_FAULT 0

theorem State.faultEnded_onlyRegs (s : State) (l : Nat) : OnlyRegs s (s.faultEnded l) [LAN_STATUS.key l] :=
  .trans (.bump s _ _ _ (List.mem_singleton_self _)) (.put _ _ _ _ (List.mem_singleton_self _))

theorem State.faultEnded_on (s : State) (l : Nat) :
    (s.faultEnded l).on (LAN_STATUS.key l) LAN_STATUS.LANE_FAULT = false := State.on_put_zero _ _ _ (by decide) rfl

theorem lanStatus_ne_prtCfg (l p : Nat) : PRT_CFG.key p ∉ [LAN_STATUS.key l] := by
  simp only [List.mem_singleton, PRT_CFG.key, LAN_STATUS.key]
  omega

/-- A retry that finds the fault gone, on a port that reports no lane, ends the fault and the squelch. -/
theorem State.laneRetry_ends (s : State) (l : Nat) (hf : s.on (LAN_STATUS.key l) LAN_STATUS.LANE_FAULT = true)
    (hd : s.timerDue (.laneRetry l) = true) (hfam : s.family (s.portOfLane l) = 0) :
    s.laneRetry l true =
      (((s.faultEnded l).updPort l fun x => { x with squelched := false }).stopTimer (.laneRetry l)) := by
  have hz := s.faultEnded_onlyRegs l
  have hrow : s.laneRetry l true = (((s.faultEnded l).updPort l fun x => { x with squelched := false }).stopTimer
      (.laneRetry l)).reportLane l dLANE_FAULT false := if_neg (by simp [hf, hd])
  rw [hrow]
  generalize s.faultEnded l = z at hz ⊢
  have hport : (((z.updPort l fun x => { x with squelched := false }).stopTimer (.laneRetry l))).portOfLane l =
      s.portOfLane l := by
    have hmem : ((z.updPort l fun x => { x with squelched := false }).stopTimer (.laneRetry l)).isMember l = s.isMember l :=
      hz.on (lanStatus_ne_prtCfg l l) _
    rw [State.portOfLane, State.portOfLane, hmem]
  have hfamz : ((z.updPort l fun x => { x with squelched := false }).stopTimer (.laneRetry l)).family
      (s.portOfLane l) = s.family (s.portOfLane l) := hz.get (lanStatus_ne_prtCfg l _) _
  refine if_pos (.inl ?_)
  rw [hport, hfamz, hfam]

/-! ### Spare lanes -/

theorem State.spareLocks_idle (s : State) (g : Nat)
    (h : s.get (LAN_SPARE.key g) LAN_SPARE.STATE ≠ 1 ∨ s.hasTimer (.spareLock g) = false) : s.spareLocks g = s :=
  if_neg (by
    rintro ⟨h1, h2⟩
    rcases h with h | h
    · exact h h1
    · exact absurd (h.symm.trans h2) Bool.false_ne_true)

theorem State.spareLocks_inTime (s : State) (g : Nat) (hstate : s.get (LAN_SPARE.key g) LAN_SPARE.STATE = 1)
    (ht : s.hasTimer (.spareLock g) = true) :
    s.spareLocks g = { s.put (LAN_STATUS.key (s.spareLane g)) LAN_STATUS.CDR_LOCK 1 with
      timers := s.timers.filter fun t => decide (t.kind ≠ .spareLock g)
      arrivals := s.arrivals ++ [.spareIn (.lane (s.spareLane g))] } := if_pos ⟨hstate, ht⟩

theorem State.spareDeadlineEnds_early (s : State) (g : Nat) (h : s.timerDue (.spareLock g) = false) :
    s.spareDeadlineEnds g = s := if_neg (by simp [h])

/-- The registers of a spare that has not locked by its deadline. -/
def State.spareFailed (s : State) (g l : Nat) : State :=
  (((s.put (LAN_STATUS.key l) LAN_STATUS.SUBSTITUTING 0).put (LAN_STATUS.key l) LAN_STATUS.ON_SPARE 1).put
    (LAN_SPARE.key g) LAN_SPARE.STATE 3)

theorem lanSpare_ne_lanStatus (g : Fin 8) (l : Nat) : LAN_STATUS.key l ≠ LAN_SPARE.key g := by
  simp only [LAN_SPARE.key, LAN_STATUS.key]
  omega

theorem State.spareFailed_shows (s : State) (g : Fin 8) (l : Nat) :
    OnlyRegs s (s.spareFailed g l) [LAN_STATUS.key l, LAN_SPARE.key g] ∧
    (s.spareFailed g l).on (LAN_STATUS.key l) LAN_STATUS.SUBSTITUTING = false ∧
    (s.spareFailed g l).on (LAN_STATUS.key l) LAN_STATUS.ON_SPARE = true ∧
    (s.spareFailed g l).get (LAN_SPARE.key g) LAN_SPARE.STATE = 3 := by
  have hne := lanSpare_ne_lanStatus g l
  refine ⟨.trans (.trans (.put s _ _ _ (by simp)) (.put _ _ _ _ (by simp))) (.put _ _ _ _ (by simp)), ?_, ?_,
    State.get_put_same _ _ _ _ (by decide)⟩
  · refine (State.on_put_other _ _ _ _ _ _ hne).trans ((State.on_put_field _ _ _ _ _ (by decide) (by decide)).trans ?_)
    exact State.on_put_zero s _ _ (by decide) rfl
  · exact (State.on_put_other _ _ _ _ _ _ hne).trans (State.on_put_one _ _ _ (by decide) rfl)

theorem State.spareDeadlineEnds_due (s : State) (g : Nat) (h : s.timerDue (.spareLock g) = true) :
    s.spareDeadlineEnds g = State.event { s.spareFailed g (s.spareLane g) with
      timers := s.timers.filter fun t => decide (t.kind ≠ .spareLock g) } (srcSpare g) 0x81 true (s.spareLane g) := if_pos h

theorem noteReg_port {k : Nat} (h : 0x200000 ≤ k) : noteReg k = false := by
  have h1 : ¬ (0xF040 ≤ k ∧ k < 0xF0B0) := by omega
  have h2 : k ≠ OBS_DROP_CNT.key := by unfold OBS_DROP_CNT.key; omega
  have h3 : k ≠ OBS_TRACE_STATUS.key := by unfold OBS_TRACE_STATUS.key; omega
  simp [noteReg, h1, h2, h3]

theorem noteReg_lanSpare : ∀ g : Fin 8, noteReg (LAN_SPARE.key g) = false := by decide

/-- Registers written, timers set, and then only noted: the timers stand apart. -/
theorem Noted.with_timers {s z x : State} {ks : List Nat} {ts : List Timer} (hz : OnlyRegs s z ks)
    (h : Noted { z with timers := ts } x ks) : ∃ y, Noted s y ks ∧ x = { y with timers := ts } := by
  have htimers : z.timers = s.timers := by rw [hz.1]
  have hx : x.timers = ts := h.timers
  refine ⟨{ x with timers := s.timers }, ?_, ?_⟩
  · refine (Noted.ofRegs hz).trans ⟨?_, h.2.1, h.2.2⟩
    rw [← htimers]
    exact congrArg (fun w : State => { w with timers := z.timers }) h.1
  · exact congrArg (fun t => ({ x with timers := t } : State)) hx

/-- A spare that has not locked by its deadline has failed, and the lane stays on it. -/
theorem State.spareDeadlineEnds_shows (s : State) (g : Fin 8) {l : Nat} (hl : s.spareLane g = l)
    (h : s.timerDue (.spareLock g) = true) :
    let x := s.spareDeadlineEnds g
    (∃ y, Noted s y [LAN_STATUS.key l, LAN_SPARE.key g] ∧
      x = { y with timers := s.timers.filter fun t => decide (t.kind ≠ .spareLock g) }) ∧
    x.on (LAN_STATUS.key l) LAN_STATUS.SUBSTITUTING = false ∧ x.on (LAN_STATUS.key l) LAN_STATUS.ON_SPARE = true ∧
    x.get (LAN_SPARE.key g) LAN_SPARE.STATE = 3 ∧ x.raised (320 + g) 0x81 true := by
  intro x
  have hsrc : srcSpare g < 384 := by
    unfold srcSpare
    omega
  have hlane : noteReg (LAN_STATUS.key l) = false := noteReg_port (by unfold LAN_STATUS.key; omega)
  obtain ⟨hz, hsub, hspare, hst⟩ := s.spareFailed_shows g l
  rw [show x = _ from s.spareDeadlineEnds_due g h, hl]
  generalize s.spareFailed g l = z at hz hsub hspare hst ⊢
  obtain ⟨t, ht⟩ : ∃ t : State, t = { z with timers := s.timers.filter fun t => decide (t.kind ≠ .spareLock g) } := ⟨_, rfl⟩
  have hev : Noted t (t.event (srcSpare g) 0x81 true l) [] := .event _ _ _ _ _ hsrc []
  rw [← ht]
  refine ⟨Noted.with_timers hz (ht ▸ hev.mono (List.nil_subset _)),
    (hev.on List.not_mem_nil hlane _).trans (ht ▸ hsub), (hev.on List.not_mem_nil hlane _).trans (ht ▸ hspare),
    (hev.get List.not_mem_nil (noteReg_lanSpare g) _).trans (ht ▸ hst), t.raised_event _ _ _ _ hsrc⟩

/-! ### Squelched ports -/

/-- A squelched port sends in its probe window or while it hears its far end, and ends with its cause. -/
theorem State.squelchStep_shows (s : State) (p : Nat) {t : Nat} (h : (s.port p).squelchSince = some t) :
    let fails := s.squelches p && s.receiveFails p
    let sends := decide (8176 ≤ (s.dev.ticks - t) % 8192) || s.hearing p
    let x := s.squelchStep p
    x = { s with ports := x.ports } ∧ (∀ q, q ≠ p → x.port q = s.port q) ∧
    x.port p = { s.port p with squelchSince := if fails then some t else none, probing := fails && sends } := by
  intro fails sends x
  by_cases hf : fails = true
  · by_cases hsame : (s.port p).probing = sends
    · have hx : x = s := (if_pos hf).trans (by rw [h]; exact if_pos ⟨rfl, hsame⟩)
      rw [hx, hf, if_pos rfl, Bool.true_and, ← hsame, ← h]
      exact ⟨rfl, fun _ _ => rfl, rfl⟩
    · have hx : x = s.updPort p fun y => { y with squelchSince := some t, probing := sends } :=
        (if_pos hf).trans (by rw [h]; exact if_neg fun hn => hsame hn.2)
      rw [hx, hf, if_pos rfl, Bool.true_and]
      exact ⟨rfl, fun q hq => by rw [State.port_updPort, if_neg hq], by rw [State.port_updPort, if_pos rfl]⟩
  · have hx : x = s.updPort p fun y => { y with squelchSince := none, probing := false } :=
      (if_neg hf).trans (if_pos (by rw [h]; rfl))
    rw [hx, if_neg hf, Bool.eq_false_iff.mpr hf, Bool.false_and]
    exact ⟨rfl, fun q hq => by rw [State.port_updPort, if_neg hq], by rw [State.port_updPort, if_pos rfl]⟩

end Sys2Proof.Machine

open Sys2Proof Sys2Proof.Machine

/-- Settles O39: the retry of a lane fault, the lock or the deadline of a spare, and the probes of a squelched port. -/
theorem laneRows : Obligations.LaneRows := by
  intro s
  refine ⟨fun p held h => answers_of rfl (s.laneRetry_idle p held h), fun p hf hd => ?_,
    fun g h => answers_of rfl (s.spareLocks_idle g h), fun g hstate ht => ?_,
    fun g h => answers_of rfl (s.spareDeadlineEnds_early g h), fun g h => answers_of rfl (s.spareDeadlineEnds_shows g rfl h),
    fun p h => answers_of rfl (if_neg (by simp [h])), fun p t h => ?_⟩
  · intro n
    have hn : (s.bump (LAN_STATUS.key p) LAN_STATUS.RETRIES 1).get (LAN_STATUS.key p) LAN_STATUS.RETRIES = n :=
      State.get_bump s _ _ _ (by decide)
    refine ⟨answers_of rfl ?_, fun hfam => answers_of rfl ?_⟩
    · rw [s.laneRetry_again p hf hd, hn]
      exact ⟨⟨s.bump (LAN_STATUS.key p) LAN_STATUS.RETRIES 1, .bump s _ _ _ (List.mem_singleton_self _), rfl⟩, hn⟩
    · rw [s.laneRetry_ends p hf hd hfam]
      have hz := s.faultEnded_onlyRegs p
      have hports : (s.faultEnded p).ports = s.ports := by rw [hz.1]
      have hport : ∀ q, (s.faultEnded p).port q = s.port q := fun q => by rw [State.port, State.port, hports]
      have htimers : (s.faultEnded p).timers = s.timers := by rw [hz.1]
      have hon := s.faultEnded_on p
      generalize s.faultEnded p = z at hz hport htimers hon
      refine ⟨⟨z, hz, ?_⟩, ?_, fun q hq => ?_, hon⟩
      · rw [← htimers]; rfl
      · refine (State.port_updPort z p p fun x => { x with squelched := false }).trans ?_
        rw [if_pos rfl, hport]
      · refine (State.port_updPort z p q fun x => { x with squelched := false }).trans ?_
        rw [if_neg hq, hport]
  · intro l
    refine answers_of rfl ?_
    rw [s.spareLocks_inTime g hstate ht]
    exact ⟨⟨s.put (LAN_STATUS.key l) LAN_STATUS.CDR_LOCK 1, .put s _ _ _ (List.mem_singleton_self _), rfl⟩,
      State.on_put_one s _ _ (by decide) rfl⟩
  · have hx : exec (.squelchProbe p) s = .next (s.squelchStep p).settle := by
      rw [show exec (.squelchProbe p) s = .next (if (s.port p).squelchSince.isSome then s.squelchStep p else s).settle from rfl,
        h]
      rfl
    exact answers_of hx (s.squelchStep_shows p h)
end

section
/-! PROOF. A received TU multiframe (R204, R208 to R213). -/

namespace Sys2Proof.Machine

/-! ### The contexts of tributaries -/

theorem State.trib_updTrib (s : State) (n j : Nat) (f : TribSt → TribSt) :
    (s.updTrib n f).trib j = if j = n then f (s.trib n) else s.trib j := Tbl.getD_store _ _ _ _ _

/-- `x` is `s` but for the contexts of tributaries and the performance records. -/
def OnlyTribPm (s x : State) : Prop := x = { s with tribs := x.tribs, pm := x.pm }

theorem OnlyTribPm.trans {s t u : State} (h1 : OnlyTribPm s t) (h2 : OnlyTribPm t u) : OnlyTribPm s u := by
  unfold OnlyTribPm at *
  rw [h2, h1]

/-- A server defect is told from neither. -/
theorem OnlyTribPm.tribServerDown {s x : State} (h : OnlyTribPm s x) (p head pos : Nat) :
    x.tribServerDown p head pos = s.tribServerDown p head pos := by
  rw [h]; rfl

/-- An operation that counts: only performance records change. -/
def OnlyPm (s x : State) : Prop := x = { s with pm := x.pm }

theorem OnlyPm.refl (s : State) : OnlyPm s s := rfl

theorem OnlyPm.trans {s t u : State} (h1 : OnlyPm s t) (h2 : OnlyPm t u) : OnlyPm s u := by
  unfold OnlyPm at *
  rw [h2, h1]

theorem OnlyPm.tribPm {s x : State} (h : OnlyPm s x) : OnlyTribPm s x := by
  unfold OnlyPm at h
  unfold OnlyTribPm
  rw [h]

theorem OnlyPm.trib {s x : State} (h : OnlyPm s x) (n : Nat) : x.trib n = s.trib n := by
  rw [h]; rfl

theorem State.countCtx_onlyPm (s : State) (k kind n : Nat) : OnlyPm s (s.countCtx k kind n) := by
  unfold State.countCtx
  split
  · exact .refl s
  · rfl

theorem State.errBlocks_onlyPm (s : State) (lay : Nat) (far : Bool) (n : Nat) : OnlyPm s (s.errBlocks lay far n) := by
  unfold State.errBlocks
  split
  · exact .refl s
  · rfl

/-! ### Decisions about a tributary -/

/-- `x` is `s` after decisions about tributary `n`: the change of its sticky bits, and arrivals added. -/
def DecidesTrib (s x : State) (n : Nat) : Prop :=
  x = { s with tribs := x.tribs, arrivals := x.arrivals } ∧ s.arrivals <+: x.arrivals ∧
  (∀ j, j ≠ n → x.trib j = s.trib j) ∧ ∃ h, x.trib n = { s.trib n with hist := h }

theorem DecidesTrib.refl (s : State) (n : Nat) : DecidesTrib s s n := ⟨rfl, List.prefix_rfl, fun _ _ => rfl, _, rfl⟩

theorem DecidesTrib.trans {s t u : State} {n : Nat} (h1 : DecidesTrib s t n) (h2 : DecidesTrib t u n) : DecidesTrib s u n := by
  obtain ⟨e1, a1, o1, i, t1⟩ := h1
  obtain ⟨e2, a2, o2, j, t2⟩ := h2
  exact ⟨by rw [e2, e1], a1.trans a2, fun k hk => (o2 k hk).trans (o1 k hk), j, by rw [t2, t1]⟩

theorem entTrib_kind {head pos : Nat} (hh : head < 256) (hp : pos < 65536) :
    entTrib head pos / 2 ^ 28 = 4 ∧ entTrib head pos / 65536 % 256 = head ∧ entTrib head pos % 65536 = pos := by
  unfold entTrib
  omega

/-- The sticky bit of a tributary's defect lies in its context. -/
theorem State.defectHist_trib (s : State) {p head pos : Nat} (code : Nat) (hp : p < 96) (hh : head < 256) (hq : pos < 65536) :
    s.defectHist (condTrib p head pos code) = match placeOf code tribCodes with
      | some i => s.updTrib (tribNum p head pos) fun x => { x with hist := x.hist ||| 2 ^ i }
      | none => s := by
  obtain ⟨hkind, hhead, hpos⟩ := entTrib_kind hh hq
  unfold State.defectHist condTrib
  dsimp only
  rw [hkind, hhead, hpos, if_pos hp, if_neg (by decide), if_neg (by decide), if_pos rfl] <;> rfl

theorem DecidesTrib.updHist (s : State) (n : Nat) (f : TribSt → Nat) :
    DecidesTrib s (s.updTrib n fun x => { x with hist := f x }) n :=
  ⟨rfl, List.prefix_rfl, fun j hj => by rw [State.trib_updTrib, if_neg hj],
    f (s.trib n), by rw [State.trib_updTrib, if_pos rfl]⟩

theorem DecidesTrib.arrive (s : State) (n : Nat) (a : Arrival) : DecidesTrib s (s.arrive a) n :=
  ⟨rfl, List.prefix_append _ _, fun _ _ => rfl, _, rfl⟩

theorem DecidesTrib.rule (s : State) {p head pos : Nat} (code : Nat) (set : Bool) (hp : p < 96) (hh : head < 256)
    (hq : pos < 65536) : DecidesTrib s (s.rule (condTrib p head pos code) set) (tribNum p head pos) := by
  by_cases hd : s.decided (condTrib p head pos code) = set
  · rw [s.rule_same hd]
    exact .refl s _
  · cases set with
    | false => rw [s.rule_clears hd]; exact .arrive s _ _
    | true =>
      rw [s.rule_sets hd, s.defectHist_trib code hp hh hq]
      refine .trans ?_ (.arrive _ _ _)
      split
      · exact .updHist s _ _
      · exact .refl s _

theorem State.integrate_cases (s : State) (c : Cond) (r : RunSt) (n m : Nat) :
    s.integrate c r n m = s ∨ ∃ set, s.integrate c r n m = s.rule c set := by
  unfold State.integrate
  split
  · exact .inr ⟨true, rfl⟩
  · split
    · exact .inr ⟨false, rfl⟩
    · exact .inl rfl

theorem State.integrate_decided_other (s : State) {c d : Cond} (r : RunSt) (n m : Nat) (h : d ≠ c) :
    (s.integrate c r n m).decided d = s.decided d := by
  rcases s.integrate_cases c r n m with hx | ⟨set, hx⟩
  · rw [hx]
  · rw [hx, s.rule_decided_other set h]

theorem condTrib_ne {p head pos a b : Nat} (h : a ≠ b) : condTrib p head pos a ≠ condTrib p head pos b := fun he =>
  h (congrArg Cond.code he)

section
variable {p head pos : Nat} (hp : p < 96) (hh : head < 256) (hq : pos < 65536)
include hp hh hq

theorem DecidesTrib.integrate (s : State) (code : Nat) (r : RunSt) (n m : Nat) :
    DecidesTrib s (s.integrate (condTrib p head pos code) r n m) (tribNum p head pos) := by
  rcases s.integrate_cases (condTrib p head pos code) r n m with hx | ⟨set, hx⟩
  · rw [hx]
    exact .refl s _
  · rw [hx]
    exact .rule s code set hp hh hq

/-- LOP-V and AIS-V are decided from the pointer and the accepted label. -/
theorem State.tuPointerRules_shows (s : State) :
    let x := s.tuPointerRules p head pos
    let t := s.trib (tribNum p head pos)
    DecidesTrib s x (tribNum p head pos) ∧
    x.decided (condTrib p head pos dLOP_V) = (decide (t.ptr.state = .lop) && t.ptr.settled) ∧
    x.decided (condTrib p head pos dAIS_V) = (decide (t.ptr.state = .ais) || t.label.accepted == some 7) := by
  intro x t
  refine ⟨.trans (.rule s _ _ hp hh hq) (.rule _ _ _ hp hh hq), ?_, State.rule_decided_same _ _ _⟩
  exact (State.rule_decided_other _ _ (condTrib_ne (by decide))).trans (State.rule_decided_same _ _ _)

/-- The rules on the accepted label decide UNEQ-V and PLM-V alone. -/
theorem State.tuLabelRules_shows (s : State) :
    DecidesTrib s (s.tuLabelRules p head pos) (tribNum p head pos) ∧
    ∀ code, code ≠ dUNEQ_V → code ≠ dPLM_V →
      (s.tuLabelRules p head pos).decided (condTrib p head pos code) = s.decided (condTrib p head pos code) := by
  unfold State.tuLabelRules
  dsimp only
  split
  · exact ⟨.refl s _, fun _ _ _ => rfl⟩
  · refine ⟨.trans (.rule s _ _ hp hh hq) (.rule _ _ _ hp hh hq), fun code h1 h2 => ?_⟩
    rw [State.rule_decided_other _ _ (condTrib_ne h2), State.rule_decided_other _ _ (condTrib_ne h1)]

/-- The decisions that a multiframe makes on a tributary, in their order. -/
def State.tuDecides (s : State) (p head pos : Nat) (x : TribSt) : State :=
  (((((s.tuPointerRules p head pos).tuLabelRules p head pos).integrate (condTrib p head pos dRDI_V) x.rdi 5 5).integrate
    (condTrib p head pos dRFI_V) x.rfi 5 5).rule (condTrib p head pos dTIM_V)
      (x.cfg.flags.testBit 0 && x.j2.differs false x.cfg.j2Exp))

theorem State.tuDecides_shows (s : State) (y : TribSt) :
    let x := s.tuDecides p head pos y
    let t := s.trib (tribNum p head pos)
    DecidesTrib s x (tribNum p head pos) ∧
    x.decided (condTrib p head pos dLOP_V) = (decide (t.ptr.state = .lop) && t.ptr.settled) ∧
    x.decided (condTrib p head pos dAIS_V) = (decide (t.ptr.state = .ais) || t.label.accepted == some 7) := by
  intro x t
  obtain ⟨h1, hlop, hais⟩ := State.tuPointerRules_shows hp hh hq s
  obtain ⟨h2, hkeep⟩ := State.tuLabelRules_shows hp hh hq (s.tuPointerRules p head pos)
  have h3 := DecidesTrib.integrate hp hh hq ((s.tuPointerRules p head pos).tuLabelRules p head pos) dRDI_V y.rdi 5 5
  have h4 := DecidesTrib.integrate hp hh hq (((s.tuPointerRules p head pos).tuLabelRules p head pos).integrate
    (condTrib p head pos dRDI_V) y.rdi 5 5) dRFI_V y.rfi 5 5
  have hlast : ∀ code, code ≠ dTIM_V → code ≠ dRFI_V → code ≠ dRDI_V → code ≠ dUNEQ_V → code ≠ dPLM_V →
      x.decided (condTrib p head pos code) = (s.tuPointerRules p head pos).decided (condTrib p head pos code) :=
    fun code ht hf hr hu hl => (State.rule_decided_other _ _ (condTrib_ne ht)).trans
      ((State.integrate_decided_other _ _ _ _ (condTrib_ne hf)).trans
        ((State.integrate_decided_other _ _ _ _ (condTrib_ne hr)).trans (hkeep code hu hl)))
  refine ⟨((h1.trans h2).trans h3).trans (h4.trans (.rule _ _ _ hp hh hq)), ?_, ?_⟩
  · exact (hlast dLOP_V (by decide) (by decide) (by decide) (by decide) (by decide)).trans hlop
  · exact (hlast dAIS_V (by decide) (by decide) (by decide) (by decide) (by decide)).trans hais

end

/-! ### The multiframe -/

/-- The counts of V5: errored BIP-2 blocks and REI-V. -/
def State.tuCounted (s : State) (p head pos : Nat) (f : TuRx) : State :=
  let lay := layKey p 3 head 0 pos 0
  (((s.countTrib p head pos 0 (bit f.bipBad)).countTrib p head pos 1 (bitsOf f.v5.toNat 5 1)).errBlocks lay false
    (bit f.bipBad)).errBlocks lay true (bitsOf f.v5.toNat 5 1)

theorem State.tuCounted_onlyPm (s : State) (p head pos : Nat) (f : TuRx) : OnlyPm s (s.tuCounted p head pos f) :=
  (((s.countCtx_onlyPm _ _ _).trans (State.countCtx_onlyPm _ _ _ _)).trans (State.errBlocks_onlyPm _ _ _ _)).trans
    (State.errBlocks_onlyPm _ _ _ _)

theorem State.tuReceive_idle (s : State) {p head pos : Nat} (f : TuRx) (h : (s.trib (tribNum p head pos)).cfg.ttype = 0) :
    s.tuReceive p head pos f = s := if_pos h

/-- Under a server defect only the counts go on. -/
theorem State.tuReceive_down (s : State) {p head pos : Nat} (f : TuRx)
    (h : (s.trib (tribNum p head pos)).cfg.ttype ≠ 0) (hdown : s.tribServerDown p head pos = true) :
    s.tuReceive p head pos f = s.tuCounted p head pos f := by
  have hkeep := s.tuCounted_onlyPm p head pos f
  have hdown' : (s.tuCounted p head pos f).tribServerDown p head pos = true :=
    (hkeep.tribPm.tribServerDown p head pos).trans hdown
  have hover : s.tuOverhead p head pos f = s.tuCounted p head pos f := if_pos hdown'
  refine (if_neg h).trans ?_
  dsimp only
  rw [if_pos hdown, hover]
  exact if_pos (by simp [State.monitorRuns, hdown'])

/-- What the pointer word leaves: the pointer moved, and justifications counted. -/
theorem State.tuPointer_shows (s : State) (p head pos word : Nat) :
    let n := tribNum p head pos
    let x := s.tuPointer p head pos word
    OnlyTribPm s x ∧ (∀ j, j ≠ n → x.trib j = s.trib j) ∧
    ∃ i d, x.trib n = { s.trib n with
      ptr := (s.trib n).ptr.frame (tuTop (s.trib n).cfg.ttype) word, inPj := i, inNj := d } := by
  intro n x
  let s1 := s.updTrib n fun x => { x with ptr := x.ptr.frame (tuTop (s.trib n).cfg.ttype) word }
  have h1 : OnlyTribPm s s1 := rfl
  have hsame1 : s1.trib n = { s.trib n with ptr := (s.trib n).ptr.frame (tuTop (s.trib n).cfg.ttype) word } := by
    rw [show s1 = _ from rfl, State.trib_updTrib, if_pos rfl]
  have hother1 : ∀ j, j ≠ n → s1.trib j = s.trib j := fun j hj => by
    rw [show s1 = _ from rfl, State.trib_updTrib, if_neg hj]
  have hcount : ∀ (g : TribSt → TribSt) (k : Nat), OnlyTribPm s ((s1.updTrib n g).countTrib p head pos k 1) ∧
      (∀ j, j ≠ n → ((s1.updTrib n g).countTrib p head pos k 1).trib j = s.trib j) ∧
      ((s1.updTrib n g).countTrib p head pos k 1).trib n = g (s1.trib n) := fun g k => by
    have hpm := (s1.updTrib n g).countCtx_onlyPm (ctrKey p 3 head 0 pos k 0) 3 1
    refine ⟨h1.trans ((show OnlyTribPm s1 (s1.updTrib n g) from rfl).trans hpm.tribPm), fun j hj => (hpm.trib j).trans ?_, (hpm.trib n).trans ?_⟩
    · rw [State.trib_updTrib, if_neg hj, hother1 j hj]
    · rw [State.trib_updTrib, if_pos rfl]
  have hx : x = match justified (tuTop (s.trib n).cfg.ttype) (s.trib n).ptr word with
      | some true => (s1.updTrib n fun x => { x with inPj := x.inPj + 1 }).countTrib p head pos 2 1
      | some false => (s1.updTrib n fun x => { x with inNj := x.inNj + 1 }).countTrib p head pos 3 1
      | none => s1 := rfl
  rw [hx]
  split
  · obtain ⟨ha, hb, hc⟩ := hcount (fun x => { x with inPj := x.inPj + 1 }) 2
    exact ⟨ha, hb, _, _, by rw [hc, hsame1]⟩
  · obtain ⟨ha, hb, hc⟩ := hcount (fun x => { x with inNj := x.inNj + 1 }) 3
    exact ⟨ha, hb, _, _, by rw [hc, hsame1]⟩
  · exact ⟨h1, hother1, _, _, hsame1⟩

/-- The fields of a tributary that a multiframe's V5 and K4 move, with no J2 trace. -/
def tuTaken (f : TuRx) (x : TribSt) : TribSt :=
  let y := { x.k4Bit f.k4bit with
    label := acceptVal 5 x.label (bitsOf f.v5.toNat 1 3), rdi := runOn x.rdi (f.v5.toNat.testBit 0)
    rfi := runOn x.rfi (f.v5.toNat.testBit 4), win := { len := x.win.len + 1, count := x.win.count + bit f.bipBad } }
  if x.cfg.flags.testBit 0 then { y with j2 := y.j2.byte16 f.j2 } else y

theorem tuTaken_shows (f : TuRx) (x : TribSt) (h : x.cfg.flags = 0) :
    (tuTaken f x).cfg = x.cfg ∧ (tuTaken f x).ptr = x.ptr ∧
    (tuTaken f x).label = acceptVal 5 x.label (bitsOf f.v5.toNat 1 3) ∧
    (tuTaken f x).rdi = runOn x.rdi (f.v5.toNat.testBit 0) ∧ (tuTaken f x).rfi = runOn x.rfi (f.v5.toNat.testBit 4) ∧
    (tuTaken f x).win = { len := x.win.len + 1, count := x.win.count + bit f.bipBad } := by
  have hcfg : (x.k4Bit f.k4bit).cfg = x.cfg ∧ (x.k4Bit f.k4bit).ptr = x.ptr := by
    unfold TribSt.k4Bit
    dsimp only
    split <;> exact ⟨rfl, rfl⟩
  have hoff : tuTaken f x = _ := if_neg (by simp [h])
  rw [hoff]
  exact ⟨hcfg.1, hcfg.2, rfl, rfl, rfl, rfl⟩

/-- V5, J2 and K4 of a multiframe with no server defect. -/
theorem State.tuOverhead_up (s : State) {p head pos : Nat} (f : TuRx) (hup : s.tribServerDown p head pos = false) :
    let s2 := (s.tuCounted p head pos f).updTrib (tribNum p head pos) (tuTaken f)
    s.tuOverhead p head pos f = (s2.tuDecides p head pos (s2.trib (tribNum p head pos))).tribBerEnd p head pos := by
  have hdown : (s.tuCounted p head pos f).tribServerDown p head pos = false :=
    ((s.tuCounted_onlyPm p head pos f).tribPm.tribServerDown p head pos).trans hup
  exact if_neg fun h => absurd (hdown.symm.trans h) Bool.false_ne_true

/-- A tributary with no detection window and no monitor. -/
theorem State.tribBerEnd_off (s : State) {p head pos : Nat} (h : bitsOf (s.trib (tribNum p head pos)).cfg.ber 0 10 = 0) :
    s.tribBerEnd p head pos = s := if_pos (.inl (by rw [h]))

theorem State.tuMonitor_off (s : State) {p head pos : Nat} (f : TuRx) (h : (s.trib (tribNum p head pos)).cfg.flags = 0) :
    s.tuMonitor p head pos f = s := by
  have hmon : (s.trib (tribNum p head pos)).cfg.mon = 0 := by rw [TribCfg.mon, h]; rfl
  exact if_pos (by simp [State.monitorRuns, hmon])

/-- A multiframe of a configured tributary with no server defect, trace, monitor and window. -/
theorem State.tuReceive_up (s : State) {p head pos : Nat} (f : TuRx) (hp : p < 96) (hh : head < 256) (hq : pos < 65536)
    (hcfg : (s.trib (tribNum p head pos)).cfg.ttype ≠ 0) (hup : s.tribServerDown p head pos = false)
    (hflags : (s.trib (tribNum p head pos)).cfg.flags = 0)
    (hber : bitsOf (s.trib (tribNum p head pos)).cfg.ber 0 10 = 0) :
    let n := tribNum p head pos
    let t := s.trib n
    let x := s.tuReceive p head pos f
    x = { s with tribs := x.tribs, pm := x.pm, arrivals := x.arrivals } ∧ s.arrivals <+: x.arrivals ∧
    (∀ j, j ≠ n → x.trib j = s.trib j) ∧ (x.trib n).cfg = t.cfg ∧
    (x.trib n).ptr = t.ptr.frame (tuTop t.cfg.ttype) f.pointer.toNat ∧
    (x.trib n).label = acceptVal 5 t.label (bitsOf f.v5.toNat 1 3) ∧
    (x.trib n).rdi = runOn t.rdi (f.v5.toNat.testBit 0) ∧ (x.trib n).rfi = runOn t.rfi (f.v5.toNat.testBit 4) ∧
    (x.trib n).win = { len := t.win.len + 1, count := t.win.count + bit f.bipBad } ∧
    x.decided (condTrib p head pos dLOP_V) = (decide ((x.trib n).ptr.state = .lop) && (x.trib n).ptr.settled) ∧
    x.decided (condTrib p head pos dAIS_V) =
      (decide ((x.trib n).ptr.state = .ais) || (x.trib n).label.accepted == some 7) := by
  intro n t x
  obtain ⟨hptrFrame, hptrOther, i, d, hptr⟩ := s.tuPointer_shows p head pos f.pointer.toNat
  have hrow : x = ((s.tuPointer p head pos f.pointer.toNat).tuOverhead p head pos f).tuMonitor p head pos f := by
    refine (if_neg hcfg).trans ?_
    dsimp only
    rw [if_neg (by simp [hup])]
  generalize s.tuPointer p head pos f.pointer.toNat = s1 at hptrFrame hptrOther hptr hrow
  have hup1 : s1.tribServerDown p head pos = false := (hptrFrame.tribServerDown p head pos).trans hup
  have hcount := s1.tuCounted_onlyPm p head pos f
  have hover := s1.tuOverhead_up f hup1
  dsimp only at hover
  generalize s1.tuCounted p head pos f = s1' at hcount hover
  have htaken := State.trib_updTrib s1' n n (tuTaken f)
  rw [if_pos rfl, hcount.trib] at htaken
  have htakenOther : ∀ j, j ≠ n → (s1'.updTrib n (tuTaken f)).trib j = s.trib j := fun j hj => by
    rw [State.trib_updTrib, if_neg hj, hcount.trib, hptrOther j hj]
  have hframe2 : OnlyTribPm s (s1'.updTrib n (tuTaken f)) :=
    (hptrFrame.trans hcount.tribPm).trans (show OnlyTribPm s1' (s1'.updTrib n (tuTaken f)) from rfl)
  change s1.tuOverhead p head pos f = (State.tuDecides (s1'.updTrib n (tuTaken f)) p head pos _).tribBerEnd p head pos at hover
  generalize s1'.updTrib n (tuTaken f) = s2 at hover htaken htakenOther hframe2
  obtain ⟨⟨hzFrame, hzArrivals, hzOther, h, hz⟩, hlop, hais⟩ := State.tuDecides_shows hp hh hq s2 (s2.trib n)
  change s1.tuOverhead p head pos f = (s2.tuDecides p head pos (s2.trib n)).tribBerEnd p head pos at hover
  generalize s2.tuDecides p head pos (s2.trib n) = z at hover hzFrame hzArrivals hzOther hz hlop hais
  have hflags1 : (s1.trib n).cfg.flags = 0 := by rw [hptr]; exact hflags
  obtain ⟨hcfg2, hptr2, hlabel2, hrdi2, hrfi2, hwin2⟩ := tuTaken_shows f (s1.trib n) hflags1
  rw [← htaken] at hcfg2 hptr2 hlabel2 hrdi2 hrfi2 hwin2
  rw [hptr] at hcfg2 hptr2 hlabel2 hrdi2 hrfi2 hwin2
  have hzcfg : (z.trib n).cfg = t.cfg := by rw [hz]; exact hcfg2
  have hx : x = z := by
    rw [hrow, hover, z.tribBerEnd_off (by rw [hzcfg]; exact hber), z.tuMonitor_off f (by rw [hzcfg]; exact hflags)]
  rw [hx]
  have harrivals : s2.arrivals = s.arrivals := by rw [hframe2]
  have hzlast : (z.trib n).ptr = (s2.trib n).ptr ∧ (z.trib n).label = (s2.trib n).label := by rw [hz]; exact ⟨rfl, rfl⟩
  refine ⟨?_, harrivals ▸ hzArrivals, fun j hj => (hzOther j hj).trans (htakenOther j hj), hzcfg, hzlast.1.trans hptr2,
    hzlast.2.trans hlabel2, by rw [hz]; exact hrdi2, by rw [hz]; exact hrfi2, by rw [hz]; exact hwin2, ?_, ?_⟩
  · have hpm : z.pm = s2.pm := by rw [hzFrame]
    rw [hpm]
    exact hzFrame.trans (congrArg (fun w : State => { w with tribs := z.tribs, arrivals := z.arrivals }) hframe2)
  · rw [hlop, hzlast.1]
  · rw [hais, hzlast.1, hzlast.2]

end Sys2Proof.Machine

open Sys2Proof Sys2Proof.Machine

/-- Settles O49: the pointer, the counts, V5 and the rules on them, by the tributary's state. -/
theorem tributaryMultiframes : Obligations.TributaryMultiframes := by
  intro s k f hcarry n t down c
  have hexec : exec (.tuMultiframeReceive k f) s = .next (s.tuReceive k.port k.head.toNat k.pos.toNat f).settle := by
    rw [← State.datapath_carrying hcarry fun s => s.tuReceive k.port k.head.toNat k.pos.toNat f]
    rfl
  refine ⟨fun h => answers_of hexec (s.tuReceive_idle f h), fun h hdown => answers_of hexec ?_,
    fun h hup hflags hber => answers_of hexec
      (s.tuReceive_up f k.port.isLt k.head.isLt k.pos.isLt h hup hflags hber)⟩
  rw [s.tuReceive_down f h hdown]
  exact s.tuCounted_onlyPm _ _ _ f
end

section
/-! SUPPORT. The work of a port frame: what composes from step to step, and the boundary that it begins with (R48). -/

namespace Sys2Proof.Machine

/-! ### The work of a frame of one port -/

theorem PortWork.refl (s : State) (p : Nat) (ks : List Nat) : PortWork s s p ks :=
  ⟨⟨s, .refl s ks, rfl⟩, fun _ _ => rfl, List.prefix_rfl⟩

theorem PortWork.trans {s t u : State} {p : Nat} {ks : List Nat} (h1 : PortWork s t p ks) (h2 : PortWork t u p ks) :
    PortWork s u p ks := by
  obtain ⟨⟨y, hy, ht⟩, hp1, ha1⟩ := h1
  obtain ⟨⟨z, hz, hu⟩, hp2, ha2⟩ := h2
  refine ⟨⟨{ z with ports := y.ports, pm := y.pm, arrivals := y.arrivals }, hy.trans ⟨?_, fun k hk hn => ?_, ?_⟩, hu⟩,
    fun q hq => (hp2 q hq).trans (hp1 q hq), ha1.trans ha2⟩
  · have := congrArg (fun w : State => { w with ports := y.ports, pm := y.pm, arrivals := y.arrivals }) hz.1
    rw [ht] at this
    exact this
  · refine (hz.2.1 k hk hn).trans ?_
    rw [ht]
    rfl
  · have htick := hz.2.2
    rw [ht] at htick
    exact htick

theorem PortWork.mono {s x : State} {p : Nat} {ks js : List Nat} (h : PortWork s x p ks) (hs : ks ⊆ js) :
    PortWork s x p js := by
  obtain ⟨⟨y, hy, hx⟩, h2⟩ := h
  exact ⟨⟨y, hy.mono hs, hx⟩, h2⟩

theorem PortWork.rd {s x : State} {p : Nat} {ks : List Nat} (h : PortWork s x p ks) {k : Nat} (hk : k ∉ ks)
    (hn : noteReg k = false) : x.rd k = s.rd k := by
  obtain ⟨⟨y, hy, hx⟩, _⟩ := h
  rw [hx]
  exact hy.rd hk hn

theorem PortWork.get {s x : State} {p : Nat} {ks : List Nat} (h : PortWork s x p ks) {k : Nat} (hk : k ∉ ks)
    (hn : noteReg k = false) (f : Fld) : x.get k f = s.get k f := by rw [State.get, State.get, h.rd hk hn]

theorem PortWork.on {s x : State} {p : Nat} {ks : List Nat} (h : PortWork s x p ks) {k : Nat} (hk : k ∉ ks)
    (hn : noteReg k = false) (f : Fld) : x.on k f = s.on k f := by rw [State.on, State.on, h.get hk hn]

theorem Noted.portWork {s x : State} {ks : List Nat} (h : Noted s x ks) (p : Nat) : PortWork s x p ks := by
  refine ⟨⟨x, h, rfl⟩, fun q _ => ?_, ?_⟩
  · rw [h.1]; rfl
  · rw [h.1]

theorem PortWork.paths {s x : State} {p : Nat} {ks : List Nat} (h : PortWork s x p ks) : x.paths = s.paths := by
  obtain ⟨⟨y, hy, hx⟩, _⟩ := h
  rw [hx, hy.1]

theorem PortWork.odus {s x : State} {p : Nat} {ks : List Nat} (h : PortWork s x p ks) : x.odus = s.odus := by
  obtain ⟨⟨y, hy, hx⟩, _⟩ := h
  rw [hx, hy.1]

theorem PortWork.prot {s x : State} {p : Nat} {ks : List Nat} (h : PortWork s x p ks) : x.prot = s.prot := by
  obtain ⟨⟨y, hy, hx⟩, _⟩ := h
  rw [hx, hy.1]

/-- One step of a frame of port `p`: the record of the port moves by `f`, and no defect of the port but those of the
codes named is decided. -/
def FrameStep (s x : State) (p : Nat) (ks codes : List Nat) (f : PortSt → PortSt) : Prop :=
  PortWork s x p ks ∧ x.port p = f (s.port p) ∧
  ∀ code, code ∉ codes → x.decided (condPort p code) = s.decided (condPort p code)

namespace FrameStep

variable {s t u x : State} {p : Nat} {ks js codes codes' : List Nat} {f g : PortSt → PortSt}

theorem refl (s : State) (p : Nat) (ks codes : List Nat) : FrameStep s s p ks codes id :=
  ⟨.refl s p ks, rfl, fun _ _ => rfl⟩

theorem trans (h1 : FrameStep s t p ks codes f) (h2 : FrameStep t u p ks codes g) : FrameStep s u p ks codes (g ∘ f) :=
  ⟨h1.1.trans h2.1, by rw [h2.2.1, h1.2.1]; rfl, fun c hc => (h2.2.2 c hc).trans (h1.2.2 c hc)⟩

theorem mono (h : FrameStep s x p ks codes f) (hk : ks ⊆ js) (hc : codes ⊆ codes') : FrameStep s x p js codes' f :=
  ⟨h.1.mono hk, h.2.1, fun c hn => h.2.2 c fun hm => hn (hc hm)⟩

theorem updPort (s : State) (p : Nat) (g : PortSt → PortSt) (ks codes : List Nat) :
    FrameStep s (s.updPort p g) p ks codes g :=
  ⟨⟨⟨s, .refl s ks, rfl⟩, fun q hq => by rw [State.port_updPort, if_neg hq], List.prefix_rfl⟩,
    by rw [State.port_updPort, if_pos rfl], fun _ _ => rfl⟩

theorem put (s : State) (p k : Nat) (h : Fld) (v : Nat) (codes : List Nat) (hk : k ∈ ks) :
    FrameStep s (s.put k h v) p ks codes id :=
  ⟨(Noted.put s k h v hk).portWork p, rfl, fun _ _ => rfl⟩

theorem arrive (s : State) (p : Nat) {a : Arrival} (h : a.isDefect = false) (ks codes : List Nat) :
    FrameStep s (s.arrive a) p ks codes id :=
  ⟨⟨⟨s, .refl s ks, rfl⟩, fun _ _ => rfl, List.prefix_append _ _⟩, rfl, fun _ _ => s.decided_arrive_other h _⟩

theorem event (s : State) (p source code : Nat) (set : Bool) (entity : Nat) (h : source < 384) (ks codes : List Nat) :
    FrameStep s (s.event source code set entity) p ks codes id := by
  have hn : Noted s (s.event source code set entity) ks := .event s _ _ _ _ h ks
  refine ⟨hn.portWork p, by rw [hn.1]; rfl, fun c _ => ?_⟩
  have hr := s.event_raised source code set entity h
  exact State.decided_congr (by rw [hr.1]) (by rw [hr.1]) _

theorem ofPm (h : OnlyPm s x) (p : Nat) (ks codes : List Nat) : FrameStep s x p ks codes id := by
  refine ⟨⟨⟨s, .refl s ks, ?_⟩, fun q _ => by rw [h]; rfl, by rw [h]⟩, by rw [h]; rfl, fun _ _ => by rw [h]; rfl⟩
  have hports : x.ports = s.ports := by rw [h]
  have harr : x.arrivals = s.arrivals := by rw [h]
  rw [hports, harr]
  exact h

/-- A decision whose sticky bit lies in a register named. -/
theorem rule (s : State) (p code : Nat) (set : Bool) (hreg : OnlyRegs s (s.defectHist (condPort p code)) ks)
    (hc : code ∈ codes) : FrameStep s (s.rule (condPort p code) set) p ks codes id := by
  obtain ⟨⟨y, hy, hx⟩, ha⟩ := Decides.rule s (condPort p code) set hreg
  refine ⟨⟨⟨y, .ofRegs hy, ?_⟩, fun q _ => ?_, ha⟩, ?_, fun c hn => ?_⟩
  · generalize s.rule (condPort p code) set = z at hx
    rw [hx]
  · rw [hx, hy.1]; rfl
  · rw [hx, hy.1]; rfl
  · exact s.rule_decided_other set fun he => hn ((show c = code from congrArg Cond.code he) ▸ hc)

theorem integrate (s : State) (p code : Nat) (r : RunSt) (n m : Nat)
    (hreg : OnlyRegs s (s.defectHist (condPort p code)) ks) (hc : code ∈ codes) :
    FrameStep s (s.integrate (condPort p code) r n m) p ks codes id := by
  rcases s.integrate_cases (condPort p code) r n m with h | ⟨set, h⟩
  · rw [h]
    exact refl s p ks codes
  · rw [h]
    exact rule s p code set hreg hc

theorem rd (h : FrameStep s x p ks codes f) {k : Nat} (hk : k ∉ ks) (hn : noteReg k = false) : x.rd k = s.rd k :=
  h.1.rd hk hn

theorem get (h : FrameStep s x p ks codes f) {k : Nat} (hk : k ∉ ks) (hn : noteReg k = false) (g : Fld) :
    x.get k g = s.get k g := h.1.get hk hn g

theorem on (h : FrameStep s x p ks codes f) {k : Nat} (hk : k ∉ ks) (hn : noteReg k = false) (g : Fld) :
    x.on k g = s.on k g := h.1.on hk hn g

end FrameStep

/-- A frame's rule on one defect of the port: declared, cleared, or as it was. -/
theorem State.upDown_shows (s : State) (p code : Nat) (up down : Bool) {ks codes : List Nat}
    (hreg : OnlyRegs s (s.defectHist (condPort p code)) ks) (hc : code ∈ codes) :
    let x := if up then s.rule (condPort p code) true else if down then s.rule (condPort p code) false else s
    FrameStep s x p ks codes id ∧
    x.decided (condPort p code) = (if up then true else if down then false else s.decided (condPort p code)) ∧
    ∀ c, c ≠ code → x.decided (condPort p c) = s.decided (condPort p c) := by
  intro x
  have hstep : ∀ set, FrameStep s (s.rule (condPort p code) set) p ks codes id := fun set => .rule s p code set hreg hc
  have hother : ∀ set c, c ≠ code → (s.rule (condPort p code) set).decided (condPort p c) = s.decided (condPort p c) :=
    fun set c hne => s.rule_decided_other set fun he => hne (congrArg Cond.code he)
  cases up with
  | true => exact ⟨hstep true, s.rule_decided_same _ _, hother true⟩
  | false =>
    cases down with
    | true => exact ⟨hstep false, s.rule_decided_same _ _, hother false⟩
    | false => exact ⟨.refl s p _ _, rfl, fun _ _ => rfl⟩

/-! ### Counters of a port -/

/-- Port counter `k` counts up: the port's record keeps everything but its counters. -/
theorem State.countPort_step (s : State) (p n : Nat) {k : Nat} (hk : k < 4) (ks codes : List Nat) :
    FrameStep s (s.countPort p k n) p ks codes fun x => { x with cnts := ((s.countPort p k n).port p).cnts } := by
  obtain ⟨hframe, hother⟩ := s.countPort_frame p n ⟨k, hk⟩
  dsimp only at hframe hother
  refine ⟨⟨⟨s, .refl s ks, ?_⟩, hother, by rw [hframe]⟩, ?_, fun _ _ => by rw [hframe]; rfl⟩
  · generalize s.countPort p k n = z at hframe
    rw [hframe]
  · unfold State.countPort
    split
    · rfl
    · dsimp only
      rw [State.port_updPort, if_pos rfl]

/-- A count of port counter `k`: the others stay, and no register changes. -/
theorem State.countPort_counts (s : State) (p n : Nat) {k : Nat} (hk : k < 4) :
    CountsUp s (s.countPort p k n) p k n ∧
    (∀ j, j ≠ k → ((s.countPort p k n).port p).cnts.getD j {} = (s.port p).cnts.getD j {}) ∧
    (s.countPort p k n).regs = s.regs := by
  have hc := s.cnts_countPort p n ⟨k, hk⟩
  refine ⟨(hc k).trans (if_pos rfl), fun j hj => (hc j).trans (if_neg hj), ?_⟩
  rw [(s.countPort_frame p n ⟨k, hk⟩).1]

/-- What leaves a counter after it was counted leaves the count. -/
theorem CountsUp.kept {s t u : State} {p k n : Nat} (h : CountsUp s t p k n)
    (hu : (u.port p).cnts.getD k {} = (t.port p).cnts.getD k {}) : CountsUp s u p k n := hu.trans h

/-- What left a counter and its mode before it was counted leaves the count. -/
theorem CountsUp.since {s t u : State} {p k n : Nat} (h : CountsUp t u p k n)
    (hc : (t.port p).cnts.getD k {} = (s.port p).cnts.getD k {})
    (hw : t.get (PRT_CNT_CFG.key p) PRT_CNT_CFG.WRAP_MODE = s.get (PRT_CNT_CFG.key p) PRT_CNT_CFG.WRAP_MODE) :
    CountsUp s u p k n := by
  unfold CountsUp at *
  rw [h, hc, hw]

/-- Counters counted in turn, of a port: what two counts leave. -/
theorem State.countTwo (s : State) (p : Nat) {i j : Nat} (a b : Nat) (hi : i < 4) (hj : j < 4) (hij : i ≠ j) :
    let x := (s.countPort p i a).countPort p j b
    CountsUp s x p i a ∧ CountsUp s x p j b ∧ (∀ k, k ≠ i → k ≠ j → (x.port p).cnts.getD k {} = (s.port p).cnts.getD k {}) ∧
    x.regs = s.regs := by
  intro x
  obtain ⟨h1, o1, r1⟩ := s.countPort_counts p a hi
  obtain ⟨h2, o2, r2⟩ := (s.countPort p i a).countPort_counts p b hj
  refine ⟨h1.kept (o2 i hij), h2.since (o1 j hij.symm) ?_, fun k hki hkj => (o2 k hkj).trans (o1 k hki), r2.trans r1⟩
  rw [State.get, State.get, State.rd_congr r1]

/-! ### The boundary -/

/-- With no entry held, no entry applies at a frame. -/
theorem State.applyPort_none (s : State) (p : Nat) (h : s.portReached p = []) : s.applyPort p = s := by
  unfold State.applyPort
  rw [h]
  rfl

theorem State.portReached_none (s : State) (p : Nat) (h : s.cal.entries = []) : s.portReached p = [] := by
  unfold State.portReached
  rw [h]
  rfl

/-- The boundary of a plain port that is no ALF port moves the frame number alone. -/
theorem State.frameStart_plain (s : State) {p : Nat} (h : s.plainPort p) (half : s.isAlf p = false) :
    s.frameStart p = s.updPort p fun x => { x with pfn := (x.pfn + 1) % 2 ^ 32 } := by
  obtain ⟨hcal, hwait⟩ := h
  have hres : (s.updPort p fun x => { x with pfn := (x.pfn + 1) % 2 ^ 32 }).framerResumes p =
      s.updPort p fun x => { x with pfn := (x.pfn + 1) % 2 ^ 32 } := by
    refine if_neg ?_
    rw [State.port_updPort, if_pos rfl, hwait]
    exact Bool.false_ne_true
  have half' : (s.updPort p fun x => { x with pfn := (x.pfn + 1) % 2 ^ 32 }).isAlf p = false := half
  unfold State.frameStart
  rw [hres]
  dsimp only
  rw [if_neg (by rw [half']; exact Bool.false_ne_true)]
  exact State.applyPort_none _ p (State.portReached_none _ p hcal)

end Sys2Proof.Machine
end

section
/-! PROOF. A received SDH or SONET frame (R94 to R96, R102 to R106). -/

namespace Sys2Proof.Machine

/-- The registers that a received frame of port `p` writes. -/
def sdhKeys (p : Nat) : List Nat := [SDH_STATUS.key p, SDH_RX_OH.key p]

theorem sdhKeys_apart : ∀ p : Port, (PRT_CFG.key p ∉ sdhKeys p ∧ SDH_CFG.key p ∉ sdhKeys p ∧ SDH_SF_CFG.key p ∉ sdhKeys p ∧
    SDH_SD_CFG.key p ∉ sdhKeys p ∧ PRT_CNT_CFG.key p ∉ sdhKeys p ∧ SDH_RX_OH.key p ∉ [SDH_STATUS.key p]) ∧
    noteReg (PRT_CFG.key p) = false ∧ noteReg (SDH_CFG.key p) = false ∧ noteReg (SDH_SF_CFG.key p) = false ∧
    noteReg (SDH_SD_CFG.key p) = false ∧ noteReg (SDH_RX_OH.key p) = false ∧ noteReg (PRT_CNT_CFG.key p) = false := by
  decide +kernel

section
variable {s x : State} {p : Port} {codes : List Nat} {f : PortSt → PortSt}

/-- What a frame's steps leave of the port's configuration. -/
theorem FrameStep.isSdh (h : FrameStep s x p (sdhKeys p) codes f) : x.isSdh p = s.isSdh p := by
  obtain ⟨⟨hprt, _⟩, hn, _⟩ := sdhKeys_apart p
  rw [State.isSdh, State.isSdh, State.family, State.family, h.get hprt hn]

theorem FrameStep.sdhCfg (h : FrameStep s x p (sdhKeys p) codes f) (g : Fld) :
    x.on (SDH_CFG.key p) g = s.on (SDH_CFG.key p) g := by
  obtain ⟨⟨_, hcfg, _⟩, _, hn, _⟩ := sdhKeys_apart p
  exact h.on hcfg hn g

theorem State.sdhOn_of_isSdh {p : Nat} (h : s.isSdh p = true) (g : Fld) : s.sdhOn p g = s.on (SDH_CFG.key p) g := by
  rw [State.sdhOn, h, Bool.true_and]

theorem FrameStep.sdhRule (s : State) (p : Port) (code : Nat) (set : Bool) (hsdh : s.isSdh p = true) (codes : List Nat)
    (hc : code ∈ codes) : FrameStep s (s.rule (condPort p code) set) p (sdhKeys p) codes id :=
  .rule s p code set ((s.defectHist_sdh_onlyRegs code p.isLt hsdh).mono (by simp [sdhKeys])) hc

theorem FrameStep.sdhIntegrate (s : State) (p : Port) (code : Nat) (r : RunSt) (n m : Nat) (hsdh : s.isSdh p = true)
    (codes : List Nat) (hc : code ∈ codes) :
    FrameStep s (s.integrate (condPort p code) r n m) p (sdhKeys p) codes id :=
  .integrate s p code r n m ((s.defectHist_sdh_onlyRegs code p.isLt hsdh).mono (by simp [sdhKeys])) hc

end

/-! ### Counts -/

/-- The value of a parity count by B_MODE: bits, or blocks. -/
def State.sdhVal (s : State) (p n : Nat) : Nat := if s.on (SDH_CFG.key p) SDH_CFG.B_MODE then n else bit (n ≠ 0)

/-- Three counters of a port counted in turn. -/
theorem State.countThree (s : State) (p : Port) (a b c : Nat) (ks codes : List Nat) :
    let x := ((s.countPort p 0 a).countPort p 1 b).countPort p 2 c
    FrameStep s x p ks codes (fun y => { y with cnts := (x.port p).cnts }) ∧
    CountsUp s x p 0 a ∧ CountsUp s x p 1 b ∧ CountsUp s x p 2 c := by
  intro x
  have h0 := s.countPort_step p a (k := 0) (by decide) ks codes
  have h1 := (s.countPort p 0 a).countPort_step p b (k := 1) (by decide) ks codes
  have h2 := ((s.countPort p 0 a).countPort p 1 b).countPort_step p c (k := 2) (by decide) ks codes
  obtain ⟨c0, c1, hkeep, hregs⟩ := s.countTwo p a b (i := 0) (j := 1) (by decide) (by decide) (by decide)
  obtain ⟨c2, o2, _⟩ := ((s.countPort p 0 a).countPort p 1 b).countPort_counts p c (k := 2) (by decide)
  exact ⟨(h0.trans h1).trans h2, c0.kept (o2 0 (by decide)), c1.kept (o2 1 (by decide)),
    c2.since (hkeep 2 (by decide) (by decide)) (by rw [State.get, State.get, State.rd_congr hregs])⟩

/-- The errored blocks of a frame: of B1 in the section, of B2 and REI-L in the line. -/
def State.sdhErrBlocks (s : State) (p b1 b2 rei : Nat) : State :=
  let s2 := if b1 = 0 then s else s.errBlocks (layKey p 5 0 0 0 0) false 1
  let s3 := if b2 = 0 then s2 else s2.errBlocks (layKey p 5 0 0 0 1) false 1
  if rei = 0 then s3 else s3.errBlocks (layKey p 5 0 0 0 1) true 1

theorem State.sdhErrBlocks_onlyPm (s : State) (p b1 b2 rei : Nat) : OnlyPm s (s.sdhErrBlocks p b1 b2 rei) := by
  have herr : ∀ (z : State) n l far, OnlyPm z (if n = 0 then z else z.errBlocks l far 1) := fun z n l far => by
    split
    · exact .refl z
    · exact z.errBlocks_onlyPm l far 1
  exact ((herr s b1 _ _).trans (herr _ b2 _ _)).trans (herr _ rei _ _)

/-- The three counts of a frame that began in frame. -/
def State.sdhCounted (s : State) (p : Nat) (f : SdhRx) : State :=
  ((s.countPort p 0 (s.sdhVal p (min 8 f.b1))).countPort p 1 (s.sdhVal p (min (24 * stmLevel (s.rate p)) f.b2))).countPort p 2
    (s.sdhVal p (if f.m1 ≤ s.reiMax p then f.m1 else 0))

theorem State.parity_eq (s : State) {p : Nat} (f : SdhRx) (hsdh : s.isSdh p = true) :
    s.parity p f = ((s.sdhCounted p f).sdhErrBlocks p (min 8 f.b1) (min (24 * stmLevel (s.rate p)) f.b2)
      (if f.m1 ≤ s.reiMax p then f.m1 else 0)).updSdh p fun y => { y with
        lastB2 := min (24 * stmLevel (s.rate p)) f.b2
        sf := { y.sf with count := y.sf.count + min (24 * stmLevel (s.rate p)) f.b2 }
        sd := { y.sd with count := y.sd.count + min (24 * stmLevel (s.rate p)) f.b2 } } := by
  have hrate : s.stmRate p = s.rate p := if_pos hsdh
  unfold State.parity
  dsimp only
  rw [hrate, State.sdhOn_of_isSdh hsdh]
  rfl

/-- B1, B2 and REI-L of a frame that began in frame. -/
theorem State.parity_shows (s : State) (p : Port) (f : SdhRx) (hsdh : s.isSdh p = true) :
    let x := s.parity p f
    let b2 := min (24 * stmLevel (s.rate p)) f.b2
    FrameStep s x p (sdhKeys p) [] (fun y => { y with
      cnts := (x.port p).cnts
      sdh := { y.sdh with lastB2 := b2, sf := { y.sdh.sf with count := y.sdh.sf.count + b2 }
                          sd := { y.sdh.sd with count := y.sdh.sd.count + b2 } } }) ∧
    CountsUp s x p 0 (s.sdhVal p (min 8 f.b1)) ∧ CountsUp s x p 1 (s.sdhVal p b2) ∧
    CountsUp s x p 2 (s.sdhVal p (if f.m1 ≤ s.reiMax p then f.m1 else 0)) := by
  intro x b2
  obtain ⟨h1, c0, c1, c2⟩ := s.countThree p (s.sdhVal p (min 8 f.b1)) (s.sdhVal p b2)
    (s.sdhVal p (if f.m1 ≤ s.reiMax p then f.m1 else 0)) (sdhKeys p) []
  have hx := s.parity_eq f hsdh
  change FrameStep s (s.sdhCounted p f) p (sdhKeys p) [] (fun y => { y with cnts := ((s.sdhCounted p f).port p).cnts }) at h1
  change CountsUp s (s.sdhCounted p f) p 0 _ at c0
  change CountsUp s (s.sdhCounted p f) p 1 _ at c1
  change CountsUp s (s.sdhCounted p f) p 2 _ at c2
  change x = _ at hx
  generalize s.sdhCounted p f = z at h1 c0 c1 c2 hx
  have h2 : FrameStep z _ p (sdhKeys p) [] id := .ofPm (z.sdhErrBlocks_onlyPm p (min 8 f.b1) b2
    (if f.m1 ≤ s.reiMax p then f.m1 else 0)) p _ _
  generalize z.sdhErrBlocks p (min 8 f.b1) b2 (if f.m1 ≤ s.reiMax p then f.m1 else 0) = w at h2 hx
  have h3' : FrameStep w x p (sdhKeys p) [] (fun y => { y with sdh := { y.sdh with
      lastB2 := b2, sf := { y.sdh.sf with count := y.sdh.sf.count + b2 }
      sd := { y.sdh.sd with count := y.sdh.sd.count + b2 } } }) := by
    rw [hx]
    exact .updPort w p _ _ _
  have h3 := (h1.trans h2).trans h3'
  have hcnts : (x.port p).cnts = (z.port p).cnts := h3.2.1 ▸ rfl
  refine ⟨⟨h3.1, ?_, h3.2.2⟩, c0.kept (by rw [hcnts]), c1.kept (by rw [hcnts]), c2.kept (by rw [hcnts])⟩
  rw [hcnts]
  exact h3.2.1

/-- AIS-L and RDI-L from K2[2:0]. -/
theorem State.k2Defects_shows (s : State) (p : Port) (k2 : Nat) (hsdh : s.isSdh p = true) :
    FrameStep s (s.k2Defects p k2) p (sdhKeys p) [dAIS_L, dRDI_L] (fun y => { y with
      sdh := { y.sdh with ais := runOn y.sdh.ais (decide (k2 % 8 = 7)), rdi := runOn y.sdh.rdi (decide (k2 % 8 = 6)) } }) := by
  let s1 := s.updSdh p fun y =>
    { y with ais := runOn y.ais (decide (k2 % 8 = 7)), rdi := runOn y.rdi (decide (k2 % 8 = 6)) }
  have h1 : FrameStep s s1 p (sdhKeys p) [dAIS_L, dRDI_L] _ := .updPort s p _ _ _
  have h2 := FrameStep.sdhIntegrate s1 p dAIS_L (s1.sdh p).ais 3 3 (h1.isSdh.trans hsdh) [dAIS_L, dRDI_L] (by simp)
  have h3 := FrameStep.sdhIntegrate (s1.integrate (condPort p dAIS_L) (s1.sdh p).ais 3 3) p dRDI_L (s1.sdh p).rdi 5 5
    (h2.isSdh.trans (h1.isSdh.trans hsdh)) [dAIS_L, dRDI_L] (by simp)
  exact (h1.trans h2).trans h3

/-- K1 and K2 as accepted, shown and on their way to the protection engine. -/
def State.kAccepted (s : State) (p v : Nat) : State :=
  ((s.put (SDH_RX_OH.key p) SDH_RX_OH.K1 (v / 256)).put (SDH_RX_OH.key p) SDH_RX_OH.K2 (v % 256)).arrive
    (.kBytes p (v / 256) (v % 256))

theorem State.kAccepted_shows (s : State) (p : Port) (v : Nat) :
    FrameStep s (s.kAccepted p v) p (sdhKeys p) [] id ∧
    (v < 65536 → (s.kAccepted p v).get (SDH_RX_OH.key p) SDH_RX_OH.K1 = v / 256 ∧
      (s.kAccepted p v).get (SDH_RX_OH.key p) SDH_RX_OH.K2 = v % 256) ∧
    .kBytes p (v / 256) (v % 256) ∈ (s.kAccepted p v).arrivals := by
  have h1 : FrameStep s (s.put (SDH_RX_OH.key p) SDH_RX_OH.K1 (v / 256)) p (sdhKeys p) [] id :=
    .put s p _ _ _ _ (by simp [sdhKeys])
  have hk1 : (s.put (SDH_RX_OH.key p) SDH_RX_OH.K1 (v / 256)).get (SDH_RX_OH.key p) SDH_RX_OH.K1 = v / 256 % 2 ^ 8 :=
    State.get_put_same s _ _ _ (by decide)
  unfold State.kAccepted
  generalize s.put (SDH_RX_OH.key p) SDH_RX_OH.K1 (v / 256) = y at h1 hk1
  have h2 : FrameStep y (y.put (SDH_RX_OH.key p) SDH_RX_OH.K2 (v % 256)) p (sdhKeys p) [] id :=
    .put y p _ _ _ _ (by simp [sdhKeys])
  have hk2 : (y.put (SDH_RX_OH.key p) SDH_RX_OH.K2 (v % 256)).get (SDH_RX_OH.key p) SDH_RX_OH.K2 = v % 256 % 2 ^ 8 :=
    State.get_put_same y _ _ _ (by decide)
  have hk1' : (y.put (SDH_RX_OH.key p) SDH_RX_OH.K2 (v % 256)).get (SDH_RX_OH.key p) SDH_RX_OH.K1 = v / 256 % 2 ^ 8 :=
    (State.get_put_field y _ _ _ _ (by decide) (by decide)).trans hk1
  generalize y.put (SDH_RX_OH.key p) SDH_RX_OH.K2 (v % 256) = z at h2 hk1' hk2
  refine ⟨(h1.trans h2).trans (.arrive z p rfl _ _), fun hlt => ⟨hk1'.trans (Nat.mod_eq_of_lt ?_), hk2.trans ?_⟩,
    List.mem_append_right _ (List.mem_singleton.mpr rfl)⟩
  · omega
  · omega

/-- K1 and K2 accepted go to the protection engine. -/
theorem State.kReceive_shows (s : State) (p : Port) (k1 k2 : Nat) (hsdh : s.isSdh p = true) :
    let x := s.kReceive p k1 k2
    let new := acceptVal 3 (s.sdh p).k (k1 * 256 + k2)
    FrameStep s x p (sdhKeys p) [] (fun y => { y with sdh := { y.sdh with k := new } }) ∧
    ∀ v, new.accepted = some v → (s.sdh p).k.accepted ≠ some v → v < 65536 →
      x.get (SDH_RX_OH.key p) SDH_RX_OH.K1 = v / 256 ∧ x.get (SDH_RX_OH.key p) SDH_RX_OH.K2 = v % 256 ∧
      .kBytes p (v / 256) (v % 256) ∈ x.arrivals := by
  intro x new
  let s1 := s.updSdh p fun y => { y with k := new }
  have h1 : FrameStep s s1 p (sdhKeys p) [] (fun y => { y with sdh := { y.sdh with k := new } }) := .updPort s p _ _ _
  have hsdh1 : s1.isSdh p = true := h1.isSdh.trans hsdh
  have hx : x = if new.accepted = (s.sdh p).k.accepted ∨ ¬ s.isSdh p then s1 else match new.accepted with
      | some v => s1.kAccepted p v
      | none => s1 := rfl
  by_cases hsame : new.accepted = (s.sdh p).k.accepted
  · have hx1 : x = s1 := hx.trans (if_pos (.inl hsame))
    rw [hx1]
    exact ⟨h1, fun v hv hne => absurd (hsame.symm.trans hv) hne⟩
  · replace hx := hx.trans (if_neg (by simp [hsame, hsdh]))
    cases hacc : new.accepted with
    | none =>
      rw [hacc] at hx
      rw [hx]
      exact ⟨h1, fun v hv => nomatch hv⟩
    | some w =>
      rw [hacc] at hx
      dsimp only at hx
      rw [hx]
      obtain ⟨h2, hregs, hmem⟩ := s1.kAccepted_shows p w
      refine ⟨h1.trans h2, fun v hv _ hlt => ?_⟩
      obtain rfl : w = v := Option.some.inj hv
      exact ⟨(hregs hlt).1, (hregs hlt).2, hmem⟩

/-- An accepted S1 is shown. -/
def State.s1Shown (s : State) (p : Nat) (a : Option Nat) : State :=
  match a with
  | some v => if s.isSdh p then s.put (SDH_RX_OH.key p) SDH_RX_OH.S1 v else s
  | none => s

theorem State.s1Shown_shows (s : State) (p : Port) (a : Option Nat) (hsdh : s.isSdh p = true) :
    let x := s.s1Shown p a
    FrameStep s x p (sdhKeys p) [dTIM_S] id ∧
    (∀ v, a = some v → v < 256 → x.get (SDH_RX_OH.key p) SDH_RX_OH.S1 = v) ∧
    x.get (SDH_RX_OH.key p) SDH_RX_OH.K1 = s.get (SDH_RX_OH.key p) SDH_RX_OH.K1 ∧
    x.get (SDH_RX_OH.key p) SDH_RX_OH.K2 = s.get (SDH_RX_OH.key p) SDH_RX_OH.K2 := by
  intro x
  cases a with
  | none => exact ⟨.refl s p _ _, fun v hv => absurd hv (Option.some_ne_none v).symm, rfl, rfl⟩
  | some w =>
    have hx : x = s.put (SDH_RX_OH.key p) SDH_RX_OH.S1 w := if_pos hsdh
    rw [hx]
    refine ⟨.put s p _ _ _ _ (by simp [sdhKeys]), fun v hv hlt => ?_, State.get_put_field s _ _ _ _ (by decide) (by decide),
      State.get_put_field s _ _ _ _ (by decide) (by decide)⟩
    obtain rfl : w = v := Option.some.inj hv
    exact (State.get_put_same s _ _ _ (by decide)).trans (Nat.mod_eq_of_lt hlt)

/-- J0 shown while J0_MODE is off; there is no trace to differ. -/
def State.j0Shown (s : State) (p j0 : Nat) : State :=
  (if s.isSdh p then s.put (SDH_RX_OH.key p) SDH_RX_OH.J0 j0 else s).rule (condPort p dTIM_S) false

theorem State.rule_false_regs (s : State) (c : Cond) : (s.rule c false).regs = s.regs := by
  by_cases h : s.decided c = false
  · rw [s.rule_same h]
  · rw [s.rule_clears h]
    rfl

theorem State.j0Shown_shows (s : State) (p : Port) (j0 : Byte) (hsdh : s.isSdh p = true) :
    let x := s.j0Shown p j0.toNat
    FrameStep s x p (sdhKeys p) [dTIM_S] id ∧ x.get (SDH_RX_OH.key p) SDH_RX_OH.J0 = j0.toNat ∧
    x.decided (condPort p dTIM_S) = false ∧
    ∀ g : Fld, g.lo + g.width ≤ 32 →
      (g.lo + g.width ≤ SDH_RX_OH.J0.lo ∨ SDH_RX_OH.J0.lo + SDH_RX_OH.J0.width ≤ g.lo) →
      x.get (SDH_RX_OH.key p) g = s.get (SDH_RX_OH.key p) g := by
  intro x
  have hx : x = (s.put (SDH_RX_OH.key p) SDH_RX_OH.J0 j0.toNat).rule (condPort p dTIM_S) false :=
    congrArg (fun z : State => z.rule (condPort p dTIM_S) false) (if_pos hsdh)
  have h1 : FrameStep s (s.put (SDH_RX_OH.key p) SDH_RX_OH.J0 j0.toNat) p (sdhKeys p) [dTIM_S] id :=
    .put s p _ _ _ _ (by simp [sdhKeys])
  have hJ0 : (s.put (SDH_RX_OH.key p) SDH_RX_OH.J0 j0.toNat).get (SDH_RX_OH.key p) SDH_RX_OH.J0 = j0.toNat :=
    (State.get_put_same s _ _ _ (by decide)).trans (Nat.mod_eq_of_lt j0.isLt)
  have hkeep : ∀ g : Fld, g.lo + g.width ≤ 32 →
      (g.lo + g.width ≤ SDH_RX_OH.J0.lo ∨ SDH_RX_OH.J0.lo + SDH_RX_OH.J0.width ≤ g.lo) →
      (s.put (SDH_RX_OH.key p) SDH_RX_OH.J0 j0.toNat).get (SDH_RX_OH.key p) g = s.get (SDH_RX_OH.key p) g :=
    fun g hg hd => State.get_put_field s _ _ _ g hg hd
  generalize s.put (SDH_RX_OH.key p) SDH_RX_OH.J0 j0.toNat = y at hx h1 hJ0 hkeep
  have hregs : ∀ g, x.get (SDH_RX_OH.key p) g = y.get (SDH_RX_OH.key p) g := fun g => by
    rw [hx, State.get, State.get, State.rd_congr (y.rule_false_regs _)]
  refine ⟨?_, (hregs _).trans hJ0, ?_, fun g hg hd => (hregs g).trans (hkeep g hg hd)⟩
  · rw [hx]
    exact h1.trans (FrameStep.sdhRule y p dTIM_S false (h1.isSdh.trans hsdh) _ (by simp))
  · rw [hx]
    exact y.rule_decided_same _ _

/-- With both DCC queues off, no DCC byte is kept. -/
theorem State.dccReceive_off (s : State) (p : Nat) (f : SdhRx) (hrs : s.on (SDH_CFG.key p) SDH_CFG.DCC_RS_EN = false)
    (hms : s.on (SDH_CFG.key p) SDH_CFG.DCC_MS_EN = false) : s.dccReceive p f = s := by
  have hoff : ∀ g, s.on (SDH_CFG.key p) g = false → ¬ s.sdhOn p g = true := fun g h => by
    rw [State.sdhOn, h, Bool.and_false]
    exact Bool.false_ne_true
  unfold State.dccReceive
  dsimp only
  rw [if_neg (hoff _ hrs), if_neg (hoff _ hms)]

/-- S1 accepted, and J0 while J0_MODE is off. -/
theorem State.s1j0_shows (s : State) (p : Port) (f : SdhRx) (hsdh : s.isSdh p = true)
    (hmode : s.on (SDH_CFG.key p) SDH_CFG.J0_MODE = false) :
    let x := s.s1j0 p f
    let new := acceptVal 8 (s.sdh p).s1 f.s1.toNat
    FrameStep s x p (sdhKeys p) [dTIM_S] (fun y => { y with sdh := { y.sdh with s1 := acceptVal 8 y.sdh.s1 f.s1.toNat } }) ∧
    x.get (SDH_RX_OH.key p) SDH_RX_OH.J0 = f.j0.toNat ∧ x.decided (condPort p dTIM_S) = false ∧
    (∀ v, new.accepted = some v → v < 256 → x.get (SDH_RX_OH.key p) SDH_RX_OH.S1 = v) ∧
    x.get (SDH_RX_OH.key p) SDH_RX_OH.K1 = s.get (SDH_RX_OH.key p) SDH_RX_OH.K1 ∧
    x.get (SDH_RX_OH.key p) SDH_RX_OH.K2 = s.get (SDH_RX_OH.key p) SDH_RX_OH.K2 := by
  intro x new
  have h1 : FrameStep s _ p (sdhKeys p) [dTIM_S] (fun y => { y with sdh := { y.sdh with s1 := acceptVal 8 y.sdh.s1 f.s1.toNat } }) :=
    .updPort s p _ _ _
  obtain ⟨hregs1, hacc⟩ : (s.updSdh p fun y => { y with s1 := acceptVal 8 y.s1 f.s1.toNat }).regs = s.regs ∧
      ((s.updSdh p fun y => { y with s1 := acceptVal 8 y.s1 f.s1.toNat }).sdh p).s1 = new :=
    ⟨rfl, congrArg SdhSt.s1 (congrArg PortSt.sdh h1.2.1)⟩
  have hx : x = (let s1 := s.updSdh p fun y => { y with s1 := acceptVal 8 y.s1 f.s1.toNat }
      let s2 := s1.s1Shown p (s1.sdh p).s1.accepted
      if s2.sdhOn p SDH_CFG.J0_MODE then
        let s3 := s2.updSdh p fun x => { x with j0 := x.j0.byte16 f.j0 }
        s3.rule (condPort p dTIM_S) ((s3.sdh p).j0.differs false (s3.traceRegs fun j => SDH_J0_EXP.key p j))
      else s2.j0Shown p f.j0.toNat) := rfl
  dsimp only at hx
  change FrameStep s (s.updSdh p fun y => { y with s1 := acceptVal 8 y.s1 f.s1.toNat }) p _ _ _ at h1
  generalize (s.updSdh p fun y => { y with s1 := acceptVal 8 y.s1 f.s1.toNat }) = s1 at h1 hregs1 hacc hx
  rw [hacc] at hx
  obtain ⟨h2, hS1, hK1, hK2⟩ := s1.s1Shown_shows p new.accepted (h1.isSdh.trans hsdh)
  generalize s1.s1Shown p new.accepted = s2 at h2 hS1 hK1 hK2 hx
  have hsdh2 : s2.isSdh p = true := h2.isSdh.trans (h1.isSdh.trans hsdh)
  have hmode2 : s2.sdhOn p SDH_CFG.J0_MODE = false :=
    (State.sdhOn_of_isSdh hsdh2 _).trans ((h2.sdhCfg _).trans ((h1.sdhCfg _).trans hmode))
  rw [if_neg (by rw [hmode2]; exact Bool.false_ne_true)] at hx
  obtain ⟨h3, hJ0, hTim, hkeep⟩ := s2.j0Shown_shows p f.j0 hsdh2
  rw [hx]
  have hk : ∀ g, s1.get (SDH_RX_OH.key p) g = s.get (SDH_RX_OH.key p) g := fun g => by
    rw [State.get, State.get, State.rd_congr hregs1]
  refine ⟨(h1.trans h2).trans h3, hJ0, hTim, fun v hv hlt => (hkeep _ (by decide) (by decide)).trans (hS1 v hv hlt),
    (hkeep _ (by decide) (by decide)).trans (hK1.trans (hk _)), (hkeep _ (by decide) (by decide)).trans (hK2.trans (hk _))⟩

/-- A frame that began in frame and carries no path, with the DCC queues off. -/
theorem State.inFrame_pathless (s : State) (p : Nat) (f : SdhRx) (hpaths : f.paths = []) :
    s.inFrame p f =
      ((((s.parity p f).k2Defects p f.k2.toNat).kReceive p f.k1.toNat f.k2.toNat).s1j0 p f).dccReceive p f := by
  unfold State.inFrame
  generalize ((((s.parity p f).k2Defects p f.k2.toNat).kReceive p f.k1.toNat f.k2.toNat).s1j0 p f).dccReceive p f = y
  rw [hpaths]
  rfl

/-- The section, line and path bytes of a frame that began in frame, with J0_MODE and the DCC queues off. -/
theorem State.inFrame_shows (s : State) (p : Port) (f : SdhRx) (hsdh : s.isSdh p = true) (hpaths : f.paths = [])
    (hmode : s.on (SDH_CFG.key p) SDH_CFG.J0_MODE = false) (hrs : s.on (SDH_CFG.key p) SDH_CFG.DCC_RS_EN = false)
    (hms : s.on (SDH_CFG.key p) SDH_CFG.DCC_MS_EN = false) :
    let x := s.inFrame p f
    let b2 := min (24 * stmLevel (s.rate p)) f.b2
    let k := acceptVal 3 (s.sdh p).k (f.k1.toNat * 256 + f.k2.toNat)
    let s1 := acceptVal 8 (s.sdh p).s1 f.s1.toNat
    (PortWork s x p (sdhKeys p) ∧
      x.port p = { s.port p with
        cnts := (x.port p).cnts
        sdh := { s.sdh p with
          k := k, s1 := s1, lastB2 := b2
          ais := runOn (s.sdh p).ais (decide (f.k2.toNat % 8 = 7)), rdi := runOn (s.sdh p).rdi (decide (f.k2.toNat % 8 = 6))
          sf := { (s.sdh p).sf with count := (s.sdh p).sf.count + b2 }
          sd := { (s.sdh p).sd with count := (s.sdh p).sd.count + b2 } } } ∧
      ∀ code, code ∉ [dAIS_L, dRDI_L, dTIM_S] → x.decided (condPort p code) = s.decided (condPort p code)) ∧
    (CountsUp s x p 0 (s.sdhVal p (min 8 f.b1)) ∧ CountsUp s x p 1 (s.sdhVal p b2) ∧
      CountsUp s x p 2 (s.sdhVal p (if f.m1 ≤ s.reiMax p then f.m1 else 0))) ∧
    x.get (SDH_RX_OH.key p) SDH_RX_OH.J0 = f.j0.toNat ∧ x.decided (condPort p dTIM_S) = false ∧
    (∀ v, s1.accepted = some v → v < 256 → x.get (SDH_RX_OH.key p) SDH_RX_OH.S1 = v) ∧
    (∀ v, k.accepted = some v → (s.sdh p).k.accepted ≠ some v → v < 65536 →
      x.get (SDH_RX_OH.key p) SDH_RX_OH.K1 = v / 256 ∧ x.get (SDH_RX_OH.key p) SDH_RX_OH.K2 = v % 256 ∧
      .kBytes p (v / 256) (v % 256) ∈ x.arrivals) := by
  intro x b2 k s1
  have hx : x = _ := s.inFrame_pathless p f hpaths
  obtain ⟨h1, c0, c1, c2⟩ := s.parity_shows p f hsdh
  generalize s.parity p f = y1 at h1 c0 c1 c2 hx
  have hsdh1 := h1.isSdh.trans hsdh
  have h2 := y1.k2Defects_shows p f.k2.toNat hsdh1
  generalize y1.k2Defects p f.k2.toNat = y2 at h2 hx
  have hsdh2 := h2.isSdh.trans hsdh1
  obtain ⟨h3, hk⟩ := y2.kReceive_shows p f.k1.toNat f.k2.toNat hsdh2
  generalize y2.kReceive p f.k1.toNat f.k2.toNat = y3 at h3 hk hx
  have hsdh3 := h3.isSdh.trans hsdh2
  have hcfg3 : ∀ g, y3.on (SDH_CFG.key p) g = s.on (SDH_CFG.key p) g := fun g =>
    (h3.sdhCfg g).trans ((h2.sdhCfg g).trans (h1.sdhCfg g))
  obtain ⟨h4, hJ0, hTim, hS1, hK1, hK2⟩ := y3.s1j0_shows p f hsdh3 ((hcfg3 _).trans hmode)
  generalize y3.s1j0 p f = y4 at h4 hJ0 hTim hS1 hK1 hK2 hx
  rw [y4.dccReceive_off p f ((h4.sdhCfg _).trans ((hcfg3 _).trans hrs)) ((h4.sdhCfg _).trans ((hcfg3 _).trans hms))] at hx
  have hall := (((h1.mono (List.Subset.refl _) (List.nil_subset [dAIS_L, dRDI_L, dTIM_S])).trans
    (h2.mono (List.Subset.refl _) (by simp))).trans (h3.mono (List.Subset.refl _) (List.nil_subset _))).trans
    (h4.mono (List.Subset.refl _) (by simp))
  have hs1 : (y3.sdh p).s1 = (s.sdh p).s1 := by
    rw [State.sdh, h3.2.1, h2.2.1, h1.2.1]
    rfl
  have hk2 : (y2.sdh p).k = (s.sdh p).k := by
    rw [State.sdh, h2.2.1, h1.2.1]
    rfl
  have hcnts : (x.port p).cnts = (y1.port p).cnts := by
    rw [hx, h4.2.1, h3.2.1, h2.2.1]
  refine ⟨⟨hx ▸ hall.1, ?_, hx ▸ hall.2.2⟩, ⟨c0.kept (by rw [hcnts]), c1.kept (by rw [hcnts]), c2.kept (by rw [hcnts])⟩,
    hx ▸ hJ0, hx ▸ hTim, ?_, ?_⟩
  · rw [hcnts, hx, h4.2.1, h3.2.1, h2.2.1, h1.2.1, hk2]
    rfl
  · rw [hs1] at hS1
    rw [hx]
    exact hS1
  · rw [hk2] at hk
    intro v hv hne hlt
    obtain ⟨g1, g2, g3⟩ := hk v hv hne hlt
    rw [hx]
    exact ⟨hK1.trans g1, hK2.trans g2, h4.1.2.2.subset g3⟩

/-! ### Alignment -/

/-- OOF and LOF after a frame. -/
def State.alignRules (s : State) (p : Nat) (began : Bool) (a : AlignSt) : State :=
  let s5 := if began && !a.inFrame then s.rule (condPort p dOOF) true
    else if a.inFrame then s.rule (condPort p dOOF) false else s
  if !a.inFrame && decide (24 ≤ a.oofRun) then s5.rule (condPort p dLOF) true
  else if a.inFrame && decide (24 ≤ a.inRun) then s5.rule (condPort p dLOF) false else s5

theorem State.alignRules_shows (s : State) (p : Port) (began : Bool) (a : AlignSt) (hsdh : s.isSdh p = true) :
    let x := s.alignRules p began a
    FrameStep s x p [SDH_STATUS.key p] [dOOF, dLOF] id ∧
    x.decided (condPort p dOOF) = (if began || a.inFrame then !a.inFrame else s.decided (condPort p dOOF)) ∧
    x.decided (condPort p dLOF) = (if !a.inFrame && decide (24 ≤ a.oofRun) then true
      else if a.inFrame && decide (24 ≤ a.inRun) then false else s.decided (condPort p dLOF)) := by
  intro x
  obtain ⟨h1, d1, o1⟩ := s.upDown_shows p dOOF (began && !a.inFrame) a.inFrame
    (codes := [dOOF, dLOF]) (s.defectHist_sdh_onlyRegs dOOF p.isLt hsdh) (by simp)
  have hx : x = (let s5 := if (began && !a.inFrame) = true then s.rule (condPort p dOOF) true
        else if a.inFrame = true then s.rule (condPort p dOOF) false else s
      if (!a.inFrame && decide (24 ≤ a.oofRun)) = true then s5.rule (condPort p dLOF) true
      else if (a.inFrame && decide (24 ≤ a.inRun)) = true then s5.rule (condPort p dLOF) false else s5) := rfl
  dsimp only at hx
  generalize (if (began && !a.inFrame) = true then s.rule (condPort p dOOF) true
    else if a.inFrame = true then s.rule (condPort p dOOF) false else s) = y at h1 d1 o1 hx
  have hsdh1 : y.isSdh p = true := (h1.mono (js := sdhKeys p) (by simp [sdhKeys]) (List.Subset.refl _)).isSdh.trans hsdh
  obtain ⟨h2, d2, o2⟩ := y.upDown_shows p dLOF (!a.inFrame && decide (24 ≤ a.oofRun))
    (a.inFrame && decide (24 ≤ a.inRun)) (codes := [dOOF, dLOF]) (y.defectHist_sdh_onlyRegs dLOF p.isLt hsdh1) (by simp)
  rw [hx]
  refine ⟨h1.trans h2, (o2 dOOF (by decide)).trans (d1.trans ?_), d2.trans ?_⟩
  · cases began <;> cases a.inFrame <;> rfl
  · rw [o1 dLOF (by decide)]

/-- With no detection window, none ends. -/
theorem State.windowsEnd_off (s : State) (p : Nat) (hsf : s.get (SDH_SF_CFG.key p) SDH_SF_CFG.WINDOW = 0)
    (hsd : s.get (SDH_SD_CFG.key p) SDH_SD_CFG.WINDOW = 0) : (s.lineSfEnd p).lineSdEnd p = s := by
  have hoff : ∀ k g, s.get k g = 0 → s.sdhGet p k g = 0 := fun k g h => by
    unfold State.sdhGet
    rw [h, ite_self]
  have hsf' : s.lineSfEnd p = s := if_pos (.inl (hoff _ _ hsf))
  rw [hsf']
  exact if_pos (.inl (hoff _ _ hsd))

/-- What a frame moves of the alignment and of the window lengths. -/
def sdhAligned (a : AlignSt) (y : PortSt) : PortSt :=
  { y with sdh := { y.sdh with
      align := a, sf := { y.sdh.sf with len := y.sdh.sf.len + 1 }, sd := { y.sdh.sd with len := y.sdh.sd.len + 1 } } }

/-- A frame of an SDH or SONET port without detection windows: after its bytes, the alignment and its two defects. -/
theorem State.sdhReceive_plain (s : State) {p : Port} (f : SdhRx) (hsdh : s.isSdh p = true) {s1 : State}
    (h1 : (if (s.sdh p).align.inFrame then s.inFrame p f else s.oofFrame p) = s1)
    (halign : (s1.sdh p).align = (s.sdh p).align) {codes : List Nat} {g : PortSt → PortSt}
    (hstep : FrameStep s s1 p (sdhKeys p) codes g)
    (hsf : s.get (SDH_SF_CFG.key p) SDH_SF_CFG.WINDOW = 0) (hsd : s.get (SDH_SD_CFG.key p) SDH_SD_CFG.WINDOW = 0) :
    let a := (s.sdh p).align.frame 4 24 f.patternOk
    s.sdhReceive p f = (s1.updPort p (sdhAligned a)).alignRules p (s.sdh p).align.inFrame a := by
  intro a
  obtain ⟨⟨_, _, ksf, ksd, _⟩, _, _, nsf, nsd, _⟩ := sdhKeys_apart p
  have h2 : FrameStep s1 (s1.updPort p (sdhAligned a)) p (sdhKeys p) codes _ := .updPort s1 p _ _ _
  have halign2 : ((s1.updPort p (sdhAligned a)).sdh p).align = a := congrArg (fun y : PortSt => y.sdh.align) h2.2.1
  have hrow : s.sdhReceive p f = (let s2 := s1.updSdh p fun x => { x with
        align := x.align.frame 4 24 f.patternOk, sf := { x.sf with len := x.sf.len + 1 }
        sd := { x.sd with len := x.sd.len + 1 } }
      ((s2.alignRules p (s.sdh p).align.inFrame (s2.sdh p).align).lineSfEnd p).lineSdEnd p) := by
    refine (if_neg (by simp [State.hasStm, hsdh])).trans ?_
    dsimp only
    rw [h1]
    rfl
  have hupd : (s1.updSdh p fun x => { x with
        align := x.align.frame 4 24 f.patternOk, sf := { x.sf with len := x.sf.len + 1 }
        sd := { x.sd with len := x.sd.len + 1 } }) = s1.updPort p (sdhAligned a) := by
    have hold : (s1.port p).sdh.align = (s.sdh p).align := halign
    change s1.setPort p { s1.port p with sdh := { (s1.port p).sdh with
      align := (s1.port p).sdh.align.frame 4 24 f.patternOk, sf := { (s1.port p).sdh.sf with len := (s1.port p).sdh.sf.len + 1 }
      sd := { (s1.port p).sdh.sd with len := (s1.port p).sdh.sd.len + 1 } } } = _
    rw [hold]
    rfl
  dsimp only at hrow
  rw [hupd, halign2] at hrow
  generalize s1.updPort p (sdhAligned a) = s2 at h2 hrow
  obtain ⟨h3, _⟩ := s2.alignRules_shows p (s.sdh p).align.inFrame a (h2.isSdh.trans (hstep.isSdh.trans hsdh))
  have h3' := h3.mono (js := sdhKeys p) (by simp [sdhKeys]) (List.Subset.refl _)
  have hget : ∀ k, k ∉ sdhKeys p → noteReg k = false → ∀ g,
      (s2.alignRules p (s.sdh p).align.inFrame a).get k g = s.get k g := fun k hk hn g =>
    (h3'.get hk hn g).trans ((h2.get hk hn g).trans (hstep.get hk hn g))
  rw [hrow]
  exact State.windowsEnd_off _ p ((hget _ ksf nsf _).trans hsf) ((hget _ ksd nsd _).trans hsd)

/-! ### The two kinds of frame -/

theorem State.isAlf_of_isSdh {s : State} {p : Nat} (h : s.isSdh p = true) : s.isAlf p = false := by
  unfold State.isSdh at h
  unfold State.isAlf
  simp only [Bool.or_eq_true, beq_iff_eq] at h
  rcases h with h | h <;> rw [h] <;> rfl

/-- A frame that began out of frame on a port without paths. -/
theorem State.oofFrame_shows (s : State) (p : Port) (hheads : s.heads p = []) (ks codes : List Nat) :
    let x := s.oofFrame p
    FrameStep s x p ks codes (fun y => { y with cnts := (x.port p).cnts, sdh := { y.sdh with lastB2 := 0 } }) ∧
    CountsUp s x p 3 1 := by
  intro x
  have h1 := s.countPort_step p 1 (k := 3) (by decide) ks codes
  obtain ⟨hc, _⟩ := s.countPort_counts p 1 (k := 3) (by decide)
  have hx : x = (let s1 := ((s.countPort p 3 1).errBlocks (layKey p 5 0 0 0 0) false 1).errBlocks (layKey p 5 0 0 0 1) false 1
      (s1.each (s1.heads p) fun s h => (s.errBlocks (layKey p 1 h 0 0 0) false 1).updPath (pathKey p h) fun x =>
        { x with lastB3 := 0 }).updPort p fun y => { y with sdh := { y.sdh with lastB2 := 0 } }) := rfl
  dsimp only at hx
  generalize s.countPort p 3 1 = z at h1 hc hx
  have hpm := (z.errBlocks_onlyPm (layKey p 5 0 0 0 0) false 1).trans
    (State.errBlocks_onlyPm (z.errBlocks (layKey p 5 0 0 0 0) false 1) (layKey p 5 0 0 0 1) false 1)
  generalize (z.errBlocks (layKey p 5 0 0 0 0) false 1).errBlocks (layKey p 5 0 0 0 1) false 1 = w at hpm hx
  have h2 := h1.trans (.ofPm hpm p ks codes)
  have hpaths : w.heads p = [] := by
    rw [State.heads, h2.1.paths]
    exact hheads
  rw [hpaths] at hx
  replace hx : x = w.updPort p fun y => { y with sdh := { y.sdh with lastB2 := 0 } } := hx
  have h3 : FrameStep w x p ks codes (fun y => { y with sdh := { y.sdh with lastB2 := 0 } }) := by
    rw [hx]
    exact .updPort w p _ _ _
  have h4 := h2.trans h3
  have hcnts : (x.port p).cnts = (z.port p).cnts := by rw [h4.2.1]; rfl
  refine ⟨⟨h4.1, ?_, h4.2.2⟩, hc.kept (by rw [hcnts])⟩
  rw [hcnts]
  exact h4.2.1

/-- The boundary at which a frame arrives. -/
def countedFrame (y : PortSt) : PortSt := { y with pfn := (y.pfn + 1) % 2 ^ 32 }

/-- A received frame of a plain SDH or SONET port, by what its bytes leave. -/
theorem State.sdhArrives_plain (s : State) (p : Port) (f : SdhRx) (hplain : s.plainPort p) (hsdh : s.isSdh p = true)
    (hmsp : s.mspOf p = none) (hsf : s.get (SDH_SF_CFG.key p) SDH_SF_CFG.WINDOW = 0)
    (hsd : s.get (SDH_SD_CFG.key p) SDH_SD_CFG.WINDOW = 0) {s1 : State} {ks codes : List Nat} {g : PortSt → PortSt}
    (h1 : (if (s.sdh p).align.inFrame then (s.updPort p countedFrame).inFrame p f else (s.updPort p countedFrame).oofFrame p) = s1)
    (hstep : FrameStep (s.updPort p countedFrame) s1 p ks codes g) (hks : ks ⊆ sdhKeys p) (hstat : SDH_STATUS.key p ∈ ks)
    (hoof : dOOF ∉ codes) (hlof : dLOF ∉ codes) (halign : (s1.sdh p).align = (s.sdh p).align) :
    let a := (s.sdh p).align.frame 4 24 f.patternOk
    let x := s.sdhArrives p f
    (PortWork s x p ks ∧
      x.decided (condPort p dOOF) = (if (s.sdh p).align.inFrame || a.inFrame then !a.inFrame else s.decided (condPort p dOOF)) ∧
      x.decided (condPort p dLOF) = (if !a.inFrame && decide (24 ≤ a.oofRun) then true
        else if a.inFrame && decide (24 ≤ a.inRun) then false else s.decided (condPort p dLOF))) ∧
    FrameStep s1 x p [SDH_STATUS.key p] [dOOF, dLOF] (sdhAligned a) := by
  intro a x
  have h0 : FrameStep s (s.updPort p countedFrame) p ks codes countedFrame := .updPort s p _ _ _
  have hsame : ((s.updPort p countedFrame).sdh p).align = (s.sdh p).align :=
    by rw [State.sdh, h0.2.1]; rfl
  have hx : x = ((s.updPort p countedFrame).sdhReceive p f).fopFrame p := by
    refine congrArg (fun z : State => (z.sdhReceive p f).fopFrame p) ((if_pos hsdh).trans ?_)
    exact s.frameStart_plain hplain (State.isAlf_of_isSdh hsdh)
  generalize s.updPort p countedFrame = s0 at h0 hsame hx h1 hstep
  have h0' := h0.mono hks (List.Subset.refl _)
  have hsdh0 : s0.isSdh p = true := h0'.isSdh.trans hsdh
  obtain ⟨⟨_, _, ksf, ksd, _⟩, _, _, nsf, nsd, _⟩ := sdhKeys_apart p
  have hrow := s0.sdhReceive_plain f hsdh0 (s1 := s1) (by rw [hsame]; exact h1) (halign.trans hsame.symm)
    (hstep.mono hks (List.Subset.refl _)) ((h0'.get ksf nsf _).trans hsf) ((h0'.get ksd nsd _).trans hsd)
  dsimp only at hrow
  rw [hsame] at hrow
  rw [hrow] at hx
  have h2 : FrameStep s1 (s1.updPort p (sdhAligned a)) p [SDH_STATUS.key p] [dOOF, dLOF] (sdhAligned a) := .updPort s1 p _ _ _
  have hsdh1 := (hstep.mono hks (List.Subset.refl _)).isSdh.trans hsdh0
  change x = ((s1.updPort p (sdhAligned a)).alignRules p (s.sdh p).align.inFrame a).fopFrame p at hx
  have hdec2 : ∀ c, (s1.updPort p (sdhAligned a)).decided c = s1.decided c := fun _ => rfl
  have hsdh2 : (s1.updPort p (sdhAligned a)).isSdh p = true := hsdh1
  generalize s1.updPort p (sdhAligned a) = s2 at h2 hdec2 hsdh2 hx
  obtain ⟨h3, hOof, hLof⟩ := s2.alignRules_shows p (s.sdh p).align.inFrame a hsdh2
  generalize s2.alignRules p (s.sdh p).align.inFrame a = s3 at h3 hOof hLof hx
  have hstat' : [SDH_STATUS.key p] ⊆ ks := List.cons_subset.mpr ⟨hstat, List.nil_subset _⟩
  have hwork : PortWork s s3 p ks := (((h0.1.trans hstep.1).trans (h2.1.mono hstat')).trans (h3.1.mono hstat'))
  have hfop : s3.fopFrame p = s3 := by
    have hnone : s3.mspOf p = none := by
      rw [State.mspOf, hwork.prot]
      exact hmsp
    unfold State.fopFrame
    rw [hnone]
  rw [hfop] at hx
  have hdec : ∀ code, code ∉ codes → s2.decided (condPort p code) = s.decided (condPort p code) := fun code hc =>
    (hdec2 _).trans ((hstep.2.2 code hc).trans (h0.2.2 code hc))
  rw [hx]
  refine ⟨⟨hwork, ?_, ?_⟩, h2.trans h3⟩
  · rw [hOof, hdec _ hoof]
  · rw [hLof, hdec _ hlof]

end Sys2Proof.Machine

open Sys2Proof Sys2Proof.Machine

/-- Settles O47: the boundary, the bytes of the frame, and the alignment after it. -/
theorem sdhFrames : Obligations.SdhFrames := by
  intro s p f hcarry hplain hsdh hmsp hheads hmode hrs hms hsf hsd o a bits b2 rei val aligned
  have hexec : exec (.sdhFrameReceive p f) s = .next (s.sdhArrives p f).settle := by
    rw [← State.datapath_carrying hcarry fun s => s.sdhArrives p f]
    rfl
  have hport0 : (s.updPort p countedFrame).port p = countedFrame (s.port p) := by
    rw [State.port_updPort, if_pos rfl]
  refine ⟨fun hout => answers_of hexec ?_, fun hin hpaths => answers_of hexec ?_⟩
  · obtain ⟨h1, hc⟩ := (s.updPort p countedFrame).oofFrame_shows p hheads [SDH_STATUS.key p] []
    have hafter : ((if (s.sdh p).align.inFrame then (s.updPort p countedFrame).inFrame p f
        else (s.updPort p countedFrame).oofFrame p) : State) = (s.updPort p countedFrame).oofFrame p :=
      if_neg (by rw [show (s.sdh p).align.inFrame = false from hout]; exact Bool.false_ne_true)
    generalize hs1 : (s.updPort p countedFrame).oofFrame p = s1 at h1 hc
    have hs1port : s1.port p = _ := h1.2.1
    rw [hport0] at hs1port
    obtain ⟨hleaves, h2⟩ := s.sdhArrives_plain p f hplain hsdh hmsp hsf hsd (hafter.trans hs1) h1 (by simp [sdhKeys]) (by simp)
      (by simp) (by simp) (by rw [State.sdh, hs1port]; rfl)
    obtain ⟨hwork, halign⟩ := hleaves
    have hcnts : ((s.sdhArrives p f).port p).cnts = (s1.port p).cnts := by rw [h2.2.1]; rfl
    refine ⟨hwork, halign, (CountsUp.since (s := s) hc (by rw [hport0]; rfl) rfl).kept (by rw [hcnts]), ?_⟩
    rw [hcnts, h2.2.1, hs1port]
    rfl
  · obtain ⟨⟨hwork1, hport1, hdec1⟩, ⟨c0, c1, c2⟩, hJ0, hTim, hS1, hK⟩ :=
      (s.updPort p countedFrame).inFrame_shows p f hsdh hpaths hmode hrs hms
    have hsame : (s.updPort p countedFrame).sdh p = o := by rw [State.sdh, hport0]; rfl
    have hafter : ((if (s.sdh p).align.inFrame then (s.updPort p countedFrame).inFrame p f
        else (s.updPort p countedFrame).oofFrame p) : State) = (s.updPort p countedFrame).inFrame p f := if_pos hin
    have hcount : ∀ {k n u}, CountsUp (s.updPort p countedFrame) u p k n → CountsUp s u p k n := fun h =>
      h.since (by rw [hport0]; rfl) rfl
    dsimp only at hwork1 hport1 hdec1 c0 c1 c2 hJ0 hTim hS1 hK
    rw [hsame] at hport1 hS1 hK
    rw [hport0] at hport1
    generalize hs1 : (s.updPort p countedFrame).inFrame p f = s1 at hwork1 hport1 hdec1 c0 c1 c2 hJ0 hTim hS1 hK
    have h1 : FrameStep (s.updPort p countedFrame) s1 p (sdhKeys p) [dAIS_L, dRDI_L, dTIM_S] (fun _ => s1.port p) :=
      ⟨hwork1, rfl, hdec1⟩
    obtain ⟨hleaves, h2⟩ := s.sdhArrives_plain p f hplain hsdh hmsp hsf hsd (hafter.trans hs1) h1 (List.Subset.refl _)
      (by simp [sdhKeys]) (by decide) (by decide) (by rw [State.sdh, hport1])
    obtain ⟨hwork, halign⟩ := hleaves
    have hcnts : ((s.sdhArrives p f).port p).cnts = (s1.port p).cnts := by rw [h2.2.1]; rfl
    have hport : (s.sdhArrives p f).port p = sdhAligned (o.align.frame 4 24 f.patternOk) (s1.port p) := h2.2.1
    obtain ⟨⟨_, _, _, _, _, hoh⟩, _, _, _, _, hnote, _⟩ := sdhKeys_apart p
    have hget : ∀ g, (s.sdhArrives p f).get (SDH_RX_OH.key p) g = s1.get (SDH_RX_OH.key p) g := fun g => h2.get hoh hnote g
    refine ⟨hwork, halign, (hcount c0).kept (by rw [hcnts]), (hcount c1).kept (by rw [hcnts]),
      (hcount c2).kept (by rw [hcnts]), ?_, (hget _).trans hJ0, (h2.2.2 _ (by decide)).trans hTim, ?_, ?_⟩
    · rw [hcnts, hport, hport1]
      rfl
    · intro v hv hlt
      rw [State.sdh, hport, hport1] at hv
      exact (hget _).trans (hS1 v hv hlt)
    · intro v hv hne hlt
      rw [State.sdh, hport, hport1] at hv
      obtain ⟨g1, g2, g3⟩ := hK v hv hne hlt
      exact ⟨(hget _).trans g1, (hget _).trans g2, h2.1.2.2.subset g3⟩
end

section
/-! PROOF. Eye margins, smoke test rounds and power domains (R425, R428, R431, R442, R443). -/

namespace Sys2Proof.Machine

/-! ### Domain bits -/

/-- The registers of the power domains, Table 18-12. -/
def domainReg (k : Nat) : Bool := decide (4352 ≤ k ∧ k < 4416)

theorem domainReg_up (d : Fin 137) : domainReg (HLT_DOMAIN_UP.key (d.val / 32)) = true ∧
    domainReg (HLT_DOMAIN_REJ.key (d.val / 32)) = true ∧ HLT_DOMAIN_UP.key (d.val / 32) ≠ HLT_DOMAIN_REJ.key (d.val / 32) ∧
    reportReg (HLT_DOMAIN_UP.key (d.val / 32)) = false ∧ noteReg (HLT_DOMAIN_UP.key (d.val / 32)) = false ∧
    noteReg (HLT_DOMAIN_REJ.key (d.val / 32)) = false := by
  revert d
  decide +kernel

/-- A domain bit that was set stands. -/
theorem State.domainBit_setDomainBit (s : State) (k : Nat → Nat) (d : Nat) :
    (s.setDomainBit k d true).domainBit k d = true := by
  unfold State.domainBit State.setDomainBit
  rw [State.rd_wr_same, BitVec.getLsbD_ofNat, putBits_testBit, if_neg (lt_irrefl _), if_pos (Nat.lt_succ_self _)]
  simp [Nat.mod_lt, bit]

theorem State.domainBit_of_rd {s x : State} {k : Nat → Nat} {d : Nat} (h : x.rd (k (d / 32)) = s.rd (k (d / 32))) :
    x.domainBit k d = s.domainBit k d := by rw [State.domainBit, State.domainBit, h]

/-! ### Grades -/

/-- `x` is `s` but for grades, and the registers that show them; those of the power domains stay. -/
def Graded (s x : State) : Prop :=
  x = { s with regs := x.regs, health := { s.health with grades := x.health.grades } } ∧
  ∀ k, domainReg k = true → x.rd k = s.rd k

theorem Graded.refl (s : State) : Graded s s := ⟨rfl, fun _ _ => rfl⟩

theorem Graded.trans {s t u : State} (h1 : Graded s t) (h2 : Graded t u) : Graded s u := by
  refine ⟨?_, fun k hk => (h2.2 k hk).trans (h1.2 k hk)⟩
  obtain ⟨e1, _⟩ := h1
  obtain ⟨e2, _⟩ := h2
  generalize u.regs = r, u.health.grades = g at e2 ⊢
  subst e2
  rw [e1]

theorem Graded.put (s : State) {k : Nat} (f : Fld) (v : Nat) (h : domainReg k = false) : Graded s (s.put k f v) := by
  refine ⟨rfl, fun j hj => State.rd_put_other _ _ _ _ _ ?_⟩
  rintro rfl
  rw [h] at hj
  exact absurd hj Bool.false_ne_true

theorem domainReg_laneSpare (u : Nat) : domainReg (LAN_SPARE.key u) = false := by
  unfold domainReg LAN_SPARE.key
  exact decide_eq_false (by omega)

theorem domainReg_bank (u : Nat) : domainReg (STK_BANK.key u) = false := by
  unfold domainReg STK_BANK.key
  exact decide_eq_false (by omega)

theorem domainReg_blockMap {u : Nat} (h : u < 40) : domainReg (SYS_BLOCK_MAP.key u) = false := by
  unfold domainReg SYS_BLOCK_MAP.key
  exact decide_eq_false (by omega)

/-- A block that serves a position serves one of the positions asked for. -/
theorem State.servedPos_lt {s : State} {base count n k : Nat} (h : s.servedPos base count n = some k) : k < count :=
  List.mem_range.mp (List.mem_of_find?_eq_some h)

theorem State.showGrade_onlyRegs (s : State) (u v : Nat) : Graded s (s.showGrade u v) ∧ (s.showGrade u v).health = s.health := by
  unfold State.showGrade
  split
  · exact ⟨.put s _ _ (domainReg_laneSpare u), rfl⟩
  split
  · split
    next k hk => exact ⟨.put s _ _ (domainReg_blockMap (by have := State.servedPos_lt hk; omega)), rfl⟩
    next => exact ⟨.refl s, rfl⟩
  split
  · split
    next k hk =>
      have hlt : 24 + k < 40 := by have := State.servedPos_lt hk; omega
      exact ⟨.put s _ _ (domainReg_blockMap hlt), rfl⟩
    next => exact ⟨.refl s, rfl⟩
  split
  · exact ⟨.put s _ _ (by decide), rfl⟩
  split
  · generalize u - 400 = i
    exact ⟨.put s _ _ (domainReg_bank i), rfl⟩
  split
  · exact ⟨.put s _ _ (by decide), rfl⟩
  · exact ⟨.put s _ _ (by decide), rfl⟩

theorem State.setGrade_shows (s : State) (u v : Nat) :
    Graded s (s.setGrade u v) ∧ (s.setGrade u v).health = { s.health with grades := s.health.grades.store u v 0 } := by
  obtain ⟨hg, hh⟩ := (s.updHealth fun h => { h with grades := h.grades.store u v 0 }).showGrade_onlyRegs u v
  have h1 : Graded s (s.updHealth fun h => { h with grades := h.grades.store u v 0 }) := ⟨rfl, fun _ _ => rfl⟩
  exact ⟨h1.trans hg, hh⟩

/-- A unit's grade after a test, and every other as it was. -/
theorem State.grade_setGrade (s : State) (u v g : Nat) :
    (s.setGrade u v).grade g = if g = u then v else s.grade g := by
  rw [State.grade, (s.setGrade_shows u v).2]
  exact Tbl.getD_store ..

/-! ### Tests and rounds -/

/-- A unit's test in a round. -/
theorem State.testDone_shows (s : State) (u : TestUnit) (r : TestOutcome) (ht : s.tested u = true)
    (hrun : s.on HLT_STATUS.key HLT_STATUS.RUNNING = true) :
    let x := s.testDone u r
    x = { s with regs := x.regs, health := { s.health with grades := x.health.grades, failedUnits := x.health.failedUnits } } ∧
    x.grade (testGrade u) = gradeOf u r ∧ (∀ g, g ≠ testGrade u → x.grade g = s.grade g) ∧
    (testFails u r = true → testName u ∈ x.health.failedUnits) ∧
    (testFails u r = false → x.health.failedUnits = s.health.failedUnits) := by
  intro x
  have hruns : s.roundRuns = true := hrun
  obtain ⟨⟨hg, _⟩, hh⟩ := s.setGrade_shows (testGrade u) (gradeOf u r)
  have hgrade := s.grade_setGrade (testGrade u) (gradeOf u r)
  have hx : x = if testFails u r && s.roundRuns &&
      !(s.setGrade (testGrade u) (gradeOf u r)).health.failedUnits.contains (testName u) then
        (s.setGrade (testGrade u) (gradeOf u r)).updHealth fun h => { h with failedUnits := h.failedUnits ++ [testName u] }
      else s.setGrade (testGrade u) (gradeOf u r) := if_neg (by simp [ht, hruns])
  have hsame : (s.setGrade (testGrade u) (gradeOf u r)).health.failedUnits = s.health.failedUnits := by rw [hh]
  rw [hruns, Bool.and_true, hsame] at hx
  generalize s.setGrade (testGrade u) (gradeOf u r) = y at hg hh hgrade hx hsame
  have hown : y.grade (testGrade u) = gradeOf u r := (hgrade _).trans (if_pos rfl)
  have hother : ∀ g, g ≠ testGrade u → y.grade g = s.grade g := fun g h => (hgrade g).trans (if_neg h)
  by_cases hc : (testFails u r && !s.health.failedUnits.contains (testName u)) = true
  · rw [if_pos hc] at hx
    rw [Bool.and_eq_true] at hc
    rw [hx]
    refine ⟨?_, hown, hother, fun _ => List.mem_append_right _ (List.mem_singleton.mpr rfl), fun h => ?_⟩
    · change y.updHealth _ = { s with regs := y.regs, health := { s.health with
        grades := y.health.grades, failedUnits := y.health.failedUnits ++ [testName u] } }
      rw [hsame]
      exact congrArg (fun z : State => z.updHealth fun h => { h with failedUnits := h.failedUnits ++ [testName u] }) hg
    · rw [hc.1] at h
      exact absurd h Bool.noConfusion
  · rw [if_neg hc] at hx
    rw [hx]
    refine ⟨?_, hown, hother, fun h => ?_, fun _ => hsame⟩
    · rw [hsame]
      exact hg
    · rw [hsame]
      simpa [h] using hc

/-- A round that is due starts. -/
theorem State.roundStart_first (s : State) (hboot : s.dev.boot = .running)
    (hrun : s.on HLT_STATUS.key HLT_STATUS.RUNNING = false) (hfirst : s.health.everRound = false) :
    s.roundStart = (s.put HLT_STATUS.key HLT_STATUS.RUNNING 1).updHealth fun h => { h with failedUnits := [] } :=
  if_pos (by simp [State.roundDue, State.roundRuns, hboot, hrun, hfirst])

/-! ### The device grade -/

theorem deviceGrade_regs : (∀ i, i < 8 → reportReg (HLT_DOMAIN_UP.key (domEngine i / 32)) = false ∧
      HLT_DOMAIN_UP.key (domEngine i / 32) ∉ [HLT_STATUS.key] ∧ noteReg (HLT_DOMAIN_UP.key (domEngine i / 32)) = false ∧
      HLT_DOMAIN_REJ.key (domEngine i / 32) ∉ [HLT_STATUS.key] ∧ noteReg (HLT_DOMAIN_REJ.key (domEngine i / 32)) = false) ∧
    ∀ i, i < 40 → SYS_BLOCK_MAP.key i ∉ [HLT_STATUS.key] ∧ noteReg (SYS_BLOCK_MAP.key i) = false := by
  decide +kernel

/-- The device grade reads domains, block states and grades, and none of HLT_STATUS. -/
theorem Noted.deviceGrade {s x : State} (h : Noted s x [HLT_STATUS.key]) : x.deviceGrade = s.deviceGrade := by
  obtain ⟨hdom, hmap⟩ := deviceGrade_regs
  have hhealth : x.health = s.health := by rw [h.1]
  have hgrade : ∀ g, x.grade g = s.grade g := fun g => by rw [State.grade, State.grade, hhealth]
  have hready : ∀ i, i < 8 → x.domainReady (domEngine i) = s.domainReady (domEngine i) := fun i hi => by
    obtain ⟨_, hu, nu, hr, nr⟩ := hdom i hi
    have e1 : x.domainUp (domEngine i) = s.domainUp (domEngine i) := State.domainBit_of_rd (h.rd hu nu)
    have e2 : x.rejoined (domEngine i) = s.rejoined (domEngine i) := State.domainBit_of_rd (h.rd hr nr)
    rw [State.domainReady, State.domainReady, e1, e2]
  have hslice : x.grate = s.grate := by rw [h.1]
  have hblock : ∀ i, i < 40 → x.blockState i = s.blockState i := fun i hi => h.get (hmap i hi).1 (hmap i hi).2 _
  have hphys : ∀ i, i < 40 → x.physOf i = s.physOf i := fun i hi =>
    h.get (hmap i hi).1 (hmap i hi).2 _
  have hengines : ((List.range 8).filter fun e => x.domainReady (domEngine e)) =
      (List.range 8).filter fun e => s.domainReady (domEngine e) :=
    List.filter_congr fun i hi => hready i (List.mem_range.mp hi)
  have hframers : ((List.range 24).filter fun n => x.blockState n ≠ 3).map (fun n => s.grade (gFramer (x.physOf n))) =
      ((List.range 24).filter fun n => s.blockState n ≠ 3).map fun n => s.grade (gFramer (s.physOf n)) := by
    rw [List.filter_congr (q := fun n => decide (s.blockState n ≠ 3)) fun i hi => by
      rw [hblock i (lt_trans (List.mem_range.mp hi) (by decide))]]
    refine List.map_congr_left fun i hi => ?_
    rw [hphys i (lt_trans (List.mem_range.mp (List.mem_of_mem_filter hi)) (by decide))]
  have hmappers : ((List.range 16).filter fun n => x.blockState (24 + n) ≠ 3).map (fun n => s.grade (gMapper (x.physOf (24 + n)))) =
      ((List.range 16).filter fun n => s.blockState (24 + n) ≠ 3).map fun n => s.grade (gMapper (s.physOf (24 + n))) := by
    have hlt : ∀ i ∈ List.range 16, 24 + i < 40 := fun i hi => by have := List.mem_range.mp hi; omega
    rw [List.filter_congr (q := fun n => decide (s.blockState (24 + n) ≠ 3)) fun i hi => by rw [hblock _ (hlt i hi)]]
    refine List.map_congr_left fun i hi => ?_
    rw [hphys _ (hlt i (List.mem_of_mem_filter hi))]
  unfold State.deviceGrade
  dsimp only
  rw [hslice, hengines]
  simp only [hgrade]
  rw [hframers, hmappers]

/-- What the end of a round leaves of the health record. -/
def roundEnded (s : State) (h : HealthSt) : HealthSt :=
  { h with everRound := true, roundEnd := some s.dev.ticks, failedUnits := [] }

theorem State.deviceGrade_roundEnded (s y : State) : (s.updHealth (roundEnded y)).deviceGrade = s.deviceGrade := rfl

/-- The steps of a round's end with no failed unit, out of a pair. -/
theorem State.roundDone_eq (s : State) (hrun : s.on HLT_STATUS.key HLT_STATUS.RUNNING = true)
    (hbad : s.health.failedUnits = []) (hpair : s.inPair = false) {y : State}
    (hy : y = ((s.put HLT_STATUS.key HLT_STATUS.RUNNING 0).put HLT_STATUS.key HLT_STATUS.ROUND
      (s.get HLT_STATUS.key HLT_STATUS.ROUND + 1)).event 358 0x80 true 0) (hnoted : Noted s y [HLT_STATUS.key]) :
    s.roundDone = (y.put HLT_STATUS.key HLT_STATUS.DEVICE_GRADE s.deviceGrade).updHealth (roundEnded s) := by
  have hruns : ¬ s.roundRuns = false := by rw [State.roundRuns, hrun]; exact Bool.noConfusion
  have hrow : s.roundDone = (let s5 := y.updHealth (roundEnded s)
      (s5.put HLT_STATUS.key HLT_STATUS.DEVICE_GRADE s5.deviceGrade).returnStep (some true)) := by
    refine (if_neg hruns).trans ?_
    rw [hbad]
    dsimp only
    rw [if_pos rfl, ← hy]
    rfl
  have hout : (y.put HLT_STATUS.key HLT_STATUS.DEVICE_GRADE s.deviceGrade).inPair = false := by
    have hn : Noted s (y.put HLT_STATUS.key HLT_STATUS.DEVICE_GRADE s.deviceGrade) [HLT_STATUS.key] :=
      hnoted.trans (.put y _ _ _ (List.mem_singleton.mpr rfl))
    exact (hn.on (by decide) (by decide) _).trans hpair
  dsimp only at hrow
  rw [State.deviceGrade_roundEnded, hnoted.deviceGrade] at hrow
  exact hrow.trans (if_pos hout)

/-- A round that found nothing, out of a pair, completes. -/
theorem State.roundDone_clean (s : State) (hrun : s.on HLT_STATUS.key HLT_STATUS.RUNNING = true)
    (hbad : s.health.failedUnits = []) (hpair : s.inPair = false) :
    let x := s.roundDone
    (∃ y, Noted s y [HLT_STATUS.key] ∧
      x = { y with health := { s.health with everRound := true, roundEnd := some s.dev.ticks } }) ∧
    x.on HLT_STATUS.key HLT_STATUS.RUNNING = false ∧
    x.get HLT_STATUS.key HLT_STATUS.ROUND = (s.get HLT_STATUS.key HLT_STATUS.ROUND + 1) % 2 ^ HLT_STATUS.ROUND.width ∧
    x.get HLT_STATUS.key HLT_STATUS.DEVICE_GRADE = s.deviceGrade % 2 ^ HLT_STATUS.DEVICE_GRADE.width ∧
    x.raised 358 0x80 true := by
  intro x
  have h1 : Noted s (s.put HLT_STATUS.key HLT_STATUS.RUNNING 0) [HLT_STATUS.key] := .put s _ _ _ (by simp)
  have r1 : (s.put HLT_STATUS.key HLT_STATUS.RUNNING 0).get HLT_STATUS.key HLT_STATUS.RUNNING = 0 :=
    State.get_put_same s _ _ _ (by decide)
  have hx := fun y => s.roundDone_eq hrun hbad hpair (y := y)
  generalize s.put HLT_STATUS.key HLT_STATUS.RUNNING 0 = s1 at h1 r1 hx
  generalize s.get HLT_STATUS.key HLT_STATUS.ROUND + 1 = n at hx ⊢
  have h2 : Noted s1 (s1.put HLT_STATUS.key HLT_STATUS.ROUND n) [HLT_STATUS.key] := .put s1 _ _ _ (by simp)
  have r2 : (s1.put HLT_STATUS.key HLT_STATUS.ROUND n).get HLT_STATUS.key HLT_STATUS.RUNNING = 0 :=
    (State.get_put_field s1 _ _ _ _ (by decide) (by decide)).trans r1
  have n2 : (s1.put HLT_STATUS.key HLT_STATUS.ROUND n).get HLT_STATUS.key HLT_STATUS.ROUND = n % 2 ^ HLT_STATUS.ROUND.width :=
    State.get_put_same s1 _ _ _ (by decide)
  generalize s1.put HLT_STATUS.key HLT_STATUS.ROUND n = s2 at h2 r2 n2 hx
  have h3 : Noted s2 (s2.event 358 0x80 true 0) [HLT_STATUS.key] := .event s2 _ _ _ _ (by decide) _
  have hraised : (s2.event 358 0x80 true 0).raised 358 0x80 true := s2.raised_event _ _ _ _ (by decide)
  have hevent : ∀ g, (s2.event 358 0x80 true 0).get HLT_STATUS.key g = s2.get HLT_STATUS.key g := fun g =>
    (Noted.event s2 358 0x80 true 0 (by decide) []).get (by simp) (by decide) g
  have hy := hx _ rfl ((h1.trans h2).trans h3)
  generalize s2.event 358 0x80 true 0 = y at h3 hraised hevent hy
  have h4 : Noted y (y.put HLT_STATUS.key HLT_STATUS.DEVICE_GRADE s.deviceGrade) [HLT_STATUS.key] := .put y _ _ _ (by simp)
  have hkeep : ∀ g : Fld, g.lo + g.width ≤ 32 → (g.lo + g.width ≤ HLT_STATUS.DEVICE_GRADE.lo ∨
      HLT_STATUS.DEVICE_GRADE.lo + HLT_STATUS.DEVICE_GRADE.width ≤ g.lo) →
      (y.put HLT_STATUS.key HLT_STATUS.DEVICE_GRADE s.deviceGrade).get HLT_STATUS.key g = s2.get HLT_STATUS.key g :=
    fun g hg hd => (State.get_put_field y _ _ _ g hg hd).trans (hevent g)
  have hgrade : (y.put HLT_STATUS.key HLT_STATUS.DEVICE_GRADE s.deviceGrade).get HLT_STATUS.key HLT_STATUS.DEVICE_GRADE =
      s.deviceGrade % 2 ^ HLT_STATUS.DEVICE_GRADE.width := State.get_put_same y _ _ _ (by decide)
  generalize y.put HLT_STATUS.key HLT_STATUS.DEVICE_GRADE s.deviceGrade = z at h4 hkeep hgrade hy
  have hall := ((h1.trans h2).trans h3).trans h4
  rw [show x = z.updHealth (roundEnded s) from hy]
  refine ⟨⟨z, hall, ?_⟩, ?_, (hkeep _ (by decide) (by decide)).trans n2, hgrade, h4.raised_kept hraised⟩
  · have hhealth : z.health = s.health := by rw [hall.1]
    rw [State.updHealth, hhealth, roundEnded, ← hbad]
  · exact decide_eq_false (by rw [show (z.updHealth (roundEnded s)).get _ _ = _ from (hkeep HLT_STATUS.RUNNING (by decide) (by decide)).trans r2]; decide)

/-! ### Domains -/

theorem Graded.each {α : Type} {f : State → α → State} (h : ∀ s a, Graded s (f s a)) (s : State) (xs : List α) :
    Graded s (s.each xs f) := State.each_rel Graded.refl Graded.trans h s xs

/-- The block of a domain has an entry in the block map. -/
theorem State.domainIndex_lt {s : State} {d i : Nat} (h : s.domainIndex d = some i) : i < 40 := by
  unfold State.domainIndex at h
  split at h
  · exact lt_trans (State.servedPos_lt h) (by decide)
  split at h
  · obtain ⟨k, hk, rfl⟩ := Option.map_eq_some_iff.mp h
    have := State.servedPos_lt hk
    omega
  · cases h

/-- A domain comes up: its bit is set, its units are ungraded. -/
theorem State.powerUp_shows (s : State) (d : Nat) :
    (∃ y, y = s.setDomainBit HLT_DOMAIN_UP.key d true ∧ Graded y (s.powerUp d)) ∧
    s.powerUp d = { s with regs := (s.powerUp d).regs, health := { s.health with grades := (s.powerUp d).health.grades } } := by
  have h1 := Graded.each (f := fun s u => s.setGrade u 0) (fun z u => (z.setGrade_shows u 0).1)
    (s.setDomainBit HLT_DOMAIN_UP.key d true) (domainGrades d)
  have hx : s.powerUp d = (let s1 := (s.setDomainBit HLT_DOMAIN_UP.key d true).each (domainGrades d) fun s u => s.setGrade u 0
    match s1.domainIndex d with
    | some i => if s1.blockState i = 3 then s1.setBlockState i 0 else s1
    | none => s1) := rfl
  dsimp only at hx
  generalize ((s.setDomainBit HLT_DOMAIN_UP.key d true).each (domainGrades d) fun s u => s.setGrade u 0) = s1 at h1 hx
  have h2 : Graded s1 (s.powerUp d) := by
    rw [hx]
    split
    next i hi =>
      split
      · exact .put s1 _ _ (domainReg_blockMap (State.domainIndex_lt hi))
      · exact .refl s1
    next => exact .refl s1
  have h3 := h1.trans h2
  exact ⟨⟨_, rfl, h3⟩, h3.1⟩

/-- A domain that a running POWER_DOMAIN brings up. -/
theorem State.domainRises_shows (s : State) (d : Fin 137) (hrun : (s.running (resDomain d)).isSome) (hdown : s.domainUp d = false) :
    let x := s.domainRises d
    (∃ y z, y = { s with regs := y.regs, health := { s.health with grades := y.health.grades } } ∧ Noted y z [] ∧
      Reported (z.endLong (resDomain d)) x) ∧
    x.domainUp d = true ∧ x.running (resDomain d) = none ∧ x.raised 359 0x80 true := by
  intro x
  obtain ⟨hreg, _, _, hreport, hnote, _⟩ := domainReg_up d
  obtain ⟨⟨u, hu, hgraded⟩, hframe⟩ := s.powerUp_shows d
  have hx : x = ((s.powerUp d).event 359 0x80 true d).finishLong (resDomain d) stOK 0 [] := if_pos (by simp [hrun, hdown])
  have hup : (s.powerUp d).domainUp d = true :=
    (State.domainBit_of_rd (hgraded.2 _ hreg)).trans (hu ▸ s.domainBit_setDomainBit _ _)
  generalize s.powerUp d = y at hx hframe hup
  have hn : Noted y (y.event 359 0x80 true d) [] := .event y _ _ _ _ (by decide) _
  have hraised : (y.event 359 0x80 true d).raised 359 0x80 true := y.raised_event _ _ _ _ (by decide)
  have hupz : (y.event 359 0x80 true d).domainUp d = true := (State.domainBit_of_rd (hn.rd (by simp) hnote)).trans hup
  generalize y.event 359 0x80 true d = z at hx hn hraised hupz
  have hrep := z.finishLong_reported (resDomain d) stOK 0 []
  rw [← hx] at hrep
  refine ⟨⟨y, z, hframe, hn, hrep⟩, (State.domainBit_of_rd (hrep.rd hreport)).trans hupz, ?_, ?_⟩
  · exact (hrep.cmd_running_find _).trans (z.running_endLong _)
  · obtain ⟨e, he, hshows⟩ := hraised
    exact ⟨e, hrep.tick_mem he, hshows⟩

/-- The test of a domain that came up ends. -/
theorem State.domainJoins_shows (s : State) (d : Fin 137) (hup : s.domainUp d = true) (hrej : s.rejoined d = false) :
    let x := s.domainJoins d
    Noted s x [HLT_DOMAIN_REJ.key (d.val / 32)] ∧ x.domainReady d = true ∧ x.raised 359 0x81 true := by
  intro x
  obtain ⟨_, _, hne, _, hnu, hnr⟩ := domainReg_up d
  have hx : x = (s.setDomainBit HLT_DOMAIN_REJ.key d true).event 359 0x81 true d := if_pos (by simp [State.joining, hup, hrej])
  have h1 : Noted s (s.setDomainBit HLT_DOMAIN_REJ.key d true) [HLT_DOMAIN_REJ.key (d.val / 32)] :=
    .ofRegs (.wr s _ _ (List.mem_singleton.mpr rfl))
  have hset := s.domainBit_setDomainBit HLT_DOMAIN_REJ.key d
  have hupy : (s.setDomainBit HLT_DOMAIN_REJ.key d true).domainUp d = true :=
    (State.domainBit_of_rd (h1.rd (by simpa using hne) hnu)).trans hup
  generalize s.setDomainBit HLT_DOMAIN_REJ.key d true = y at hx h1 hset hupy
  have hn : Noted y (y.event 359 0x81 true d) [] := .event y _ _ _ _ (by decide) _
  rw [hx]
  refine ⟨h1.trans (hn.mono (List.nil_subset _)), ?_, y.raised_event _ _ _ _ (by decide)⟩
  have e1 : (y.event 359 0x81 true d).domainUp d = true := (State.domainBit_of_rd (hn.rd (by simp) hnu)).trans hupy
  have e2 : (y.event 359 0x81 true d).rejoined d = true := (State.domainBit_of_rd (hn.rd (by simp) hnr)).trans hset
  rw [State.domainReady, e1, e2]
  rfl

/-- The eye margins of a lane at the end of an hour. -/
theorem State.eyeHour_closes (s : State) (l : Nat) (mean : Nat)
    (h : ¬ (s.time.sfn % 28800000 ≠ 0 ∨ s.portCount ≤ l ∨ s.family (s.portOfLane l) = 0)) :
    let hours := (mean :: (s.port l).eyeHours).take 24
    let x := s.eyeHour l mean
    x = { s with ports := x.ports, arrivals := x.arrivals } ∧ (∀ q, q ≠ l → x.port q = s.port q) ∧
    x.port l = { s.port l with eyeHours := hours } ∧
    x.arrivals = s.arrivals ++ if eyeTrend (s.get HLT_CFG.key HLT_CFG.EYE_THR) hours then [.trigger (.lane l)] else [] := by
  intro hours x
  let s1 := s.updPort l fun y => { y with eyeHours := hours }
  have hx : x = if eyeTrend (s.get HLT_CFG.key HLT_CFG.EYE_THR) hours then s1.arrive (.trigger (.lane l)) else s1 := if_neg h
  have hother : ∀ q, q ≠ l → s1.port q = s.port q := fun q hq => by rw [State.port_updPort, if_neg hq]
  have hown : s1.port l = { s.port l with eyeHours := hours } := by rw [State.port_updPort, if_pos rfl]
  by_cases ht : eyeTrend (s.get HLT_CFG.key HLT_CFG.EYE_THR) hours = true
  · rw [if_pos ht] at hx ⊢
    rw [hx]
    exact ⟨rfl, hother, hown, rfl⟩
  · rw [if_neg ht] at hx ⊢
    rw [hx]
    exact ⟨rfl, hother, hown, (List.append_nil _).symm⟩

end Sys2Proof.Machine

open Sys2Proof Sys2Proof.Machine

/-- Settles O59: eye margins, the parts of a round, and the domains, each by its own lemma. -/
theorem smokeAndPower : Obligations.SmokeAndPower := by
  intro s
  refine ⟨fun l mean => ⟨fun h => ?_, fun h => ?_⟩, fun h => ?_, fun hboot hrun hfirst => ?_, fun u r h => ?_, fun u r ht hrun => ?_,
    fun h => ?_, fun hrun hbad hpair => ?_, fun d => ⟨fun h => ?_, fun hrun hdown => ?_, fun h => ?_, fun hup hrej => ?_⟩⟩
  · exact answers_of rfl (if_pos h)
  · exact answers_of rfl (s.eyeHour_closes l mean.toNat h)
  · exact answers_of rfl (if_neg (by rw [h]; exact Bool.false_ne_true))
  · refine answers_of (x := s.roundStart) rfl ?_
    rw [s.roundStart_first hboot hrun hfirst]
    have hset : (s.put HLT_STATUS.key HLT_STATUS.RUNNING 1).get HLT_STATUS.key HLT_STATUS.RUNNING = 1 :=
      State.get_put_same s _ _ _ (by decide)
    exact ⟨⟨_, .put s _ _ _ (List.mem_singleton.mpr rfl), rfl⟩, decide_eq_true hset⟩
  · exact answers_of rfl (if_pos (.inl h))
  · exact answers_of rfl (s.testDone_shows u r ht hrun)
  · exact answers_of rfl (if_pos h)
  · exact answers_of rfl (s.roundDone_clean hrun hbad hpair)
  · refine answers_of rfl (if_neg ?_)
    rcases h with h | h <;> simp [h]
  · exact answers_of rfl (s.domainRises_shows d hrun hdown)
  · refine answers_of rfl (if_neg ?_)
    rcases h with h | h <;> simp [State.joining, h]
  · exact answers_of rfl (s.domainJoins_shows d hup hrej)
end

section
/-! PROOF. Bonding members, playout, and hitless radio protection (R182, R183, R186 to R188, R192). -/

namespace Sys2Proof.Machine

/-- One step of the playout of bonding group `g`: the registers named, the group's record by `f`, arrivals, ports and
performance records. -/
def BondStep (g : Nat) (ks : List Nat) (f : BndSt → BndSt) (s x : State) : Prop :=
  (∃ y, OnlyRegs s y ks ∧ x = { y with bonds := x.bonds, ports := x.ports, arrivals := x.arrivals, pm := x.pm }) ∧
  (∀ j, j ≠ g → x.bond j = s.bond j) ∧ x.bond g = f (s.bond g)

namespace BondStep

variable {g : Nat} {ks js : List Nat} {f h : BndSt → BndSt} {s t u x : State}

theorem refl (s : State) : BondStep g ks id s s := ⟨⟨s, .refl s ks, rfl⟩, fun _ _ => rfl, rfl⟩

theorem trans (h1 : BondStep g ks f s t) (h2 : BondStep g ks h t u) : BondStep g ks (h ∘ f) s u := by
  obtain ⟨⟨y, hy, ht⟩, ho1, hf1⟩ := h1
  obtain ⟨⟨z, hz, hu⟩, ho2, hf2⟩ := h2
  refine ⟨⟨{ z with bonds := y.bonds, ports := y.ports, arrivals := y.arrivals, pm := y.pm }, hy.trans ⟨?_, fun k hk => ?_⟩, hu⟩,
    fun j hj => (ho2 j hj).trans (ho1 j hj), by rw [hf2, hf1]; rfl⟩
  · have := congrArg (fun w : State => { w with bonds := y.bonds, ports := y.ports, arrivals := y.arrivals, pm := y.pm }) hz.1
    rw [ht] at this
    exact this
  · refine (hz.2 k hk).trans ?_
    rw [ht]
    rfl

theorem mono (h1 : BondStep g ks f s x) (hs : ks ⊆ js) : BondStep g js f s x := by
  obtain ⟨⟨y, hy, hx⟩, h2⟩ := h1
  exact ⟨⟨y, hy.mono hs, hx⟩, h2⟩

theorem rd (h1 : BondStep g ks f s x) {k : Nat} (hk : k ∉ ks) : x.rd k = s.rd k := by
  obtain ⟨⟨y, hy, hx⟩, _⟩ := h1
  rw [hx]
  exact hy.rd hk

theorem get (h1 : BondStep g ks f s x) {k : Nat} (hk : k ∉ ks) (fl : Fld) : x.get k fl = s.get k fl :=
  State.get_of_rd (h1.rd hk) fl

theorem put (s : State) {k : Nat} (fl : Fld) (v : Nat) (hk : k ∈ ks) : BondStep g ks id s (s.put k fl v) :=
  ⟨⟨_, .put s k fl v hk, rfl⟩, fun _ _ => rfl, rfl⟩

theorem updBond (s : State) (f : BndSt → BndSt) : BondStep g ks f s (s.updBond g f) := by
  have hb : ∀ j, (s.updBond g f).bond j = if j = g then f (s.bond g) else s.bond j := fun j => Tbl.getD_store ..
  exact ⟨⟨s, .refl s ks, rfl⟩, fun j hj => (hb j).trans (if_neg hj), (hb g).trans (if_pos rfl)⟩

theorem updAlf (s : State) (p : Nat) (f : AlfSt → AlfSt) : BondStep g ks id s (s.updAlf p f) :=
  ⟨⟨s, .refl s ks, rfl⟩, fun _ _ => rfl, rfl⟩

theorem arrive (s : State) (a : Arrival) : BondStep g ks id s (s.arrive a) :=
  ⟨⟨s, .refl s ks, rfl⟩, fun _ _ => rfl, rfl⟩

theorem ofPm (hx : OnlyPm s x) : BondStep g ks id s x := by
  refine ⟨⟨s, .refl s ks, ?_⟩, fun j _ => by rw [hx]; rfl, by rw [hx]; rfl⟩
  rw [hx]

theorem ruleFalse (s : State) (c : Cond) : BondStep g ks id s (s.rule c false) := by
  by_cases h : s.decided c = false
  · rw [s.rule_same h]
    exact refl s
  · rw [s.rule_clears h]
    exact arrive s _

/-- Ids told of in batches. -/
theorem idEvents (s : State) (p code n : Nat) (ids : List Nat) : BondStep g ks id s (s.idEvents p code n ids) := by
  induction n generalizing s ids with
  | zero => exact refl s
  | succ n ih =>
    unfold State.idEvents
    split
    · exact refl s
    · exact (arrive s _).trans (ih _ _)

end BondStep

/-! ### Playout -/

theorem State.bundleErr_onlyPm (s : State) (g : Nat) : OnlyPm s (s.bundleErr g) :=
  (s.countCtx_onlyPm _ 7 1).trans ((s.countBond g 0 1).errBlocks_onlyPm _ _ _)

/-- The lag shown: the greatest of the shares, its member and the reference. -/
theorem State.showLag_shows (s : State) (g : Nat) (shares : List BcbRx) (hm : (greatestLag shares).2 < 8) :
    BondStep g [BND_LAG.key g] id s (s.showLag g shares) ∧
    (s.showLag g shares).get (BND_LAG.key g) BND_LAG.LAG = min 8191 (greatestLag shares).1 ∧
    (s.showLag g shares).get (BND_LAG.key g) BND_LAG.MEMBER = (greatestLag shares).2 := by
  have h1 : BondStep g [BND_LAG.key g] id s (s.put (BND_LAG.key g) BND_LAG.LAG (min 8191 (greatestLag shares).1)) :=
    .put s _ _ (by simp)
  have l1 : (s.put (BND_LAG.key g) BND_LAG.LAG (min 8191 (greatestLag shares).1)).get (BND_LAG.key g) BND_LAG.LAG =
      min 8191 (greatestLag shares).1 :=
    (State.get_put_same s _ _ _ (by decide)).trans (Nat.mod_eq_of_lt (lt_of_le_of_lt (min_le_left _ _) (by decide)))
  unfold State.showLag
  dsimp only
  generalize s.put (BND_LAG.key g) BND_LAG.LAG (min 8191 (greatestLag shares).1) = s1 at h1 l1
  have h2 : BondStep g [BND_LAG.key g] id s1 (s1.put (BND_LAG.key g) BND_LAG.MEMBER (greatestLag shares).2) := .put s1 _ _ (by simp)
  have l2 : (s1.put (BND_LAG.key g) BND_LAG.MEMBER (greatestLag shares).2).get (BND_LAG.key g) BND_LAG.LAG = _ :=
    (State.get_put_field s1 _ _ _ _ (by decide) (by decide)).trans l1
  have m2 : (s1.put (BND_LAG.key g) BND_LAG.MEMBER (greatestLag shares).2).get (BND_LAG.key g) BND_LAG.MEMBER =
      (greatestLag shares).2 := (State.get_put_same s1 _ _ _ (by decide)).trans (Nat.mod_eq_of_lt hm)
  generalize s1.put (BND_LAG.key g) BND_LAG.MEMBER (greatestLag shares).2 = s2 at h2 l2 m2
  exact ⟨(h1.trans h2).trans (.put s2 _ _ (by simp)), (State.get_put_field s2 _ _ _ _ (by decide) (by decide)).trans l2,
    (State.get_put_field s2 _ _ _ _ (by decide) (by decide)).trans m2⟩

/-- A frame of a group without shares. -/
theorem State.bundlePlayout_none (s : State) (g : Nat) (hon : s.bondOn g = true) :
    let x := s.bundlePlayout g []
    (∃ y, OnlyRegs s y [BND_LAG.key g] ∧ x = { y with pm := x.pm }) ∧
    x.get (BND_LAG.key g) BND_LAG.LAG = 0 ∧ x.get (BND_LAG.key g) BND_LAG.MEMBER = 0 := by
  intro x
  have hx : x = (s.showLag g []).bundleErr g := if_neg (by simp [hon])
  obtain ⟨_, hlag, hmem⟩ := s.showLag_shows g [] (by decide)
  have hregs : OnlyRegs s (s.showLag g []) [BND_LAG.key g] :=
    ((OnlyRegs.put s _ _ _ (by simp)).trans (.put _ _ _ _ (by simp))).trans (.put _ _ _ _ (by simp))
  generalize s.showLag g [] = y at hx hregs hlag hmem
  have herr := y.bundleErr_onlyPm g
  rw [← hx] at herr
  refine ⟨⟨y, hregs, herr⟩, ?_, ?_⟩
  · rw [herr]; exact hlag
  · rw [herr]; exact hmem

/-- One share in time: no delay is declared. -/
theorem State.shareTimes_one (s : State) (g : Nat) (b : BcbRx) (htime : b.onTime = true) (ks : List Nat) :
    ∃ l, BondStep g ks (fun y => { y with late := l }) s (s.shareTimes g [b]) := by
  let s1 := s.updBond g fun y => { y with late := y.late.store b.member.val (runOn (y.late.getD b.member.val {}) !b.onTime) {} }
  have h1 : BondStep g ks _ s s1 := .updBond s _
  have hrun : ((s1.bond g).late.getD b.member.val {}).on = 0 := by
    rw [h1.2.2]
    refine (congrArg RunSt.on (Tbl.getD_store _ _ _ _ _)).trans ?_
    rw [if_pos rfl, htime]
    rfl
  have hx : s.shareTimes g [b] = s1.integrate (condDelay g b.member.val) ((s1.bond g).late.getD b.member.val {}) 8 8000 := rfl
  refine ⟨(s1.bond g).late, ?_⟩
  have h2 : BondStep g ks id s1 (s.shareTimes g [b]) := by
    rw [hx]
    unfold State.integrate
    rw [if_neg (by rw [hrun]; decide)]
    split
    · exact .ruleFalse s1 _
    · exact .refl s1
  obtain ⟨hw, ho, hf⟩ := h1.trans h2
  refine ⟨hw, ho, hf.trans ?_⟩
  rw [h1.2.2]
  rfl

/-- The registers of a group that the playout writes. -/
def bondKeys (g : Nat) : List Nat := [BND_STATUS.key g, BND_CAP.key g, BND_LAG.key g]

theorem bondKeys_apart (g : Nat) : BND_LAG.key g ∉ [BND_STATUS.key g, BND_CAP.key g] ∧ BND_CAP.key g ∉ [BND_STATUS.key g] ∧
    BND_STATUS.key g ∉ [BND_LAG.key g] := by
  unfold BND_LAG.key BND_STATUS.key BND_CAP.key
  simp

theorem profKey_apart {g : Nat} (hg : g < 12) (p k : Nat) : ALF_PROF.key p k ∉ [BND_LAG.key g] := by
  unfold BND_LAG.key ALF_PROF.key
  simp
  omega

/-- The deal of the blocks, dealt again where the capacities changed. -/
def State.redealt (s : State) (g : Nat) (same : Bool) (caps : List Nat) : State :=
  if same then s else s.updBond g fun x => { x with dealRx := bndDeal caps }

/-- What the control block of a frame sets. -/
def State.bcbTaken (s : State) (g : Nat) (b : BcbRx) : State :=
  ((s.bundleListGen g b.listGen.toNat).updBond g fun x =>
    { x with actRx := b.act.toNat, profilesRx := b.profiles.toNat }).redealt g
      (decide (s.bundleCaps g (s.bond g).actRx (s.bond g).profilesRx = s.bundleCaps g b.act.toNat b.profiles.toNat))
      (s.bundleCaps g b.act.toNat b.profiles.toNat)

/-- What follows the capacity of a played-out frame. -/
def State.bcbFollows (s : State) (g : Nat) (b : BcbRx) (old : AlfMap) (errored : Bool) : State :=
  let s4 := (s.farRxOk g b.rxOk.toNat).bundleShift g old
  let s5 := if b.act ≠ 0 then s4.rule (condBond g dBUNDLE_DOWN) false else s4
  if errored then s5.bundleErr g else s5

/-- A frame of a group with one share that passes. -/
theorem State.bundlePlayout_share (s : State) (g : Nat) {b : BcbRx} (hon : s.bondOn g = true)
    (hmember : (s.bondMembers g).any (fun e => decide (e.1 = b.member.val)) = true) (hf : b.frameOk = true)
    (hc : b.checkOk = true) (ht : b.onTime = true) :
    s.bundlePlayout g [b] = (let s1 := (s.shareTimes g [b]).showLag g [b]
      let s2 := s1.bcbTaken g b
      ((s2.put (BND_STATUS.key g) BND_STATUS.ACT_RX b.act.toNat).put (BND_CAP.key g) BND_CAP.BLOCKS
        (s2.bundleN g b.act.toNat b.profiles.toNat)).bcbFollows g b (s1.bundleMap g) (shareErrored b.act.toNat [b])) := by
  have hmine : [b].filter (fun b => (s.bondMembers g).any fun e => decide (e.1 = b.member.val)) = [b] := by
    rw [List.filter_cons, if_pos hmember]
    rfl
  have hchosen : chosenBcb [b] = some b := by
    have hfind : ∀ m, [b].find? (fun b => decide (b.member.val = m) && b.frameOk && b.checkOk && b.onTime) =
        if b.member.val = m then some b else none := fun m => by
      rw [List.find?_cons, hf, hc, ht, Bool.and_true, Bool.and_true, Bool.and_true]
      by_cases h : b.member.val = m <;> simp [h]
    unfold chosenBcb
    simp only [hfind]
    have hlt : b.member.val < 8 := b.member.isLt
    generalize b.member.val = v at hlt
    interval_cases v <;> rfl
  refine (if_neg (by simp [hon])).trans ?_
  dsimp only
  rw [hmine, hchosen]
  rfl

theorem State.bcbTaken_shows (s : State) (g : Nat) (b : BcbRx) (ks : List Nat) :
    ∃ d, BondStep g ks (fun y => { (if b.listGen.toNat = (y.genRx + 1) % 256 then
      { y with list := y.stagedList, genRx := b.listGen.toNat } else y) with
        actRx := b.act.toNat, profilesRx := b.profiles.toNat, dealRx := d }) s (s.bcbTaken g b) := by
  have h1 : BondStep g ks _ s (s.bundleListGen g b.listGen.toNat) := .updBond s _
  unfold State.bcbTaken
  generalize s.bundleListGen g b.listGen.toNat = s1 at h1
  have h2 := h1.trans (.updBond s1 fun x => { x with actRx := b.act.toNat, profilesRx := b.profiles.toNat })
  generalize (s1.updBond g fun x => { x with actRx := b.act.toNat, profilesRx := b.profiles.toNat }) = s2 at h2
  unfold State.redealt
  generalize s.bundleCaps g b.act.toNat b.profiles.toNat = caps
  split
  · exact ⟨(s2.bond g).dealRx, h2.1, h2.2.1, by rw [h2.2.2]; rfl⟩
  · exact ⟨bndDeal caps, h2.trans (.updBond s2 fun x => { x with dealRx := bndDeal caps })⟩

theorem State.farRxOk_shows (s : State) (g v : Nat) (hv : v < 256) :
    BondStep g [BND_STATUS.key g] (fun y => { y with farLast := v }) s (s.farRxOk g v) ∧
    (s.farRxOk g v).get (BND_STATUS.key g) BND_STATUS.ACT_RX = s.get (BND_STATUS.key g) BND_STATUS.ACT_RX ∧
    ((s.bond g).farLast = v → (s.farRxOk g v).get (BND_STATUS.key g) BND_STATUS.FAR_RX_OK = v) := by
  unfold State.farRxOk
  dsimp only
  by_cases h : (s.bond g).farLast = v
  · rw [if_pos h]
    have h1 : BondStep g [BND_STATUS.key g] id s (s.put (BND_STATUS.key g) BND_STATUS.FAR_RX_OK v) := .put s _ _ (by simp)
    have ha : (s.put (BND_STATUS.key g) BND_STATUS.FAR_RX_OK v).get (BND_STATUS.key g) BND_STATUS.ACT_RX = _ :=
      State.get_put_field s _ _ _ _ (by decide) (by decide)
    have hr : (s.put (BND_STATUS.key g) BND_STATUS.FAR_RX_OK v).get (BND_STATUS.key g) BND_STATUS.FAR_RX_OK = v :=
      (State.get_put_same s _ _ _ (by decide)).trans (Nat.mod_eq_of_lt hv)
    exact ⟨h1.trans (.updBond _ _), ha, fun _ => hr⟩
  · rw [if_neg h]
    exact ⟨.updBond s _, rfl, fun he => absurd he h⟩

theorem State.bundleShift_step (s : State) (g : Nat) (old : AlfMap) (ks : List Nat) : BondStep g ks id s (s.bundleShift g old) :=
  ((BondStep.updAlf s _ _).trans (.idEvents _ _ _ _ _)).trans (.idEvents _ _ _ _ _)

theorem State.bcbFollows_shows (s : State) (g : Nat) (b : BcbRx) (old : AlfMap) (errored : Bool) :
    let x := s.bcbFollows g b old errored
    BondStep g [BND_STATUS.key g] (fun y => { y with farLast := b.rxOk.toNat }) s x ∧
    x.get (BND_STATUS.key g) BND_STATUS.ACT_RX = s.get (BND_STATUS.key g) BND_STATUS.ACT_RX ∧
    ((s.bond g).farLast = b.rxOk.toNat → x.get (BND_STATUS.key g) BND_STATUS.FAR_RX_OK = b.rxOk.toNat) ∧
    (b.act ≠ 0 → x.decided (condBond g dBUNDLE_DOWN) = false) := by
  intro x
  obtain ⟨h1, ha, hr⟩ := s.farRxOk_shows g b.rxOk.toNat b.rxOk.isLt
  have hx : x = (let s4 := (s.farRxOk g b.rxOk.toNat).bundleShift g old
      let s5 := if b.act ≠ 0 then s4.rule (condBond g dBUNDLE_DOWN) false else s4
      if errored then s5.bundleErr g else s5) := rfl
  dsimp only at hx
  generalize s.farRxOk g b.rxOk.toNat = y at h1 ha hr hx
  have h2 := y.bundleShift_step g old []
  generalize y.bundleShift g old = z at h2 hx
  have h3 : BondStep g [] id z (if b.act ≠ 0 then z.rule (condBond g dBUNDLE_DOWN) false else z) ∧
      (b.act ≠ 0 → (if b.act ≠ 0 then z.rule (condBond g dBUNDLE_DOWN) false else z).decided (condBond g dBUNDLE_DOWN) = false) := by
    by_cases h : b.act = 0
    · rw [if_neg (not_not_intro h)]
      exact ⟨.refl z, fun hn => absurd h hn⟩
    · rw [if_pos h]
      exact ⟨.ruleFalse z _, fun _ => z.rule_decided_same _ _⟩
  generalize (if b.act ≠ 0 then z.rule (condBond g dBUNDLE_DOWN) false else z) = w at h3 hx
  have h4 : OnlyPm w x := by
    rw [hx]
    split
    · exact w.bundleErr_onlyPm g
    · exact .refl w
  have hrest : BondStep g [] id y x := (h2.trans h3.1).trans (.ofPm h4)
  refine ⟨h1.trans (hrest.mono (List.nil_subset _)), (hrest.get (by simp) _).trans ha,
    fun h => (hrest.get (by simp) _).trans (hr h), fun h => ?_⟩
  rw [h4]
  exact h3.2 h

theorem greatestLag_one (b : BcbRx) : greatestLag [b] = (b.lagUs, if b.lagUs = 0 then 0 else b.member.val) := by
  unfold greatestLag greatestLag
  by_cases h : b.lagUs = 0
  · by_cases hm : b.member.val = 0 <;> simp [h, hm]
  · simp [h]

/-- A frame with one share that passes, step by step. -/
theorem State.bundlePlayout_one (s : State) {g : Nat} (hg : g < 12) {b : BcbRx} (hon : s.bondOn g = true)
    (hmember : (s.bondMembers g).any (fun e => decide (e.1 = b.member.val)) = true) (hf : b.frameOk = true)
    (hc : b.checkOk = true) (ht : b.onTime = true) :
    let x := s.bundlePlayout g [b]
    (∃ y, OnlyRegs s y (bondKeys g) ∧
      x = { y with bonds := x.bonds, ports := x.ports, arrivals := x.arrivals, pm := x.pm }) ∧
    (∀ j, j ≠ g → x.bond j = s.bond j) ∧
    (x.get (BND_LAG.key g) BND_LAG.LAG = min 8191 b.lagUs ∧
      x.get (BND_LAG.key g) BND_LAG.MEMBER = (if b.lagUs = 0 then 0 else b.member.val)) ∧
    (x.bond g).actRx = b.act.toNat ∧ (x.bond g).profilesRx = b.profiles.toNat ∧ (x.bond g).farLast = b.rxOk.toNat ∧
    x.get (BND_STATUS.key g) BND_STATUS.ACT_RX = b.act.toNat ∧
    ((s.bond g).farLast = b.rxOk.toNat → x.get (BND_STATUS.key g) BND_STATUS.FAR_RX_OK = b.rxOk.toNat) ∧
    x.get (BND_CAP.key g) BND_CAP.BLOCKS = s.bundleN g b.act.toNat b.profiles.toNat % 2 ^ BND_CAP.BLOCKS.width ∧
    (b.act ≠ 0 → x.decided (condBond g dBUNDLE_DOWN) = false) ∧
    (b.listGen.toNat = ((s.bond g).genRx + 1) % 256 → (x.bond g).list = (s.bond g).stagedList) := by
  intro x
  obtain ⟨klag, kcap, kstat⟩ := bondKeys_apart g
  have hx : x = _ := s.bundlePlayout_share g hon hmember hf hc ht
  obtain ⟨late, h1⟩ := s.shareTimes_one g b ht [BND_LAG.key g]
  dsimp only at hx
  generalize s.shareTimes g [b] = y1 at h1 hx
  obtain ⟨h2, hlag, hmem⟩ := y1.showLag_shows g [b] (by rw [greatestLag_one]; dsimp only; split <;> omega)
  generalize y1.showLag g [b] = y2 at h2 hlag hmem hx
  obtain ⟨d, h3⟩ := y2.bcbTaken_shows g b []
  generalize y2.bcbTaken g b = y3 at h3 hx
  have hbond2 : y2.bond g = { s.bond g with late := late } := (h1.trans h2).2.2
  have hbond3 := h3.2.2
  rw [hbond2] at hbond3
  have h123 := (h1.trans h2).trans (h3.mono (List.nil_subset _))
  have hcap : y3.bundleN g b.act.toNat b.profiles.toNat = s.bundleN g b.act.toNat b.profiles.toNat := by
    have hports : (y3.bond g).ports = (s.bond g).ports := by rw [hbond3]; dsimp only; split <;> rfl
    have hblocks : ∀ p k, y3.alfBlocks p k = s.alfBlocks p k := fun p k => h123.get (profKey_apart hg p k) _
    unfold State.bundleN State.bondMembers
    rw [hports]
    simp only [hblocks]
  rw [hcap] at hx
  generalize s.bundleN g b.act.toNat b.profiles.toNat = n at hx ⊢
  have h4 : BondStep g [BND_STATUS.key g, BND_CAP.key g] id y3 (y3.put (BND_STATUS.key g) BND_STATUS.ACT_RX b.act.toNat) :=
    .put y3 _ _ (by simp)
  have a4 : (y3.put (BND_STATUS.key g) BND_STATUS.ACT_RX b.act.toNat).get (BND_STATUS.key g) BND_STATUS.ACT_RX = b.act.toNat :=
    (State.get_put_same y3 _ _ _ (by decide)).trans (Nat.mod_eq_of_lt b.act.isLt)
  generalize y3.put (BND_STATUS.key g) BND_STATUS.ACT_RX b.act.toNat = y4 at h4 a4 hx
  have h5 : BondStep g [BND_CAP.key g] id y4 (y4.put (BND_CAP.key g) BND_CAP.BLOCKS n) := .put y4 _ _ (by simp)
  have c5 : (y4.put (BND_CAP.key g) BND_CAP.BLOCKS n).get (BND_CAP.key g) BND_CAP.BLOCKS = n % 2 ^ BND_CAP.BLOCKS.width :=
    State.get_put_same y4 _ _ _ (by decide)
  have a5 : (y4.put (BND_CAP.key g) BND_CAP.BLOCKS n).get (BND_STATUS.key g) BND_STATUS.ACT_RX = b.act.toNat :=
    (h5.get (by unfold BND_STATUS.key BND_CAP.key; simp) _).trans a4
  generalize y4.put (BND_CAP.key g) BND_CAP.BLOCKS n = y5 at h5 c5 a5 hx
  obtain ⟨h6, a6, r6, d6⟩ := y5.bcbFollows_shows g b (y2.bundleMap g) (shareErrored b.act.toNat [b])
  rw [← hx] at h6 a6 r6 d6
  have hbond5 : y5.bond g = y3.bond g := (h4.trans (h5.mono (by simp))).2.2
  have hbond6 := h6.2.2
  rw [hbond5, hbond3] at hbond6
  have hshare := ((h4.trans (h5.mono (by simp))).trans (h6.mono (by simp)))
  have hall := (h123.mono (js := bondKeys g) (by simp [bondKeys])).trans (hshare.mono (js := bondKeys g) (by simp [bondKeys]))
  have hlagx : ∀ fl, x.get (BND_LAG.key g) fl = y2.get (BND_LAG.key g) fl := fun fl =>
    (hshare.get klag fl).trans (h3.get (by simp) fl)
  rw [greatestLag_one] at hlag hmem
  refine ⟨hall.1, hall.2.1, ⟨(hlagx _).trans hlag, (hlagx _).trans hmem⟩, by rw [hbond6], by rw [hbond6], by rw [hbond6],
    a6.trans a5, fun h => r6 ?_, (h6.get kcap _).trans c5, d6, fun h => ?_⟩
  · rw [hbond5, hbond3]
    dsimp only
    split <;> exact h
  · rw [hbond6]
    dsimp only
    rw [if_pos h]

/-! ### Hitless radio protection -/

/-- The selection of a frame, as MODE and the two copies have it. -/
theorem hrpSelect_fst (mode : Nat) (main other : Option Bool) :
    (hrpSelect mode main other).1 =
      (if mode = 1 then false else if mode = 2 then true else !(main.getD false) && other.getD false) := by
  unfold hrpSelect
  dsimp only
  by_cases h1 : mode = 1
  · rw [if_pos h1, if_pos h1]
  by_cases h2 : mode = 2
  · rw [if_neg h1, if_pos h2, if_neg h1, if_pos h2]
  rw [if_neg h1, if_neg h2, if_neg h1, if_neg h2]
  by_cases hm : main.getD false = true
  · rw [if_pos hm, hm]
    rfl
  rw [if_neg hm, Bool.eq_false_of_not_eq_true hm]
  by_cases ho : other.getD false = true
  · rw [if_pos ho, ho]
    rfl
  · rw [if_neg ho, Bool.eq_false_of_not_eq_true ho]
    rfl

theorem srcHrp_lt (g : Fin 24) : srcHrp g < 384 := by
  unfold srcHrp
  omega

/-- The selection shown, with its event and its sticky bit at a change. -/
def State.hrpShown (s : State) (g : Nat) (other : Bool) : State :=
  if s.on (HRP_STATUS.key g) HRP_STATUS.SEL_OTHER = other then s
  else
    let s4 := (s.put (HRP_STATUS.key g) HRP_STATUS.SEL_OTHER (bit other)).event (srcHrp g) 0x80 true g
    if other then s4.histBit (HRP_STATUS.key g) HRP_STATUS.HIST 0 else s4

theorem noteReg_hrpStatus : ∀ g : Fin 24, noteReg (HRP_STATUS.key g) = false := by decide

theorem State.hrpShown_shows (s : State) (g : Fin 24) (other : Bool) :
    let x := s.hrpShown g other
    Noted s x [HRP_STATUS.key g] ∧ x.on (HRP_STATUS.key g) HRP_STATUS.SEL_OTHER = other ∧
    (s.on (HRP_STATUS.key g) HRP_STATUS.SEL_OTHER ≠ other → x.raised (srcHrp g) 0x80 true) ∧
    x.get (HRP_STATUS.key g) HRP_STATUS.HRP_LAG = s.get (HRP_STATUS.key g) HRP_STATUS.HRP_LAG := by
  intro x
  by_cases h : s.on (HRP_STATUS.key g) HRP_STATUS.SEL_OTHER = other
  · rw [show x = s from if_pos h]
    exact ⟨.refl s _, h, fun hn => absurd h hn, rfl⟩
  · have hx : x = (let s4 := (s.put (HRP_STATUS.key g) HRP_STATUS.SEL_OTHER (bit other)).event (srcHrp g) 0x80 true g
        if other then s4.histBit (HRP_STATUS.key g) HRP_STATUS.HIST 0 else s4) := if_neg h
    dsimp only at hx
    have h1 : Noted s (s.put (HRP_STATUS.key g) HRP_STATUS.SEL_OTHER (bit other)) [HRP_STATUS.key g] := .put s _ _ _ (by simp)
    have sel1 : (s.put (HRP_STATUS.key g) HRP_STATUS.SEL_OTHER (bit other)).get (HRP_STATUS.key g) HRP_STATUS.SEL_OTHER =
        bit other := (State.get_put_same s _ _ _ (by decide)).trans (bit_mod_two other)
    have lag1 : (s.put (HRP_STATUS.key g) HRP_STATUS.SEL_OTHER (bit other)).get (HRP_STATUS.key g) HRP_STATUS.HRP_LAG = _ :=
      State.get_put_field s _ _ _ _ (by decide) (by decide)
    generalize s.put (HRP_STATUS.key g) HRP_STATUS.SEL_OTHER (bit other) = s1 at h1 sel1 lag1 hx
    have h2 : Noted s1 (s1.event (srcHrp g) 0x80 true g) [] := .event s1 _ _ _ _ (srcHrp_lt g) _
    have r2 : (s1.event (srcHrp g) 0x80 true g).raised (srcHrp g) 0x80 true := s1.raised_event _ _ _ _ (srcHrp_lt g)
    generalize s1.event (srcHrp g) 0x80 true g = s2 at h2 r2 hx
    have hs2 : ∀ f, s2.get (HRP_STATUS.key g) f = s1.get (HRP_STATUS.key g) f := fun f => h2.get (by simp) (noteReg_hrpStatus g) f
    have h12 := h1.trans (h2.mono (List.nil_subset _))
    have hsel : ∀ y : State, y.get (HRP_STATUS.key g) HRP_STATUS.SEL_OTHER = bit other →
        y.on (HRP_STATUS.key g) HRP_STATUS.SEL_OTHER = other := fun y hy => by rw [State.on, hy]; exact bit_eq_one other
    cases other with
    | false =>
      rw [hx]
      exact ⟨h12, hsel s2 ((hs2 _).trans sel1), fun _ => r2, (hs2 _).trans lag1⟩
    | true =>
      rw [hx]
      have h3 : Noted s2 (s2.histBit (HRP_STATUS.key g) HRP_STATUS.HIST 0) [HRP_STATUS.key g] := .histBit s2 _ _ _ (by simp)
      exact ⟨h12.trans h3, hsel _ ((s2.get_histBit_other _ _ _ _ (by decide) (by decide)).trans ((hs2 _).trans sel1)),
        fun _ => h3.raised_kept r2, (s2.get_histBit_other _ _ _ _ (by decide) (by decide)).trans ((hs2 _).trans lag1)⟩

theorem State.hrp_updHrp (s : State) (g : Nat) (f : HrpSt → HrpSt) (j : Nat) :
    (s.updHrp g f).hrp j = if j = g then f (s.hrp g) else s.hrp j := Tbl.getD_store ..

/-- A frame's count and its errors. -/
def State.hrpCounted (s : State) (g : Nat) (sel : Bool × Bool) : State :=
  let s2 := s.countHrp g (if sel.1 then 2 else 1) 1
  if sel.2 then (s2.countHrp g 0 1).errBlocks (layKey g 8 0 0 0 0) false 1 else s2

theorem State.hrpCounted_onlyPm (s : State) (g : Nat) (sel : Bool × Bool) : OnlyPm s (s.hrpCounted g sel) := by
  have h1 : OnlyPm s (s.countHrp g (if sel.1 then 2 else 1) 1) := s.countCtx_onlyPm _ 8 1
  unfold State.hrpCounted
  generalize s.countHrp g (if sel.1 then 2 else 1) 1 = y at h1
  dsimp only
  split
  · exact h1.trans ((y.countCtx_onlyPm _ 8 1).trans ((y.countHrp g 0 1).errBlocks_onlyPm _ _ _))
  · exact h1

/-- A frame of work read around a change of the groups' records and of performance records. -/
theorem Noted.around_hrps {s t u : State} {ks : List Nat} (ht : t = { s with hrps := t.hrps, pm := t.pm }) (h : Noted t u ks) :
    Noted s { u with hrps := s.hrps, pm := s.pm } ks := by
  have hrd : ∀ k, t.rd k = s.rd k := fun k => by rw [ht]; rfl
  have htick : t.evt.tick = s.evt.tick := by rw [ht]
  refine ⟨?_, fun k hk hn => (h.2.1 k hk hn).trans (hrd k), htick ▸ h.2.2⟩
  have := congrArg (fun w : State => { w with hrps := s.hrps, pm := s.pm }) h.1
  refine this.trans ?_
  generalize t.hrps = a, t.pm = b at ht
  rw [ht]

/-- The playout of an HRP frame. -/
theorem State.hrpPlayout_shows (s : State) (g : Fin 24) (main other : Option Bool) (lag : Int) (hon : s.hrpOn g = true) :
    let k := HRP_STATUS.key g
    let mode := s.get k HRP_STATUS.MODE
    let sel := if mode = 1 then false else if mode = 2 then true else !(main.getD false) && other.getD false
    let x := s.hrpPlayout g main other lag
    (∃ y, Noted s y [k] ∧ x = { y with hrps := x.hrps, pm := x.pm }) ∧
    (∀ j, j ≠ g.val → x.hrp j = s.hrp j) ∧ x.hrp g = { s.hrp g with played := (s.hrp g).played + 1 } ∧
    x.on k HRP_STATUS.SEL_OTHER = sel ∧
    (s.on k HRP_STATUS.SEL_OTHER ≠ sel → x.raised (srcHrp g) 0x80 true) ∧
    (main.isSome → other.isSome → x.get k HRP_STATUS.HRP_LAG = twos 9 lag) := by
  intro k mode sel x
  have hx : x = ((((if main.isSome ∧ other.isSome then s.put k HRP_STATUS.HRP_LAG (twos 9 lag) else s).updHrp g fun x =>
      { x with played := x.played + 1 }).hrpCounted g (hrpSelect mode main other)).hrpShown g (hrpSelect mode main other).1) :=
    if_neg (by simp [hon])
  have hsel : (hrpSelect mode main other).1 = sel := hrpSelect_fst mode main other
  rw [hsel] at hx
  have h1 : Noted s (if main.isSome ∧ other.isSome then s.put k HRP_STATUS.HRP_LAG (twos 9 lag) else s) [k] ∧
      (if main.isSome ∧ other.isSome then s.put k HRP_STATUS.HRP_LAG (twos 9 lag) else s).on k HRP_STATUS.SEL_OTHER =
        s.on k HRP_STATUS.SEL_OTHER ∧
      (main.isSome → other.isSome → (if main.isSome ∧ other.isSome then s.put k HRP_STATUS.HRP_LAG (twos 9 lag) else s).get k
        HRP_STATUS.HRP_LAG = twos 9 lag) := by
    split
    next =>
      refine ⟨.put s _ _ _ (by simp), ?_, fun _ _ => ?_⟩
      · rw [State.on, State.on, State.get_put_field s _ _ _ _ (by decide) (by decide)]
      · exact (State.get_put_same s _ _ _ (by decide)).trans (Nat.mod_eq_of_lt (twos_lt 9 lag))
    next hn => exact ⟨.refl s _, rfl, fun hm ho => absurd ⟨hm, ho⟩ hn⟩
  obtain ⟨n1, on1, lag1⟩ := h1
  generalize (if main.isSome ∧ other.isSome then s.put k HRP_STATUS.HRP_LAG (twos 9 lag) else s) = s1 at n1 on1 lag1 hx
  have hhrp : ∀ j, (s1.updHrp g fun x => { x with played := x.played + 1 }).hrp j =
      if j = g.val then { s.hrp g with played := (s.hrp g).played + 1 } else s.hrp j := fun j => by
    have hsame : ∀ j, s1.hrp j = s.hrp j := fun j => by rw [State.hrp, State.hrp, n1.1]
    rw [State.hrp_updHrp, hsame, hsame]
  have hupd : (s1.updHrp g fun x => { x with played := x.played + 1 }) = { s1 with
      hrps := (s1.updHrp g fun x => { x with played := x.played + 1 }).hrps } := rfl
  generalize (s1.updHrp g fun x => { x with played := x.played + 1 }) = s2 at hhrp hupd hx
  have hpm := s2.hrpCounted_onlyPm g (hrpSelect mode main other)
  generalize s2.hrpCounted g (hrpSelect mode main other) = s3 at hpm hx
  have h3 : s3 = { s1 with hrps := s3.hrps, pm := s3.pm } := by
    have hh : s3.hrps = s2.hrps := by rw [hpm]
    rw [hh]
    have hpm' : s3 = { s2 with pm := s3.pm } := hpm
    exact hpm'.trans (congrArg (fun w : State => { w with pm := s3.pm }) hupd)
  have hregs : ∀ f, s3.get k f = s1.get k f := fun f => by rw [h3]; rfl
  obtain ⟨n4, on4, r4, lag4⟩ := s3.hrpShown_shows g sel
  rw [← hx] at n4 on4 r4 lag4
  have hxhrp : ∀ j, x.hrp j = s2.hrp j := fun j => by
    rw [State.hrp, State.hrp, n4.1, hpm]
  refine ⟨⟨{ x with hrps := s1.hrps, pm := s1.pm }, n1.trans (n4.around_hrps h3), rfl⟩, fun j hj => ?_, ?_, on4, fun h => r4 ?_,
    fun hm ho => lag4.trans ((hregs _).trans (lag1 hm ho))⟩
  · rw [hxhrp, hhrp, if_neg hj]
  · rw [hxhrp, hhrp, if_pos rfl]
  · rw [State.on, hregs]
    rw [State.on, State.on] at on1
    rw [on1]
    exact h

/-- A member's return hold that has run puts it back. -/
theorem State.rejoinExpiry_due (s : State) (g m : Nat) (h : s.timerDue (.rejoin g m) = true) :
    let x := s.rejoinExpiry g m
    x = { s with bonds := x.bonds, timers := s.timers.filter fun t => decide (t.kind ≠ .rejoin g m) } ∧
    (∀ j, j ≠ g → x.bond j = s.bond j) ∧ (x.bond g).actTx.testBit m = true ∧
    x.bond g = { s.bond g with actTx := (x.bond g).actTx } ∧
    ∀ i, i ≠ m → (x.bond g).actTx.testBit i = (s.bond g).actTx.testBit i := by
  intro x
  have hx : x = (s.stopTimer (.rejoin g m)).updBond g fun x => { x with actTx := putBits x.actTx m 1 1 } :=
    if_neg (by simp [h])
  have hb : ∀ j, x.bond j = if j = g then { s.bond g with actTx := putBits (s.bond g).actTx m 1 1 } else s.bond j := fun j => by
    rw [hx]
    exact Tbl.getD_store ..
  have hown := (hb g).trans (if_pos rfl)
  refine ⟨by rw [hx]; rfl, fun j hj => (hb j).trans (if_neg hj), ?_, by rw [hown], fun i hi => ?_⟩
  · rw [hown, putBits_testBit, if_neg (lt_irrefl m), if_pos (Nat.lt_succ_self m), Nat.sub_self]
    rfl
  · rw [hown, putBits_testBit]
    split
    · rfl
    split
    next h1 h2 => exact absurd (by omega) hi
    next => rfl

end Sys2Proof.Machine

open Sys2Proof Sys2Proof.Machine

/-- Settles O54: the deal of the example by evaluation, the return hold, the bundle's playout and the HRP playout. -/
theorem bondingRows : Obligations.BondingRows := by
  refine ⟨by decide, by decide +kernel, fun s => ⟨fun g m => ⟨fun h => answers_of rfl (if_pos (by simp [h])), fun h =>
    answers_of rfl (s.rejoinExpiry_due g m h)⟩, fun hcarry g => ?_, fun hcarry g main other lag => ?_⟩⟩
  · have hexec : ∀ l, exec (.bundlePlayout g l) s = .next (s.bundlePlayout g l).settle := fun l => by
      rw [← State.datapath_carrying hcarry fun s => s.bundlePlayout g l]
      rfl
    refine ⟨fun l h => answers_of (hexec l) (if_pos (by simp [h])), fun h => answers_of (hexec []) (s.bundlePlayout_none g h),
      fun b hon hmember hf hc ht => answers_of (hexec [b]) ?_⟩
    obtain ⟨h1, h2, h3, h4, h5, h6, h7, h8, h9, h10, h11⟩ := s.bundlePlayout_one g.isLt hon hmember hf hc ht
    exact ⟨h1, h2, h3, h4, h5, h6, h7, h8, h9, h10, h11⟩
  · have hexec : exec (.hrpPlayout g main other lag) s = .next (s.hrpPlayout g main other lag).settle := by
      rw [← State.datapath_carrying hcarry fun s => s.hrpPlayout g main other lag]
      rfl
    exact ⟨fun h => answers_of hexec (if_pos (by simp [h])), fun h => answers_of hexec (s.hrpPlayout_shows g main other lag h)⟩
end

section
/-! PROOF. QUALITY, IDENT and ANNOUNCE received on an ALF port (R161, R162, R387 and Table 06-7). -/

namespace Sys2Proof.Machine

theorem State.port_updAlf (s : State) (p q : Nat) (f : AlfSt → AlfSt) :
    (s.updAlf p f).port q = if q = p then { s.port p with alf := f (s.port p).alf } else s.port q := State.port_updPort ..

/-! ### QUALITY and IDENT -/

/-- QUALITY is shown. -/
theorem State.alfQuality_shows (s : State) (p : Nat) (c : BitVec 40) (half : s.isAlf p = true) :
    let x := s.alfQuality p c.toNat
    OnlyRegs s x [ALF_QUALITY.key p] ∧ x.get (ALF_QUALITY.key p) ALF_QUALITY.SNR = c.toNat / 2 ^ 32 ∧
    x.get (ALF_QUALITY.key p) ALF_QUALITY.MOD = c.toNat / 2 ^ 24 % 256 ∧
    x.get (ALF_QUALITY.key p) ALF_QUALITY.RSL = c.toNat / 2 ^ 16 % 256 := by
  intro x
  have hx : x = (((s.put (ALF_QUALITY.key p) ALF_QUALITY.SNR (bitsOf c.toNat 32 8)).put (ALF_QUALITY.key p) ALF_QUALITY.MOD
      (bitsOf c.toNat 24 8)).put (ALF_QUALITY.key p) ALF_QUALITY.RSL (bitsOf c.toNat 16 8)) := if_neg (by simp [half])
  have hbits : ∀ lo, bitsOf c.toNat lo 8 = c.toNat / 2 ^ lo % 256 := fun lo => by
    rw [bitsOf, Nat.shiftRight_eq_div_pow]
    rfl
  have hsnr : c.toNat / 2 ^ 32 % 256 = c.toNat / 2 ^ 32 := Nat.mod_eq_of_lt (by have := c.isLt; omega)
  have h1 : OnlyRegs s (s.put (ALF_QUALITY.key p) ALF_QUALITY.SNR (bitsOf c.toNat 32 8)) [ALF_QUALITY.key p] := .put s _ _ _ (by simp)
  have s1 : (s.put (ALF_QUALITY.key p) ALF_QUALITY.SNR (bitsOf c.toNat 32 8)).get (ALF_QUALITY.key p) ALF_QUALITY.SNR =
      c.toNat / 2 ^ 32 := by
    rw [State.get_put_same _ _ _ _ (by decide), hbits, hsnr, Nat.mod_eq_of_lt]
    rw [← hsnr]
    exact Nat.mod_lt _ (by decide)
  generalize s.put (ALF_QUALITY.key p) ALF_QUALITY.SNR (bitsOf c.toNat 32 8) = y at h1 s1 hx
  have h2 : OnlyRegs y (y.put (ALF_QUALITY.key p) ALF_QUALITY.MOD (bitsOf c.toNat 24 8)) [ALF_QUALITY.key p] := .put y _ _ _ (by simp)
  have s2 : (y.put (ALF_QUALITY.key p) ALF_QUALITY.MOD (bitsOf c.toNat 24 8)).get (ALF_QUALITY.key p) ALF_QUALITY.SNR = _ :=
    (State.get_put_field y _ _ _ _ (by decide) (by decide)).trans s1
  have m2 : (y.put (ALF_QUALITY.key p) ALF_QUALITY.MOD (bitsOf c.toNat 24 8)).get (ALF_QUALITY.key p) ALF_QUALITY.MOD =
      c.toNat / 2 ^ 24 % 256 := by
    rw [State.get_put_same _ _ _ _ (by decide), hbits, show 2 ^ ALF_QUALITY.MOD.width = 256 from rfl, Nat.mod_mod]
  generalize y.put (ALF_QUALITY.key p) ALF_QUALITY.MOD (bitsOf c.toNat 24 8) = z at h2 s2 m2 hx
  rw [hx]
  refine ⟨(h1.trans h2).trans (.put z _ _ _ (by simp)), (State.get_put_field z _ _ _ _ (by decide) (by decide)).trans s2,
    (State.get_put_field z _ _ _ _ (by decide) (by decide)).trans m2, ?_⟩
  rw [State.get_put_same _ _ _ _ (by decide), hbits, show 2 ^ ALF_QUALITY.RSL.width = 256 from rfl, Nat.mod_mod]

/-- A part of the identity that does not complete a set. -/
theorem State.alfIdent_part (s : State) (p part word : Nat) (half : s.isAlf p = true)
    (h : ((s.alf p).identParts.put part word).length < 4) :
    s.alfIdent p part word = s.updAlf p fun x => { x with identParts := (s.alf p).identParts.put part word } :=
  (if_neg (by simp [half])).trans (if_pos h)

/-- A full set of identity words. -/
theorem State.alfIdent_full (s : State) (p : Port) (part word : Nat) (half : s.isAlf p = true)
    (h : 4 ≤ ((s.alf p).identParts.put part word).length) :
    let d := identOf ((s.alf p).identParts.put part word)
    let x := s.alfIdent p part word
    PortWork s x p [] ∧
    x.port p = { s.port p with alf := { s.alf p with
      identParts := [], identLast := some d, partner := if (s.alf p).identLast = some d then some d else (s.alf p).partner } } ∧
    ((s.alf p).identLast = some d → (s.alf p).partner ≠ some d → x.raised p ePARTNER_CHANGE true) := by
  intro d x
  let agrees := decide ((s.alf p).identLast = some d)
  let s1 := s.updAlf p fun x => { x with
    identParts := [], identLast := some d, partner := if agrees then some d else x.partner }
  have hx : x = if agrees && decide ((s.alf p).partner ≠ some d) then s1.event p ePARTNER_CHANGE true 0 else s1 :=
    (if_neg (by simp [half])).trans (if_neg (by omega))
  have h1 : FrameStep s s1 p [] [] _ := .updPort s p _ _ _
  have hlt : p.val < 384 := lt_trans p.isLt (by decide)
  have h2 : FrameStep s1 x p [] [] id := by
    rw [hx]
    split
    · exact .event s1 p _ _ _ _ hlt _ _
    · exact .refl s1 p _ _
  refine ⟨h1.1.trans h2.1, h2.2.1.trans (h1.2.1.trans ?_), fun hlast hpartner => ?_⟩
  · by_cases ha : (s.alf p).identLast = some d
    · rw [if_pos ha, show agrees = true from decide_eq_true ha]
      rfl
    · rw [if_neg ha, show agrees = false from decide_eq_false ha]
      rfl
  · rw [if_pos (by simp [agrees, hlast, hpartner])] at hx
    rw [hx]
    exact s1.raised_event _ _ _ _ hlt

/-! ### ANNOUNCE -/

/-- What an answer to an announcement shows. -/
theorem State.showAnn_shows (s : State) (p : Nat) {k id outcome eff : Nat} (hk : k < 16) (hid : id < 16) (hout : outcome < 8)
    (heff : eff < 2 ^ 32) :
    let x := s.showAnn p k id outcome eff
    x = { s with regs := x.regs } ∧ x.get (ALF_ANN.key p) ALF_ANN.OUTCOME = outcome ∧
    x.get (ALF_ANN.key p) ALF_ANN.PROFILE = k ∧ x.get (ALF_ANN.key p) ALF_ANN.ANN_ID = id ∧
    x.get (ALF_ANN_PFN.key p) ALF_ANN_PFN.EFF_PFN = eff := by
  intro x
  have hne : ALF_ANN.key p ≠ ALF_ANN_PFN.key p := by unfold ALF_ANN.key ALF_ANN_PFN.key; omega
  have p1 : (s.put (ALF_ANN.key p) ALF_ANN.PROFILE k).get (ALF_ANN.key p) ALF_ANN.PROFILE = k :=
    (State.get_put_same s _ _ _ (by decide)).trans (Nat.mod_eq_of_lt hk)
  have hx : x = (((s.put (ALF_ANN.key p) ALF_ANN.PROFILE k).put (ALF_ANN.key p) ALF_ANN.ANN_ID id).put (ALF_ANN.key p)
      ALF_ANN.OUTCOME outcome).put (ALF_ANN_PFN.key p) ALF_ANN_PFN.EFF_PFN eff := rfl
  have hregs : OnlyRegs s x [ALF_ANN.key p, ALF_ANN_PFN.key p] :=
    (((OnlyRegs.put s _ _ _ (by simp)).trans (.put _ _ _ _ (by simp))).trans (.put _ _ _ _ (by simp))).trans (.put _ _ _ _ (by simp))
  refine ⟨hregs.1, ?_⟩
  clear_value x
  clear hregs
  generalize s.put (ALF_ANN.key p) ALF_ANN.PROFILE k = y at p1 hx
  have p2 : (y.put (ALF_ANN.key p) ALF_ANN.ANN_ID id).get (ALF_ANN.key p) ALF_ANN.PROFILE = k :=
    (State.get_put_field y _ _ _ _ (by decide) (by decide)).trans p1
  have i2 : (y.put (ALF_ANN.key p) ALF_ANN.ANN_ID id).get (ALF_ANN.key p) ALF_ANN.ANN_ID = id :=
    (State.get_put_same y _ _ _ (by decide)).trans (Nat.mod_eq_of_lt hid)
  generalize y.put (ALF_ANN.key p) ALF_ANN.ANN_ID id = z at p2 i2 hx
  have p3 : (z.put (ALF_ANN.key p) ALF_ANN.OUTCOME outcome).get (ALF_ANN.key p) ALF_ANN.PROFILE = k :=
    (State.get_put_field z _ _ _ _ (by decide) (by decide)).trans p2
  have i3 : (z.put (ALF_ANN.key p) ALF_ANN.OUTCOME outcome).get (ALF_ANN.key p) ALF_ANN.ANN_ID = id :=
    (State.get_put_field z _ _ _ _ (by decide) (by decide)).trans i2
  have o3 : (z.put (ALF_ANN.key p) ALF_ANN.OUTCOME outcome).get (ALF_ANN.key p) ALF_ANN.OUTCOME = outcome :=
    (State.get_put_same z _ _ _ (by decide)).trans (Nat.mod_eq_of_lt hout)
  generalize z.put (ALF_ANN.key p) ALF_ANN.OUTCOME outcome = w at p3 i3 o3 hx
  have hother : ∀ f, x.get (ALF_ANN.key p) f = w.get (ALF_ANN.key p) f := fun f => by
    rw [hx]
    exact State.get_put_other w _ _ _ _ _ hne
  refine ⟨(hother _).trans o3, (hother _).trans p3, (hother _).trans i3, ?_⟩
  rw [hx]
  exact (State.get_put_same w _ _ _ (by decide)).trans (Nat.mod_eq_of_lt heff)

/-- An answer to an announcement: the port's replies, what is shown, and what is remembered. -/
theorem State.annAnswer_shows (s : State) (p : Nat) {k id eff code outcome : Nat} (hk : k < 16) (hid : id < 16)
    (hout : outcome < 8) (heff : eff < 2 ^ 32) :
    let x := s.annAnswer p k id eff code outcome eff
    x = { s with regs := x.regs, ports := x.ports } ∧ (∀ q, q ≠ p → x.port q = s.port q) ∧
    (x.get (ALF_ANN.key p) ALF_ANN.OUTCOME = outcome ∧ x.get (ALF_ANN.key p) ALF_ANN.PROFILE = k ∧
      x.get (ALF_ANN.key p) ALF_ANN.ANN_ID = id ∧ x.get (ALF_ANN_PFN.key p) ALF_ANN_PFN.EFF_PFN = eff) ∧
    (x.alf p).firstReplies = (s.alf p).firstReplies ++ [annReply code k id eff] ∧ (x.alf p).anns = (s.alf p).anns := by
  intro x
  let s1 := s.updAlf p fun x => { x with
    firstReplies := x.firstReplies ++ [annReply code k id eff]
    answered := (x.answered.filter fun a => decide (a.1 % 16 ≠ id)) ++ [(k * 16 + id, eff, code, eff)] }
  have hport : ∀ q, s1.port q = if q = p then _ else s.port q := fun q => State.port_updPort s p q _
  obtain ⟨hframe, hshown⟩ := s1.showAnn_shows p hk hid hout heff
  have hx : x = s1.showAnn p k id outcome eff := rfl
  rw [← hx] at hframe hshown
  have hports : x.ports = s1.ports := by rw [hframe]
  have hportx : ∀ q, x.port q = s1.port q := fun q => by rw [State.port, State.port, hports]
  refine ⟨by rw [hports]; exact hframe, fun q hq => (hportx q).trans ((hport q).trans (if_neg hq)), hshown, ?_, ?_⟩
  · rw [State.alf, hportx, hport, if_pos rfl]
    rfl
  · rw [State.alf, hportx, hport, if_pos rfl]
    rfl

/-- The entry of an accepted announcement. -/
def annOf (s : State) (p k id eff : Nat) : Entry :=
  { creation := s.cal.nextCreation, key := .port p eff, action := .alfResize p k id }

theorem State.addEntry_annOf (s : State) (p k id eff : Nat) :
    s.addEntry (.port p eff) (.alfResize p k id) false 0 0 = { s with
      regs := (s.addEntry (.port p eff) (.alfResize p k id) false 0 0).regs
      cal := { entries := s.cal.entries ++ [annOf s p k id eff], nextCreation := s.cal.nextCreation + 1 } } :=
  State.put_withCal s _ _ _ _

theorem State.annEntry_shows (s : State) (p k id eff : Nat) (hroom : s.cal.entries.length < calCapacity) :
    let x := s.annEntry p k id eff
    x = { s with regs := x.regs, ports := x.ports, cal := {
      entries := s.cal.entries ++ [annOf s p k id eff], nextCreation := s.cal.nextCreation + 1 } } ∧
    (∀ q, q ≠ p → x.port q = s.port q) ∧ (x.alf p).firstReplies = (s.alf p).firstReplies ∧
    (x.alf p).anns = (s.alf p).anns ++ [⟨k, id, eff, s.cal.nextCreation⟩] := by
  intro x
  have hadd : (s.addDevice (.port p eff) (.alfResize p k id)).2 = s.addEntry (.port p eff) (.alfResize p k id) false 0 0 :=
    congrArg Prod.snd (if_pos (decide_eq_true hroom))
  have hx : x = (let s1 := (s.addEntry (.port p eff) (.alfResize p k id) false 0 0).updAlf p fun x =>
      { x with anns := x.anns ++ [⟨k, id, eff, s.cal.nextCreation⟩] }
      s1.put (ALF_STATUS.key p) ALF_STATUS.PENDING (s1.alf p).anns.length) := by
    rw [← hadd]
    rfl
  have hentry := s.addEntry_annOf p k id eff
  dsimp only at hx
  generalize s.addEntry (.port p eff) (.alfResize p k id) false 0 0 = y at hx hentry
  have hport : ∀ q, (y.updAlf p fun x => { x with anns := x.anns ++ [⟨k, id, eff, s.cal.nextCreation⟩] }).port q =
      if q = p then { y.port p with alf := { (y.port p).alf with
        anns := (y.port p).alf.anns ++ [⟨k, id, eff, s.cal.nextCreation⟩] } } else y.port q := fun q =>
    State.port_updPort y p q _
  have hframe : (y.updAlf p fun x => { x with anns := x.anns ++ [⟨k, id, eff, s.cal.nextCreation⟩] }) = { y with
      ports := (y.updAlf p fun x => { x with anns := x.anns ++ [⟨k, id, eff, s.cal.nextCreation⟩] }).ports } := rfl
  generalize (y.updAlf p fun x => { x with anns := x.anns ++ [⟨k, id, eff, s.cal.nextCreation⟩] }) = z at hx hport hframe
  have hput : OnlyRegs z x [ALF_STATUS.key p] := by
    rw [hx]
    exact .put z _ _ _ (by simp)
  clear_value x
  clear hx
  have hports : x.ports = z.ports := by rw [hput.1]
  have hportx : ∀ q, x.port q = z.port q := fun q => by rw [State.port, State.port, hports]
  have hy : ∀ q, y.port q = s.port q := fun q => by rw [hentry]; rfl
  refine ⟨?_, fun q hq => (hportx q).trans ((hport q).trans ((if_neg hq).trans (hy q))), ?_, ?_⟩
  · rw [hports]
    refine hput.1.trans ?_
    generalize x.regs = r
    rw [hframe, hentry]
  · rw [State.alf, hportx, hport, if_pos rfl, hy]
    rfl
  · rw [State.alf, hportx, hport, if_pos rfl, hy]
    rfl

/-- Which announcement of the port was answered already. -/
def State.annKnown (s : State) (p k id eff : Nat) : Option (Nat × Nat × Nat × Nat) :=
  (s.alf p).answered.find? fun a => decide (a.1 = k * 16 + id ∧ a.2.1 = eff)

section
variable {s : State} {p k id eff frame lead : Nat}

theorem State.announce_again {a : Nat × Nat × Nat × Nat} (half : s.isAlf p = true) (hknown : s.annKnown p k id eff = some a) :
    s.announce p k id eff frame = s.updAlf p fun x => { x with repeats := x.repeats ++ [annReply a.2.2.1 k id a.2.2.2] } := by
  refine (if_neg (by simp [half])).trans ?_
  change (match s.annKnown p k id eff with | some a => _ | none => _) = _
  rw [hknown]

/-- The rules on a new announcement, in the order of Table 06-7. -/
def State.announceNew (s : State) (p k id eff lead : Nat) : State :=
  if s.alfFrozen p then s.annAnswer p k id eff 0x83 4 eff
  else if ¬ s.alfValid p k then s.annAnswer p k id eff 0x83 3 eff
  else if lead < 8 ∨ 4095 < lead then s.annAnswer p k id eff 0x83 2 eff
  else if 4 ≤ (s.alf p).anns.length ∨ ¬ s.deviceRoom then s.annAnswer p k id eff 0x83 5 eff
  else match (s.alf p).anns.find? fun a => decide (a.eff = eff) with
    | some a => ((s.annReplace p a).annEntry p k id eff).annAnswer p k id eff 0x81 0 eff
    | none =>
      if (s.alfPendingFrames p).contains ((eff + 2 ^ 32 - 1) % 2 ^ 32) ∨ s.alfSecond p eff = true then
        let later := (eff + 1) % 2 ^ 32
        let s1 := match (s.alf p).anns.find? fun a => decide (a.eff = later) with
          | some a => s.annReplace p a
          | none => s
        (s1.annEntry p k id later).annAnswer p k id eff 0x82 1 later
      else (s.annEntry p k id eff).annAnswer p k id eff 0x81 0 eff

theorem State.announce_new (half : s.isAlf p = true) (hknown : s.annKnown p k id eff = none) :
    s.announce p k id eff frame = s.announceNew p k id eff ((eff + 2 ^ 32 - frame) % 2 ^ 32) := by
  refine (if_neg (by simp [half])).trans ?_
  change (match s.annKnown p k id eff with | some a => _ | none => _) = _
  rw [hknown]
  rfl

theorem State.announceNew_frozen (hf : s.alfFrozen p = true) :
    s.announceNew p k id eff lead = s.annAnswer p k id eff 0x83 4 eff := if_pos hf

theorem State.announceNew_invalid (hf : s.alfFrozen p = false) (hv : s.alfValid p k = false) :
    s.announceNew p k id eff lead = s.annAnswer p k id eff 0x83 3 eff :=
  (if_neg (by simp [hf])).trans (if_pos (by simp [hv]))

theorem State.announceNew_lead (hf : s.alfFrozen p = false) (hv : s.alfValid p k = true)
    (hl : lead < 8 ∨ 4095 < lead) :
    s.announceNew p k id eff lead = s.annAnswer p k id eff 0x83 2 eff :=
  (if_neg (by simp [hf])).trans ((if_neg (by simp [hv])).trans (if_pos hl))

theorem State.announceNew_full (hf : s.alfFrozen p = false) (hv : s.alfValid p k = true)
    (hlo : 8 ≤ lead) (hhi : lead ≤ 4095)
    (hfull : 4 ≤ (s.alf p).anns.length ∨ calCapacity ≤ s.cal.entries.length) :
    s.announceNew p k id eff lead = s.annAnswer p k id eff 0x83 5 eff := by
  refine (if_neg (by simp [hf])).trans ((if_neg (by simp [hv])).trans ((if_neg (by omega)).trans (if_pos ?_)))
  exact hfull.imp (fun h => h) fun h => by simpa [State.deviceRoom] using h

theorem State.announceNew_accepted (hf : s.alfFrozen p = false) (hv : s.alfValid p k = true)
    (hlo : 8 ≤ lead) (hhi : lead ≤ 4095)
    (hroom : ¬ (4 ≤ (s.alf p).anns.length ∨ calCapacity ≤ s.cal.entries.length))
    (hfresh : ∀ a ∈ (s.alf p).anns, a.eff ≠ eff)
    (hfree : (s.alfPendingFrames p).contains ((eff + 2 ^ 32 - 1) % 2 ^ 32) = false) (hsecond : s.alfSecond p eff = false) :
    s.announceNew p k id eff lead = (s.annEntry p k id eff).annAnswer p k id eff 0x81 0 eff := by
  have hnone : (s.alf p).anns.find? (fun a => decide (a.eff = eff)) = none :=
    List.find?_eq_none.mpr fun a ha => by simpa using hfresh a ha
  refine (if_neg (by simp [hf])).trans ((if_neg (by simp [hv])).trans ((if_neg (by omega)).trans ((if_neg ?_).trans ?_)))
  · rintro (h | h)
    · exact hroom (.inl h)
    · exact hroom (.inr (by simpa [State.deviceRoom] using h))
  · rw [hnone]
    dsimp only
    refine if_neg ?_
    rintro (h | h)
    · exact Bool.false_ne_true (hfree.symm.trans h)
    · exact Bool.false_ne_true (hsecond.symm.trans h)

end

end Sys2Proof.Machine

open Sys2Proof Sys2Proof.Machine

/-- Settles O53: QUALITY and IDENT, and an announcement by the rows of Table 06-7. -/
theorem alfOverhead : Obligations.AlfOverhead := by
  intro s p hcarry half hhrp o onePort
  refine ⟨fun c => answers_of ?_ (s.alfQuality_shows p c half), fun i w => ⟨fun h => answers_of (x := s.alfIdent p i w.toNat) ?_ ?_, fun h => answers_of ?_
    (s.alfIdent_full p i w.toNat half h)⟩, fun k id eff frame => ?_⟩
  · rw [← State.datapath_carrying hcarry fun s => s.alfQuality p c.toNat]
    rfl
  · rw [← State.datapath_carrying hcarry fun s => s.alfIdent p i w.toNat]
    rfl
  · rw [s.alfIdent_part p i w.toNat half h]
    exact ⟨⟨rfl, fun q hq => by rw [State.port_updAlf, if_neg hq]⟩, rfl, rfl, by rw [State.port_updAlf, if_pos rfl]; rfl⟩
  · rw [← State.datapath_carrying hcarry fun s => s.alfIdent p i w.toNat]
    rfl
  intro lead known full word shown refused
  have hexec : exec (.alfAnnounce p k id eff frame) s = .next (s.announce p k id eff.toNat frame.toNat).settle := by
    have hon : s.announceOn p k id eff.toNat frame.toNat = s.announce p k id eff.toNat frame.toNat := by
      unfold State.announceOn
      rw [hhrp]
    rw [← hon, ← State.datapath_carrying hcarry fun s => s.announceOn p k id eff.toNat frame.toNat]
    rfl
  have hnew : known = none → s.announce p k id eff.toNat frame.toNat = s.announceNew p k id eff.toNat lead :=
    fun h => State.announce_new half h
  have hrefused : ∀ outcome, outcome < 8 → s.announce p k id eff.toNat frame.toNat =
      s.annAnswer p k id eff.toNat 0x83 outcome eff.toNat → refused outcome := fun outcome hout h => by
    obtain ⟨hframe, hother, hshown, hreplies, hanns⟩ :=
      s.annAnswer_shows p (code := 0x83) k.isLt id.isLt hout (by exact eff.isLt)
    refine answers_of hexec ?_
    rw [h]
    refine ⟨⟨?_, hother⟩, ?_, hshown, hreplies, hanns⟩
    · generalize s.annAnswer p k id eff.toNat 0x83 outcome eff.toNat = x at hframe ⊢
      rw [hframe]
    · rw [hframe]
  refine ⟨fun a ha => answers_of hexec ?_, fun hk hf => hrefused 4 (by decide) ((hnew hk).trans (State.announceNew_frozen hf)),
    fun hk hf hv => hrefused 3 (by decide) ((hnew hk).trans (State.announceNew_invalid hf hv)),
    fun hk hf hv hl => hrefused 2 (by decide) ((hnew hk).trans (State.announceNew_lead hf hv hl)),
    fun hk hf hv hlo hhi hfull => hrefused 5 (by decide) ((hnew hk).trans (State.announceNew_full hf hv hlo hhi hfull)),
    fun hk hf hv hlo hhi hroom hfresh hfree hsecond => answers_of hexec ?_⟩
  · rw [State.announce_again half ha]
    exact ⟨⟨rfl, fun q hq => by rw [State.port_updAlf, if_neg hq]⟩, rfl, rfl, by rw [State.port_updAlf, if_pos rfl]; rfl⟩
  · rw [hnew hk, State.announceNew_accepted hf hv hlo hhi hroom hfresh hfree hsecond]
    obtain ⟨hframe1, hother1, hreplies1, hanns1⟩ := s.annEntry_shows p k id eff.toNat (by
      by_contra hn
      exact hroom (.inr (Nat.le_of_not_lt hn)))
    generalize s.annEntry p k id eff.toNat = y at hframe1 hother1 hreplies1 hanns1
    obtain ⟨hframe2, hother2, hshown, hreplies2, hanns2⟩ :=
      y.annAnswer_shows p (code := 0x81) (outcome := 0) k.isLt id.isLt (by decide) eff.isLt
    generalize y.annAnswer p k id eff.toNat 0x81 0 eff.toNat = x at hframe2 hother2 hshown hreplies2 hanns2
    have hcal : x.cal = y.cal := by rw [hframe2]
    have hcaly : y.cal = { entries := s.cal.entries ++ [annOf s p k id eff.toNat], nextCreation := s.cal.nextCreation + 1 } := by
      rw [hframe1]
    refine ⟨⟨?_, fun q hq => (hother2 q hq).trans (hother1 q hq)⟩, hshown, hreplies2.trans (by rw [hreplies1]),
      hanns2.trans hanns1, hcal.trans hcaly⟩
    rw [hcal, hcaly]
    exact hframe2.trans (congrArg (fun z : State => { z with regs := x.regs, ports := x.ports }) hframe1)
end

section
/-! PROOF. What SDH, OTU and ALF ports send (R104 to R108, R133, R156, R162). -/

namespace Sys2Proof.Machine

/-- `x` is `s` but for the record of port `p`, which moves by `f`. -/
def PortMoves (s x : State) (p : Nat) (f : PortSt → PortSt) : Prop :=
  x = { s with ports := x.ports } ∧ (∀ q, q ≠ p → x.port q = s.port q) ∧ x.port p = f (s.port p)

theorem PortMoves.updPort (s : State) (p : Nat) (f : PortSt → PortSt) : PortMoves s (s.updPort p f) p f :=
  ⟨rfl, fun q hq => by rw [State.port_updPort, if_neg hq], by rw [State.port_updPort, if_pos rfl]⟩

theorem PortMoves.trans {s t u : State} {p : Nat} {f g : PortSt → PortSt} (h1 : PortMoves s t p f) (h2 : PortMoves t u p g) :
    PortMoves s u p (g ∘ f) := by
  obtain ⟨e1, o1, p1⟩ := h1
  obtain ⟨e2, o2, p2⟩ := h2
  refine ⟨?_, fun q hq => (o2 q hq).trans (o1 q hq), by rw [p2, p1]; rfl⟩
  generalize u.ports = a at e2 ⊢
  rw [e2, e1]

theorem State.sendTribs_none (s : State) (p : Nat) (keep : Nat → Bool) (h : s.tribs = []) : s.sendTribs p keep = s := by
  unfold State.sendTribs
  rw [h]
  rfl

/-! ### SDH and SONET -/

theorem State.hasStm_of_isSdh {s : State} {p : Nat} (h : s.isSdh p = true) : ¬ ¬ s.hasStm p = true := by
  simp [State.hasStm, h]

/-- A squelched SDH or SONET port. -/
theorem State.sdhTransmit_silent (s : State) (p : Nat) (hsdh : s.isSdh p = true) (hsilent : s.silent p = true) :
    s.sdhTransmit p = s.updSdh p fun x => { x with txSquelched := true, txCount := (x.txCount + 1) % 64 } :=
  (if_neg (State.hasStm_of_isSdh hsdh)).trans (if_pos hsilent)

/-- K1 and K2 of a port of no group with K_SRC 1: those of SDH_TX_OH. -/
theorem State.kSource_own (s : State) (p : Nat) (hsdh : s.isSdh p = true) (hmsp : s.mspOf p = none)
    (hk : s.get (SDH_TX_OH.key p) SDH_TX_OH.K_SRC = 1) :
    s.kSource p = (s.get (SDH_TX_OH.key p) SDH_TX_OH.K1_TX, s.get (SDH_TX_OH.key p) SDH_TX_OH.K2_TX, s) := by
  have hget : ∀ f, s.sdhGet p (SDH_TX_OH.key p) f = s.get (SDH_TX_OH.key p) f := fun f => if_pos hsdh
  have hne : s.get (SDH_TX_OH.key p) SDH_TX_OH.K_SRC ≠ 0 := by rw [hk]; exact Nat.one_ne_zero
  have hgroup : s.kGroup p = none := by
    refine (if_neg (by simp [hsdh])).trans ?_
    rw [hmsp]
    exact if_neg hne
  unfold State.kSource
  rw [hgroup]
  dsimp only
  rw [if_neg fun h => hne h.2, hget, hget]

/-- K2 as sent, by the three low bits. -/
theorem k2Sent_eq (k2 : Nat) (ais rdi : Bool) :
    k2Sent k2 ais rdi = k2 / 8 * 8 + (if ais then 7 else if rdi then 6 else k2 % 8) := by
  unfold k2Sent
  cases ais with
  | true => rfl
  | false =>
    cases rdi with
    | true => rfl
    | false => exact (Nat.div_add_mod' k2 8).symm

/-- DCC bytes as sent. -/
theorem dccSent_eq (on : Bool) (n : Nat) (buf : List Byte) :
    dccSent on n buf = (((if on then buf else []) ++ List.replicate n 0x7E).take n, if on then buf.drop n else buf) := by
  cases on with
  | true => rfl
  | false => simp [dccSent]

/-- What a frame of an SDH or SONET port without paths leaves of the framer's record. -/
def State.sdhSent (s : State) (p : Nat) (x : SdhSt) : SdhSt :=
  let rs := s.on (SDH_CFG.key p) SDH_CFG.DCC_RS_EN
  let ms := s.on (SDH_CFG.key p) SDH_CFG.DCC_MS_EN
  let k2 := s.get (SDH_TX_OH.key p) SDH_TX_OH.K2_TX
  { x with
    txCount := (x.txCount + 1) % 64, txJ0 := s.j0Sent p, txK1 := s.get (SDH_TX_OH.key p) SDH_TX_OH.K1_TX
    txK2 := k2 / 8 * 8 + (if s.lineAisSent p then 7 else if s.lineRdi p then 6 else k2 % 8)
    txS1 := s.get (SDH_TX_OH.key p) SDH_TX_OH.S1_TX
    txM := if s.reiOff p then 0 else min (s.reiMax p) x.lastB2
    txRs := ((if rs then x.rsTx else []) ++ List.replicate 3 0x7E).take 3
    rsTx := if rs then x.rsTx.drop 3 else x.rsTx
    txMs := ((if ms then x.msTx else []) ++ List.replicate 9 0x7E).take 9
    msTx := if ms then x.msTx.drop 9 else x.msTx
    txAis := s.lineAisSent p, txSquelched := false }

/-- The record of the framer as the frame goes out; the frame count moves after it. -/
def State.sdhFirst (s : State) (p : Nat) (y : PortSt) : PortSt :=
  { y with sdh := { s.sdhSent p y.sdh with txCount := y.sdh.txCount } }

def sdhCountsSent (y : PortSt) : PortSt := { y with sdh := { y.sdh with txCount := (y.sdh.txCount + 1) % 64 } }

/-- A frame of an SDH or SONET port without paths and tributaries, its K bytes and S1 its own. -/
theorem State.sdhTransmit_plain (s : State) (p : Nat) (hsdh : s.isSdh p = true) (hsilent : s.silent p = false)
    (hheads : s.heads p = []) (htribs : s.tribs = []) (hmsp : s.mspOf p = none)
    (hk : s.get (SDH_TX_OH.key p) SDH_TX_OH.K_SRC = 1) (hs1 : s.get (SDH_TX_OH.key p) SDH_TX_OH.S1_SRC = 1) :
    PortMoves s (s.sdhTransmit p) p (sdhCountsSent ∘ s.sdhFirst p) := by
  have hrow : s.sdhTransmit p = (let k := s.kSource p
      let x := s.sdh p
      let rs := dccSent (s.sdhOn p SDH_CFG.DCC_RS_EN) 3 x.rsTx
      let ms := dccSent (s.sdhOn p SDH_CFG.DCC_MS_EN) 9 x.msTx
      let s1 := k.2.2.updSdh p fun x => { x with
        txJ0 := s.j0Sent p, txK1 := k.1, txK2 := k2Sent k.2.1 (s.lineAisSent p) (s.lineRdi p), txS1 := s.s1Sent p,
        txM := if s.reiOff p then 0 else min (s.reiMax p) x.lastB2,
        txRs := rs.1, rsTx := rs.2, txMs := ms.1, msTx := ms.2, txAis := s.lineAisSent p, txSquelched := false }
      let s2 := s1.each (s1.heads p) fun s h => s.sendPath p h
      let s3 := if x.txCount % 4 = 0 then s2.sendTribs p (fun k => !posAlf (k % 65536)) else s2
      s3.updSdh p fun x => { x with txCount := (x.txCount + 1) % 64 }) :=
    (if_neg (State.hasStm_of_isSdh hsdh)).trans (if_neg (by rw [hsilent]; exact Bool.false_ne_true))
  have hs1' : s.s1Sent p = s.get (SDH_TX_OH.key p) SDH_TX_OH.S1_TX := if_pos ⟨hsdh, hs1⟩
  dsimp only at hrow
  rw [s.kSource_own p hsdh hmsp hk, hs1', k2Sent_eq, dccSent_eq, dccSent_eq, State.sdhOn_of_isSdh hsdh,
    State.sdhOn_of_isSdh hsdh] at hrow
  dsimp only at hrow
  change s.sdhTransmit p = (let s1 := s.updPort p (s.sdhFirst p)
    let s2 := s1.each (s1.heads p) fun s h => s.sendPath p h
    let s3 := if (s.sdh p).txCount % 4 = 0 then s2.sendTribs p (fun k => !posAlf (k % 65536)) else s2
    s3.updPort p sdhCountsSent) at hrow
  have h1 := PortMoves.updPort s p (s.sdhFirst p)
  have hheads1 : (s.updPort p (s.sdhFirst p)).heads p = [] := hheads
  have htribs1 : (s.updPort p (s.sdhFirst p)).tribs = [] := htribs
  generalize s.updPort p (s.sdhFirst p) = s1 at h1 hheads1 htribs1 hrow
  dsimp only at hrow
  rw [hheads1, show (s1.each [] fun s h => s.sendPath p h) = s1 from rfl, s1.sendTribs_none _ _ htribs1, ite_self] at hrow
  rw [hrow]
  exact h1.trans (.updPort s1 p sdhCountsSent)

/-! ### OTN -/

theorem Tbl.mem_of_find {α : Type} {t : Tbl α} {k : Nat} {v : α} (h : t.find k = some v) : (k, v) ∈ t := by
  induction t with
  | nil => cases h
  | cons e t ih =>
    obtain ⟨j, w⟩ := e
    by_cases hj : j = k
    · rw [Tbl.find, if_pos hj] at h
      rw [hj, Option.some.inj h]
      exact List.mem_cons_self
    · rw [Tbl.find, if_neg hj] at h
      exact List.mem_cons_of_mem _ (ih h)

/-- A port without ODUs has no ODU at index 0. -/
theorem State.otype_of_oduList {s : State} {p : Nat} (h : s.oduList p = []) : (s.odu (oduKey p 0)).cfg.otype = 0 := by
  by_contra hne
  cases hfind : s.odus.find (oduKey p 0) with
  | none =>
    have hodu : s.odu (oduKey p 0) = {} := by rw [State.odu, Tbl.getD, hfind]; rfl
    rw [hodu] at hne
    exact hne rfl
  | some v =>
    have hodu : s.odu (oduKey p 0) = v := by rw [State.odu, Tbl.getD, hfind]; rfl
    rw [hodu] at hne
    have hmem : (oduKey p 0, v) ∈ s.odus.filter fun e => decide (e.1 / 256 = p) && decide (e.2.cfg.otype ≠ 0) :=
      List.mem_filter.mpr ⟨Tbl.mem_of_find hfind, by simp [oduKey, hne]⟩
    rw [List.map_eq_nil_iff.mp h] at hmem
    cases hmem

/-- A port without ODUs sends a PSI of 0. -/
theorem State.psiSent_none (s : State) (p m : Nat) (h : s.oduList p = []) : s.psiSent p m = 0 :=
  if_pos (.inl (State.otype_of_oduList h))

/-- A squelched OTU port. -/
theorem State.otuTransmit_silent (s : State) (p : Nat) (hotn : s.isOtn p = true) (hsilent : s.silent p = true) :
    s.otuTransmit p = s.updOtn p fun x => { x with txMfas := ((s.otn p).txMfas + 1) % 256, txSquelched := true } :=
  (if_neg (by simp [hotn])).trans (if_pos hsilent)

/-- What a frame of an OTU port without ODUs leaves of the framer's record. -/
def State.otuSent (s : State) (p : Nat) (ais : Bool) (psi : Nat) (x : OtnSt) : OtnSt :=
  let m := (x.txMfas + 1) % 256
  { x with
    txMfas := m, txPsi := psi, txAis := ais, txSquelched := false
    sm := { x.sm with
      txTti := (x.smTx.getD (m % 64) 0).toNat
      txStatus := (if s.reiOff p then 0 else min 8 x.sm.bei) * 16 + bit (s.smBdi p) * 8 } }

theorem State.otuTransmit_plain (s : State) (p : Nat) (hotn : s.isOtn p = true) (hsilent : s.silent p = false)
    (hodus : s.oduList p = []) :
    ∃ ais, PortMoves s (s.otuTransmit p) p fun y => { y with
      otn := s.otuSent p ais (s.psiSent p (((s.otn p).txMfas + 1) % 256)) y.otn } := by
  let m := ((s.otn p).txMfas + 1) % 256
  let ais := (s.sentOut p dkPort p).isAis || decide (s.sentOut p dkPort p = .forced)
  have hrow : s.otuTransmit p = (let s1 := s.updPort p fun y => { y with otn := { y.otn with
        txMfas := m, txPsi := s.psiSent p m, txAis := ais, txSquelched := false } }
      (s1.sourceLayer p 0 smLayer m (s1.otn p).smTx (s1.smBdi p) 0).each (s1.oduList p) fun s i => s.sendOdu p i m) :=
    (if_neg (by simp [hotn])).trans (if_neg (by rw [hsilent]; exact Bool.false_ne_true))
  have h1 := PortMoves.updPort s p fun y => { y with otn := { y.otn with
    txMfas := m, txPsi := s.psiSent p m, txAis := ais, txSquelched := false } }
  obtain ⟨hodus1, hbdi1, hrei1⟩ : (s.updPort p fun y => { y with otn := { y.otn with
      txMfas := m, txPsi := s.psiSent p m, txAis := ais, txSquelched := false } }).oduList p = [] ∧
    (s.updPort p fun y => { y with otn := { y.otn with
      txMfas := m, txPsi := s.psiSent p m, txAis := ais, txSquelched := false } }).smBdi p = s.smBdi p ∧
    (s.updPort p fun y => { y with otn := { y.otn with
      txMfas := m, txPsi := s.psiSent p m, txAis := ais, txSquelched := false } }).reiOff p = s.reiOff p := ⟨hodus, rfl, rfl⟩
  dsimp only at hrow
  generalize (s.updPort p fun y => { y with otn := { y.otn with
    txMfas := m, txPsi := s.psiSent p m, txAis := ais, txSquelched := false } }) = s1 at h1 hodus1 hbdi1 hrei1 hrow
  rw [hodus1, hbdi1] at hrow
  have hsource : s.otuTransmit p = s1.updPort p fun y => { y with otn := { y.otn with sm := { y.otn.sm with
      txTti := ((s1.otn p).smTx.getD (m % 64) 0).toNat
      txStatus := (if s1.reiOff p then 0 else min 8 (s1.otn p).sm.bei) * 16 + bit (s.smBdi p) * 8 + 0 } } } := hrow
  have h2 := PortMoves.updPort s1 p fun y => { y with otn := { y.otn with sm := { y.otn.sm with
    txTti := ((s1.otn p).smTx.getD (m % 64) 0).toNat
    txStatus := (if s1.reiOff p then 0 else min 8 (s1.otn p).sm.bei) * 16 + bit (s.smBdi p) * 8 + 0 } } }
  rw [← hsource] at h2
  obtain ⟨hframe, hother, hport⟩ := h1.trans h2
  refine ⟨ais, hframe, hother, hport.trans ?_⟩
  rw [hrei1, State.otn, h1.2.2]
  rfl

/-! ### ALF -/

/-- The four words of a frame: new replies first. -/
theorem State.sendWords_shows (s : State) (p mfi : Nat) :
    ∃ sent held, PortMoves s (s.sendWords p mfi) p (fun y => { y with alf := { y.alf with
      sentWords := sent, firstReplies := y.alf.firstReplies.drop 4, heldWords := held, repeats := [] } }) ∧
    sent.length ≤ 4 ∧ (s.alf p).firstReplies.take 4 <+: sent := by
  let first := (s.alf p).firstReplies.take 4
  let due := (s.alf p).heldWords ++ s.calledWord p mfi
  let called := due.take (4 - first.length)
  have hlen : first.length ≤ 4 := List.length_take_le _ _
  refine ⟨(first ++ called ++ [s.flowWord p] ++ (s.alf p).repeats).take 4, due.drop called.length,
    ?_, List.length_take_le _ _, List.prefix_take_iff.mpr ⟨?_, hlen⟩⟩
  · change PortMoves s (s.updPort p fun y => { y with alf := { y.alf with
      sentWords := (first ++ called ++ [s.flowWord p] ++ (s.alf p).repeats).take 4
      firstReplies := y.alf.firstReplies.drop 4, heldWords := due.drop called.length, repeats := [] } }) p _
    exact .updPort s p _
  · rw [List.append_assoc, List.append_assoc]
    exact List.prefix_append _ _

/-- The overhead channel word by MFI. -/
theorem State.ohcSent_words (s : State) (p : Nat) :
    s.ohcSent p 5 = s.address ∧ s.ohcSent p 6 = p ∧ s.ohcSent p 7 = s.get (ALF_CFG.key p) ALF_CFG.LINK_ID ∧
    ((s.alf p).anns = [] → s.ohcSent p 2 = 0xF000) := by
  refine ⟨rfl, rfl, rfl, fun h => ?_⟩
  have hnone : s.nextAnn p = none := by
    unfold State.nextAnn
    rw [h]
    rfl
  unfold State.ohcSent
  rw [hnone]
  rfl

theorem State.pfn_of_isAlf {s : State} {p : Nat} (half : s.isAlf p = true) : s.pfn p = (s.port p).pfn := by
  have hfam : s.family p = 5 := by simpa [State.isAlf] using half
  exact if_neg (by simp [State.isEth, State.isChimney, hfam])

/-- What an ALF frame records of what it sends. -/
def State.alfSent (s : State) (p : Nat) (y : PortSt) : PortSt :=
  { y with alf := { y.alf with
      lastTxPfn := s.pfn p, lastTxProfile := s.alfProfile p, lastTxBlocks := (s.alfUse p).n
      lastTxOhc := s.ohcSent p (s.pfn p % 64)
      lastTxBsn := (match s.bondOf p with | some (g, _) => (s.bond g).lastBsn | none => 0)
      lastTxFlags := s.alfFlags p, lastTxGen := y.alf.listGen, lastTxSilent := s.silent p } }

/-- A frame of an ALF port without tributaries. -/
theorem State.alfTransmit_plain (s : State) (p : Nat) (half : s.isAlf p = true) (htribs : s.tribs = []) :
    s.alfTransmit p = (s.updPort p (s.alfSent p)).sendWords p (s.pfn p % 64) := by
  have hrow : s.alfTransmit p = (let s2 := (s.updPort p (s.alfSent p)).sendWords p (s.pfn p % 64)
      if s.pfn p % 4 = 0 then s2.sendTribs p (fun k => posAlf (k % 65536)) else s2) := if_neg (by simp [half])
  dsimp only at hrow
  rw [State.sendTribs_none _ _ _ (show ((s.updPort p (s.alfSent p)).sendWords p (s.pfn p % 64)).tribs = [] from htribs),
    ite_self] at hrow
  exact hrow

end Sys2Proof.Machine

open Sys2Proof Sys2Proof.Machine

/-- Settles O50: a frame of each family of port, squelched and not. -/
theorem framesSent : Obligations.FramesSent := by
  intro s p hcarry
  have hsdh : exec (.sdhFrameTransmit p) s = .next (s.sdhTransmit p).settle := by
    rw [← State.datapath_carrying hcarry fun s => s.sdhTransmit p]
    rfl
  have hotu : exec (.otuFrameTransmit p) s = .next (s.otuTransmit p).settle := by
    rw [← State.datapath_carrying hcarry fun s => s.otuTransmit p]
    rfl
  have half : exec (.alfFrameTransmit p) s = .next (s.alfTransmit p).settle := by
    rw [← State.datapath_carrying hcarry fun s => s.alfTransmit p]
    rfl
  refine ⟨fun h hsilent => answers_of hsdh ?_, fun h hsilent hheads htribs hmsp hk hs1 => answers_of hsdh ?_,
    fun h hsilent hodus => answers_of hotu ?_, fun h hsilent => answers_of hotu ?_, fun h htribs => answers_of half ?_⟩
  · rw [s.sdhTransmit_silent p h hsilent]
    exact PortMoves.updPort s p _
  · exact s.sdhTransmit_plain p h hsilent hheads htribs hmsp hk hs1
  · obtain ⟨ais, hframe, hother, hport⟩ := s.otuTransmit_plain p h hsilent hodus
    have hais : ((s.otuTransmit p).otn p).txAis = ais := by rw [State.otn, hport]; rfl
    refine ⟨hframe, hother, ?_⟩
    rw [hais, hport, s.psiSent_none p _ hodus]
    rfl
  · rw [s.otuTransmit_silent p h hsilent]
    exact PortMoves.updPort s p _
  · rw [s.alfTransmit_plain p h htribs]
    have h1 := PortMoves.updPort s p (s.alfSent p)
    have hpfn := State.pfn_of_isAlf h
    have hwords := s.ohcSent_words p
    generalize s.updPort p (s.alfSent p) = s1 at h1
    obtain ⟨sent, held, h2, hlen, hfirst⟩ := s1.sendWords_shows p (s.pfn p % 64)
    obtain ⟨hframe, hother, hport⟩ := h1.trans h2
    generalize s1.sendWords p (s.pfn p % 64) = x at hframe hother hport
    rw [State.alf, h1.2.2] at hfirst
    have halfx : x.alf p = { (s.alfSent p (s.port p)).alf with
        sentWords := sent, firstReplies := (s.alf p).firstReplies.drop 4, heldWords := held, repeats := [] } :=
      congrArg PortSt.alf hport
    have hmfi : s.pfn p % 64 = (s.port p).pfn % 64 := by rw [hpfn]
    obtain ⟨h5, h6, h7, h2⟩ := hwords
    refine ⟨hframe, hother, by rw [halfx]; exact hpfn, by rw [halfx]; rfl, by rw [halfx]; rfl, by rw [halfx]; rfl,
      by rw [halfx]; exact hlen, by rw [halfx]; exact hfirst, by rw [halfx], by rw [halfx], fun hm => ?_, fun hm => ?_,
      fun hm => ?_, fun hm hanns => ?_⟩
    · rw [halfx, ← h5, ← hm, ← hmfi]
      rfl
    · refine (congrArg AlfSt.lastTxOhc halfx).trans ?_
      refine Eq.trans ?_ h6
      rw [← hm, ← hmfi]
      rfl
    · rw [halfx, ← h7, ← hm, ← hmfi]
      rfl
    · rw [halfx, ← h2 hanns, ← hm, ← hmfi]
      rfl
end

section
/-! PROOF. Poisoned contexts, isolation, triggers and a pending spare (R28, R29, R32, R88, R430, R434, R436). -/

namespace Sys2Proof.Machine

/-! ### Poisoned contexts -/

theorem State.raised_eventX (s : State) (source code : Nat) (set : Bool) (entity : Nat) (ext : List Nat) (h : source < 384) :
    (s.eventX source code set entity ext).raised source code set := by
  unfold State.raised
  rw [(s.eventX_raised source code set entity ext h).1]
  exact ⟨_, List.mem_append_right _ (List.mem_singleton.mpr rfl), rfl, rfl, rfl⟩

/-- The event of a block, if the entity has one. -/
theorem State.blockEvent_shows (s : State) (c : Cond) (code : Nat) :
    Noted s (s.blockEvent c code) [] ∧ (s.blockOf c < 144 → (s.blockEvent c code).raised (s.blockOf c) code true) := by
  by_cases h : s.blockOf c < 144
  · have hx : s.blockEvent c code = s.eventX (s.blockOf c) code true 0 [c.source * 2 ^ 32 + c.entity] := if_pos h
    rw [hx]
    exact ⟨.raised (s.eventX_raised _ _ _ _ _ (by omega)) _, fun _ => s.raised_eventX _ _ _ _ _ (by omega)⟩
  · rw [show s.blockEvent c code = s from if_neg h]
    exact ⟨.refl s _, fun hl => absurd hl h⟩

/-- A frame of events read around a change of paths and of the health record. -/
theorem Noted.around_paths {s t u : State} {ks : List Nat} (ht : t = { s with paths := t.paths, health := t.health })
    (h : Noted t u ks) : Noted s { u with paths := s.paths, health := s.health } ks := by
  have hrd : ∀ k, t.rd k = s.rd k := fun k => by rw [ht]; rfl
  have htick : t.evt.tick = s.evt.tick := by rw [ht]
  refine ⟨?_, fun k hk hn => (h.2.1 k hk hn).trans (hrd k), htick ▸ h.2.2⟩
  have := congrArg (fun w : State => { w with paths := s.paths, health := s.health }) h.1
  refine this.trans ?_
  generalize t.paths = a, t.health = b at ht
  rw [ht]

theorem condPath_parts (p : Port) (head : Fin 192) (code : Nat) :
    (condPath p head code).source < 96 ∧ (condPath p head code).entity / 2 ^ 28 = 2 ∧
    (condPath p head code).entity % 256 = head.val := by
  refine ⟨p.isLt, ?_, ?_⟩
  · have := head.isLt
    simp only [condPath, entPath]
    omega
  · have := head.isLt
    simp only [condPath, entPath]
    omega

/-- The re-initialisation of a path. -/
theorem State.reinit_path (s : State) (p : Port) (head : Fin 192) (code : Nat) :
    s.reinit (condPath p head code) = s.updPath (pathKey p head) PathSt.restart := by
  obtain ⟨hp, hkind, hhead⟩ := condPath_parts p head code
  refine (if_pos hp).trans ((if_pos hkind).trans ?_)
  rw [hhead]
  rfl

theorem State.blockOf_path (s x : State) (p : Port) (head : Fin 192) (code : Nat) (hregs : x.regs = s.regs) :
    x.blockOf (condPath p head code) = s.blockOf (condPath p head code) := by
  obtain ⟨hp, hkind, _⟩ := condPath_parts p head code
  have hrow : ∀ z : State, z.blockOf (condPath p head code) = srcFramer (z.physOf (framerPos p)) := fun z =>
    (if_pos hp).trans (if_neg (by rw [hkind]; decide))
  rw [hrow, hrow, State.physOf, State.physOf, State.get, State.get, State.rd_congr hregs]

/-- A poisoned context read of a path that no retry mends. -/
theorem State.poisonedRead_path (s : State) (p : Port) (head : Fin 192) (code : Nat) (record : Bool) :
    let c := condPath p head code
    let x := s.poisonedRead c false record
    (∃ y, Noted s y [] ∧ x = { y with
      paths := x.paths
      health := if record || decide (c ∈ s.health.contextLost) then s.health
        else { s.health with contextLost := s.health.contextLost ++ [c] } }) ∧
    x.path (pathKey p head) = (s.path (pathKey p head)).restart ∧
    (∀ k, k ≠ pathKey p head → x.path k = s.path k) ∧
    (s.blockOf c < 144 → x.raised (s.blockOf c) (if record then 0x82 else 0x81) true) := by
  intro c x
  let lost := if s.health.contextLost.contains c then s.health.contextLost else s.health.contextLost ++ [c]
  let t := (s.updPath (pathKey p head) PathSt.restart).updHealth fun h =>
    if record then h else { h with contextLost := lost }
  have hx : x = t.blockEvent c (if record then 0x82 else 0x81) := by
    have hre := s.reinit_path p head code
    cases record with
    | true => exact congrArg (fun z : State => z.blockEvent c 0x82) hre
    | false =>
      refine (show x = (let s1 := s.reinit c
        (s1.updHealth fun h => { h with contextLost := if s1.health.contextLost.contains c then s1.health.contextLost
          else s1.health.contextLost ++ [c] }).blockEvent c 0x81) from rfl).trans ?_
      rw [hre]
      rfl
  have ht : t = { s with paths := t.paths, health := t.health } := rfl
  have hhealth : t.health = if record || decide (c ∈ s.health.contextLost) then s.health
      else { s.health with contextLost := s.health.contextLost ++ [c] } := by
    change (if record then s.health else { s.health with contextLost := lost }) = _
    cases record with
    | true => rfl
    | false =>
      by_cases hc : c ∈ s.health.contextLost
      · simp [lost, hc]
      · simp [lost, hc]
  have hpath : ∀ k, t.path k = if k = pathKey p head then (s.path (pathKey p head)).restart else s.path k := fun k =>
    Tbl.getD_store ..
  have hblock : t.blockOf c = s.blockOf c := s.blockOf_path t p head code rfl
  clear_value t
  obtain ⟨hn, hr⟩ := t.blockEvent_shows c (if record then 0x82 else 0x81)
  rw [← hx] at hn hr
  have hxp : ∀ k, x.path k = t.path k := fun k => by rw [State.path, State.path, hn.1]
  refine ⟨⟨{ x with paths := s.paths, health := s.health }, hn.around_paths ht, ?_⟩, ?_, fun k hk => ?_, fun hl => ?_⟩
  · have hh : x.health = t.health := by rw [hn.1]
    rw [← hhealth, ← hh]
  · rw [hxp, hpath, if_pos rfl]
  · rw [hxp, hpath, if_neg hk]
  · rw [← hblock]
    exact hr (hblock ▸ hl)

/-! ### Isolation and triggers -/

theorem noteReg_blockMap : ∀ i, i < 40 → noteReg (SYS_BLOCK_MAP.key i) = false := by decide

/-- A framer block in service is isolated. -/
theorem State.isolate_framer (s : State) (n : Fin 28) {i : Nat} (hfresh : BlockRef.framer n ∉ s.health.isolated)
    (hserved : s.servedPos 0 24 n = some i) (hstate : s.blockState i ≠ 3) :
    let x := s.isolate (.framer n)
    (∃ y, Noted s y [SYS_BLOCK_MAP.key i] ∧ x = { y with
      health := { s.health with isolated := s.health.isolated ++ [.framer n] }
      arrivals := s.arrivals ++ [.trigger (.framer i)] }) ∧
    x.blockState i = 1 ∧ x.has ⟨srcFramer n, 0, 0x80⟩ = true ∧ x.has (condRegion i) = true := by
  intro x
  have hi : i < 24 := State.servedPos_lt hserved
  have hcond : srcFramer n < 384 := by unfold srcFramer; omega
  have hregion : (condRegion i).source < 384 := by
    have : indexRegion i < 8 := by unfold indexRegion; split <;> omega
    simp only [condRegion, srcRegion]
    omega
  have hne : (⟨srcFramer n, 0, 0x80⟩ : Cond) ≠ condRegion i := fun h => by
    have := congrArg Cond.source h
    simp only [condRegion, srcRegion, srcFramer] at this
    omega
  have hx : x = ((((s.updHealth fun h => { h with isolated := h.isolated ++ [.framer n] }).cond
      ⟨srcFramer n, 0, 0x80⟩ true).setBlockState i 1).cond (condRegion i) true).arrive (.trigger (indexUnit i)) := by
    refine (if_neg (by simpa using hfresh)).trans ?_
    change (match s.servedPos 0 24 n with | none => s | some i => _) = _
    rw [hserved]
    exact if_neg hstate
  rw [show indexUnit i = .framer i from if_pos hi] at hx
  have ht : (s.updHealth fun h => { h with isolated := h.isolated ++ [.framer n] }) =
    { s with health := { s.health with isolated := s.health.isolated ++ [.framer n] } } := rfl
  rw [ht] at hx
  generalize hh : ({ s.health with isolated := s.health.isolated ++ [.framer n] } : HealthSt) = hs at hx
  obtain ⟨t, h0⟩ : ∃ t, t = ({ s with health := hs } : State) := ⟨_, rfl⟩
  rw [← h0] at hx
  have hpaths : t.paths = s.paths := by rw [h0]
  have hhealth : t.health = hs := by rw [h0]
  have h1 : Noted t (t.cond ⟨srcFramer n, 0, 0x80⟩ true) [SYS_BLOCK_MAP.key i] := .cond t _ _ hcond _
  have c1 : (t.cond ⟨srcFramer n, 0, 0x80⟩ true).has ⟨srcFramer n, 0, 0x80⟩ = true := t.has_cond_same _ _ hcond
  generalize t.cond ⟨srcFramer n, 0, 0x80⟩ true = s1 at h1 c1 hx
  have h2 : Noted s1 (s1.setBlockState i 1) [SYS_BLOCK_MAP.key i] := .put s1 _ _ _ (by simp)
  have b2 : (s1.setBlockState i 1).blockState i = 1 := State.get_put_same s1 _ _ _ (by decide)
  have c2 : (s1.setBlockState i 1).has ⟨srcFramer n, 0, 0x80⟩ = true := c1
  generalize s1.setBlockState i 1 = s2 at h2 b2 c2 hx
  have h3 : Noted s2 (s2.cond (condRegion i) true) [] := .cond s2 _ _ hregion _
  have c3 : (s2.cond (condRegion i) true).has ⟨srcFramer n, 0, 0x80⟩ = true := (s2.has_cond_other _ _ _ hregion hne).trans c2
  have r3 : (s2.cond (condRegion i) true).has (condRegion i) = true := s2.has_cond_same _ _ hregion
  have b3 : (s2.cond (condRegion i) true).blockState i = 1 :=
    (h3.get (by simp) (noteReg_blockMap i (by omega)) _).trans b2
  generalize s2.cond (condRegion i) true = s3 at h3 c3 r3 b3 hx
  have hall := (h1.trans h2).trans (h3.mono (List.nil_subset _))
  have harr : s3.arrivals = s.arrivals := hall.arrivals.trans (by rw [h0])
  have hhealth3 : s3.health = hs := by rw [hall.1, hhealth]
  have hpaths3 : s3.paths = s.paths := by rw [hall.1, hpaths]
  have ht' : t = { s with paths := t.paths, health := t.health } := by
    rw [hpaths, hhealth]
    exact h0
  rw [hx]
  refine ⟨⟨{ s3 with paths := s.paths, health := s.health }, hall.around_paths ht', ?_⟩, b3, c3, r3⟩
  rw [← harr, ← hpaths3, ← hhealth3]
  rfl

/-- A trigger of a bank in use that is not under copy. -/
theorem State.uncorrectable_shows (s : State) {b : Nat} (hb : b < 400) (hcopy : s.copying b = false) :
    let x := s.uncorrectable b
    (∃ y, Noted s y [STK_BANK.key b] ∧ x = { y with arrivals := s.arrivals ++ [.trigger (.bank b)] }) ∧
    x.on (STK_BANK.key b) STK_BANK.POISONED = true ∧ x.raised (srcBank b) 0x81 true := by
  intro x
  have hsrc : srcBank b < 384 := by unfold srcBank; omega
  have hx : x = (let s1 := (s.put (STK_BANK.key b) STK_BANK.POISONED 1).event (srcBank b) 0x81 true b
    if s1.copying b then (s1.freePage.2.addAffected b [s1.freePage.1]) else s1.arrive (.trigger (.bank b))) := rfl
  have h1 : Noted s (s.put (STK_BANK.key b) STK_BANK.POISONED 1) [STK_BANK.key b] := .put s _ _ _ (by simp)
  have p1 : (s.put (STK_BANK.key b) STK_BANK.POISONED 1).get (STK_BANK.key b) STK_BANK.POISONED = 1 :=
    State.get_put_same s _ _ _ (by decide)
  dsimp only at hx
  generalize s.put (STK_BANK.key b) STK_BANK.POISONED 1 = s1 at h1 p1 hx
  have h2 : Noted s1 (s1.event (srcBank b) 0x81 true b) [] := .event s1 _ _ _ _ hsrc _
  have r2 : (s1.event (srcBank b) 0x81 true b).raised (srcBank b) 0x81 true := s1.raised_event _ _ _ _ hsrc
  generalize s1.event (srcBank b) 0x81 true b = s2 at h2 r2 hx
  have hall := h1.trans (h2.mono (List.nil_subset _))
  have hcopy2 : s2.copying b = false := by
    rw [State.copying, hall.1]
    exact hcopy
  rw [if_neg (by rw [hcopy2]; exact Bool.false_ne_true)] at hx
  rw [hx]
  refine ⟨⟨s2, hall, by rw [State.arrive, hall.arrivals]⟩, ?_, r2⟩
  have hnote : noteReg (STK_BANK.key b) = false := by
    unfold noteReg STK_BANK.key OBS_DROP_CNT.key OBS_TRACE_STATUS.key
    simp
    omega
  exact decide_eq_true ((h2.get (by simp) hnote _).trans p1)

/-! ### A pending spare -/

/-- A substitution that waits, outside expert mode, with room in the calendar: its spare is committed. -/
theorem State.pendingSpare_lane (s : State) {l : Nat} (hexp : s.expertMode = false) (hpend : s.health.pendingSubs = [.lane l])
    (hwait : s.health.waiting = []) (hcal : s.cal.entries = []) :
    ∃ v, s.spareArrivals.runSpares = State.commitLane { ((s.put HLT_STATUS.key HLT_STATUS.PENDING 0).put CAL_STATUS.key
        CAL_STATUS.PEAK v) with
      cal := { entries := [], nextCreation := s.cal.nextCreation + 1 }, health := { s.health with pendingSubs := [] } } l := by
  let e : Entry := { creation := s.cal.nextCreation, key := .sfn s.time.sfn, action := .spare (.lane l) }
  have hfirst : (s.updHealth fun h => { h with waiting := [] }) = s := by
    have : ({ s.health with waiting := [] } : HealthSt) = s.health := by rw [← hwait]
    exact congrArg (fun h => ({ s with health := h } : State)) this
  have harr : s.spareArrivals = (s.setPendingSubs []).queueSpare (.lane l) := by
    unfold State.spareArrivals
    rw [hwait, hfirst]
    refine (if_neg fun h => Bool.false_ne_true (hexp.symm.trans h)).trans ?_
    refine (if_neg fun h => List.cons_ne_nil _ _ (hpend.symm.trans h)).trans ?_
    change ((s.setPendingSubs []).each s.health.pendingSubs fun s u => s.markBlock u 1).each s.health.pendingSubs State.queueSpare = _
    rw [hpend]
    rfl
  have hqueue : (s.setPendingSubs []).queueSpare (.lane l) =
      (s.setPendingSubs []).addEntry (.sfn s.time.sfn) (.spare (.lane l)) false 0 0 := by
    have hroom : (s.setPendingSubs []).addDevice (.sfn s.time.sfn) (.spare (.lane l)) =
        (true, (s.setPendingSubs []).addEntry (.sfn s.time.sfn) (.spare (.lane l)) false 0 0) := by
      refine if_pos (decide_eq_true ?_)
      change s.cal.entries.length < calCapacity
      rw [hcal]
      decide
    unfold State.queueSpare
    rw [show (s.setPendingSubs []).time = s.time from rfl, hroom]
    rfl
  refine ⟨max (s.get CAL_STATUS.key CAL_STATUS.PEAK) 1, ?_⟩
  have hput : (s.setPendingSubs []).addEntry (.sfn s.time.sfn) (.spare (.lane l)) false 0 0 =
      { ((s.put HLT_STATUS.key HLT_STATUS.PENDING 0).put CAL_STATUS.key CAL_STATUS.PEAK
          (max (s.get CAL_STATUS.key CAL_STATUS.PEAK) 1)) with
        cal := { entries := [e], nextCreation := s.cal.nextCreation + 1 }, health := { s.health with pendingSubs := [] } } := by
    have hs0 : s.setPendingSubs [] = { s.put HLT_STATUS.key HLT_STATUS.PENDING 0 with health := { s.health with pendingSubs := [] } } := rfl
    have hpeak : (s.setPendingSubs []).get CAL_STATUS.key CAL_STATUS.PEAK = s.get CAL_STATUS.key CAL_STATUS.PEAK :=
      State.get_put_other s _ _ _ _ _ (by decide)
    refine (State.put_withCal (s.setPendingSubs []) { entries := s.cal.entries ++ [e], nextCreation := s.cal.nextCreation + 1 }
      CAL_STATUS.key CAL_STATUS.PEAK (max ((s.setPendingSubs []).get CAL_STATUS.key CAL_STATUS.PEAK) (s.cal.entries ++ [e]).length)).trans ?_
    rw [hpeak, hcal, hs0]
    rfl
  rw [harr, hqueue, hput]
  generalize ((s.put HLT_STATUS.key HLT_STATUS.PENDING 0).put CAL_STATUS.key CAL_STATUS.PEAK _) = y
  have hus : sortBy unitKey ([e].filterMap Entry.spare?).eraseDups = [.lane l] := rfl
  unfold State.runSpares
  dsimp only
  rw [hus]
  rfl

theorem spareKeys_apart {l : Nat} (h : l < 96) : LAN_SPARE.key (l / 12) ≠ LAN_STATUS.key l ∧ LAN_SPARE.key (l / 12) ≠ HLT_REPAIR.key ∧
    LAN_STATUS.key l ≠ HLT_REPAIR.key ∧ HLT_STATUS.key ≠ LAN_SPARE.key (l / 12) ∧ HLT_STATUS.key ≠ LAN_STATUS.key l ∧
    HLT_STATUS.key ≠ CAL_STATUS.key ∧ HLT_STATUS.key ≠ HLT_REPAIR.key ∧ LAN_SPARE.key (l / 12) ≠ CAL_STATUS.key := by
  unfold LAN_SPARE.key LAN_STATUS.key HLT_REPAIR.key HLT_STATUS.key CAL_STATUS.key
  omega

theorem State.put_withHealth (s : State) (h : HealthSt) (k : Nat) (f : Fld) (v : Nat) :
    ({ s with health := h } : State).put k f v = { s.put k f v with health := h } := rfl

/-- An entry joins the repair map. -/
theorem State.listRepair_shows (s : State) (r : Repair) : ∃ y rs, OnlyRegs s y [HLT_REPAIR.key] ∧ r ∈ rs ∧
    s.listRepair r = { y with health := { s.health with repairs := rs } } := by
  by_cases h : s.health.repairs.contains r = true
  · exact ⟨s, s.health.repairs, .refl s _, by simpa using h, if_pos h⟩
  · refine ⟨s.put HLT_REPAIR.key HLT_REPAIR.ENTRIES (s.health.repairs ++ [r]).length, s.health.repairs ++ [r],
      .put s _ _ _ (by simp), List.mem_append_right _ (List.mem_singleton.mpr rfl), (if_neg h).trans ?_⟩
    exact State.put_withHealth s _ _ _ _

/-- A repair is listed. -/
theorem State.addRepair_shows (s : State) (kind failed replacement : Nat) :
    ∃ y rs, OnlyRegs s y [HLT_REPAIR.key] ∧ ⟨kind, false, failed, replacement⟩ ∈ rs ∧
      s.addRepair kind failed replacement = { y with health := { s.health with repairs := rs } } := by
  obtain ⟨y, rs, hy, hmem, hframe⟩ := s.listRepair_shows ⟨kind, false, failed, replacement⟩
  have hx : s.addRepair kind failed replacement = (s.listRepair ⟨kind, false, failed, replacement⟩).put HLT_REPAIR.key
    HLT_REPAIR.REPAIR_GEN ((s.listRepair ⟨kind, false, failed, replacement⟩).get HLT_REPAIR.key HLT_REPAIR.REPAIR_GEN + 1) := rfl
  rw [hframe] at hx
  generalize State.get _ HLT_REPAIR.key HLT_REPAIR.REPAIR_GEN + 1 = v at hx
  exact ⟨y.put HLT_REPAIR.key HLT_REPAIR.REPAIR_GEN v, rs, hy.trans (.put y _ _ _ (by simp)), hmem,
    hx.trans (State.put_withHealth y _ _ _ _)⟩

/-- A spare SerDes takes a lane. -/
theorem State.commitLane_shows (s : State) {l : Nat} (hl : l < 96) (hfree : s.macroFree (l / 12) = true) :
    let x := s.commitLane l
    (∃ y, OnlyRegs s y [LAN_SPARE.key (l / 12), LAN_STATUS.key l, HLT_REPAIR.key] ∧ x = { y with
      timers := x.timers, ports := x.ports, health := { s.health with repairs := x.health.repairs } }) ∧
    (x.port l).servedBy = some (96 + l / 12) ∧ (∀ q, q ≠ l → x.port q = s.port q) ∧
    x.get (LAN_SPARE.key (l / 12)) LAN_SPARE.STATE = 1 ∧ x.get (LAN_SPARE.key (l / 12)) LAN_SPARE.TARGET = l % 12 ∧
    x.on (LAN_STATUS.key l) LAN_STATUS.SUBSTITUTING = true ∧ x.on (LAN_STATUS.key l) LAN_STATUS.CDR_LOCK = false ∧
    x.timers = (s.timers.filter fun t => decide (t.kind ≠ .spareLock (l / 12))) ++ [⟨.spareLock (l / 12), s.dev.ticks + 32⟩] ∧
    ⟨1, false, l, 96 + l / 12⟩ ∈ x.health.repairs := by
  intro x
  obtain ⟨k1, k2, k3, _⟩ := spareKeys_apart hl
  have hx : x = (let s1 := (s.placeMacro l 1).put (LAN_STATUS.key l) LAN_STATUS.SUBSTITUTING 1
    ((s1.put (LAN_STATUS.key l) LAN_STATUS.CDR_LOCK 0).startTimer (.spareLock (l / 12)) spareDeadline).addRepair 1 l (96 + l / 12)) :=
    if_pos hfree
  have p1 : OnlyRegs s (s.put (LAN_SPARE.key (l / 12)) LAN_SPARE.TARGET (l % 12)) [LAN_SPARE.key (l / 12)] := .put s _ _ _ (by simp)
  have t1 : (s.put (LAN_SPARE.key (l / 12)) LAN_SPARE.TARGET (l % 12)).get (LAN_SPARE.key (l / 12)) LAN_SPARE.TARGET = l % 12 :=
    (State.get_put_same s _ _ _ (by decide)).trans (Nat.mod_eq_of_lt (lt_of_lt_of_le (Nat.mod_lt l (by decide)) (by decide)))
  have hplace : s.placeMacro l 1 = ((s.put (LAN_SPARE.key (l / 12)) LAN_SPARE.TARGET (l % 12)).put (LAN_SPARE.key (l / 12))
    LAN_SPARE.STATE 1).updPort l fun x => { x with servedBy := some (96 + l / 12), eyeHours := [] } := rfl
  rw [hplace] at hx
  generalize s.put (LAN_SPARE.key (l / 12)) LAN_SPARE.TARGET (l % 12) = s1 at p1 t1 hx
  have p2 : OnlyRegs s1 (s1.put (LAN_SPARE.key (l / 12)) LAN_SPARE.STATE 1) [LAN_SPARE.key (l / 12)] := .put s1 _ _ _ (by simp)
  have t2 : (s1.put (LAN_SPARE.key (l / 12)) LAN_SPARE.STATE 1).get (LAN_SPARE.key (l / 12)) LAN_SPARE.TARGET = l % 12 :=
    (State.get_put_field s1 _ _ _ _ (by decide) (by decide)).trans t1
  have e2 : (s1.put (LAN_SPARE.key (l / 12)) LAN_SPARE.STATE 1).get (LAN_SPARE.key (l / 12)) LAN_SPARE.STATE = 1 :=
    State.get_put_same s1 _ _ _ (by decide)
  generalize s1.put (LAN_SPARE.key (l / 12)) LAN_SPARE.STATE 1 = s2 at p2 t2 e2 hx
  have m3 := PortMoves.updPort s2 l fun x => { x with servedBy := some (96 + l / 12), eyeHours := [] }
  generalize (s2.updPort l fun x => { x with servedBy := some (96 + l / 12), eyeHours := [] }) = s3 at m3 hx
  have g3 : ∀ k f, s3.get k f = s2.get k f := fun k f => by rw [m3.1]; rfl
  have p4 : OnlyRegs s3 (s3.put (LAN_STATUS.key l) LAN_STATUS.SUBSTITUTING 1) [LAN_STATUS.key l] := .put s3 _ _ _ (by simp)
  have u4 : (s3.put (LAN_STATUS.key l) LAN_STATUS.SUBSTITUTING 1).get (LAN_STATUS.key l) LAN_STATUS.SUBSTITUTING = 1 :=
    State.get_put_same s3 _ _ _ (by decide)
  dsimp only at hx
  generalize s3.put (LAN_STATUS.key l) LAN_STATUS.SUBSTITUTING 1 = s4 at p4 u4 hx
  have p5 : OnlyRegs s4 (s4.put (LAN_STATUS.key l) LAN_STATUS.CDR_LOCK 0) [LAN_STATUS.key l] := .put s4 _ _ _ (by simp)
  have u5 : (s4.put (LAN_STATUS.key l) LAN_STATUS.CDR_LOCK 0).get (LAN_STATUS.key l) LAN_STATUS.SUBSTITUTING = 1 :=
    (State.get_put_field s4 _ _ _ _ (by decide) (by decide)).trans u4
  have c5 : (s4.put (LAN_STATUS.key l) LAN_STATUS.CDR_LOCK 0).get (LAN_STATUS.key l) LAN_STATUS.CDR_LOCK = 0 :=
    State.get_put_same s4 _ _ _ (by decide)
  generalize s4.put (LAN_STATUS.key l) LAN_STATUS.CDR_LOCK 0 = s5 at p5 u5 c5 hx
  have h6 : s5.startTimer (.spareLock (l / 12)) spareDeadline = { s5 with timers :=
    (s5.timers.filter fun t => decide (t.kind ≠ .spareLock (l / 12))) ++ [⟨.spareLock (l / 12), s5.dev.ticks + 32⟩] } := rfl
  rw [h6] at hx
  have hall : OnlyRegs s { s5 with ports := s.ports } [LAN_SPARE.key (l / 12), LAN_STATUS.key l, HLT_REPAIR.key] := by
    have a2 := (p1.trans p2).mono (js := [LAN_SPARE.key (l / 12), LAN_STATUS.key l, HLT_REPAIR.key]) (by simp)
    have a5 := (p4.trans p5).mono (js := [LAN_SPARE.key (l / 12), LAN_STATUS.key l, HLT_REPAIR.key]) (by simp)
    refine ⟨?_, fun k hk => (a5.2 k hk).trans ?_⟩
    · have hports : s5 = { s with regs := s5.regs, ports := s3.ports } := by
        have := a5.1
        rw [m3.1, a2.1] at this
        exact this
      exact congrArg (fun z : State => { z with ports := s.ports }) hports
    · refine Eq.trans ?_ (a2.2 k hk)
      rw [m3.1]
      rfl
  have h7 := State.addRepair_shows { s5 with timers :=
    (s5.timers.filter fun t => decide (t.kind ≠ .spareLock (l / 12))) ++ [⟨.spareLock (l / 12), s5.dev.ticks + 32⟩] } 1 l (96 + l / 12)
  rw [← hx] at h7
  obtain ⟨y, rs, hy, hmem, hframe⟩ := h7
  obtain ⟨ht5, hd5⟩ : s5.timers = s.timers ∧ s5.dev = s.dev := ⟨(congrArg State.timers hall.1 :), (congrArg State.dev hall.1 :)⟩
  have hports : s5.ports = s3.ports := by
    rw [p5.1, p4.1]
  have hport : ∀ q, x.port q = s3.port q := fun q => by
    rw [State.port, State.port, hframe]
    change (y.ports.getD q _) = _
    rw [hy.1]
    exact congrArg (fun ps : Tbl PortSt => ps.getD q { }) hports
  have hget : ∀ k, k ≠ HLT_REPAIR.key → ∀ f, x.get k f = s5.get k f := fun k hk f => by
    rw [hframe]
    exact hy.get (by simpa using hk) f
  have hspare : ∀ f, x.get (LAN_SPARE.key (l / 12)) f = s2.get (LAN_SPARE.key (l / 12)) f := fun f =>
    (hget _ k2 f).trans (((p4.trans p5).get (by simpa using k1) f).trans (g3 _ f))
  have hxt : x.timers = (s5.timers.filter fun t => decide (t.kind ≠ .spareLock (l / 12))) ++
      [⟨.spareLock (l / 12), s5.dev.ticks + 32⟩] := by rw [hframe, hy.1]
  refine ⟨⟨{ y with timers := s.timers, ports := s.ports }, ⟨?_, fun k hk => ?_⟩, ?_⟩, ?_, fun q hq => ?_, ?_, ?_, ?_, ?_, ?_, ?_⟩
  · have h5 := hall.1
    rw [hy.1]
    exact congrArg (fun z : State => { z with timers := s.timers, ports := s.ports, regs := y.regs }) h5
  · exact (hy.2 k fun h => hk (by simp [List.mem_singleton.mp h])).trans (hall.2 k hk)
  · have hh : x.health.repairs = rs := by rw [hframe]
    have h5 : s5.health = s.health := (congrArg State.health hall.1 :)
    have hxp : x.ports = y.ports := by rw [hframe]
    have hxy : x.timers = y.timers := by rw [hframe]
    rw [hh, hxp, hxy]
    refine hframe.trans ?_
    rw [h5]
  · rw [hport, m3.2.2]
  · rw [hport, m3.2.1 q hq]
    exact congrArg (fun ps : Tbl PortSt => ps.getD q { }) ((congrArg State.ports (p1.trans p2).1).trans rfl)
  · exact (hspare _).trans e2
  · exact (hspare _).trans t2
  · exact decide_eq_true ((hget _ k3 _).trans u5)
  · exact decide_eq_false fun h => Nat.zero_ne_one (((hget _ k3 _).trans c5).symm.trans h)
  · rw [hxt, ht5, hd5]
  · rw [hframe]
    exact hmem

/-- What the two puts of a queued spare leave of the readiness of a spare SerDes. -/
theorem State.macroFree_of_rd {s y : State} {g : Nat} (hg : g < 8) (hh : y.health.grades = s.health.grades)
    (h : ∀ k, k ≠ HLT_STATUS.key → k ≠ CAL_STATUS.key → y.rd k = s.rd k) : y.macroFree g = s.macroFree g := by
  have hbit : ∀ k, k ≠ HLT_STATUS.key → k ≠ CAL_STATUS.key → y.rd k = s.rd k := h
  have hd : domSpare g / 32 < 4 := by
    unfold domSpare
    omega
  have hspare : y.get (LAN_SPARE.key g) LAN_SPARE.STATE = s.get (LAN_SPARE.key g) LAN_SPARE.STATE :=
    State.get_of_rd (h _ (by unfold LAN_SPARE.key HLT_STATUS.key; omega) (by unfold LAN_SPARE.key CAL_STATUS.key; omega)) _
  have hcfg : y.leastGrade = s.leastGrade := State.get_of_rd (h _ (by decide) (by decide)) _
  have hup : y.domainBit HLT_DOMAIN_UP.key (domSpare g) = s.domainBit HLT_DOMAIN_UP.key (domSpare g) :=
    State.domainBit_of_rd (h _ (by unfold HLT_DOMAIN_UP.key HLT_STATUS.key; omega) (by unfold HLT_DOMAIN_UP.key CAL_STATUS.key; omega))
  have hrej : y.domainBit HLT_DOMAIN_REJ.key (domSpare g) = s.domainBit HLT_DOMAIN_REJ.key (domSpare g) :=
    State.domainBit_of_rd (h _ (by unfold HLT_DOMAIN_REJ.key HLT_STATUS.key; omega) (by unfold HLT_DOMAIN_REJ.key CAL_STATUS.key; omega))
  unfold State.macroFree State.domainReady State.domainUp State.rejoined State.grade
  rw [hspare, hcfg, hup, hrej, hh]

/-- A pending spare of a lane, outside expert mode, with room and a free spare SerDes. -/
theorem State.pendingSpare_shows (s : State) {l : Nat} (hl : l < 96) (hexp : s.expertMode = false)
    (hpend : s.health.pendingSubs = [.lane l]) (hwait : s.health.waiting = []) (hcal : s.cal.entries = [])
    (hfree : s.macroFree (l / 12) = true) :
    let x := s.spareArrivals.runSpares
    (∃ y, OnlyRegs s y [HLT_STATUS.key, CAL_STATUS.key, LAN_SPARE.key (l / 12), LAN_STATUS.key l, HLT_REPAIR.key] ∧
      x = { y with
        cal := { entries := [], nextCreation := s.cal.nextCreation + 1 }, timers := x.timers, ports := x.ports
        health := { s.health with pendingSubs := [], repairs := x.health.repairs } }) ∧
    (x.port l).servedBy = some (96 + l / 12) ∧ (∀ q, q ≠ l → x.port q = s.port q) ∧
    x.get (LAN_SPARE.key (l / 12)) LAN_SPARE.STATE = 1 ∧ x.get (LAN_SPARE.key (l / 12)) LAN_SPARE.TARGET = l % 12 ∧
    x.on (LAN_STATUS.key l) LAN_STATUS.SUBSTITUTING = true ∧ x.on (LAN_STATUS.key l) LAN_STATUS.CDR_LOCK = false ∧
    x.timers = (s.timers.filter fun t => decide (t.kind ≠ .spareLock (l / 12))) ++ [⟨.spareLock (l / 12), s.dev.ticks + 32⟩] ∧
    ⟨1, false, l, 96 + l / 12⟩ ∈ x.health.repairs ∧ x.on HLT_STATUS.key HLT_STATUS.PENDING = false := by
  intro x
  obtain ⟨_, _, _, a1, a2, a3, a4, _⟩ := spareKeys_apart hl
  obtain ⟨v, hx⟩ := s.pendingSpare_lane hexp hpend hwait hcal
  change x = _ at hx
  have hregs : OnlyRegs s ((s.put HLT_STATUS.key HLT_STATUS.PENDING 0).put CAL_STATUS.key CAL_STATUS.PEAK v)
      [HLT_STATUS.key, CAL_STATUS.key] := (OnlyRegs.put s _ _ _ (by simp)).trans (.put _ _ _ _ (by simp))
  have hpending : ((s.put HLT_STATUS.key HLT_STATUS.PENDING 0).put CAL_STATUS.key CAL_STATUS.PEAK v).get HLT_STATUS.key
      HLT_STATUS.PENDING = 0 := (State.get_put_other _ _ _ _ _ _ a3).trans (State.get_put_same s _ _ _ (by decide))
  generalize (s.put HLT_STATUS.key HLT_STATUS.PENDING 0).put CAL_STATUS.key CAL_STATUS.PEAK v = z at hregs hpending hx
  have hframe := hregs.1
  obtain ⟨t, ht⟩ : ∃ t, t = ({ z with
    cal := { entries := [], nextCreation := s.cal.nextCreation + 1 }, health := { s.health with pendingSubs := [] } } : State) := ⟨_, rfl⟩
  rw [← ht] at hx
  have hmacro : t.macroFree (l / 12) = true := (State.macroFree_of_rd (by omega) (by rw [ht]) fun k h1 h2 => by
    rw [ht]
    exact hregs.2 k (by simp [h1, h2])).trans hfree
  have htimers : t.timers = s.timers ∧ t.dev = s.dev ∧ t.ports = s.ports := by
    rw [ht, hframe]
    exact ⟨rfl, rfl, rfl⟩
  have hreg : t.regs = z.regs := by rw [ht]
  have hh : t.health = { s.health with pendingSubs := [] } := by rw [ht]
  obtain ⟨⟨y, hy, hxy⟩, hserved, hports, e1, e2, e3, e4, e5, e6⟩ := t.commitLane_shows hl hmacro
  rw [← hx] at hxy hserved hports e1 e2 e3 e4 e5 e6
  clear_value x
  refine ⟨⟨{ y with cal := s.cal, health := s.health }, ⟨?_, fun k hk => ?_⟩, ?_⟩, hserved, fun q hq => (hports q hq).trans ?_,
    e1, e2, e3, e4, ?_, e6, ?_⟩
  · rw [hy.1, ht, hframe]
  · refine (hy.2 k fun h => hk (List.mem_cons_of_mem _ (List.mem_cons_of_mem _ h))).trans ((State.rd_congr hreg k).trans
      (hregs.2 k fun h => hk ?_))
    simp only [List.mem_cons, List.not_mem_nil, or_false] at h ⊢
    omega
  · have hcal' : y.cal = { entries := [], nextCreation := s.cal.nextCreation + 1 } := by rw [hy.1, ht]
    rw [hh] at hxy
    rw [← hcal']
    exact hxy
  · rw [State.port, State.port, htimers.2.2]
  · rw [e5, htimers.1, htimers.2.1]
  · refine decide_eq_false fun h => Nat.zero_ne_one (Eq.trans ?_ h)
    rw [hxy]
    exact ((hy.get (by simp [a1, a2, a4]) _).trans ((State.get_congr hreg _ _).trans hpending)).symm

theorem State.markDone_shows (s : State) (b : Nat) (pages : List Nat) (hc : s.copying b = true) (hd : b ∉ s.health.copiesDone) :
    s.copyDone b pages = { s with health := { s.health with
      copiesDone := s.health.copiesDone ++ [b]
      copies := s.health.copies.map fun c => if c.1 = b then (c.1, c.2.1, c.2.2 ++ pages) else c } } :=
  if_pos (by simp [hc, hd])

/-- The trigger of a unit that is not a bank. -/
theorem exec_substitutionTrigger (s : State) (u : UnitRef) (hu : s.unitOk (unitKind u) (unitNum u) = true) (h : unitKind u ≠ 4) :
    exec (.substitutionTrigger u) s = .next (s.arrive (.trigger u)).settle := by
  cases u with
  | bank b => exact absurd rfl h
  | lane n => exact congrArg (fun z : State => Host.Outcome.next z.settle) (if_pos hu)
  | framer n => exact congrArg (fun z : State => Host.Outcome.next z.settle) (if_pos hu)
  | mapper n => exact congrArg (fun z : State => Host.Outcome.next z.settle) (if_pos hu)

end Sys2Proof.Machine

open Sys2Proof Sys2Proof.Machine

/-- Settles O58: each clause is the row's function read in the case that the clause names; the commit of a pending spare is
the queue of its calendar entry followed by the take-over of a lane by its spare SerDes. -/
theorem spareRows : Obligations.SpareRows := by
  unfold Obligations.SpareRows
  intro s
  refine ⟨fun p head code record => ?_, fun b hb => ?_, fun n i hfresh hserved hstate => ?_, fun u hu => ?_, fun u hu hk => ?_,
    fun b hb hserves hcopy => ?_, fun h => ?_, fun l hl hexp hpend hwait hcal hfree => ?_, fun p => ?_,
    fun pos => ⟨fun h => ?_, fun h => ?_⟩, fun b pages => ⟨fun h => ?_, fun hc hd => ?_⟩⟩
  · exact ⟨answers_of rfl (s.blockEvent_shows _ 0x83), answers_of rfl (s.poisonedRead_path p head code record)⟩
  · exact answers_of rfl (if_pos (by simpa using hb))
  · exact answers_of rfl (s.isolate_framer n hfresh hserved hstate)
  · exact answers_of rfl (if_neg fun h => Bool.false_ne_true (hu.symm.trans h))
  · exact answers_of (x := s.arrive (.trigger u)) (exec_substitutionTrigger s u hu hk) rfl
  · refine answers_of (x := s.uncorrectable b) (congrArg (fun z : State => Host.Outcome.next z.settle) ?_)
      (s.uncorrectable_shows hb hcopy)
    exact (if_pos (by simp [State.unitOk, State.unitCount, unitKind, unitNum, hb])).trans (if_pos hserves)
  · exact answers_of rfl (if_pos h)
  · refine answers_of (x := s.spareArrivals.runSpares) (congrArg (fun z : State => Host.Outcome.next z.settle) ?_)
      (s.pendingSpare_shows hl hexp hpend hwait hcal hfree)
    exact if_neg fun h => Bool.false_ne_true (hexp.symm.trans h)
  · refine answers_of rfl ?_
    by_cases h : (s.port p).awaitResume = true
    · rw [show s.framerResumes p = _ from if_pos h]
      exact PortMoves.updPort s p _
    · rw [show s.framerResumes p = s from if_neg h]
      refine ⟨rfl, fun _ _ => rfl, ?_⟩
      rw [← Bool.eq_false_iff.mpr h]
  · exact answers_of rfl (if_neg h)
  · refine answers_of rfl ?_
    rw [show s.mapperResumes pos = _ from if_pos h]
    exact ⟨rfl, Tbl.find_drop_same _ _⟩
  · refine answers_of rfl (if_neg ?_)
    rcases h with h | h <;> simp [h]
  · refine answers_of rfl ((s.markDone_shows b _ hc hd).trans ?_)
    rfl

end

section
/-! PROOF. The equipment protection pair: chimney frames, the mirror, the mate hold and handovers (R303 to R317). -/

namespace Sys2Proof.Machine

/-! ### Chimney frames -/

theorem State.linkDown_false (s : State) (n : Nat) :
    s.linkDown n = false ↔ s.chimOn n = true ∧ s.chimLanesDown n = false ∧ (s.link n).miss < 8 := by
  unfold State.linkDown
  simp only [Bool.or_eq_false_iff, Bool.not_eq_false', decide_eq_false_iff_not, Nat.not_le, and_assoc]

/-- A link reads the registers of the chimney and of its lanes, and the conditions in force. -/
theorem State.chimneyOf_rd {s x : State} (n : Nat) (he : x.evt = s.evt)
    (h : ∀ k, k ≠ CLM_MATE.key → k ≠ CLM_MATE_IN_FORCE.key → x.rd k = s.rd k) :
    x.chimOn n = s.chimOn n ∧ x.chimLanesDown n = s.chimLanesDown n ∧ x.chimLost = s.chimLost := by
  have hchim : x.rd CLM_CHIMNEY.key = s.rd CLM_CHIMNEY.key := h _ (by decide) (by decide)
  have hprt : ∀ p, x.rd (PRT_CFG.key p) = s.rd (PRT_CFG.key p) := fun p =>
    h _ (by unfold PRT_CFG.key CLM_MATE.key; omega) (by unfold PRT_CFG.key CLM_MATE_IN_FORCE.key; omega)
  have hport : x.chimPort n = s.chimPort n := State.get_of_rd hchim _
  have hlane : ∀ l c, x.condLane l c = s.condLane l c := fun l c => by
    rw [State.condLane, State.condLane, State.laneEntity, State.laneEntity, State.portOfLane, State.portOfLane, State.isMember,
      State.isMember, State.isQuad, State.isQuad, State.on_of_rd (hprt l), State.on_of_rd (hprt _)]
  refine ⟨State.on_of_rd hchim _, ?_, State.on_of_rd (h _ (by decide) (by decide)) _⟩
  rw [State.chimLanesDown, State.chimLanesDown, hport, State.lanesOf, State.lanesOf, State.isQuad, State.isQuad,
    State.on_of_rd (hprt _)]
  simp only [hlane, State.has, he]

theorem State.pair_updPair (s : State) (f : PairSt → PairSt) : (s.updPair f).pair = f s.pair := rfl

/-- The counts of an interval of a link. -/
def linkCounts (ok : Bool) (x : ChimSt) : ChimSt :=
  { x with
    good := if ok then min 64 (x.good + 1) else 0
    miss := if ok then (if 8 ≤ x.miss ∧ (if ok then min 64 (x.good + 1) else 0) < 64 then x.miss else 0) else min 8 (x.miss + 1) }

/-- An interval that leaves the link up, with no condition standing: only the counts move. -/
theorem State.linkInterval_up (s : State) (n : Nat) (ok : Bool) (hup : s.linkDown n = false)
    (hmiss : (linkCounts ok (s.link n)).miss < 8) (hcond : s.has (condLink (s.chimIndex (s.chimPort n))) = false) :
    s.linkInterval n ok = s.updLink n (linkCounts ok) := by
  have hlink : (s.updLink n (linkCounts ok)).link n = linkCounts ok (s.link n) := (Tbl.getD_store ..).trans (if_pos rfl)
  have hdown : (s.updLink n (linkCounts ok)).linkDown n = false := by
    obtain ⟨hon, hlanes, _⟩ := (s.linkDown_false n).mp hup
    exact (State.linkDown_false _ n).mpr ⟨hon, hlanes, hlink ▸ hmiss⟩
  refine (if_neg fun h => Bool.false_ne_true (hdown.symm.trans h.1)).trans (if_neg fun h => Bool.false_ne_true (hcond.symm.trans h.2))

/-- With the chimney up and nothing arriving, no change of CHIMNEY_DOWN is decided. -/
theorem State.decideChimney_up (s : State) (harr : s.arrivals = []) (hlost : s.chimLost = false) (hup : s.linkDown 0 = false) :
    s.decideChimney = s := by
  have hgone : s.chimneyGone = false := by rw [State.chimneyGone, hup, Bool.false_and]
  unfold State.decideChimney
  rw [harr, hgone]
  exact if_pos hlost

/-- A frame of link 0 in the pair, without an identity: its interval, its check count and what it says. -/
theorem State.chimneyReceive_link (s : State) (f : ChimRx) (hpair : s.inPair = true) (hon : s.chimOn 0 = true) (hid : f.ident = none) :
    s.chimneyReceive 0 f =
      (let ok := s.overheadOk 0 f && f.mirrorOk
       let s2 := (s.linkInterval 0 ok).cvuFail (s.chimPort 0) (f.markerOk && !f.checkOk)
       (if ok && s2.takesLink 0 then s2.takeOverhead f else s2).decideChimney) := by
  refine (if_neg (by simp [hpair, hon])).trans ?_
  rw [hid]

/-- An accepted frame without a handover. -/
theorem State.chimneyReceive_accepted (s : State) (f : ChimRx) (hpair : s.inPair = true) (hon : s.chimOn 0 = true)
    (hup : s.linkDown 0 = false) (hpartner : s.partnerBad 0 = false)
    (hcond : s.has (condLink (s.chimIndex (s.chimPort 0))) = false) (harr : s.arrivals = []) (hlost : s.chimLost = false)
    (hid : f.ident = none) (hm : f.markerOk = true) (hc : f.checkOk = true) (hv : f.ver = 1) (hmir : f.mirrorOk = true)
    (hflag : f.flags.toNat.testBit 5 = false) :
    let x := s.chimneyReceive 0 f
    (∃ y, OnlyRegs s y [CLM_MATE.key, CLM_MATE_IN_FORCE.key] ∧ x = { y with pair := { s.pair with
      links := x.pair.links, mateNext := f.nextClaim.toNat
      chimClaim := if f.sfn.toNat % 2 = 0 then some f.claim.toNat else s.pair.chimClaim } }) ∧
    x.get CLM_MATE.key CLM_MATE.CHIMNEY_CLAIM = f.claim.toNat ∧
    x.get CLM_MATE_IN_FORCE.key CLM_MATE_IN_FORCE.MATE_ADDR_RX = f.addr.toNat ∧
    (x.link 0).good = min 64 ((s.link 0).good + 1) := by
  intro x
  obtain ⟨hon0, hlanes0, hmiss0⟩ := (s.linkDown_false 0).mp hup
  have hmiss : (linkCounts true (s.link 0)).miss < 8 := by
    change (if 8 ≤ (s.link 0).miss ∧ _ then (s.link 0).miss else 0) < 8
    rw [if_neg fun h => by omega]
    decide
  have hok : (s.overheadOk 0 f && f.mirrorOk) = true := by simp [State.overheadOk, hm, hc, hv, hmir, hpartner]
  have hx := s.chimneyReceive_link f hpair hon hid
  change x = _ at hx
  rw [hok] at hx
  dsimp only at hx
  rw [s.linkInterval_up 0 true hup hmiss hcond, hm, hc] at hx
  have hlink : (s.updLink 0 (linkCounts true)).link 0 = linkCounts true (s.link 0) := (Tbl.getD_store ..).trans (if_pos rfl)
  have hup1 : (s.updLink 0 (linkCounts true)).linkDown 0 = false := (State.linkDown_false _ 0).mpr ⟨hon0, hlanes0, hlink ▸ hmiss⟩
  have ht : s.updLink 0 (linkCounts true) =
    { s with pair := { s.pair with links := (s.updLink 0 (linkCounts true)).pair.links } } := rfl
  generalize s.updLink 0 (linkCounts true) = t at hx ht hlink hup1
  have htakes : t.takesLink 0 = true := by rw [State.takesLink, hup1]; rfl
  have hrow : x = (t.takeOverhead f).decideChimney := hx.trans (congrArg State.decideChimney (if_pos (by simpa [State.cvuFail] using htakes)))
  have h1 : OnlyRegs t (t.put CLM_MATE.key CLM_MATE.CHIMNEY_CLAIM f.claim.toNat) [CLM_MATE.key, CLM_MATE_IN_FORCE.key] :=
    .put t _ _ _ (by simp)
  have g1 : (t.put CLM_MATE.key CLM_MATE.CHIMNEY_CLAIM f.claim.toNat).get CLM_MATE.key CLM_MATE.CHIMNEY_CLAIM = f.claim.toNat :=
    (State.get_put_same t _ _ _ (by decide)).trans (Nat.mod_eq_of_lt f.claim.isLt)
  have hover : t.takeOverhead f = (
    let s1 := t.put CLM_MATE.key CLM_MATE.CHIMNEY_CLAIM f.claim.toNat
    (s1.put CLM_MATE_IN_FORCE.key CLM_MATE_IN_FORCE.MATE_ADDR_RX f.addr.toNat).updPair fun x => { x with
      mateNext := f.nextClaim.toNat
      chimClaim := if f.sfn.toNat % 2 = 0 then some f.claim.toNat else x.chimClaim }) :=
    if_neg fun h => Bool.false_ne_true (hflag.symm.trans h.1)
  rw [hover] at hrow
  dsimp only at hrow
  generalize t.put CLM_MATE.key CLM_MATE.CHIMNEY_CLAIM f.claim.toNat = s1 at h1 g1 hrow
  have h2 : OnlyRegs s1 (s1.put CLM_MATE_IN_FORCE.key CLM_MATE_IN_FORCE.MATE_ADDR_RX f.addr.toNat)
      [CLM_MATE.key, CLM_MATE_IN_FORCE.key] := .put s1 _ _ _ (by simp)
  have g2 : (s1.put CLM_MATE_IN_FORCE.key CLM_MATE_IN_FORCE.MATE_ADDR_RX f.addr.toNat).get CLM_MATE.key CLM_MATE.CHIMNEY_CLAIM =
      f.claim.toNat := (State.get_put_other s1 _ _ _ _ _ (by decide)).trans g1
  have a2 : (s1.put CLM_MATE_IN_FORCE.key CLM_MATE_IN_FORCE.MATE_ADDR_RX f.addr.toNat).get CLM_MATE_IN_FORCE.key
      CLM_MATE_IN_FORCE.MATE_ADDR_RX = f.addr.toNat :=
    (State.get_put_same s1 _ _ _ (by decide)).trans (Nat.mod_eq_of_lt f.addr.isLt)
  generalize s1.put CLM_MATE_IN_FORCE.key CLM_MATE_IN_FORCE.MATE_ADDR_RX f.addr.toNat = s2 at h2 g2 a2 hrow
  have hall := h1.trans h2
  have hp2 : s2.pair = t.pair := by rw [hall.1]
  obtain ⟨w, hw⟩ : ∃ w, w = s2.updPair fun x => { x with
      mateNext := f.nextClaim.toNat
      chimClaim := if f.sfn.toNat % 2 = 0 then some f.claim.toNat else x.chimClaim } := ⟨_, rfl⟩
  rw [← hw] at hrow
  have hwregs : ∀ k, w.rd k = s2.rd k := fun k => by rw [hw]; rfl
  have hsame : x = w := by
    rw [hrow]
    have hrd : ∀ k, k ≠ CLM_MATE.key → k ≠ CLM_MATE_IN_FORCE.key → w.rd k = s.rd k := fun k n1 n2 =>
      (hwregs k).trans ((hall.2 k (by simp [n1, n2])).trans (by rw [ht]; rfl))
    have hev : w.evt = s.evt := by
      rw [hw]
      change s2.evt = _
      rw [hall.1, ht]
    obtain ⟨c1, c2, c3⟩ := State.chimneyOf_rd 0 hev hrd
    refine w.decideChimney_up ?_ (c3.trans hlost) ((State.linkDown_false w 0).mpr ⟨c1.trans hon0, c2.trans hlanes0, ?_⟩)
    · rw [hw]
      change s2.arrivals = _
      rw [hall.1, ht]
      exact harr
    · have : w.link 0 = t.link 0 := by
        rw [hw]
        change s2.pair.links.getD 0 {} = _
        rw [hp2]
        rfl
      rw [this, hlink]
      exact hmiss
  clear_value x
  rw [hsame]
  refine ⟨⟨{ s2 with pair := s.pair }, ⟨?_, fun k hk => (hall.2 k hk).trans (by rw [ht]; rfl)⟩, ?_⟩, ?_, ?_, ?_⟩
  · rw [hall.1, ht]
  · have hpair2 : w.pair = { s.pair with
        links := w.pair.links, mateNext := f.nextClaim.toNat
        chimClaim := if f.sfn.toNat % 2 = 0 then some f.claim.toNat else s.pair.chimClaim } := by
      rw [hw, s2.pair_updPair, hp2, ht]
    rw [← hpair2, hw]
    rfl
  · exact (State.get_of_rd (hwregs _) _).trans g2
  · exact (State.get_of_rd (hwregs _) _).trans a2
  · have : w.link 0 = t.link 0 := by
      rw [hw]
      change s2.pair.links.getD 0 {} = _
      rw [hp2]
      rfl
    rw [this, hlink]
    rfl

/-- A frame without a marker only counts, below the eighth. -/
theorem State.chimneyReceive_unmarked (s : State) (f : ChimRx) (hpair : s.inPair = true) (hon : s.chimOn 0 = true)
    (hup : s.linkDown 0 = false) (hcond : s.has (condLink (s.chimIndex (s.chimPort 0))) = false) (harr : s.arrivals = [])
    (hlost : s.chimLost = false) (hid : f.ident = none) (hm : f.markerOk = false) (hmiss : (s.link 0).miss < 7) :
    let x := s.chimneyReceive 0 f
    x = { s with pair := { s.pair with links := x.pair.links } } ∧
    x.link 0 = { s.link 0 with good := 0, miss := (s.link 0).miss + 1 } ∧ x.link 1 = s.link 1 := by
  intro x
  obtain ⟨hon0, hlanes0, _⟩ := (s.linkDown_false 0).mp hup
  have hcounts : linkCounts false (s.link 0) = { s.link 0 with good := 0, miss := (s.link 0).miss + 1 } := by
    change ({ s.link 0 with good := 0, miss := min 8 ((s.link 0).miss + 1) } : ChimSt) = _
    rw [min_eq_right (by omega)]
  have hmiss1 : (linkCounts false (s.link 0)).miss < 8 := by
    rw [hcounts]
    change (s.link 0).miss + 1 < 8
    omega
  have hok : (s.overheadOk 0 f && f.mirrorOk) = false := by simp [State.overheadOk, hm]
  have hx := s.chimneyReceive_link f hpair hon hid
  change x = _ at hx
  rw [hok] at hx
  dsimp only at hx
  rw [s.linkInterval_up 0 false hup hmiss1 hcond, hm] at hx
  have hlink : ∀ n, (s.updLink 0 (linkCounts false)).link n = if n = 0 then linkCounts false (s.link 0) else s.link n := fun n =>
    Tbl.getD_store ..
  have hrow : x = (s.updLink 0 (linkCounts false)).decideChimney := hx
  rw [State.decideChimney_up (s.updLink 0 (linkCounts false)) harr hlost ((State.linkDown_false _ 0).mpr ⟨hon0, hlanes0, (hlink 0) ▸ hmiss1⟩)] at hrow
  rw [hrow]
  exact ⟨rfl, (hlink 0).trans hcounts, hlink 1⟩

/-! ### The mirror -/

/-- The sweep that a divergence starts. -/
theorem State.diverged_shows (s : State) : s.diverged.raised srcMirror 0x82 true ∧ s.diverged.pair.sweep = s.sweepFrames + 1 ∧
    s.diverged.cal = s.cal := by
  have h1 : Noted s (s.clmHist 4) [CLM_STATUS.key] := .histBit s _ _ _ (by simp)
  have hx : s.diverged = ((s.clmHist 4).event srcMirror 0x82 true 0).startSweep := rfl
  generalize s.clmHist 4 = s1 at h1 hx
  have h2 : Noted s1 (s1.event srcMirror 0x82 true 0) [CLM_STATUS.key] := .event s1 _ _ _ _ (by decide) _
  have r2 := s1.raised_event srcMirror 0x82 true 0 (by decide)
  generalize s1.event srcMirror 0x82 true 0 = s2 at h2 r2 hx
  have hall := h1.trans h2
  have hbanks : ∀ p, p < 6 → s2.poolBanks p = s.poolBanks p := fun p hp => hall.get
    (by simp only [STK_POOL.key, CLM_STATUS.key, List.mem_singleton]; omega)
    (by unfold noteReg STK_POOL.key OBS_DROP_CNT.key OBS_TRACE_STATUS.key; simp; omega) _
  have hframes : s2.sweepFrames = s.sweepFrames := by
    rw [State.sweepFrames, State.sweepFrames, hbanks 0 (by decide), hbanks 4 (by decide), hbanks 5 (by decide)]
  rw [hx]
  refine ⟨r2, congrArg (· + 1) hframes, ?_⟩
  change s2.cal = s.cal
  rw [hall.1]

/-- The entry that a mirrored command keyed to an SFN makes. -/
theorem State.mirrorEnters_sfn (s : State) (p : Packet) (c n : Nat) (r : List Byte) (hk : keyOf p = .sfn n) :
    ∃ v, s.mirrorEnters p c r = { s.put CAL_STATUS.key CAL_STATUS.PEAK v with
      cal := { entries := s.cal.entries ++ [{ creation := c, key := .sfn n, action := .host (settled p r), late := true }]
               nextCreation := max s.cal.nextCreation (c + 1) } } := by
  unfold State.mirrorEnters
  rw [hk]
  exact ⟨_, rfl⟩

/-- A forwarded command of a standby that is not answered at once, which its chapter accepts. -/
theorem State.mirrorTake_accepted (s s1 : State) (p : Packet) (c : Nat) (r own : List Byte) (hs : s.standby = true)
    (hpre : p.preempt = false) (hop : p.opcode ≠ 0x54) (hact : actsAtOnce p.op = false) (hacc : s.chapter p = .accept s1 own) :
    s.mirrorTake p c r = (let s2 := if own = r then s1 else s1.diverged
      (s2.takeLeases p.master (needs p ++ givenRes s2 p r)).mirrorEnters p c r) := by
  have hop' : p.op ≠ 0x54 := fun h => hop (BitVec.eq_of_toNat_eq h)
  unfold State.mirrorTake
  rw [if_neg (by simp [hs]), hpre]
  simp only [Bool.false_eq_true, if_false]
  rw [if_neg hop', if_neg (by simp [hact]), hacc]

/-- A mirrored command whose own result is the one forwarded. -/
theorem State.mirrorTake_agrees (s s1 : State) (p : Packet) (c n : Nat) (r : List Byte) (hs : s.standby = true)
    (hpre : p.preempt = false) (hop : p.opcode ≠ 0x54) (hact : actsAtOnce p.op = false) (hacc : s.chapter p = .accept s1 r)
    (hk : keyOf p = .sfn n) :
    let x := s.mirrorTake p c r
    ∃ y, OnlyRegs s1 y [CAL_STATUS.key] ∧ x = { y with
      cmd := { s1.cmd with leases := x.cmd.leases }
      cal := { entries := s1.cal.entries ++ [{ creation := c, key := .sfn n, action := .host (settled p r), late := true }]
               nextCreation := max s1.cal.nextCreation (c + 1) } } ∧ s1.cmd.leases <+: x.cmd.leases := by
  intro x
  have hx := s.mirrorTake_accepted s1 p c r r hs hpre hop hact hacc
  change x = _ at hx
  rw [if_pos rfl] at hx
  dsimp only at hx
  obtain ⟨ht, hle⟩ := s1.takeLeases_adds p.master (needs p ++ givenRes s1 p r)
  generalize s1.takeLeases p.master (needs p ++ givenRes s1 p r) = t at ht hle hx
  obtain ⟨v, hv⟩ := t.mirrorEnters_sfn p c n r hk
  rw [hv] at hx
  have hregs : OnlyRegs s1 { t.put CAL_STATUS.key CAL_STATUS.PEAK v with cmd := s1.cmd } [CAL_STATUS.key] := by
    have h := OnlyRegs.put t CAL_STATUS.key CAL_STATUS.PEAK v (List.mem_singleton.mpr rfl)
    generalize t.put CAL_STATUS.key CAL_STATUS.PEAK v = z at h
    refine ⟨?_, fun k hk => (h.2 k hk).trans (by rw [ht]; rfl)⟩
    rw [h.1, ht]
  have hcal : t.cal = s1.cal := by rw [ht]
  have hcmd : (t.put CAL_STATUS.key CAL_STATUS.PEAK v).cmd = t.cmd := rfl
  clear_value x
  generalize t.put CAL_STATUS.key CAL_STATUS.PEAK v = z at hregs hx hcmd
  have hxl : x.cmd = t.cmd := by rw [hx, ← hcmd]
  have hcmd' : z.cmd = { s1.cmd with leases := x.cmd.leases } := by rw [hcmd, hxl, ht]
  rw [← hcal, ← hcmd', hxl]
  exact ⟨{ z with cmd := s1.cmd }, hregs, hx, hle⟩

/-- A mirrored command whose own result differs diverges the mirror and still makes its entry. -/
theorem State.mirrorTake_differs (s s1 : State) (p : Packet) (c n : Nat) (r own : List Byte) (hs : s.standby = true)
    (hpre : p.preempt = false) (hop : p.opcode ≠ 0x54) (hact : actsAtOnce p.op = false) (hacc : s.chapter p = .accept s1 own)
    (hk : keyOf p = .sfn n) (hr : own ≠ r) :
    let x := s.mirrorTake p c r
    x.raised srcMirror 0x82 true ∧ x.pair.sweep = s1.sweepFrames + 1 ∧ s1.cal.entries <+: x.cal.entries := by
  intro x
  have hx := s.mirrorTake_accepted s1 p c r own hs hpre hop hact hacc
  change x = _ at hx
  rw [if_neg hr] at hx
  dsimp only at hx
  obtain ⟨hraised, hsweep, hcal⟩ := s1.diverged_shows
  generalize s1.diverged = t at hraised hsweep hcal hx
  obtain ⟨hu, _⟩ := t.takeLeases_adds p.master (needs p ++ givenRes t p r)
  generalize t.takeLeases p.master (needs p ++ givenRes t p r) = u at hu hx
  obtain ⟨v, hv⟩ := u.mirrorEnters_sfn p c n r hk
  rw [hv] at hx
  have hevt : u.evt = t.evt := by rw [hu]
  have hpair : u.pair = t.pair := by rw [hu]
  have hcal' : u.cal = s1.cal := by rw [hu, ← hcal]
  rw [hx]
  refine ⟨?_, (congrArg PairSt.sweep hpair).trans hsweep, ?_⟩
  · obtain ⟨e, he, rest⟩ := hraised
    exact ⟨e, hevt ▸ he, rest⟩
  · rw [← hcal']
    exact List.prefix_append _ _

/-! ### The end of a sweep, of the mate hold and of the wait to restore -/

/-- A frame of events read around a change of the pair's record. -/
theorem Noted.around_pair {s u : State} {ks : List Nat} (q : PairSt) (h : Noted { s with pair := q } u ks) :
    Noted s { u with pair := s.pair } ks := by
  obtain ⟨h1, h2, h3⟩ := h
  exact ⟨congrArg (fun w : State => { w with pair := s.pair }) h1, h2, h3⟩

/-- The mirror is synchronised. -/
theorem State.setSynced_shows (s : State) (h : s.synced = false) :
    Noted s (s.setSynced true) [CLM_STATUS.key] ∧ (s.setSynced true).synced = true ∧
      (s.setSynced true).has ⟨srcMirror, 0, 0x81⟩ = false ∧ (s.setSynced true).raised srcMirror 0x80 true := by
  have hx : s.setSynced true = ((s.put CLM_STATUS.key CLM_STATUS.MIRROR_SYNCED 1).event srcMirror 0x80 true 0).judgeStale :=
    if_neg fun hs => Bool.false_ne_true (h.symm.trans hs)
  have h1 : Noted s (s.put CLM_STATUS.key CLM_STATUS.MIRROR_SYNCED 1) [CLM_STATUS.key] := .put s _ _ _ (by simp)
  have g1 : (s.put CLM_STATUS.key CLM_STATUS.MIRROR_SYNCED 1).synced = true := State.on_put_one _ _ _ (by decide) rfl
  generalize s.put CLM_STATUS.key CLM_STATUS.MIRROR_SYNCED 1 = s1 at h1 g1 hx
  have h2 : Noted s1 (s1.event srcMirror 0x80 true 0) [] := .event s1 _ _ _ _ (by decide) _
  have g2 : (s1.event srcMirror 0x80 true 0).synced = true := (h2.on (by simp) (by decide) _).trans g1
  have r2 := s1.raised_event srcMirror 0x80 true 0 (by decide)
  generalize s1.event srcMirror 0x80 true 0 = s2 at h2 g2 r2 hx
  have hstale : s2.judgeStale = s2.cond ⟨srcMirror, 0, 0x81⟩ false := by
    unfold State.judgeStale
    rw [g2, Bool.not_true, Bool.and_false]
  rw [hstale] at hx
  have h3 : Noted s2 (s2.cond ⟨srcMirror, 0, 0x81⟩ false) [] := .cond s2 _ _ (by decide) _
  rw [hx]
  exact ⟨(h1.trans (h2.mono (List.nil_subset _))).trans (h3.mono (List.nil_subset _)), (h3.on (by simp) (by decide) _).trans g2,
    s2.has_cond_same _ _ (by decide), h3.raised_kept r2⟩

/-- The last frame of a sweep synchronises the mirror. -/
theorem State.sweepDone_shows (s : State) (h1 : s.pair.sweep = 1) (hs : s.synced = false) :
    let x := s.sweepDone
    (∃ y, Noted s y [CLM_STATUS.key] ∧ x = { y with pair := { s.pair with sweep := 0 } }) ∧ x.synced = true ∧
      x.has ⟨srcMirror, 0, 0x81⟩ = false ∧ x.raised srcMirror 0x80 true := by
  intro x
  have hx : x = (({ s with pair := { s.pair with sweep := 0 } } : State)).setSynced true := if_pos h1
  obtain ⟨hn, rest⟩ := State.setSynced_shows { s with pair := { s.pair with sweep := 0 } } hs
  rw [← hx] at hn rest
  clear_value x
  have hpair : x.pair = { s.pair with sweep := 0 } := by rw [hn.1]
  exact ⟨⟨{ x with pair := s.pair }, hn.around_pair, by rw [← hpair]⟩, rest⟩

/-- The mate hold has run. -/
theorem State.mateHold_shows (s : State) (h : s.timerDue .mateHold = true) :
    let x := s.mateHoldExpiry
    (∃ y, OnlyRegs s y [CLM_MATE_IN_FORCE.key] ∧ x = { y with
      pair := { s.pair with mateZero := true }, timers := s.timers.filter fun t => decide (t.kind ≠ .mateHold) }) ∧
    x.mateInForce = 0 := by
  intro x
  have hx : x = { s.put CLM_MATE_IN_FORCE.key CLM_MATE_IN_FORCE.MATE_CLAIM 0 with
      pair := { s.pair with mateZero := true }, timers := s.timers.filter fun t => decide (t.kind ≠ .mateHold) } := if_pos h
  have g : (s.put CLM_MATE_IN_FORCE.key CLM_MATE_IN_FORCE.MATE_CLAIM 0).mateInForce = 0 := State.get_put_same s _ _ _ (by decide)
  have h1 := OnlyRegs.put s CLM_MATE_IN_FORCE.key CLM_MATE_IN_FORCE.MATE_CLAIM 0 (List.mem_singleton.mpr rfl)
  rw [hx]
  exact ⟨⟨_, h1, rfl⟩, g⟩

/-- The wait to restore of a unit that its mate outranks. -/
theorem State.pairWtr_yields (s : State) (h : s.timerDue .pairWtr = true) (hno : s.pair.handover = none)
    (hle : s.returnClaim ≤ s.mateInForce) : s.pairWtrExpiry = { s with
      pair := { s.pair with returnStep := 0 }, timers := s.timers.filter fun t => decide (t.kind ≠ .pairWtr) } := by
  refine (if_pos h).trans ((if_neg ?_).trans ((if_neg (Nat.not_lt.mpr hle)).trans rfl))
  change ¬ (4 ≠ 4 ∨ s.pair.handover.isSome = true)
  rw [hno]
  decide

theorem State.put_withTimersPair (s : State) (ts : List Timer) (q : PairSt) (k : Nat) (f : Fld) (v : Nat) :
    ({ s with timers := ts, pair := q } : State).put k f v = { s.put k f v with timers := ts, pair := q } := rfl

theorem State.put_withTimersPairCal (s : State) (ts : List Timer) (q : PairSt) (c : CalSt) (k : Nat) (f : Fld) (v : Nat) :
    ({ s with timers := ts, pair := q, cal := c } : State).put k f v = { s.put k f v with timers := ts, pair := q, cal := c } := rfl

/-- A handover is created where the calendar has room. -/
theorem State.makeHandover_room (s : State) (ts : List Timer) (q : PairSt) (k own mate : Nat) (hroom : s.deviceRoom = true) :
    ∃ y, OnlyRegs s y [CLM_STATUS.key, CAL_STATUS.key] ∧ y.on CLM_STATUS.key CLM_STATUS.HANDOVER_PENDING = true ∧
      ({ s with timers := ts, pair := q } : State).makeHandover k own mate false = { y with
        timers := ts, pair := { q with handover := some (k, own, mate, false) }
        cal := { entries := s.cal.entries ++ [{ creation := s.cal.nextCreation, key := .sfn k, action := .handover }]
                 nextCreation := s.cal.nextCreation + 1 } } := by
  have hadd : ({ s with timers := ts, pair := q } : State).addDevice (.sfn k) .handover =
      (true, ({ s with timers := ts, pair := q } : State).addEntry (.sfn k) .handover false 0 0) := if_pos hroom
  obtain ⟨c, hc⟩ : ∃ c, c = ({
    entries := s.cal.entries ++ [{ creation := s.cal.nextCreation, key := .sfn k, action := .handover }]
    nextCreation := s.cal.nextCreation + 1 } : CalSt) := ⟨_, rfl⟩
  have hentry : ({ s with timers := ts, pair := q } : State).addEntry (.sfn k) .handover false 0 0 =
      ({ s with timers := ts, pair := q, cal := c } : State).put CAL_STATUS.key CAL_STATUS.PEAK
        (max (s.get CAL_STATUS.key CAL_STATUS.PEAK) c.entries.length) := by
    rw [hc]
    rfl
  rw [← hc]
  rw [hentry, State.put_withTimersPairCal] at hadd
  have h1 : OnlyRegs s (s.put CAL_STATUS.key CAL_STATUS.PEAK (max (s.get CAL_STATUS.key CAL_STATUS.PEAK) c.entries.length))
    [CLM_STATUS.key, CAL_STATUS.key] := .put s _ _ _ (by simp)
  generalize s.put CAL_STATUS.key CAL_STATUS.PEAK _ = z at hadd h1
  refine ⟨z.put CLM_STATUS.key CLM_STATUS.HANDOVER_PENDING 1, h1.trans (.put z _ _ _ (by simp)),
    State.on_put_one _ _ _ (by decide) rfl, ?_⟩
  unfold State.makeHandover
  rw [hadd]
  exact (if_pos rfl).trans (z.put_withTimersPairCal ts { q with handover := some (k, own, mate, false) } c _ _ _)

/-- After the wait to restore, a unit that outranks its mate and may hand over makes its handover. -/
theorem State.afterWtr_outranks (s : State) (hstep : s.pair.returnStep = 4) (hno : s.pair.handover = none)
    (hlt : s.mateInForce < s.returnClaim) (hcan : s.canHandover = true) :
    s.afterWtr = s.makeHandover (evenAt (s.time.sfn + s.handoverLead)) s.returnClaim s.pair.mateNext false :=
  (if_neg (by simp [hstep, hno])).trans ((if_pos hlt).trans (if_pos hcan))

/-- The wait to restore of a unit that outranks its mate. -/
theorem State.pairWtr_returns (s : State) (h : s.timerDue .pairWtr = true) (hno : s.pair.handover = none)
    (hlt : s.mateInForce < s.returnClaim) (hcan : s.canHandover = true) (hroom : s.deviceRoom = true) :
    let x := s.pairWtrExpiry
    let h := evenAt (s.time.sfn + max 8 (s.get CLM_CFG2.key CLM_CFG2.HANDOVER_LEAD))
    (∃ y, OnlyRegs s y [CLM_STATUS.key, CAL_STATUS.key] ∧ x = { y with
      timers := s.timers.filter fun t => decide (t.kind ≠ .pairWtr)
      pair := { s.pair with returnStep := 4, handover := some (h, s.returnClaim, s.pair.mateNext, false) }
      cal := { entries := s.cal.entries ++ [{ creation := s.cal.nextCreation, key := .sfn h, action := .handover }]
               nextCreation := s.cal.nextCreation + 1 } }) ∧
    h % 2 = 0 ∧ x.on CLM_STATUS.key CLM_STATUS.HANDOVER_PENDING = true := by
  intro x k
  let ts := s.timers.filter fun t => decide (t.kind ≠ .pairWtr)
  let q : PairSt := { s.pair with returnStep := 4 }
  have hafter : x = ({ s with timers := ts, pair := q } : State).makeHandover k s.returnClaim s.pair.mateNext false := by
    exact (if_pos h).trans (State.afterWtr_outranks { s with timers := ts, pair := q } rfl hno hlt hcan)
  have heven : k % 2 = 0 := by
    change (_ + _ % 2) % 2 = 0
    omega
  clear_value k x
  obtain ⟨y, hy, hon, hx⟩ := s.makeHandover_room ts q k s.returnClaim s.pair.mateNext hroom
  refine ⟨⟨y, hy, hafter.trans hx⟩, heven, ?_⟩
  rw [hafter, hx]
  exact hon

/-! ### Handovers -/

/-- No entry of the calendar is the action: its row takes none. -/
theorem State.takeStep_none (s : State) (a : Action) (h : ∀ e ∈ s.cal.entries, e.action ≠ a) : s.takeStep a = none := by
  unfold State.takeStep
  rw [List.find?_eq_none.mpr fun e he => by simpa using h e he]

/-- The one entry of the calendar leaves it. -/
theorem State.removeEntry_only (s : State) {e : Entry} (he : s.cal.entries = [e]) (harmed : s.time.armed = none) :
    s.removeEntry e.creation = { s with cal := { s.cal with entries := [] } } := by
  have hfilter : s.cal.entries.filter (fun x => decide (x.creation ≠ e.creation)) = [] := by
    rw [he]
    exact List.filter_cons_of_neg (by simp)
  have htime : ({ s.time with armed := s.time.armed.filter fun a => decide (a.2 ≠ some e.creation) } : TimeSt) = s.time := by
    have : s.time.armed.filter (fun a => decide (a.2 ≠ some e.creation)) = s.time.armed := by rw [harmed]; rfl
    rw [this]
  unfold State.removeEntry
  rw [hfilter, htime]

/-- The one entry of the calendar is the action and is due. -/
theorem State.takeStep_only (s : State) (a : Action) {e : Entry} {k : Nat} (he : s.cal.entries = [e]) (ha : e.action = a)
    (hk : e.key = .sfn k) (hdue : k ≤ s.time.sfn) (harmed : s.time.armed = none) :
    s.takeStep a = some { s with cal := { s.cal with entries := [] } } := by
  have hfind : s.cal.entries.find? (fun e => decide (e.action = a)) = some e := by
    rw [he]
    exact List.find?_cons_of_pos (decide_eq_true ha)
  unfold State.takeStep
  rw [hfind]
  dsimp only
  rw [hk]
  exact (if_pos hdue).trans (congrArg some (s.removeEntry_only he harmed))

/-- A handover puts both claims in force. -/
theorem State.runHandover_shows (s : State) {h own mate : Nat} {switch : Bool}
    (hh : s.pair.handover = some (h, own, mate, switch)) :
    let x := s.runHandover
    (∃ y, Noted s y [CLM_STATUS.key, CLM_MATE_IN_FORCE.key] ∧ x = { y with pair := x.pair }) ∧
    x.pair.handover = none ∧ x.pair.handed = switch ∧ x.clm CLM_STATUS.OWN_CLAIM = own % 2 ^ CLM_STATUS.OWN_CLAIM.width ∧
    x.mateInForce = mate % 2 ^ CLM_MATE_IN_FORCE.MATE_CLAIM.width ∧
    x.on CLM_STATUS.key CLM_STATUS.HANDOVER_PENDING = false ∧ x.raised srcPair eHANDOVER true := by
  intro x
  obtain ⟨q, hq, hq1, hq2⟩ : ∃ q : PairSt, x = ((((({ s with pair := q } : State).put CLM_STATUS.key CLM_STATUS.OWN_CLAIM own).setMate
      mate).put CLM_STATUS.key CLM_STATUS.HANDOVER_PENDING 0).event srcPair eHANDOVER true 0) ∧ q.handover = none ∧ q.handed = switch := by
    refine ⟨{ s.pair with
      handover := none, handed := switch, lastAgreed := mate, agrees := true, disagree := 0
      heldOut := s.pair.heldOut || switch
      returnStep := if switch then s.pair.returnStep else if s.pair.returnStep = 4 then 0 else s.pair.returnStep }, ?_, rfl, rfl⟩
    change s.runHandover = _
    unfold State.runHandover
    rw [hh]
    rfl
  obtain ⟨t, ht⟩ : ∃ t, t = ({ s with pair := q } : State) := ⟨_, rfl⟩
  rw [← ht] at hq
  have h1 : Noted t (t.put CLM_STATUS.key CLM_STATUS.OWN_CLAIM own) [CLM_STATUS.key, CLM_MATE_IN_FORCE.key] := .put t _ _ _ (by simp)
  have o1 : (t.put CLM_STATUS.key CLM_STATUS.OWN_CLAIM own).get CLM_STATUS.key CLM_STATUS.OWN_CLAIM =
    own % 2 ^ CLM_STATUS.OWN_CLAIM.width := State.get_put_same t _ _ _ (by decide)
  generalize t.put CLM_STATUS.key CLM_STATUS.OWN_CLAIM own = s1 at h1 o1 hq
  have h2 : Noted s1 (s1.setMate mate) [CLM_STATUS.key, CLM_MATE_IN_FORCE.key] := .put s1 _ _ _ (by simp)
  have o2 : (s1.setMate mate).get CLM_STATUS.key CLM_STATUS.OWN_CLAIM = own % 2 ^ CLM_STATUS.OWN_CLAIM.width :=
    (State.get_put_other s1 _ _ _ _ _ (by decide)).trans o1
  have m2 : (s1.setMate mate).mateInForce = mate % 2 ^ CLM_MATE_IN_FORCE.MATE_CLAIM.width :=
    State.get_put_same s1 _ _ _ (by decide)
  generalize s1.setMate mate = s2 at h2 o2 m2 hq
  have h3 : Noted s2 (s2.put CLM_STATUS.key CLM_STATUS.HANDOVER_PENDING 0) [CLM_STATUS.key, CLM_MATE_IN_FORCE.key] :=
    .put s2 _ _ _ (by simp)
  have o3 : (s2.put CLM_STATUS.key CLM_STATUS.HANDOVER_PENDING 0).get CLM_STATUS.key CLM_STATUS.OWN_CLAIM =
    own % 2 ^ CLM_STATUS.OWN_CLAIM.width := (State.get_put_field s2 _ _ _ _ (by decide) (by decide)).trans o2
  have m3 : (s2.put CLM_STATUS.key CLM_STATUS.HANDOVER_PENDING 0).mateInForce = mate % 2 ^ CLM_MATE_IN_FORCE.MATE_CLAIM.width :=
    (State.get_put_other s2 _ _ _ _ _ (by decide)).trans m2
  have p3 : (s2.put CLM_STATUS.key CLM_STATUS.HANDOVER_PENDING 0).get CLM_STATUS.key CLM_STATUS.HANDOVER_PENDING = 0 :=
    State.get_put_same s2 _ _ _ (by decide)
  generalize s2.put CLM_STATUS.key CLM_STATUS.HANDOVER_PENDING 0 = s3 at h3 o3 m3 p3 hq
  have h4 : Noted s3 (s3.event srcPair eHANDOVER true 0) [] := .event s3 _ _ _ _ (by decide) _
  have r4 := s3.raised_event srcPair eHANDOVER true 0 (by decide)
  rw [← hq] at h4 r4
  clear_value x
  have hall := ((h1.trans h2).trans h3).trans (h4.mono (List.nil_subset _))
  have hpair : x.pair = q := by rw [hall.1, ht]
  rw [hpair]
  refine ⟨⟨{ x with pair := s.pair }, Noted.around_pair q (ht ▸ hall), by rw [← hpair]⟩, hq1, hq2,
    (h4.get (by simp) (by decide) _).trans o3, (h4.get (by simp) (by decide) _).trans m3, ?_, r4⟩
  exact decide_eq_false fun h => Nat.zero_ne_one (((h4.get (by simp) (by decide) _).trans p3).symm.trans h)

/-- What a chimney frame sends outside a handover. -/
theorem State.chimneyTransmit_sends (s : State) (hpair : s.inPair = true) (hno : s.pair.handover = none) :
    s.chimneyTransmit = { s with pair := { s.pair with
      txClaim := s.clm CLM_STATUS.OWN_CLAIM, txNext := s.clm CLM_STATUS.OWN_CLAIM, txNextSfn := 0, txSfn := s.time.sfn
      txFlags := (if s.role = 2 then 128 else 0) + (if s.synced then 64 else 0)
      mirrorSeq := (s.pair.mirrorSeq + s.pair.forward.length) % 2 ^ 32, forward := [] } } := by
  have hflags : s.chimFlags = (if s.role = 2 then 128 else 0) + (if s.synced then 64 else 0) := by
    unfold State.chimFlags
    rw [hno]
    by_cases hr : s.role = 2 <;> cases s.synced <;> simp [hr, bit]
  have hrow : s.chimneyTransmit = s.updPair fun x => { x with
      txClaim := s.clm CLM_STATUS.OWN_CLAIM
      txNext := (match s.pair.handover with
        | some (_, o, _, switch) => if switch then s.clm CLM_STATUS.OWN_CLAIM % 4096 else o
        | none => s.clm CLM_STATUS.OWN_CLAIM)
      txNextSfn := (match s.pair.handover with | some (h, _) => h | none => 0)
      txFlags := s.chimFlags, txSfn := s.time.sfn
      mirrorSeq := (x.mirrorSeq + x.forward.length) % 2 ^ 32, forward := [] } :=
    if_neg fun h => Bool.false_ne_true (h.symm.trans hpair)
  rw [hrow, hno, hflags]
  rfl

end Sys2Proof.Machine

open Sys2Proof Sys2Proof.Machine

/-- Settles O60: each clause is the row's function in its case; the registers and events of a case are followed update by
update. -/
theorem pairRows : Obligations.PairRows := by
  unfold Obligations.PairRows
  intro s
  refine ⟨fun h => ⟨?_, fun k f => ?_⟩, fun f hpair hon hup hpartner hcond harr hlost hid => ⟨fun hm hc hv hmir hflag => ?_, fun hm hmiss => ?_⟩,
    fun hpair hno => ?_, fun p c r => ⟨fun h => ?_, fun s1 own n hs hpre hop hact hacc hk => ⟨fun hr => ?_, fun hr => ?_⟩⟩,
    fun h => ?_, fun h hs => ?_, fun h => ?_, fun h => ?_, fun h => ?_, fun h hno hle => ?_, fun h hno hlt hcan hroom => ?_,
    fun h => ?_, fun e k own mate h switch he ha hk hdue harmed hh => ?_⟩
  · exact answers_of rfl (if_pos h)
  · exact answers_of rfl (if_pos (Or.inl h))
  · exact answers_of rfl (s.chimneyReceive_accepted f hpair hon hup hpartner hcond harr hlost hid hm hc hv hmir hflag)
  · exact answers_of rfl (s.chimneyReceive_unmarked f hpair hon hup hcond harr hlost hid hm hmiss)
  · exact answers_of rfl (s.chimneyTransmit_sends hpair hno)
  · exact answers_of rfl (if_pos h)
  · exact answers_of rfl (s.mirrorTake_agrees s1 p c n r hs hpre hop hact (hr ▸ hacc) hk)
  · exact answers_of rfl (s.mirrorTake_differs s1 p c n r own hs hpre hop hact hacc hk hr)
  · exact answers_of rfl (if_neg h)
  · exact answers_of rfl (s.sweepDone_shows h hs)
  · exact answers_of rfl (if_neg (by simp [h]))
  · exact answers_of rfl (s.mateHold_shows h)
  · exact answers_of rfl (if_neg (by simp [h]))
  · exact answers_of rfl (s.pairWtr_yields h hno hle)
  · exact answers_of rfl (s.pairWtr_returns h hno hlt hcan hroom)
  · refine answers_of (x := s) ?_ rfl
    change execHandover s = _
    unfold execHandover
    rw [s.takeStep_none _ h]
  · refine answers_of (x := ({ s with cal := { s.cal with entries := [] } } : State).runHandover) ?_ (State.runHandover_shows _ hh)
    change execHandover s = _
    unfold execHandover
    rw [s.takeStep_only _ he ha hk hdue harmed]

end

section
/-! PROOF. A received OTU frame and the end of a delay measurement (R48, R127 to R131, R138). -/

namespace Sys2Proof.Machine

/-! ### The port -/

theorem otnStatus_apart : ∀ p : Port, PRT_CFG.key p ∉ [OTN_STATUS.key p] ∧ PRT_CNT_CFG.key p ∉ [OTN_STATUS.key p] ∧
    OTN_CFG.key p ∉ [OTN_STATUS.key p] ∧ noteReg (PRT_CFG.key p) = false ∧ noteReg (PRT_CNT_CFG.key p) = false ∧
    noteReg (OTN_CFG.key p) = false := by decide +kernel

section
variable {s x : State} {p : Port} {codes : List Nat} {f : PortSt → PortSt}

theorem State.not_others_of_isOtn {p : Nat} (h : s.isOtn p = true) : s.isSdh p = false ∧ s.isAlf p = false := by
  have hf : s.family p = 3 := by simpa [State.isOtn] using h
  constructor
  · rw [State.isSdh, hf]
    rfl
  · rw [State.isAlf, hf]
    rfl

theorem FrameStep.otnPort (h : FrameStep s x p [OTN_STATUS.key p] codes f) :
    x.isOtn p = s.isOtn p ∧ x.rate p = s.rate p ∧ x.oduList p = s.oduList p := by
  obtain ⟨hprt, _, _, hn, _⟩ := otnStatus_apart p
  refine ⟨?_, h.get hprt hn _, ?_⟩
  · rw [State.isOtn, State.isOtn, State.family, State.family, h.get hprt hn]
  · rw [State.oduList, State.oduList, h.1.odus]

/-- The sticky bit of a defect of an OTN port. -/
theorem State.defectHist_otn_onlyRegs (s : State) {p : Nat} (code : Nat) (hp : p < 96) (h : s.isOtn p = true) :
    OnlyRegs s (s.defectHist (condPort p code)) [OTN_STATUS.key p] := by
  have hrow : s.defectHist (condPort p code) = match placeOf code otnStatusCodes with
      | some i => s.histBit (OTN_STATUS.key p) OTN_STATUS.HIST i
      | none => s := by
    refine (if_pos hp).trans ((if_neg (by decide : ¬ 0 / 2 ^ 28 = 2)).trans ((if_neg (by decide : ¬ 0 / 2 ^ 28 = 3)).trans
      ((if_neg (by decide : ¬ 0 / 2 ^ 28 = 4)).trans ((if_neg ?_).trans ((if_pos h).trans ?_)))))
    · exact fun hs => Bool.false_ne_true ((State.not_others_of_isOtn h).1.symm.trans hs)
    · rfl
  rw [hrow]
  split
  · exact .put s _ _ _ (List.mem_singleton_self _)
  · exact .refl s _

end

theorem PortWork.tick_mem {s x : State} {p : Nat} {ks : List Nat} (h : PortWork s x p ks) {e : EventRec} (he : e ∈ s.evt.tick) :
    e ∈ x.evt.tick := by
  obtain ⟨⟨y, hy, hx⟩, _⟩ := h
  rw [hx]
  exact hy.2.2.subset he

/-! ### Alignment of frames and of the multiframe -/

/-- The two rules of an alignment: out of it, and lost. -/
def State.lossRules (s : State) (p oof lof top : Nat) (began : Bool) (a : AlignSt) : State :=
  let s2 := if began && !a.inFrame then s.rule (condPort p oof) true
    else if a.inFrame then s.rule (condPort p oof) false else s
  if !a.inFrame && decide (top ≤ a.oofRun) then s2.rule (condPort p lof) true
  else if a.inFrame && decide (top ≤ a.inRun) then s2.rule (condPort p lof) false else s2

theorem State.lossRules_shows (s : State) (p : Port) {oof lof : Nat} (top : Nat) (began : Bool) (a : AlignSt)
    (hotn : s.isOtn p = true) (hne : oof ≠ lof) :
    let x := s.lossRules p oof lof top began a
    FrameStep s x p [OTN_STATUS.key p] [oof, lof] id ∧
    x.decided (condPort p oof) = (if began || a.inFrame then !a.inFrame else s.decided (condPort p oof)) ∧
    x.decided (condPort p lof) = (if !a.inFrame && decide (top ≤ a.oofRun) then true
      else if a.inFrame && decide (top ≤ a.inRun) then false else s.decided (condPort p lof)) := by
  intro x
  obtain ⟨h1, d1, o1⟩ := s.upDown_shows p oof (began && !a.inFrame) a.inFrame (codes := [oof, lof])
    (s.defectHist_otn_onlyRegs oof p.isLt hotn) (by simp)
  have hx : x = (let s2 := if (began && !a.inFrame) = true then s.rule (condPort p oof) true
        else if a.inFrame = true then s.rule (condPort p oof) false else s
      if (!a.inFrame && decide (top ≤ a.oofRun)) = true then s2.rule (condPort p lof) true
      else if (a.inFrame && decide (top ≤ a.inRun)) = true then s2.rule (condPort p lof) false else s2) := rfl
  dsimp only at hx
  generalize (if (began && !a.inFrame) = true then s.rule (condPort p oof) true
    else if a.inFrame = true then s.rule (condPort p oof) false else s) = y at h1 d1 o1 hx
  obtain ⟨h2, d2, o2⟩ := y.upDown_shows p lof (!a.inFrame && decide (top ≤ a.oofRun)) (a.inFrame && decide (top ≤ a.inRun))
    (codes := [oof, lof]) (y.defectHist_otn_onlyRegs lof p.isLt (h1.otnPort.1.trans hotn)) (by simp)
  rw [hx]
  refine ⟨h1.trans h2, (o2 oof hne).trans (d1.trans ?_), d2.trans ?_⟩
  · cases began <;> cases a.inFrame <;> rfl
  · rw [o1 lof hne.symm]

/-- The alignment of a frame without LOL. -/
theorem State.otuAlign_shows (s : State) (p : Port) (f : OtuRx) (hotn : s.isOtn p = true) :
    let x := s.otuAlign p f false
    let a := (s.otn p).align.frame 5 (f3Of (s.rate p)) f.fasOk
    FrameStep s x p [OTN_STATUS.key p] [dOTU_OOF, dOTU_LOF] (fun y => { y with otn := { y.otn with align := a } }) ∧
    x.decided (condPort p dOTU_OOF) = (if (s.otn p).align.inFrame || a.inFrame then !a.inFrame
      else s.decided (condPort p dOTU_OOF)) ∧
    x.decided (condPort p dOTU_LOF) = (if !a.inFrame && decide (f3Of (s.rate p) ≤ a.oofRun) then true
      else if a.inFrame && decide (f3Of (s.rate p) ≤ a.inRun) then false else s.decided (condPort p dOTU_LOF)) := by
  intro x a
  have h1 : FrameStep s (s.updPort p fun y => { y with otn := { y.otn with align := a } }) p [OTN_STATUS.key p]
    [dOTU_OOF, dOTU_LOF] _ := .updPort s p _ _ _
  have hin : ((s.updPort p fun y => { y with otn := { y.otn with align := a } }).otn p).align = a :=
    congrArg (fun y : PortSt => y.otn.align) h1.2.1
  have hx : x = (s.updPort p fun y => { y with otn := { y.otn with align := a } }).lossRules p dOTU_OOF dOTU_LOF (f3Of (s.rate p))
      (s.otn p).align.inFrame a := by
    have hupd : (s.updOtn p fun x =>
        let a := x.align.frame 5 (f3Of (s.rate p)) (f.fasOk && !false)
        { x with align := if false then { a with inFrame := false, found := false, inRun := 0 } else a }) =
        s.updPort p fun y => { y with otn := { y.otn with align := a } } := by
      rw [Bool.not_false, Bool.and_true]
      rfl
    have hrow : x = (let t := s.updOtn p fun x =>
        let a := x.align.frame 5 (f3Of (s.rate p)) (f.fasOk && !false)
        { x with align := if false then { a with inFrame := false, found := false, inRun := 0 } else a }
      t.lossRules p dOTU_OOF dOTU_LOF (f3Of (s.rate p)) (s.otn p).align.inFrame (t.otn p).align) := rfl
    rw [hupd] at hrow
    dsimp only at hrow
    rw [hrow, hin]
  obtain ⟨h2, d1, d2⟩ := State.lossRules_shows (s.updPort p fun y => { y with otn := { y.otn with align := a } }) p
    (oof := dOTU_OOF) (lof := dOTU_LOF) (f3Of (s.rate p)) (s.otn p).align.inFrame a (h1.otnPort.1.trans hotn) (by decide)
  rw [← hx] at h2 d1 d2
  exact ⟨h1.trans h2, d1, d2⟩

/-- The PFN that an acquisition moves on to. -/
def movedPfn (n mfas : Nat) : Nat := (n + (mfas + 256 - n % 256) % 256) % 2 ^ 32

theorem movedPfn_mod (n : Nat) {mfas : Nat} (h : mfas < 256) : movedPfn n mfas % 256 = mfas := by
  have hmod : movedPfn n mfas % 256 = (n + (mfas + 256 - n % 256) % 256) % 256 :=
    Nat.mod_mod_of_dvd _ (by norm_num)
  rw [hmod]
  omega

/-- The acquisition moves the PFN, with its event if that is a move. -/
theorem State.otuAcquire_shows (s : State) (p : Port) (mfas : Nat) (ks codes : List Nat) (hpfn : (s.port p).pfn < 2 ^ 32) :
    let x := s.otuAcquire p mfas
    FrameStep s x p ks codes (fun y => { y with pfn := movedPfn y.pfn mfas }) ∧
    (movedPfn (s.port p).pfn mfas ≠ (s.port p).pfn → x.raised p ePFN_DISCONTINUITY true) := by
  intro x
  by_cases hd : (mfas + 256 - (s.port p).pfn % 256) % 256 = 0
  · have hx : x = s := if_pos hd
    have hmoved : movedPfn (s.port p).pfn mfas = (s.port p).pfn := by
      rw [movedPfn, hd, Nat.add_zero, Nat.mod_eq_of_lt hpfn]
    rw [hx]
    refine ⟨⟨.refl s p ks, ?_, fun _ _ => rfl⟩, fun hne => absurd hmoved hne⟩
    dsimp only
    rw [hmoved]
  · have hx : x = (s.updPort p fun y => { y with pfn := movedPfn (s.port p).pfn mfas }).event p ePFN_DISCONTINUITY true 0 := if_neg hd
    have h1 : FrameStep s (s.updPort p fun y => { y with pfn := movedPfn (s.port p).pfn mfas }) p ks codes _ := .updPort s p _ _ _
    generalize (s.updPort p fun y => { y with pfn := movedPfn (s.port p).pfn mfas }) = t at h1 hx
    have hp : p.val < 384 := by omega
    rw [hx]
    exact ⟨h1.trans (.event t p _ _ _ _ hp _ _), fun _ => t.raised_event _ _ _ _ hp⟩

/-- The multiframe of a frame in frame. -/
theorem State.otuMultiframe_shows (s : State) (p : Port) {mfas : Nat} (hmfas : mfas < 256) (hotn : s.isOtn p = true)
    (hpfn : (s.port p).pfn < 2 ^ 32) :
    let x := s.otuMultiframe p mfas
    let n := (s.port p).pfn
    let m := (s.otn p).mf.frame 5 (f3Of (s.rate p)) (decide (mfas = ((s.otn p).mfas + 1) % 256))
    let acquired := m.inFrame && !(s.otn p).mf.inFrame
    FrameStep s x p [OTN_STATUS.key p] [dOOM, dLOM] (fun y => { y with
      pfn := if acquired then movedPfn n mfas else n, otn := { y.otn with mf := m, mfas := mfas } }) ∧
    (acquired = true → movedPfn n mfas % 256 = mfas ∧ (movedPfn n mfas ≠ n → x.raised p ePFN_DISCONTINUITY true)) ∧
    x.decided (condPort p dOOM) = (if (s.otn p).mf.inFrame || m.inFrame then !m.inFrame else s.decided (condPort p dOOM)) ∧
    x.decided (condPort p dLOM) = (if !m.inFrame && decide (f3Of (s.rate p) ≤ m.oofRun) then true
      else if m.inFrame && decide (f3Of (s.rate p) ≤ m.inRun) then false else s.decided (condPort p dLOM)) := by
  intro x n m acquired
  have h1 : FrameStep s (s.updPort p fun y => { y with otn := { y.otn with mf := m, mfas := mfas } }) p [OTN_STATUS.key p]
    [dOOM, dLOM] _ := .updPort s p _ _ _
  have hx : x = (
    let t := (s.updPort p fun y => { y with otn := { y.otn with mf := m, mfas := mfas } }).lossRules p dOOM dLOM
      (f3Of (s.rate p)) (s.otn p).mf.inFrame m
    if acquired then t.otuAcquire p mfas else t) := rfl
  obtain ⟨h2, d1, d2⟩ := State.lossRules_shows (s.updPort p fun y => { y with otn := { y.otn with mf := m, mfas := mfas } }) p
    (oof := dOOM) (lof := dLOM) (f3Of (s.rate p)) (s.otn p).mf.inFrame m (h1.otnPort.1.trans hotn) (by decide)
  have hdec : ∀ c, (s.updPort p fun y => { y with otn := { y.otn with mf := m, mfas := mfas } }).decided c = s.decided c := fun _ => rfl
  rw [hdec] at d1 d2
  have h12 := h1.trans h2
  dsimp only at hx
  generalize State.lossRules _ p dOOM dLOM (f3Of (s.rate p)) (s.otn p).mf.inFrame m = t at h12 d1 d2 hx
  have hport : t.port p = { s.port p with otn := { (s.port p).otn with mf := m, mfas := mfas } } := h12.2.1
  cases hacq : acquired with
  | false =>
    rw [hacq] at hx
    replace hx : x = t := hx
    rw [hx]
    exact ⟨⟨h12.1, hport, h12.2.2⟩, fun h => absurd h Bool.false_ne_true, d1, d2⟩
  | true =>
    rw [hacq] at hx
    replace hx : x = t.otuAcquire p mfas := hx
    have hpfnt : (t.port p).pfn = n := by rw [hport]
    obtain ⟨h3, hraised⟩ := t.otuAcquire_shows p mfas [OTN_STATUS.key p] [] (by rw [hpfnt]; exact hpfn)
    rw [hpfnt] at hraised
    rw [hx]
    refine ⟨⟨h12.1.trans h3.1, ?_, fun c hc => (h3.2.2 c (by simp)).trans (h12.2.2 c hc)⟩, fun _ => ⟨movedPfn_mod n hmfas, hraised⟩,
      (h3.2.2 dOOM (by simp)).trans d1, (h3.2.2 dLOM (by simp)).trans d2⟩
    rw [h3.2.1, hport]
    rfl

/-! ### The frame -/

/-- The counts of the FEC decoder. -/
theorem State.fecCounts_shows (s : State) (p : Port) (f : OtuRx) (codes : List Nat) :
    let x := s.fecCounts p f
    FrameStep s x p [OTN_STATUS.key p] codes (fun y => { y with cnts := (x.port p).cnts }) ∧
    (s.on (OTN_CFG.key p) OTN_CFG.FEC_DEC_DIS = false → CountsUp s x p 2 f.corrBits ∧ CountsUp s x p 3 f.uncorr) := by
  intro x
  by_cases hoff : s.on (OTN_CFG.key p) OTN_CFG.FEC_DEC_DIS = true ∧ s.rate p ≠ 3
  · have hx : x = s := if_pos hoff
    rw [hx]
    exact ⟨⟨.refl s p _, rfl, fun _ _ => rfl⟩, fun h => absurd (h.symm.trans hoff.1) Bool.false_ne_true⟩
  · have hx : x = (((s.countPort p 2 f.corrBits).countPort p 3 f.uncorr).countPort p 4 f.corrZeros).countPort p 5 f.corrOnes :=
      if_neg hoff
    have h2 := s.countPort_step p f.corrBits (k := 2) (by decide) [OTN_STATUS.key p] codes
    have h3 := (s.countPort p 2 f.corrBits).countPort_step p f.uncorr (k := 3) (by decide) [OTN_STATUS.key p] codes
    obtain ⟨c2, c3, _⟩ := s.countTwo p f.corrBits f.uncorr (i := 2) (j := 3) (by decide) (by decide) (by decide)
    have h23 := h2.trans h3
    have hpm : ∀ (z : State) k n, 4 ≤ k → OnlyPm z (z.countPort p k n) := fun z k n hk => by
      unfold State.countPort
      split
      · exact .refl z
      · rw [if_neg (Nat.not_lt.mpr hk)]
        exact z.countCtx_onlyPm _ _ _
    generalize (s.countPort p 2 f.corrBits).countPort p 3 f.uncorr = t at h23 c2 c3 hx
    have h45 : FrameStep t x p [OTN_STATUS.key p] codes id := by
      rw [hx]
      exact .ofPm ((hpm t 4 _ (by decide)).trans (hpm _ 5 _ (by decide))) p _ _
    have hall := h23.trans h45
    have hcnts : (x.port p).cnts = (t.port p).cnts := by rw [h45.2.1]; rfl
    refine ⟨⟨hall.1, ?_, hall.2.2⟩, fun _ => ⟨c2.kept (by rw [hcnts]), c3.kept (by rw [hcnts])⟩⟩
    rw [hcnts]
    exact hall.2.1

/-- An unevaluated frame of a port without ODUs. -/
theorem State.otuOofFrame_shows (s : State) (p : Port) (hodus : s.oduList p = []) (ks codes : List Nat) :
    FrameStep s (s.otuOofFrame p) p ks codes fun y => { y with otn := { y.otn with sm := { y.otn.sm with bei := 0 } } } := by
  have hpm : OnlyPm s (s.errBlocks (otnLay p 0 smLayer) false 1) := s.errBlocks_onlyPm _ _ _
  have hx : s.otuOofFrame p = (s.errBlocks (otnLay p 0 smLayer) false 1).updPort p fun y =>
      { y with otn := { y.otn with sm := { y.otn.sm with bei := 0 } } } := by
    unfold State.otuOofFrame
    rw [hodus]
    rfl
  rw [hx]
  exact (FrameStep.ofPm hpm p ks codes).trans (.updPort _ p _ _ _)

/-- What follows the counts of a frame without layers on a port without ODUs: the PSI byte is kept. -/
theorem State.otuPayload_plain (s : State) (p : Port) (f : OtuRx) (inFrame : Bool) (hodus : s.oduList p = []) (ks codes : List Nat) :
    let m := if inFrame then some f.mfas.toNat else none
    let s5 := match m with | some v => s.psiFrame p v f.psi.toNat | none => s
    FrameStep s ((s5.omfiFrame p f.omfi).each (s5.oduList p) fun s i => s.justFrame p i) p ks codes
      fun y => { y with otn := { y.otn with psi := if inFrame then y.otn.psi.store f.mfas.toNat f.psi.toNat 0 else y.otn.psi } } := by
  intro m s5
  have homfi : ∀ z : State, z.odus = s.odus → ((z.omfiFrame p f.omfi).each (z.oduList p) fun s i => s.justFrame p i) = z := fun z hz => by
    have hlist : z.oduList p = [] := by
      rw [State.oduList, hz]
      exact hodus
    have : z.omfiFrame p f.omfi = z := if_pos (.inl (by rw [State.otype_of_oduList hlist]; decide))
    rw [this, hlist]
    rfl
  cases inFrame with
  | false =>
    rw [homfi s5 rfl]
    exact .refl s p ks codes
  | true =>
    have hs5 : s5 = s.updOtn p fun x => { x with psi := x.psi.store f.mfas.toNat f.psi.toNat 0 } :=
      if_pos (.inl (State.otype_of_oduList hodus))
    rw [homfi s5 (by rw [hs5]; rfl), hs5]
    exact .updPort s p _ _ _

/-- A frame of an OTU port of another rate than OTU4, after its boundary. -/
theorem State.otuReceive_row (s : State) (p : Port) (f : OtuRx) (hotn : s.isOtn p = true) (hrate : s.rate p ≠ 3)
    (hlol : s.decided (condPort p dLOL) = false) : s.otuReceive p f =
      (if (s.otn p).align.inFrame then
        let s3 := (s.otuAlign p f false).otuMultiframe p f.mfas.toNat
        let m := if (s3.otn p).mf.inFrame then some f.mfas.toNat else none
        let s4 := (s3.fecCounts p f).each f.layers fun s x => s.otuLayer p m x
        let s5 := match m with | some v => s4.psiFrame p v f.psi.toNat | none => s4
        (s5.omfiFrame p f.omfi).each (s5.oduList p) fun s i => s.justFrame p i
      else (s.otuAlign p f false).otuOofFrame p) := by
  have hno : s.otuLol p f = s := if_pos hrate
  refine (if_neg (by simp [hotn])).trans ?_
  dsimp only
  rw [hno, hlol]
  cases (s.otn p).align.inFrame with
  | false => rfl
  | true => rfl

/-- A frame that began out of frame. -/
theorem State.otuReceive_out (s : State) (p : Port) (f : OtuRx) (hotn : s.isOtn p = true) (hrate : s.rate p ≠ 3)
    (hlol : s.decided (condPort p dLOL) = false) (hodus : s.oduList p = []) (hout : (s.otn p).align.inFrame = false) :
    let x := s.otuReceive p f
    let a := (s.otn p).align.frame 5 (f3Of (s.rate p)) f.fasOk
    FrameStep s x p [OTN_STATUS.key p] [dOTU_OOF, dOTU_LOF] (fun y => { y with otn := { y.otn with
      align := a, sm := { y.otn.sm with bei := 0 } } }) ∧
    x.decided (condPort p dOTU_OOF) = (if (s.otn p).align.inFrame || a.inFrame then !a.inFrame
      else s.decided (condPort p dOTU_OOF)) ∧
    x.decided (condPort p dOTU_LOF) = (if !a.inFrame && decide (f3Of (s.rate p) ≤ a.oofRun) then true
      else if a.inFrame && decide (f3Of (s.rate p) ≤ a.inRun) then false else s.decided (condPort p dOTU_LOF)) := by
  intro x a
  have hx : x = (s.otuAlign p f false).otuOofFrame p :=
    (s.otuReceive_row p f hotn hrate hlol).trans (if_neg (by rw [hout]; exact Bool.false_ne_true))
  obtain ⟨h1, d1, d2⟩ := s.otuAlign_shows p f hotn
  generalize s.otuAlign p f false = t at h1 d1 d2 hx
  have h2 := t.otuOofFrame_shows p (h1.otnPort.2.2.trans hodus) [OTN_STATUS.key p] []
  rw [← hx] at h2
  exact ⟨h1.trans (h2.mono (List.Subset.refl _) (List.nil_subset _)), (h2.2.2 _ (by simp)).trans d1, (h2.2.2 _ (by simp)).trans d2⟩

/-- A frame that began in frame, without monitored layers. -/
theorem State.otuReceive_in (s : State) (p : Port) (f : OtuRx) (hotn : s.isOtn p = true) (hrate : s.rate p ≠ 3)
    (hlol : s.decided (condPort p dLOL) = false) (hodus : s.oduList p = []) (hin : (s.otn p).align.inFrame = true)
    (hlayers : f.layers = []) (hpfn : (s.port p).pfn < 2 ^ 32) :
    let x := s.otuReceive p f
    let f3 := f3Of (s.rate p)
    let n := (s.port p).pfn
    let a := (s.otn p).align.frame 5 f3 f.fasOk
    let m := (s.otn p).mf.frame 5 f3 (decide (f.mfas.toNat = ((s.otn p).mfas + 1) % 256))
    let acquired := m.inFrame && !(s.otn p).mf.inFrame
    FrameStep s x p [OTN_STATUS.key p] [dOTU_OOF, dOTU_LOF, dOOM, dLOM] (fun y => { y with
      pfn := if acquired then movedPfn n f.mfas.toNat else n, cnts := (x.port p).cnts
      otn := { y.otn with align := a, mf := m, mfas := f.mfas.toNat
                          psi := if m.inFrame then y.otn.psi.store f.mfas.toNat f.psi.toNat 0 else y.otn.psi } }) ∧
    (x.decided (condPort p dOTU_OOF) = (if (s.otn p).align.inFrame || a.inFrame then !a.inFrame
      else s.decided (condPort p dOTU_OOF)) ∧
    x.decided (condPort p dOTU_LOF) = (if !a.inFrame && decide (f3 ≤ a.oofRun) then true
      else if a.inFrame && decide (f3 ≤ a.inRun) then false else s.decided (condPort p dOTU_LOF))) ∧
    (acquired = true → movedPfn n f.mfas.toNat % 256 = f.mfas.toNat ∧
      (movedPfn n f.mfas.toNat ≠ n → x.raised p ePFN_DISCONTINUITY true)) ∧
    x.decided (condPort p dOOM) = (if (s.otn p).mf.inFrame || m.inFrame then !m.inFrame else s.decided (condPort p dOOM)) ∧
    x.decided (condPort p dLOM) = (if !m.inFrame && decide (f3 ≤ m.oofRun) then true
      else if m.inFrame && decide (f3 ≤ m.inRun) then false else s.decided (condPort p dLOM)) ∧
    (s.on (OTN_CFG.key p) OTN_CFG.FEC_DEC_DIS = false → CountsUp s x p 2 f.corrBits ∧ CountsUp s x p 3 f.uncorr) := by
  intro x f3 n a m acquired
  obtain ⟨_, kcnt, kotn, _, ncnt, notn⟩ := otnStatus_apart p
  have hrow := (s.otuReceive_row p f hotn hrate hlol).trans (if_pos hin)
  change x = _ at hrow
  rw [hlayers] at hrow
  obtain ⟨h1, d1, d2⟩ := s.otuAlign_shows p f hotn
  dsimp only at hrow
  generalize s.otuAlign p f false = t1 at h1 d1 d2 hrow
  have hport1 : t1.port p = { s.port p with otn := { s.otn p with align := a } } := h1.2.1
  obtain ⟨hotn1, hrate1, hodus1⟩ := h1.otnPort
  have h2 := t1.otuMultiframe_shows p f.mfas.isLt (hotn1.trans hotn) (by rw [hport1]; exact hpfn)
  rw [hrate1, State.otn, hport1] at h2
  obtain ⟨h2, hacq, d3, d4⟩ := h2
  change FrameStep t1 _ p _ _ _ at h2
  generalize t1.otuMultiframe p f.mfas.toNat = t2 at h2 hacq d3 d4 hrow
  have hport2 : t2.port p = { s.port p with
      pfn := if acquired then movedPfn n f.mfas.toNat else n
      otn := { s.otn p with align := a, mf := m, mfas := f.mfas.toNat } } := by
    rw [h2.2.1, hport1]
  have hmf : (t2.otn p).mf.inFrame = m.inFrame := by rw [State.otn, hport2]
  rw [hmf] at hrow
  obtain ⟨h3, hcounts⟩ := t2.fecCounts_shows p f []
  have hodus2 := (h2.otnPort.2.2.trans hodus1).trans hodus
  generalize t2.fecCounts p f = t3 at h3 hcounts hrow
  have h4 := t3.otuPayload_plain p f m.inFrame (h3.otnPort.2.2.trans hodus2) [OTN_STATUS.key p] []
  change FrameStep t3 _ p _ _ _ at h4
  replace h4 : FrameStep t3 x p [OTN_STATUS.key p] [] fun y => { y with otn := { y.otn with
      psi := if m.inFrame then y.otn.psi.store f.mfas.toNat f.psi.toNat 0 else y.otn.psi } } := by
    rw [hrow]
    exact h4
  have hcnts : (x.port p).cnts = (t3.port p).cnts := by rw [h4.2.1]
  have h34 := h3.trans h4
  have hwork : PortWork s x p [OTN_STATUS.key p] := (h1.1.trans h2.1).trans h34.1
  have hdec : ∀ code, x.decided (condPort p code) = t2.decided (condPort p code) := fun code => h34.2.2 code (by simp)
  have hdec2 : ∀ code, code ∉ [dOOM, dLOM] → x.decided (condPort p code) = t1.decided (condPort p code) := fun code hc =>
    (hdec code).trans (h2.2.2 code hc)
  have hdec1 : ∀ code, code ∉ [dOTU_OOF, dOTU_LOF] → t1.decided (condPort p code) = s.decided (condPort p code) := h1.2.2
  refine ⟨⟨hwork, ?_, fun code hc => ?_⟩, ⟨(hdec2 _ (by decide)).trans d1, (hdec2 _ (by decide)).trans d2⟩, fun h => ⟨(hacq h).1, fun hne => ?_⟩,
    (hdec _).trans (d3.trans ?_), (hdec _).trans (d4.trans ?_), fun hfec => ?_⟩
  · rw [hcnts]
    rw [h34.2.1, hport2]
    rfl
  · simp only [List.mem_cons, List.not_mem_nil, or_false, not_or] at hc
    obtain ⟨c1, c2, c3, c4⟩ := hc
    exact (hdec2 code (by simp [c3, c4])).trans (hdec1 code (by simp [c1, c2]))
  · obtain ⟨e, he, hshows⟩ := (hacq h).2 hne
    exact ⟨e, h34.1.tick_mem he, hshows⟩
  · rw [hdec1 _ (by decide)]
  · rw [hdec1 _ (by decide)]
  · obtain ⟨c2, c3⟩ := hcounts ((h2.on kotn notn _).trans ((h1.on kotn notn _).trans hfec))
    have hwrap : t2.get (PRT_CNT_CFG.key p) PRT_CNT_CFG.WRAP_MODE = s.get (PRT_CNT_CFG.key p) PRT_CNT_CFG.WRAP_MODE :=
      (h2.get kcnt ncnt _).trans (h1.get kcnt ncnt _)
    have hold : ∀ k, (t2.port p).cnts.getD k {} = (s.port p).cnts.getD k {} := fun k => by rw [hport2]
    exact ⟨(c2.since (hold 2) hwrap).kept (by rw [hcnts]), (c3.since (hold 3) hwrap).kept (by rw [hcnts])⟩

/-! ### Delay measurement -/

/-- A measurement without a return in time ends. -/
theorem State.dmTimeout_shows (s : State) (p : Port) (i : Nat) (l : Fin 7) (hrun : (s.dm p i l).running = true)
    (hlim : 65535 ≤ (s.dm p i l).frames) :
    let x := s.dmTimeout p i l
    (∃ y, Noted s y [] ∧ Reported ({ y with odus := x.odus }.endLong (dmRes p i l)) x) ∧
    x.dm p i l = { s.dm p i l with running := false, timedOut := true } ∧ x.raised p eDM_TIMEOUT true ∧
    (∀ k, k ≠ oduKey p i → x.odu k = s.odu k) := by
  intro x
  have hp : p.val < 384 := by omega
  let t := s.updDm p i l fun d => { d with running := false, timedOut := true }
  have hx : x = (t.event p eDM_TIMEOUT true (entOdu i l)).finishLong (dmRes p i l) stOK 0 [] := if_pos ⟨hrun, hlim⟩
  have ht : t = { s with odus := t.odus } := rfl
  have hodu : ∀ k, t.odu k = if k = oduKey p i then { s.odu (oduKey p i) with
      dm := (s.odu (oduKey p i)).dm.store l { s.dm p i l with running := false, timedOut := true } {} } else s.odu k := fun k =>
    Tbl.getD_store ..
  clear_value t
  have h1 : Noted t (t.event p eDM_TIMEOUT true (entOdu i l)) [] := .event t _ _ _ _ hp _
  have r1 := t.raised_event p eDM_TIMEOUT true (entOdu i l) hp
  generalize t.event p eDM_TIMEOUT true (entOdu i l) = u at h1 r1 hx
  have hrep := u.finishLong_reported (dmRes p i l) stOK 0 []
  rw [← hx] at hrep
  have hxo : x.odus = u.odus := by rw [hrep.1]; rfl
  have huo : u.odus = t.odus := by rw [h1.1]
  have hxodu : ∀ k, x.odu k = t.odu k := fun k => by rw [State.odu, State.odu, hxo, huo]
  clear_value x
  refine ⟨⟨{ u with odus := s.odus }, ⟨?_, fun k hk hn => (h1.2.1 k hk hn).trans (by rw [ht]; rfl), ?_⟩, ?_⟩, ?_, ?_, fun k hk => ?_⟩
  · have := congrArg (fun w : State => { w with odus := s.odus }) h1.1
    rw [ht] at this
    exact this
  · have htick := h1.2.2
    rw [ht] at htick
    exact htick
  · rw [hxo]
    exact hrep
  · rw [State.dm, hxodu, hodu, if_pos rfl]
    exact (Tbl.getD_store ..).trans (if_pos rfl)
  · obtain ⟨e, he, hshows⟩ := r1
    exact ⟨e, hrep.tick_mem he, hshows⟩
  · rw [hxodu, hodu, if_neg hk]

end Sys2Proof.Machine

open Sys2Proof Sys2Proof.Machine

/-- Settles O48: the boundary, the alignment, and, within an aligned frame, the multiframe, the FEC counts and the PSI byte. -/
theorem otnFrames : Obligations.OtnFrames := by
  unfold Obligations.OtnFrames
  intro s p hcarry
  refine ⟨?_, fun i l h => ?_, fun i l hrun hlim => ?_⟩
  · intro f hplain hotn hrate hlol hodus o f3 a n aligned
    have hexec : exec (.otuFrameReceive p f) s = .next ((s.updPort p countedFrame).otuReceive p f).settle := by
      have hrow : s.otuArrives p f = (s.updPort p countedFrame).otuReceive p f :=
        (if_pos hotn).trans (congrArg (fun z : State => z.otuReceive p f) (s.frameStart_plain hplain (State.not_others_of_isOtn hotn).2))
      rw [← hrow, ← State.datapath_carrying hcarry fun s => s.otuArrives p f]
      rfl
    have h0 : FrameStep s (s.updPort p countedFrame) p [OTN_STATUS.key p] [] countedFrame := .updPort s p _ _ _
    have hdec : ∀ c, (s.updPort p countedFrame).decided c = s.decided c := fun _ => rfl
    have hsame : (s.updPort p countedFrame).otn p = o := by rw [State.otn, h0.2.1]; rfl
    obtain ⟨hotn0, hrate0, hodus0⟩ := h0.otnPort
    have hcount : ∀ {k m u}, CountsUp (s.updPort p countedFrame) u p k m → CountsUp s u p k m := fun h =>
      h.since (by rw [h0.2.1]; rfl) rfl
    have hfec0 : (s.updPort p countedFrame).on (OTN_CFG.key p) OTN_CFG.FEC_DEC_DIS = s.on (OTN_CFG.key p) OTN_CFG.FEC_DEC_DIS := rfl
    have hpfn : ((s.updPort p countedFrame).port p).pfn = n := by rw [h0.2.1]; rfl
    generalize s.updPort p countedFrame = s0 at hexec h0 hdec hsame hotn0 hrate0 hodus0 hcount hfec0 hpfn
    refine ⟨fun hout => answers_of hexec ?_, fun hin hlayers => ?_⟩
    · have h1 := s0.otuReceive_out p f (hotn0.trans hotn) (hrate0 ▸ hrate) ((hdec _).trans hlol) (hodus0.trans hodus) (by rw [hsame]; exact hout)
      rw [hsame, hrate0, hdec, hdec] at h1
      obtain ⟨h1, d1, d2⟩ := h1
      refine ⟨h0.1.trans h1.1, ⟨d1, d2⟩, ?_⟩
      rw [h1.2.1, h0.2.1]
      rfl
    · intro m acquired moved
      refine answers_of hexec ?_
      have h1 := s0.otuReceive_in p f (hotn0.trans hotn) (hrate0 ▸ hrate) ((hdec _).trans hlol) (hodus0.trans hodus) (by rw [hsame]; exact hin)
        hlayers (by rw [hpfn]; exact Nat.mod_lt _ (by norm_num))
      rw [hsame, hrate0, hpfn, hdec, hdec, hdec, hdec, hfec0] at h1
      obtain ⟨h1, haligned, hacq, d3, d4, hfec⟩ := h1
      refine ⟨h0.1.trans h1.1, haligned, ?_, hacq, d3, d4, fun h => ⟨hcount (hfec h).1, hcount (hfec h).2⟩⟩
      generalize s0.otuReceive p f = x at h1
      rw [h1.2.1, h0.2.1]
      rfl
  · have hrow : s.dmTimeout p i l = s := if_neg fun hd => by
      rcases h with h | h
      · exact Bool.false_ne_true (h.symm.trans hd.1)
      · exact absurd hd.2 (Nat.not_le.mpr h)
    refine answers_of (x := s) ?_ rfl
    refine Eq.trans ?_ (congrArg (fun z : State => Host.Outcome.next z.settle) hrow)
    rw [← State.datapath_carrying hcarry fun s => s.dmTimeout p i l]
    rfl
  · refine answers_of (x := s.dmTimeout p i l) ?_ (s.dmTimeout_shows p i l hrun hlim)
    rw [← State.datapath_carrying hcarry fun s => s.dmTimeout p i l]
    rfl
end

section
/-! PROOF. The close of a second, and a snapshot that is due (R280 to R284). -/

namespace Sys2Proof.Machine

/-! ### The close of a second -/

/-- What the close of a second may do to the state besides its own records: registers, events and arrivals. -/
def CloseWork (ks : List Nat) (s x : State) : Prop :=
  (∃ y, Noted s y ks ∧ x = { y with arrivals := x.arrivals }) ∧ s.arrivals <+: x.arrivals

theorem CloseWork.refl (ks : List Nat) (s : State) : CloseWork ks s s := ⟨⟨s, .refl s ks, rfl⟩, List.prefix_rfl⟩

theorem CloseWork.trans {ks : List Nat} {s t u : State} (h1 : CloseWork ks s t) (h2 : CloseWork ks t u) : CloseWork ks s u := by
  obtain ⟨⟨y, hy, ht⟩, a1⟩ := h1
  obtain ⟨⟨z, hz, hu⟩, a2⟩ := h2
  refine ⟨⟨{ z with arrivals := y.arrivals }, hy.trans ⟨?_, fun k hk hn => (hz.2.1 k hk hn).trans (by rw [ht]; rfl), ?_⟩, hu⟩, a1.trans a2⟩
  · have := congrArg (fun w : State => { w with arrivals := y.arrivals }) hz.1
    rw [ht] at this
    exact this
  · have htick := hz.2.2
    rw [ht] at htick
    exact htick

theorem Noted.closeWork {ks : List Nat} {s x : State} (h : Noted s x ks) : CloseWork ks s x :=
  ⟨⟨x, h, rfl⟩, by rw [h.arrivals]⟩

theorem CloseWork.arrive (ks : List Nat) (s : State) (a : Arrival) : CloseWork ks s (s.arrive a) :=
  ⟨⟨s, .refl s ks, rfl⟩, List.prefix_append _ _⟩

/-- A fold of steps over a list keeps what each step on an element of it keeps. -/
theorem State.each_rel_of_mem {α : Type} {R : State → State → Prop} (refl : ∀ s, R s s)
    (trans : ∀ {s t u}, R s t → R t u → R s u) {f : State → α → State} {xs : List α} (step : ∀ s, ∀ a ∈ xs, R s (f s a)) (s : State) :
    R s (s.each xs f) := by
  induction xs generalizing s with
  | nil => exact refl s
  | cons a xs ih =>
    exact trans (step s a (List.mem_cons_self ..)) (ih (fun s b hb => step s b (List.mem_cons_of_mem _ hb)) (f s a))

theorem stkBank_mem {b : Nat} (h : b < 400) : STK_BANK.key b ∈ SYS_PM_STATUS.key :: (List.range 400).map STK_BANK.key :=
  List.mem_cons_of_mem _ (List.mem_map_of_mem (List.mem_range.mpr h))

theorem State.closeBank_work (s : State) (v : Nat) {b : Nat} (h : b < 400) :
    CloseWork ((List.range 400).map STK_BANK.key) s (s.closeBank v b) := by
  have hmem : STK_BANK.key b ∈ (List.range 400).map STK_BANK.key := List.mem_map_of_mem (List.mem_range.mpr h)
  have h1 : Noted s (s.put (STK_BANK.key b) STK_BANK.CE_LAST (v / 256 ^ b % 256)) ((List.range 400).map STK_BANK.key) :=
    .put s _ _ _ hmem
  unfold State.closeBank
  dsimp only
  generalize s.put (STK_BANK.key b) STK_BANK.CE_LAST (v / 256 ^ b % 256) = t at h1
  split
  · have h2 : Noted t (t.event (srcBank b) 0x80 true b) ((List.range 400).map STK_BANK.key) :=
      .event t _ _ _ _ (by unfold srcBank; omega) _
    exact (h1.trans h2).closeWork.trans (.arrive _ _ _)
  · exact h1.closeWork

theorem Tbl.find_map {α β : Type} (t : Tbl α) (g : α → β) (k : Nat) :
    Tbl.find (t.map fun e => (e.1, g e.2)) k = (t.find k).map g := by
  induction t with
  | nil => rfl
  | cons e t ih =>
    by_cases h : e.1 = k
    · simp [Tbl.find, h]
    · simpa [Tbl.find, h] using ih

theorem Tbl.getD_map {α β : Type} (t : Tbl α) (g : α → β) (k : Nat) (d : α) :
    Tbl.getD (t.map fun e => (e.1, g e.2)) k (g d) = g (t.getD k d) := by
  rw [Tbl.getD, Tbl.getD, Tbl.find_map]
  cases t.find k <;> rfl

theorem State.closeBanks_work (s : State) (v : Nat) :
    CloseWork ((List.range 400).map STK_BANK.key) s (s.each (List.range 400) fun s b => s.closeBank v b) :=
  State.each_rel_of_mem (.refl _) .trans (fun z _ hb => z.closeBank_work v (List.mem_range.mp hb)) s

/-- What a close of the health part does once its banks are closed. -/
def State.endSubstituted (s : State) : State :=
  { s with health := { s.health with mapperSubst := [] }, ports := s.ports.map fun e => (e.1, { e.2 with substituted := false }) }

theorem State.endSubstituted_eq (t : State) :
    (let s2 := t.updHealth fun h => { h with mapperSubst := [] }
     { s2 with ports := s2.ports.map fun e => (e.1, { e.2 with substituted := false }) }) = t.endSubstituted := rfl

theorem State.closeHealth_eq (s : State) :
    s.closeHealth = (s.fresh.2.each (List.range 400) fun z b => z.closeBank s.fresh.1 b).endSubstituted :=
  Eq.trans (by delta State.closeHealth; exact rfl)
    (s.fresh.2.each (List.range 400) fun z b => z.closeBank s.fresh.1 b).endSubstituted_eq

/-- The end of SUBSTITUTED after the work of a close. -/
theorem CloseWork.endSubstituted {ks : List Nat} {s t : State} (h : CloseWork ks s t) :
    let x := t.endSubstituted
    (∃ y, Noted s y ks ∧
      x = { y with health := { s.health with mapperSubst := [] }, ports := x.ports, arrivals := x.arrivals }) ∧
    s.arrivals <+: x.arrivals ∧ ∀ p, x.port p = { s.port p with substituted := false } := by
  intro x
  obtain ⟨⟨y, hy, ht⟩, harr⟩ := h
  have hh : t.health = s.health := by rw [ht, hy.1]
  have hp : t.ports = s.ports := by rw [ht, hy.1]
  have hx : x = { t with health := { t.health with mapperSubst := [] }, ports := x.ports } := rfl
  have hxa : x.arrivals = t.arrivals := rfl
  have hports : x.ports = s.ports.map fun e => (e.1, { e.2 with substituted := false }) := by rw [← hp]; rfl
  clear_value x
  refine ⟨⟨y, hy, ?_⟩, by rw [hxa]; exact harr, fun p => ?_⟩
  · rw [hxa]
    rw [hh] at hx
    refine hx.trans ?_
    generalize x.ports = ps
    rw [ht]
  · unfold State.port
    rw [hports]
    exact Tbl.getD_map s.ports (fun y : PortSt => { y with substituted := false }) p {}

/-- The health part of a close. -/
theorem State.closeHealth_shows (s : State) :
    let x := s.closeHealth
    (∃ y, Noted s y ((List.range 400).map STK_BANK.key) ∧
      x = { y with health := { s.health with mapperSubst := [] }, ports := x.ports, arrivals := x.arrivals }) ∧
    s.arrivals <+: x.arrivals ∧ ∀ p, x.port p = { s.port p with substituted := false } := by
  have hf : Noted s s.fresh.2 ((List.range 400).map STK_BANK.key) := ⟨rfl, fun _ _ _ => rfl, List.prefix_rfl⟩
  have hall := (hf.closeWork.trans (s.fresh.2.closeBanks_work s.fresh.1)).endSubstituted
  rw [← s.closeHealth_eq] at hall
  exact hall

/-- The records of a second that closes. -/
def State.closeRecs (s : State) (odd last next : Nat) (jump : Bool) : State :=
  let new15 := decide (last / 900 ≠ next / 8000 / 900)
  let new24 := decide (last / 86400 ≠ next / 8000 / 86400)
  let mark := jump && decide (next / 8000 ≠ last + 1)
  let s2 := s.mapRecs fun k r => (r.close k (s.sesThreshold k (odd % 2 = 1))).roll new15 new24 mark
  if mark then s2.mapRecs fun _ r => { r with near := { r.near with last := [] }, far := { r.far with last := [] } } else s2

/-- What a close does from the state in which it has begun. -/
def State.closeBins (s : State) (odd last next : Nat) (jump : Bool) : State :=
  let s3 := s.closeRecs odd last next jump
  (s3.showSecond next).each (List.range s3.portCount) fun s p => if s.isOtn p then s.degClosePort p else s

theorem State.closeSeconds_eq (s : State) (last next : Nat) (jump : Bool) :
    s.closeSeconds last next jump =
      State.closeBins { s.fresh.2 with pm := { s.fresh.2.pm with closing := false } } s.fresh.1 last next jump := rfl

/-- The position of the closed second is shown. -/
theorem State.showSecond_shows (s : State) (next : Nat) :
    OnlyRegs s (s.showSecond next) [SYS_PM_STATUS.key] ∧
    (s.showSecond next).get SYS_PM_STATUS.key SYS_PM_STATUS.SECOND = next / 8000 % 900 ∧
    (s.showSecond next).get SYS_PM_STATUS.key SYS_PM_STATUS.QUARTER = next / 8000 / 900 % 96 := by
  have h1 : OnlyRegs s (s.put SYS_PM_STATUS.key SYS_PM_STATUS.SECOND (next / 8000 % 900)) [SYS_PM_STATUS.key] := .put s _ _ _ (by simp)
  have g1 : (s.put SYS_PM_STATUS.key SYS_PM_STATUS.SECOND (next / 8000 % 900)).get SYS_PM_STATUS.key SYS_PM_STATUS.SECOND =
      next / 8000 % 900 := (State.get_put_same s _ _ _ (by decide)).trans
        (Nat.mod_eq_of_lt (lt_of_lt_of_le (Nat.mod_lt _ (by decide)) (by decide)))
  unfold State.showSecond
  generalize s.put SYS_PM_STATUS.key SYS_PM_STATUS.SECOND (next / 8000 % 900) = t at h1 g1
  exact ⟨h1.trans (.put t _ _ _ (by simp)), (State.get_put_field t _ _ _ _ (by decide) (by decide)).trans g1,
    (State.get_put_same t _ _ _ (by decide)).trans (Nat.mod_eq_of_lt (lt_of_lt_of_le (Nat.mod_lt _ (by decide)) (by decide)))⟩

theorem prtCfg_not_pmStatus : ∀ p, p < 96 → PRT_CFG.key p ∉ [SYS_PM_STATUS.key] := by decide +kernel

theorem State.portCount_le (s : State) : s.portCount ≤ 96 := by
  unfold State.portCount
  split <;> decide

/-- The records change nothing but themselves. -/
theorem State.closeRecs_only (s : State) (odd last next : Nat) (jump : Bool) :
    s.closeRecs odd last next jump = { s with pm := (s.closeRecs odd last next jump).pm } ∧
    (s.closeRecs odd last next jump).pm.closing = s.pm.closing := by
  unfold State.closeRecs
  dsimp only
  split <;> exact ⟨rfl, rfl⟩

/-- Without OTN ports, the close changes the records and shows its second. -/
theorem State.closeBins_noOtn (s : State) (odd last next : Nat) (jump : Bool) (hotn : ∀ p, p < 96 → s.isOtn p = false) :
    s.closeBins odd last next jump = (s.closeRecs odd last next jump).showSecond next := by
  have hregs : (s.closeRecs odd last next jump).regs = s.regs := by rw [(s.closeRecs_only odd last next jump).1]
  unfold State.closeBins
  dsimp only
  generalize s.closeRecs odd last next jump = t at hregs
  refine State.each_same _ fun p hp => if_neg ?_
  have hp96 : p < 96 := lt_of_lt_of_le (List.mem_range.mp hp) t.portCount_le
  rw [State.isOtn, State.family, (t.showSecond_shows next).1.get (prtCfg_not_pmStatus p hp96), State.get_congr hregs]
  exact Bool.eq_false_iff.mp (hotn p hp96)

/-- Without records and without OTN ports, the close only shows its second. -/
theorem State.closeBins_plain (s : State) (odd last next : Nat) (hrecs : s.pm.recs = []) (hotn : ∀ p, p < 96 → s.isOtn p = false) :
    s.closeBins odd last next false = s.showSecond next := by
  have hsame : s.closeRecs odd last next false = s := by
    unfold State.closeRecs
    dsimp only
    rw [Bool.false_and, s.mapRecs_none _ hrecs]
    rfl
  rw [s.closeBins_noOtn odd last next false hotn, hsame]

/-- The end of a close, once the records are `g`. -/
theorem State.endClose_shows (s : State) {t : State} {g : PmSt} (ht : t = { s.fresh.2 with pm := g }) {next : Nat} {x : State}
    (hx : x = (t.showSecond next).closeHealth) :
    (∃ y, Noted s y (SYS_PM_STATUS.key :: (List.range 400).map STK_BANK.key) ∧ x = { y with
      pm := g, health := { s.health with mapperSubst := [] }, ports := x.ports, arrivals := x.arrivals }) ∧
    s.arrivals <+: x.arrivals ∧ (∀ p, x.port p = { s.port p with substituted := false }) ∧
    x.get SYS_PM_STATUS.key SYS_PM_STATUS.SECOND = next / 8000 % 900 ∧
    x.get SYS_PM_STATUS.key SYS_PM_STATUS.QUARTER = next / 8000 / 900 % 96 := by
  obtain ⟨hregs, hsec, hquart⟩ := t.showSecond_shows next
  generalize t.showSecond next = u at hregs hsec hquart hx
  obtain ⟨⟨y, hy, hxy⟩, harr, hports⟩ := u.closeHealth_shows
  rw [← hx] at hxy harr hports
  have hhealth : u.health = s.health := by rw [hregs.1, ht]; rfl
  have huarr : u.arrivals = s.arrivals := by rw [hregs.1, ht]; rfl
  have huports : u.ports = s.ports := by rw [hregs.1, ht]; rfl
  have hnot : SYS_PM_STATUS.key ∉ (List.range 400).map STK_BANK.key := by
    rw [List.mem_map]
    rintro ⟨b, hlt, hb⟩
    have := List.mem_range.mp hlt
    unfold SYS_PM_STATUS.key STK_BANK.key at hb
    omega
  have hxrd : x.rd SYS_PM_STATUS.key = u.rd SYS_PM_STATUS.key := by
    rw [hxy]
    exact hy.rd hnot (by decide)
  have hpm : y.pm = g := by rw [hy.1, hregs.1, ht]
  refine ⟨⟨{ y with pm := s.pm }, ⟨?_, fun k hk hn => ?_, ?_⟩, ?_⟩, huarr ▸ harr, fun p => ?_, ?_, ?_⟩
  · rw [hy.1, hregs.1, ht]
    rfl
  · refine (hy.rd (fun h => hk (List.mem_cons_of_mem _ h)) hn).trans ((hregs.2 k fun h => hk ?_).trans (by rw [ht]; rfl))
    rw [List.mem_singleton.mp h]
    exact List.mem_cons_self ..
  · have htick := hy.2.2
    have hue : u.evt = s.evt := by rw [hregs.1, ht]; rfl
    rw [hue] at htick
    exact htick
  · rw [hhealth] at hxy
    rw [← hpm]
    exact hxy
  · rw [hports, State.port, State.port, huports]
  · exact (State.get_of_rd hxrd _).trans hsec
  · exact (State.get_of_rd hxrd _).trans hquart

/-- The close of a second without records and OTN ports. -/
theorem State.secondClose_shows (s : State) (hsfn : s.time.sfn % 8000 = 0) (hclosing : s.pm.closing = true) (hrecs : s.pm.recs = [])
    (hotn : ∀ p, p < 96 → s.isOtn p = false) :
    let x := s.secondClose
    (∃ y, Noted s y (SYS_PM_STATUS.key :: (List.range 400).map STK_BANK.key) ∧ x = { y with
      pm := { s.pm with closing := false }, health := { s.health with mapperSubst := [] }
      ports := x.ports, arrivals := x.arrivals }) ∧
    s.arrivals <+: x.arrivals ∧ (∀ p, x.port p = { s.port p with substituted := false }) ∧
    x.get SYS_PM_STATUS.key SYS_PM_STATUS.SECOND = s.time.sfn / 8000 % 900 ∧
    x.get SYS_PM_STATUS.key SYS_PM_STATUS.QUARTER = s.time.sfn / 8000 / 900 % 96 := by
  intro x
  have hx : x = (s.closeSeconds (s.time.sfn / 8000 - 1) s.time.sfn false).closeHealth := if_pos (by simp [hsfn, hclosing])
  rw [s.closeSeconds_eq] at hx
  obtain ⟨t, ht⟩ : ∃ t, t = ({ s.fresh.2 with pm := { s.fresh.2.pm with closing := false } } : State) := ⟨_, rfl⟩
  rw [← ht, t.closeBins_plain _ _ _ (by rw [ht]; exact hrecs) (fun p hp => by rw [ht]; exact hotn p hp)] at hx
  clear_value x
  exact s.endClose_shows ht hx

/-! ### Snapshots -/

/-- What one snapshot leaves, its set due no more. -/
def SnapTaken (s : State) (n : Nat) (y : State) : Prop :=
  let old := s.snapSet n
  let idle : State := { s with pm := { s.pm with due := [] } }
  let taken : SnapSet := { old with
    older := old.newer, seq := (old.seq + 1) % 65536
    newer := some { seq := (old.seq + 1) % 65536, time := s.timeWord, label := s.time.tod
                    words := old.refs.map idle.snapWord } }
  ∃ z, OnlyRegs s z [SYS_SNAP_STATUS.key] ∧ y = { z with pm := y.pm } ∧
    y.pm.due = [] ∧ y.pm.recs = s.pm.recs ∧ y.pm.ctrs = s.pm.ctrs ∧ y.snapSet n = taken ∧
    (∀ j, j ≠ n → y.snapSet j = s.snapSet j) ∧
    (y.get SYS_SNAP_STATUS.key SYS_SNAP_STATUS.SET_VALID).testBit n = true

theorem State.takeSnapshot_taken (s : State) {n : Nat} (hn : n < 16) :
    SnapTaken s n (State.takeSnapshot { s with pm := { s.pm with due := [] } } n) := by
  let idle : State := { s with pm := { s.pm with due := [] } }
  let buf : SnapBuf := { seq := ((s.snapSet n).seq + 1) % 65536, time := s.timeWord, label := s.time.tod
                         words := (s.snapSet n).refs.map idle.snapWord }
  let s1 := idle.updSet n fun x => { x with older := x.newer, newer := some buf, seq := ((s.snapSet n).seq + 1) % 65536 }
  have hx : idle.takeSnapshot n = s1.histBit SYS_SNAP_STATUS.key SYS_SNAP_STATUS.SET_VALID n := rfl
  have hset : ∀ j, s1.snapSet j = if j = n then { s.snapSet n with
      older := (s.snapSet n).newer, newer := some buf, seq := ((s.snapSet n).seq + 1) % 65536 } else s.snapSet j := fun j =>
    Tbl.getD_store ..
  have hs1 : s1 = { s with pm := s1.pm } := rfl
  have hpm : s1.pm.due = [] ∧ s1.pm.recs = s.pm.recs ∧ s1.pm.ctrs = s.pm.ctrs := ⟨rfl, rfl, rfl⟩
  change SnapTaken s n (idle.takeSnapshot n)
  rw [hx]
  clear_value s1
  have h1 : OnlyRegs s1 (s1.histBit SYS_SNAP_STATUS.key SYS_SNAP_STATUS.SET_VALID n) [SYS_SNAP_STATUS.key] := .put s1 _ _ _ (by simp)
  have hbit := s1.testBit_histBit SYS_SNAP_STATUS.key SYS_SNAP_STATUS.SET_VALID n (by decide) hn
  generalize s1.histBit SYS_SNAP_STATUS.key SYS_SNAP_STATUS.SET_VALID n = x at h1 hbit hx
  have hxpm : x.pm = s1.pm := by rw [h1.1]
  have hxset : ∀ j, x.snapSet j = s1.snapSet j := fun j => by rw [State.snapSet, State.snapSet, hxpm]
  refine ⟨{ x with pm := s.pm }, ⟨?_, fun k hk => (h1.2 k hk).trans (by rw [hs1]; rfl)⟩, rfl, ?_, ?_, ?_, ?_, fun j hj => ?_, hbit⟩
  · have := congrArg (fun w : State => { w with pm := s.pm }) h1.1
    rw [hs1] at this
    exact this
  · rw [hxpm, hpm.1]
  · rw [hxpm, hpm.2.1]
  · rw [hxpm, hpm.2.2]
  · rw [hxset, hset, if_pos rfl]
  · rw [hxset, hset, if_neg hj]

/-- The one snapshot that is due. -/
theorem State.takeSnapshots_one (s : State) {n c : Nat} {p : Packet} (h : s.pm.due = [(n, p, c)]) (carried : List Nat) :
    s.takeSnapshots carried = (State.takeSnapshot { s with pm := { s.pm with due := [] } } n).endSnapshot p c stOK
      (cflagsOf false (carried.contains n)) := by
  unfold State.takeSnapshots
  rw [h, if_neg (List.cons_ne_nil _ _)]
  refine if_neg ?_
  exact fun hlt => Nat.lt_irrefl 0 hlt.2

/-- The end of a snapshot answers at most. -/
theorem State.endSnapshot_reported (s : State) (p : Packet) (c status flags : Nat) : Reported s (s.endSnapshot p c status flags) := by
  unfold State.endSnapshot
  split
  · exact .refl s
  · exact s.complete_reported ..

end Sys2Proof.Machine

open Sys2Proof Sys2Proof.Machine

/-- Settles O43: the close is the bins' part, which without records only shows its second, and the health part, bank by bank. -/
theorem secondsAndSnapshots : Obligations.SecondsAndSnapshots := by
  unfold Obligations.SecondsAndSnapshots
  refine ⟨fun s => ⟨fun h => answers_of rfl (if_neg ?_), fun hsfn hclosing hrecs hotn =>
    answers_of rfl (s.secondClose_shows hsfn hclosing hrecs hotn)⟩, fun s => ⟨fun h => answers_of rfl (if_pos h), ?_⟩⟩
  · rcases h with h | h <;> simp [h]
  · intro n p c hdue hn old idle taken holds
    have htaken : holds (State.takeSnapshot idle n) := s.takeSnapshot_taken hn
    have hrow := s.takeSnapshots_one hdue (s.pm.due.map Prod.fst)
    refine ⟨fun hrep => answers_of (x := State.takeSnapshot idle n) ?_ htaken, answers_of rfl ?_⟩
    · refine (congrArg (fun z : State => Host.Outcome.next z.settle) (hrow.trans ?_) :)
      exact if_pos hrep
    · exact ⟨State.takeSnapshot idle n, htaken, by rw [hrow]; exact State.endSnapshot_reported ..⟩

end

section
/-! PROOF. Ethernet frames, pause and flow control (R230, R231, R234, R236, R237). -/

namespace Sys2Proof.Machine

/-! ### One port -/

/-- The other ports stay, and of port `p` only the counters and the Ethernet record move. -/
def EthPort (s : State) (p : Nat) (v : EthSt) (x : State) : Prop :=
  (∀ q, q ≠ p → x.port q = s.port q) ∧ x.port p = { s.port p with cnts := (x.port p).cnts, eth := v }

theorem EthPort.intro {s x : State} {p : Nat} {v : EthSt} {c : Tbl Ctr} (ho : ∀ q, q ≠ p → x.port q = s.port q)
    (hp : x.port p = { s.port p with cnts := c, eth := v }) : EthPort s p v x := by
  have hc : (x.port p).cnts = c := by rw [hp]
  exact ⟨ho, by rw [hc]; exact hp⟩

theorem State.updEth_port (s : State) (p : Nat) (f : EthSt → EthSt) : EthPort s p (f (s.eth p)) (s.updEth p f) :=
  .intro (fun _ hq => (s.port_updPort ..).trans (if_neg hq)) ((s.port_updPort ..).trans (if_pos rfl))

theorem EthPort.of_ports {s x y : State} {p : Nat} {v : EthSt} (h : EthPort s p v x) (hp : y.ports = x.ports) : EthPort s p v y := by
  have hport : ∀ q, y.port q = x.port q := fun q => by rw [State.port, State.port, hp]
  refine ⟨fun q hq => (hport q).trans (h.1 q hq), ?_⟩
  rw [hport]
  exact h.2

theorem EthPort.eth {s x : State} {p : Nat} {v : EthSt} (h : EthPort s p v x) : x.eth p = v := by
  rw [State.eth, h.2]

/-- A change of a port's Ethernet record, shown in a register of the port. -/
theorem State.put_updEth (s : State) (p k : Nat) (f : EthSt → EthSt) (g : Fld) (v : Nat) :
    let x := (s.updEth p f).put k g v
    (∃ y, OnlyRegs s y [k] ∧ x = { y with ports := x.ports }) ∧ EthPort s p (f (s.eth p)) x := by
  intro x
  have hx : x = { s.put k g v with ports := (s.updEth p f).ports } := rfl
  have hp : x.ports = (s.updEth p f).ports := rfl
  exact ⟨⟨s.put k g v, .put s k g v (List.mem_singleton.mpr rfl), by rw [hp]; exact hx⟩, (s.updEth_port p f).of_ports hp⟩

/-! ### Pause and flow control -/

theorem Tbl.find_store_zero (t : Tbl Nat) (k j v : Nat) :
    (t.store k v 0).find j = if j = k then (if v = 0 then none else some v) else t.find j := by
  by_cases hj : j = k
  · subst hj
    rw [if_pos rfl]
    unfold Tbl.store
    by_cases hv : v = 0
    · rw [if_pos hv, if_pos hv, Tbl.find_drop_same]
    · rw [if_neg hv, if_neg hv, Tbl.find_put_same]
  · rw [if_neg hj]
    exact Tbl.find_store_other t k j v 0 hj

/-- Entries stored in turn. -/
def storeAll (g : Nat → Nat) (xs : List Nat) (t : Tbl Nat) : Tbl Nat := xs.foldl (fun t i => t.store i (g i) 0) t

theorem find_storeAll (g : Nat → Nat) (xs : List Nat) (t : Tbl Nat) (j : Nat) :
    (storeAll g xs t).find j = if j ∈ xs then (if g j = 0 then none else some (g j)) else t.find j := by
  induction xs generalizing t with
  | nil => rfl
  | cons k xs ih =>
    refine (ih (t.store k (g k) 0)).trans ?_
    rw [Tbl.find_store_zero]
    by_cases hmem : j ∈ xs
    · rw [if_pos hmem, if_pos (List.mem_cons_of_mem _ hmem)]
    · by_cases hj : j = k
      · subst hj
        rw [if_neg hmem, if_pos rfl, if_pos (List.mem_cons_self ..)]
      · rw [if_neg hmem, if_neg hj, if_neg (by simp [hj, hmem])]

/-- A received PAUSE or PFC frame. -/
theorem State.pauseReceive_shows (s : State) (p : Nat) (pfc : Bool) (en : Nat) (q : List (BitVec 16)) (heth : s.isEth p = true)
    (hfc : s.on (ETH_CFG.key p) ETH_CFG.RX_FC_EN = true) :
    let x := s.pauseReceive p pfc en q
    (∃ y, OnlyRegs s y [ETH_STATUS.key p] ∧ x = { y with ports := x.ports }) ∧
    EthPort s p { s.eth p with held := (x.eth p).held } x ∧
    ∀ i, i < 8 →
      let t := (q.getD (if pfc then i else 0) 0).toNat
      (x.eth p).held.find i = if !pfc || en.testBit i then (if t = 0 then none else some t) else (s.eth p).held.find i := by
  intro x
  let held := storeAll (fun i => (q.getD (if pfc then i else 0) 0).toNat) ((List.range 8).filter fun i => !pfc || en.testBit i)
  have hx : x = (s.updEth p fun y => { y with held := held y.held }).showHeld p := if_neg (by simp [heth, hfc])
  obtain ⟨hframe, hport⟩ := s.put_updEth p (ETH_STATUS.key p) (fun y => { y with held := held y.held }) ETH_STATUS.RX_PAUSED
    ((((s.updEth p fun y => { y with held := held y.held }).eth p).held.map fun e => 2 ^ e.1).sum)
  change EthPort s p _ ((s.updEth p fun y => { y with held := held y.held }).showHeld p) at hport
  rw [← hx] at hport
  have hheld : (x.eth p).held = held (s.eth p).held := by rw [hport.eth]
  refine ⟨by rw [hx]; exact hframe, by rw [hheld]; exact hport, fun i hi => ?_⟩
  rw [hheld]
  refine (find_storeAll ..).trans ?_
  by_cases hn : (!pfc || en.testBit i) = true
  · rw [if_pos hn, if_pos (List.mem_filter.mpr ⟨List.mem_range.mpr hi, hn⟩)]
  · have hnot : i ∉ (List.range 8).filter fun i => !pfc || en.testBit i := fun h => hn (List.mem_filter.mp h).2
    rw [if_neg hn, if_neg hnot]

/-- The pause time of a priority that is held runs out. -/
theorem State.pauseExpiry_shows (s : State) (p i : Nat) (hheld : (s.eth p).held.find i ≠ none) :
    let x := s.pauseExpiry p i
    (∃ y, OnlyRegs s y [ETH_STATUS.key p] ∧ x = { y with ports := x.ports }) ∧
    EthPort s p { s.eth p with held := (x.eth p).held } x ∧ (x.eth p).held.find i = none ∧
    ∀ j, j ≠ i → (x.eth p).held.find j = (s.eth p).held.find j := by
  intro x
  have hx : x = (s.updEth p fun y => { y with held := y.held.drop i }).showHeld p :=
    if_neg fun h => hheld (Option.isNone_iff_eq_none.mp h)
  obtain ⟨hframe, hport⟩ := s.put_updEth p (ETH_STATUS.key p) (fun y => { y with held := y.held.drop i }) ETH_STATUS.RX_PAUSED
    ((((s.updEth p fun y => { y with held := y.held.drop i }).eth p).held.map fun e => 2 ^ e.1).sum)
  change EthPort s p _ ((s.updEth p fun y => { y with held := y.held.drop i }).showHeld p) at hport
  rw [← hx] at hport
  have hdrop : (x.eth p).held = (s.eth p).held.drop i := by rw [hport.eth]
  refine ⟨by rw [hx]; exact hframe, by rw [hdrop]; exact hport, ?_, fun j hj => ?_⟩
  · rw [hdrop, Tbl.find_drop_same]
  · rw [hdrop, Tbl.find_drop_other _ _ _ hj]

/-- Flow control is sent when the pause state has changed. -/
theorem State.flowControl_sends (s : State) (p : Nat) (heth : s.isEth p = true) (hwant : s.pauseWant p ≠ (s.eth p).sentPause) :
    let x := s.flowControl p
    (∃ y, OnlyRegs s y [ETH_STATUS.key p] ∧ x = { y with ports := x.ports }) ∧
    EthPort s p { s.eth p with sentPause := s.pauseWant p, fcSent := (s.eth p).fcSent + 1, lastFc := s.pauseWant p } x ∧
    x.get (ETH_STATUS.key p) ETH_STATUS.TX_PAUSED = s.pauseWant p % 2 ^ ETH_STATUS.TX_PAUSED.width := by
  intro x
  have hx : x = (s.updEth p fun y => { y with sentPause := s.pauseWant p, fcSent := y.fcSent + 1, lastFc := s.pauseWant p }).put
      (ETH_STATUS.key p) ETH_STATUS.TX_PAUSED (s.pauseWant p) := if_neg (by simp [heth, hwant])
  rw [hx]
  obtain ⟨hframe, hport⟩ := s.put_updEth p (ETH_STATUS.key p) (fun y => { y with
    sentPause := s.pauseWant p, fcSent := y.fcSent + 1, lastFc := s.pauseWant p }) ETH_STATUS.TX_PAUSED (s.pauseWant p)
  exact ⟨hframe, hport, State.get_put_same _ _ _ _ (by decide)⟩

/-! ### Frames -/

/-- The first egress frame whose priority is not held leaves. -/
theorem State.ethTransmit_sends (s : State) (p : Port) (heth : s.isEth p = true)
    (hany : ((s.eth p).egress.any fun b => ((s.eth p).held.find b.prio).isNone) = true) :
    let x := s.ethTransmit p
    x = { s with ports := x.ports } ∧
    EthPort s p { s.eth p with egress := (s.eth p).egress.eraseP fun b => ((s.eth p).held.find b.prio).isNone } x ∧ CountsUp s x p 2 1 := by
  intro x
  let g : EthSt → EthSt := fun y => { y with egress := y.egress.eraseP fun b => ((s.eth p).held.find b.prio).isNone }
  have hx : x = (s.updEth p g).countPort p 2 1 := if_neg (by simp [heth, hany])
  obtain ⟨hframe, hother⟩ := (s.updEth p g).countPort_frame p 1 ⟨2, by decide⟩
  have hstep := (s.updEth p g).countPort_step p 1 (k := 2) (by decide) [] []
  obtain ⟨hcount, _⟩ := (s.updEth p g).countPort_counts p 1 (k := 2) (by decide)
  have hport : (s.updEth p g).port p = { s.port p with eth := g (s.eth p) } := (s.port_updPort ..).trans (if_pos rfl)
  have ho : ∀ q, q ≠ p.val → (s.updEth p g).port q = s.port q := fun q hq => (s.port_updPort ..).trans (if_neg hq)
  have ht : s.updEth p g = { s with ports := (s.updEth p g).ports } := rfl
  have hwrap : (s.updEth p g).get (PRT_CNT_CFG.key p) PRT_CNT_CFG.WRAP_MODE = s.get (PRT_CNT_CFG.key p) PRT_CNT_CFG.WRAP_MODE := rfl
  generalize s.updEth p g = t at hx hframe hother hstep hcount hport ho ht hwrap
  rw [hx]
  refine ⟨?_, .intro (c := ((t.countPort p 2 1).port p).cnts) (fun q hq => (hother q hq).trans (ho q hq)) ?_,
    hcount.since (by rw [hport]) hwrap⟩
  · refine hframe.trans ?_
    generalize (t.countPort p 2 1).ports = ps
    rw [ht]
  · rw [hstep.2.1, hport]

/-- The register of a port's check unit. -/
def State.portUnit (s : State) (p : Nat) : Nat := CVU_P.key (4 * s.physOf (framerPos p) + p % 4)

theorem State.ethCfg_not_portUnit (s : State) (p : Port) : ETH_CFG.key p ∉ [s.portUnit p] := by
  have hphys : s.physOf (framerPos p) < 2 ^ 5 := Fld.get_lt _ _
  have hne : ETH_CFG.key p ≠ s.portUnit p := by
    unfold ETH_CFG.key State.portUnit CVU_P.key
    omega
  simpa using hne

/-- The count of a failed check of a port. -/
theorem State.cvuFail_onlyRegs (s : State) (p : Nat) (bad : Bool) : OnlyRegs s (s.cvuFail p bad) [s.portUnit p] := by
  cases bad with
  | false => exact .refl s _
  | true => exact (OnlyRegs.put s (s.portUnit p) _ _ (by simp)).trans (.bump _ (s.portUnit p) _ _ (by simp))

/-- What every received frame leaves before its VLAN entry is looked up. -/
def EthCounted (s : State) (p : Nat) (bad : Bool) (x : State) : Prop :=
  (∃ y, OnlyRegs s y [s.portUnit p] ∧ x = { y with ports := x.ports, pm := x.pm, flows := x.flows, chans := x.chans }) ∧
  EthPort s p (s.eth p) x ∧ CountsUp s x p 1 1 ∧ CountsUp s x p 3 (bit bad)

theorem State.ethCounts_counted (s : State) (p : Port) (bad : Bool) :
    let x := ((s.countPort p 1 1).countPort p 3 (bit bad)).cvuFail p bad
    (∃ y, OnlyRegs s y [s.portUnit p] ∧ x = { y with ports := x.ports }) ∧ EthPort s p (s.eth p) x ∧ CountsUp s x p 1 1 ∧
      CountsUp s x p 3 (bit bad) := by
  intro x
  have h13 := (s.countPort_step p 1 (k := 1) (by decide) [] []).trans
    ((s.countPort p 1 1).countPort_step p (bit bad) (k := 3) (by decide) [] [])
  obtain ⟨f1, o1⟩ := s.countPort_frame p 1 ⟨1, by decide⟩
  obtain ⟨f3, o3⟩ := (s.countPort p 1 1).countPort_frame p (bit bad) ⟨3, by decide⟩
  obtain ⟨c1, c3, _⟩ := s.countTwo p 1 (bit bad) (i := 1) (j := 3) (by decide) (by decide) (by decide)
  dsimp only at f1 o1 f3 o3
  have hx : x = ((s.countPort p 1 1).countPort p 3 (bit bad)).cvuFail p bad := rfl
  have ho : ∀ q, q ≠ p.val → ((s.countPort p 1 1).countPort p 3 (bit bad)).port q = s.port q := fun q hq => (o3 q hq).trans (o1 q hq)
  have hframe : (s.countPort p 1 1).countPort p 3 (bit bad) = { s with ports := ((s.countPort p 1 1).countPort p 3 (bit bad)).ports } := by
    generalize (s.countPort p 1 1).countPort p 3 (bit bad) = u at f3
    generalize s.countPort p 1 1 = t at f1 f3
    generalize u.ports = ps at f3
    rw [f3, f1]
  clear f1 f3 o1 o3
  generalize (s.countPort p 1 1).countPort p 3 (bit bad) = t at h13 c1 c3 hx ho hframe
  have hunit : t.portUnit p = s.portUnit p := by rw [hframe]; rfl
  have hregs : OnlyRegs t x [s.portUnit p] := by
    rw [hx, ← hunit]
    exact t.cvuFail_onlyRegs p bad
  clear_value x
  have hports : x.ports = t.ports := by rw [hregs.1]
  have hport : ∀ q, x.port q = t.port q := fun q => by rw [State.port, State.port, hports]
  refine ⟨⟨{ x with ports := s.ports }, ⟨?_, fun k hk => (hregs.2 k hk).trans (by rw [hframe]; rfl)⟩, rfl⟩,
    .intro (c := (t.port p).cnts) (fun q hq => (hport q).trans (ho q hq)) ?_, c1.kept (by rw [hport]), c3.kept (by rw [hport])⟩
  · have := congrArg (fun w : State => { w with ports := s.ports }) hregs.1
    rw [hframe] at this
    exact this
  · rw [hport, h13.2.1]
    rfl

/-- What follows the counts of a frame: discards, a queue and the pause state of a channel. -/
def PacketMove (s x : State) : Prop := x = { s with pm := x.pm, flows := x.flows, chans := x.chans }

theorem PacketMove.counted {s t x : State} {p : Nat} {bad : Bool}
    (h : (∃ y, OnlyRegs s y [s.portUnit p] ∧ t = { y with ports := t.ports }) ∧ EthPort s p (s.eth p) t ∧ CountsUp s t p 1 1 ∧
      CountsUp s t p 3 (bit bad)) (hm : PacketMove t x) : EthCounted s p bad x := by
  obtain ⟨⟨y, hy, ht⟩, hport, c1, c3⟩ := h
  have hports : x.ports = t.ports := by rw [hm]
  have hp : x.port p = t.port p := by rw [State.port, State.port, hports]
  refine ⟨⟨y, hy, ?_⟩, hport.of_ports hports, c1.kept (by rw [hp]), c3.kept (by rw [hp])⟩
  rw [hports]
  refine Eq.trans hm ?_
  generalize x.pm = a, x.flows = b, x.chans = c, t.ports = d at ht
  rw [ht]

theorem OnlyPm.packetMove {s x : State} (h : OnlyPm s x) : PacketMove s x := by
  unfold PacketMove
  have hf : x.flows = s.flows := by rw [h]
  have hc : x.chans = s.chans := by rw [h]
  rw [hf, hc]
  exact h

theorem State.drainChan_chans (s : State) (e n : Nat) : s.drainChan e n = { s with chans := (s.drainChan e n).chans } := by
  unfold State.drainChan
  split <;> rfl

theorem PacketMove.drain {s t : State} (h : PacketMove s t) (e n : Nat) :
    PacketMove s (t.drainChan e n) ∧ (t.drainChan e n).flows = t.flows := by
  have hd := t.drainChan_chans e n
  generalize t.drainChan e n = x at hd
  have hp : x.pm = t.pm := by rw [hd]
  have hf : x.flows = t.flows := by rw [hd]
  refine ⟨?_, hf⟩
  unfold PacketMove at *
  rw [hp, hf]
  refine hd.trans ?_
  generalize x.chans = c
  rw [h]

/-- A frame that its flow does not take is counted as a discard. -/
theorem State.enqueueFlow_discards (s : State) (e f prio p : Nat) (x : EthFrame)
    (h : ¬ (64 ≤ x.bytes ∧ x.bytes ≤ s.mtu p ∧
      queuedBytes (s.flow (engKey e f)).queue + x.bytes ≤ (s.flow (engKey e f)).cfg.quota * packetPage)) :
    OnlyPm s (s.enqueueFlow e f prio p x) := by
  unfold State.enqueueFlow
  dsimp only
  by_cases hlen : x.bytes < 64 ∨ s.mtu p < x.bytes
  · rw [if_pos hlen]
    exact s.countCtx_onlyPm _ _ _
  · rw [if_neg hlen, if_pos (by omega)]
    exact s.countCtx_onlyPm _ _ _

/-- A frame that its flow takes joins the flow's queue. -/
theorem State.enqueueFlow_takes (s : State) (e f prio p : Nat) (x : EthFrame) (h1 : 64 ≤ x.bytes) (h2 : x.bytes ≤ s.mtu p)
    (h3 : queuedBytes (s.flow (engKey e f)).queue + x.bytes ≤ (s.flow (engKey e f)).cfg.quota * packetPage) :
    s.enqueueFlow e f prio p x = s.updFlow (engKey e f) fun y => { y with queue := y.queue ++
      [{ bytes := x.bytes, prio := prio, tick := s.dev.ticks, fcsOk := x.fcsOk }] } :=
  (if_neg (by omega)).trans (if_neg (by omega))

/-- A received frame of an Ethernet port, once its class is known. -/
def State.ethSorted (s : State) (e f prio p : Nat) (x : EthFrame) : State :=
  if f = 0xFF ∨ (s.flow (engKey e f)).cfg.chKind = 0 then s.countFlow e 0xFF 0 1
  else (s.enqueueFlow e f prio p x).drainChan e ((s.chanOf e f).getD 0)

theorem State.ethReceive_row (s : State) (p : Nat) (f : EthFrame) (heth : s.isEth p = true) : s.ethReceive p f =
    (let t := ((s.countPort p 1 1).countPort p 3 (bit !f.fcsOk)).cvuFail p !f.fcsOk
     match t.vlans.find (vlanKey p (s.frameClass p f).1) with
     | none => t.countFlow (2 * regionOf p) 0xFF 0 1
     | some v => t.ethSorted (v / 256) (v % 256) (s.frameClass p f).2 p f) :=
  (if_neg (by simp [heth])).trans rfl

/-- A received frame, by its VLAN entry. -/
theorem State.ethReceive_shows (s : State) (p : Port) (f : EthFrame) (heth : s.isEth p = true) :
    let x := s.ethReceive p f
    let cls := s.frameClass p f
    let entry := s.vlans.find (vlanKey p cls.1)
    (entry = none → EthCounted s p (!f.fcsOk) x ∧ x.flows = s.flows ∧ x.chans = s.chans) ∧
    (∀ v, entry = some v → v % 256 < 64 → (s.flow (engKey (v / 256) (v % 256))).cfg.chKind ≠ 0 →
      let k := engKey (v / 256) (v % 256)
      let fl := s.flow k
      let fits := 64 ≤ f.bytes ∧ f.bytes ≤ s.mtu p ∧ queuedBytes fl.queue + f.bytes ≤ fl.cfg.quota * packetPage
      (fits → EthCounted s p (!f.fcsOk) x ∧ (∀ j, j ≠ k → x.flow j = s.flow j) ∧
        x.flow k = { fl with queue := fl.queue ++
          [{ bytes := f.bytes, prio := cls.2, tick := s.dev.ticks, fcsOk := f.fcsOk }] }) ∧
      (¬ fits → EthCounted s p (!f.fcsOk) x ∧ x.flows = s.flows)) := by
  intro x cls entry
  have hrow := s.ethReceive_row p f heth
  change x = _ at hrow
  have hcounts := s.ethCounts_counted p (!f.fcsOk)
  have hmtu : ∀ t : State, (∃ y, OnlyRegs s y [s.portUnit p] ∧ t = { y with ports := t.ports }) →
      t.mtu p = s.mtu p ∧ t.vlans = s.vlans ∧ t.flows = s.flows ∧ t.chans = s.chans ∧ t.dev = s.dev := by
    rintro t ⟨y, hy, ht⟩
    refine ⟨?_, ?_, ?_, ?_, ?_⟩
    · rw [ht]
      exact hy.get (s.ethCfg_not_portUnit p) _
    all_goals rw [ht, hy.1]
  dsimp only at hrow hcounts
  generalize ((s.countPort p 1 1).countPort p 3 (bit !f.fcsOk)).cvuFail p (!f.fcsOk) = t at hrow hcounts
  obtain ⟨hm, hvlans, hflows, hchans, hdev⟩ := hmtu t hcounts.1
  have hflow : ∀ k, t.flow k = s.flow k := fun k => by rw [State.flow, State.flow, hflows]
  rw [hvlans] at hrow
  refine ⟨fun hnone => ?_, fun v hv hlt hkind => ?_⟩
  · change s.vlans.find (vlanKey p (s.frameClass p f).1) = _ at hnone
    rw [hnone] at hrow
    have hpm : OnlyPm t x := by
      rw [hrow]
      exact t.countCtx_onlyPm _ _ _
    exact ⟨hpm.packetMove.counted hcounts, by rw [hpm]; exact hflows, by rw [hpm]; exact hchans⟩
  · intro k fl fits
    change s.vlans.find (vlanKey p (s.frameClass p f).1) = _ at hv
    rw [hv] at hrow
    have hx : x = (t.enqueueFlow (v / 256) (v % 256) cls.2 p f).drainChan (v / 256) ((t.chanOf (v / 256) (v % 256)).getD 0) := by
      refine hrow.trans (if_neg ?_)
      rw [hflow]
      rintro (h | h)
      · omega
      · exact hkind h
    refine ⟨fun hfits => ?_, fun hfits => ?_⟩
    · obtain ⟨b1, b2, b3⟩ := hfits
      rw [t.enqueueFlow_takes _ _ _ _ _ b1 (hm ▸ b2) (by rw [hflow]; exact b3)] at hx
      have hu : PacketMove t (t.updFlow k fun y => { y with queue := y.queue ++
          [{ bytes := f.bytes, prio := cls.2, tick := t.dev.ticks, fcsOk := f.fcsOk }] }) := rfl
      have hfk : ∀ j, (t.updFlow k fun y => { y with queue := y.queue ++
          [{ bytes := f.bytes, prio := cls.2, tick := t.dev.ticks, fcsOk := f.fcsOk }] }).flow j = if j = k then
            { t.flow k with queue := (t.flow k).queue ++
              [{ bytes := f.bytes, prio := cls.2, tick := t.dev.ticks, fcsOk := f.fcsOk }] } else t.flow j := fun j => Tbl.getD_store ..
      change x = State.drainChan (t.updFlow k _) _ _ at hx
      generalize (t.updFlow k fun y => { y with queue := y.queue ++
          [{ bytes := f.bytes, prio := cls.2, tick := t.dev.ticks, fcsOk := f.fcsOk }] }) = u at hx hu hfk
      obtain ⟨hmove, hxf⟩ := hu.drain (v / 256) ((t.chanOf (v / 256) (v % 256)).getD 0)
      rw [← hx] at hmove hxf
      have hxflow : ∀ j, x.flow j = u.flow j := fun j => by rw [State.flow, State.flow, hxf]
      refine ⟨hmove.counted hcounts, fun j hj => ?_, ?_⟩
      · rw [hxflow, hfk, if_neg hj, hflow]
      · rw [hxflow, hfk, if_pos rfl, hflow, hdev]
    · have hpm := t.enqueueFlow_discards (v / 256) (v % 256) cls.2 p f (by rw [hflow, hm]; exact hfits)
      obtain ⟨hmove, hxf⟩ := hpm.packetMove.drain (v / 256) ((t.chanOf (v / 256) (v % 256)).getD 0)
      rw [← hx] at hmove hxf
      refine ⟨hmove.counted hcounts, hxf.trans ?_⟩
      rw [hpm]
      exact hflows

end Sys2Proof.Machine

open Sys2Proof Sys2Proof.Machine

/-- Settles O55: each clause is the row's function in the case that the clause names. -/
theorem ethernetRows : Obligations.EthernetRows := by
  unfold Obligations.EthernetRows
  intro s p hcarry o unit onePort free
  have hexec : ∀ f : State → State, s.datapath f = f s := fun f => s.datapath_carrying hcarry f
  refine ⟨fun hno => ⟨?_, ?_, fun f => ?_⟩, fun heth f => ?_, fun hnone => ?_, fun heth hany => ?_, fun hoff pfc en q => ?_,
    fun heth hfc pfc en q => ?_, fun i hnone => ?_, fun i hheld => ?_, fun hsame => ?_, fun heth hwant => ?_, fun hzero => ?_, fun hsent => ?_⟩
  · exact answers_of (congrArg (fun z : State => Host.Outcome.next z.settle) (hexec fun s => s.ethTransmit p)) (if_pos (.inl (by simp [hno])))
  · exact answers_of (congrArg (fun z : State => Host.Outcome.next z.settle) (hexec fun s => s.flowControl p)) (if_pos (.inl (by simp [hno])))
  · exact answers_of (congrArg (fun z : State => Host.Outcome.next z.settle) (hexec fun s => s.ethReceive p f)) (if_pos (by simp [hno]))
  · have hrow := congrArg (fun z : State => Host.Outcome.next (φ := Fault) (ρ := Refusal) z.settle) (hexec fun s => s.ethReceive p f)
    obtain ⟨hnone, hsome⟩ := s.ethReceive_shows p f heth
    intro cls entry counted
    exact ⟨fun h => answers_of hrow (hnone h), fun v hv hlt hkind => ⟨fun hfits => answers_of hrow ((hsome v hv hlt hkind).1 hfits),
      fun hfits => answers_of hrow ((hsome v hv hlt hkind).2 hfits)⟩⟩
  · refine answers_of (congrArg (fun z : State => Host.Outcome.next z.settle) (hexec fun s => s.ethTransmit p)) (if_pos (.inr ?_))
    exact fun h => Bool.false_ne_true (hnone.symm.trans h)
  · exact answers_of (congrArg (fun z : State => Host.Outcome.next z.settle) (hexec fun s => s.ethTransmit p)) (s.ethTransmit_sends p heth hany)
  · refine answers_of (congrArg (fun z : State => Host.Outcome.next z.settle) (hexec fun s => s.pauseReceive p pfc en.toNat q)) (if_pos ?_)
    rcases hoff with h | h <;> simp [h]
  · exact answers_of (congrArg (fun z : State => Host.Outcome.next z.settle) (hexec fun s => s.pauseReceive p pfc en.toNat q))
      (s.pauseReceive_shows p pfc en.toNat q heth hfc)
  · exact answers_of (congrArg (fun z : State => Host.Outcome.next z.settle) (hexec fun s => s.pauseExpiry p i))
      (if_pos (Option.isNone_iff_eq_none.mpr hnone))
  · exact answers_of (congrArg (fun z : State => Host.Outcome.next z.settle) (hexec fun s => s.pauseExpiry p i)) (s.pauseExpiry_shows p i hheld)
  · exact answers_of (congrArg (fun z : State => Host.Outcome.next z.settle) (hexec fun s => s.flowControl p)) (if_pos (.inr hsame))
  · exact answers_of (congrArg (fun z : State => Host.Outcome.next z.settle) (hexec fun s => s.flowControl p)) (s.flowControl_sends p heth hwant)
  · exact answers_of (congrArg (fun z : State => Host.Outcome.next z.settle) (hexec fun s => s.pauseRefresh p)) (if_pos hzero)
  · refine answers_of (congrArg (fun z : State => Host.Outcome.next z.settle) (hexec fun s => s.pauseRefresh p)) ?_
    rw [show s.pauseRefresh p = _ from if_neg hsent]
    exact ⟨rfl, s.updEth_port p _⟩
end

section
/-! PROOF. Accepted, repeated and errored ALF frames, and the map digest (R168, R169, R171, R172, R174). -/

namespace Sys2Proof.Machine

/-! ### The registers of an ALF port -/

theorem alfKeys_apart (p : Port) :
    PRT_CFG.key p ∉ [ALF_STATUS.key p, ALF_DIGEST_RX.key p] ∧ noteReg (PRT_CFG.key p) = false ∧
    PRT_CNT_CFG.key p ∉ [ALF_STATUS.key p, ALF_DIGEST_RX.key p] ∧ noteReg (PRT_CNT_CFG.key p) = false ∧
    ALF_PKT_MIN.key p ∉ [ALF_STATUS.key p, ALF_DIGEST_RX.key p] ∧ noteReg (ALF_PKT_MIN.key p) = false ∧
    ALF_DIGEST_RX.key p ≠ ALF_STATUS.key p ∧ noteReg (ALF_STATUS.key p) = false ∧ noteReg (ALF_DIGEST_RX.key p) = false := by
  revert p
  decide +kernel

theorem alfProf_apart (p : Port) (k : Nat) :
    ALF_PROF.key p k ∉ [ALF_STATUS.key p, ALF_DIGEST_RX.key p] ∧ noteReg (ALF_PROF.key p k) = false := by
  constructor
  · simp only [ALF_PROF.key, ALF_STATUS.key, ALF_DIGEST_RX.key, List.mem_cons, List.not_mem_nil, or_false, not_or]
    omega
  · unfold noteReg ALF_PROF.key OBS_DROP_CNT.key OBS_TRACE_STATUS.key
    simp
    omega

theorem State.not_others_of_isAlf {s : State} {p : Nat} (h : s.isAlf p = true) : s.isSdh p = false ∧ s.isOtn p = false := by
  have hf : s.family p = 5 := by simpa [State.isAlf] using h
  constructor
  · rw [State.isSdh, hf]
    rfl
  · rw [State.isOtn, hf]
    rfl

/-- The sticky bit of a defect of an ALF port. -/
theorem State.defectHist_alf (s : State) {p : Nat} (code : Nat) (hp : p < 96) (h : s.isAlf p = true) :
    s.defectHist (condPort p code) = s ∨ ∃ i, s.defectHist (condPort p code) = s.histBit (ALF_STATUS.key p) ALF_STATUS.HIST i := by
  obtain ⟨hsdh, hotn⟩ := State.not_others_of_isAlf h
  have hrow : s.defectHist (condPort p code) = match placeOf code alfStatusCodes with
      | some i => s.histBit (ALF_STATUS.key p) ALF_STATUS.HIST i
      | none => s := by
    refine (if_pos hp).trans ((if_neg (by decide : ¬ 0 / 2 ^ 28 = 2)).trans ((if_neg (by decide : ¬ 0 / 2 ^ 28 = 3)).trans
      ((if_neg (by decide : ¬ 0 / 2 ^ 28 = 4)).trans ((if_neg ?_).trans ((if_neg ?_).trans ((if_pos h).trans ?_))))))
    · exact fun hs => Bool.false_ne_true (hsdh.symm.trans hs)
    · exact fun hs => Bool.false_ne_true (hotn.symm.trans hs)
    · rfl
  rw [hrow]
  split
  · exact .inr ⟨_, rfl⟩
  · exact .inl rfl

/-! ### Steps of a frame -/

/-- Two fields of a register share no bit. -/
def apart (g f : Fld) : Bool := decide (g.lo + g.width ≤ f.lo ∨ f.lo + f.width ≤ g.lo)

/-- One step of a frame of ALF port `p`: as `FrameStep`, and of ALF_STATUS only the fields named change. -/
def AlfStep (s x : State) (p : Nat) (codes : List Nat) (fs : List Fld) (f : PortSt → PortSt) : Prop :=
  FrameStep s x p [ALF_STATUS.key p, ALF_DIGEST_RX.key p] codes f ∧
  ∀ g : Fld, g.lo + g.width ≤ 32 → (∀ h ∈ fs, apart g h) → x.get (ALF_STATUS.key p) g = s.get (ALF_STATUS.key p) g

namespace AlfStep

variable {s t u x : State} {p : Port} {codes codes' : List Nat} {fs gs : List Fld} {f g : PortSt → PortSt}

theorem refl (s : State) (p : Nat) (codes : List Nat) (fs : List Fld) : AlfStep s s p codes fs id :=
  ⟨.refl s p _ _, fun _ _ _ => rfl⟩

theorem trans {p : Nat} (h1 : AlfStep s t p codes fs f) (h2 : AlfStep t u p codes fs g) : AlfStep s u p codes fs (g ∘ f) :=
  ⟨h1.1.trans h2.1, fun k hk hd => (h2.2 k hk hd).trans (h1.2 k hk hd)⟩

theorem mono {p : Nat} (h : AlfStep s x p codes fs f) (hc : codes ⊆ codes') (hf : fs ⊆ gs) : AlfStep s x p codes' gs f :=
  ⟨h.1.mono (List.Subset.refl _) hc, fun k hk hd => h.2 k hk fun j hj => hd j (hf hj)⟩

theorem updPort (s : State) (p : Nat) (g : PortSt → PortSt) (codes : List Nat) (fs : List Fld) :
    AlfStep s (s.updPort p g) p codes fs g := ⟨.updPort s p g _ _, fun _ _ _ => rfl⟩

theorem countPort (s : State) (p n : Nat) {k : Nat} (hk : k < 4) (codes : List Nat) (fs : List Fld) :
    AlfStep s (s.countPort p k n) p codes fs fun x => { x with cnts := ((s.countPort p k n).port p).cnts } :=
  ⟨s.countPort_step p n hk _ _, fun g _ _ => by rw [State.get_congr (s.countPort_counts p n hk).2.2]⟩

theorem putStatus (s : State) (p : Nat) (h : Fld) (v : Nat) (codes : List Nat) (hf : h ∈ fs) :
    AlfStep s (s.put (ALF_STATUS.key p) h v) p codes fs id :=
  ⟨.put s p _ _ _ _ (by simp), fun g hg hd => State.get_put_field s _ _ _ g hg (of_decide_eq_true (hd h hf))⟩

theorem putDigest (s : State) (p : Port) (h : Fld) (v : Nat) (codes : List Nat) (fs : List Fld) :
    AlfStep s (s.put (ALF_DIGEST_RX.key p) h v) p codes fs id :=
  ⟨.put s p _ _ _ _ (by simp), fun g _ _ => State.get_put_other s _ _ _ _ g (alfKeys_apart p).2.2.2.2.2.2.1.symm⟩

theorem isAlf (h : AlfStep s x p codes fs f) : x.isAlf p = s.isAlf p := by
  obtain ⟨hprt, hn, _⟩ := alfKeys_apart p
  rw [State.isAlf, State.isAlf, State.family, State.family, h.1.get hprt hn]

/-- A decision of a defect of the port. -/
theorem rule (s : State) (p : Port) (code : Nat) (set : Bool) (half : s.isAlf p = true) (hc : code ∈ codes)
    (hf : ALF_STATUS.HIST ∈ fs) : AlfStep s (s.rule (condPort p code) set) p codes fs id := by
  have hhist := s.defectHist_alf code p.isLt half
  have hreg : OnlyRegs s (s.defectHist (condPort p code)) [ALF_STATUS.key p, ALF_DIGEST_RX.key p] := by
    rcases hhist with h | ⟨i, h⟩
    · rw [h]
      exact .refl s _
    · rw [h]
      exact .put s _ _ _ (by simp)
  refine ⟨.rule s p code set hreg hc, fun g hg hd => ?_⟩
  have hkeep : (s.defectHist (condPort p code)).get (ALF_STATUS.key p) g = s.get (ALF_STATUS.key p) g := by
    rcases hhist with h | ⟨i, h⟩
    · rw [h]
    · rw [h]
      exact s.get_histBit_other _ _ g i hg (of_decide_eq_true (hd _ hf))
  by_cases hd : s.decided (condPort p code) = set
  · rw [s.rule_same hd]
  · cases set with
    | false => rw [s.rule_clears hd]; rfl
    | true => rw [s.rule_sets hd]; exact hkeep

theorem integrate (s : State) (p : Port) (code : Nat) (r : RunSt) (n m : Nat) (half : s.isAlf p = true) (hc : code ∈ codes)
    (hf : ALF_STATUS.HIST ∈ fs) : AlfStep s (s.integrate (condPort p code) r n m) p codes fs id := by
  rcases s.integrate_cases (condPort p code) r n m with h | ⟨set, h⟩
  · rw [h]
    exact refl s p codes fs
  · rw [h]
    exact rule s p code set half hc hf

theorem arrive (s : State) (p : Nat) {a : Arrival} (h : a.isDefect = false) (codes : List Nat) (fs : List Fld) :
    AlfStep s (s.arrive a) p codes fs id := ⟨.arrive s p h _ _, fun _ _ _ => rfl⟩

end AlfStep

/-! ### The map in use -/

/-- What keeps a port's profile, its blocks and its list keeps the map of an unfrozen port. -/
theorem AlfStep.alfUse {s x : State} {p : Port} {codes : List Nat} {fs : List Fld} {f : PortSt → PortSt}
    (h : AlfStep s x p codes fs f) (hfrozen : s.alfFrozen p = false) (hf : ∀ h ∈ fs, apart ALF_STATUS.FROZEN h)
    (hp : ∀ h ∈ fs, apart ALF_STATUS.PROFILE h) (hlist : (x.alf p).list = (s.alf p).list) :
    x.alfFrozen p = false ∧ x.alfUse p = s.alfUse p := by
  obtain ⟨_, _, _, _, hmin, nmin, _⟩ := alfKeys_apart p
  have hx : x.alfFrozen p = false := by
    rw [State.alfFrozen, State.on, h.2 _ (by decide) hf]
    exact hfrozen
  have hprof : x.alfProfile p = s.alfProfile p := h.2 _ (by decide) hp
  have hblocks : ∀ k, x.alfBlocks p k = s.alfBlocks p k := fun k => h.1.get (alfProf_apart p k).1 (alfProf_apart p k).2 _
  have hpkt : x.alfPktMin p = s.alfPktMin p := h.1.get hmin nmin _
  refine ⟨hx, ?_⟩
  have huse : ∀ z : State, z.alfFrozen p = false → z.alfUse p = z.alfCand p := fun z hz => if_neg (by simp [hz])
  rw [huse x hx, huse s hfrozen, State.alfCand, State.alfCand, State.alfMapOf, State.alfMapOf, hprof, hblocks, hpkt, hlist]

/-! ### Freezing -/

theorem State.idEvents_step (s : State) (p : Nat) (code n : Nat) (ids : List Nat) (codes : List Nat) (fs : List Fld) :
    AlfStep s (s.idEvents p code n ids) p codes fs id := by
  induction n generalizing s ids with
  | zero => exact .refl s p codes fs
  | succ n ih =>
    unfold State.idEvents
    split
    · exact .refl s p codes fs
    · exact (AlfStep.arrive s p rfl codes fs).trans (ih _ _)

/-- A change of the map in use touches no more than what restores. -/
theorem State.alfShift_step (s : State) (p : Nat) (old : AlfMap) (until_ : Nat) (codes : List Nat) (fs : List Fld) :
    ∃ back, AlfStep s (s.alfShift p old until_) p codes fs fun y => { y with alf := { y.alf with
      restoring := back, restoreUntil := until_ } } := by
  let back := (s.alfUse p).carriedIds.filter fun i => old.shedIds.contains i
  let shed := (s.alfUse p).shedIds.filter fun i => !old.shedIds.contains i
  have h1 : AlfStep s (s.updPort p fun y => { y with alf := { y.alf with restoring := back, restoreUntil := until_ } }) p codes fs _ :=
    .updPort s p _ _ _
  have h2 := State.idEvents_step (s.updPort p fun y => { y with alf := { y.alf with restoring := back, restoreUntil := until_ } }) p
    eALF_SHED 64 shed codes fs
  exact ⟨back, (h1.trans h2).trans (State.idEvents_step _ p eALF_RESTORED 64 back codes fs)⟩

/-- The fields of ALF_STATUS that a freeze writes. -/
def freezeFields : List Fld := [ALF_STATUS.FROZEN, ALF_STATUS.CAUSE, ALF_STATUS.HIST]

/-- A port that is not frozen freezes. -/
theorem State.alfFreeze_shows (s : State) (p : Port) {cause : Nat} (hcause : cause < 2) (half : s.isAlf p = true)
    (hfrozen : s.alfFrozen p = false) :
    let x := s.alfFreeze p cause
    (∃ a back, AlfStep s x p [dMAP_MISMATCH] freezeFields fun y => { y with alf := { y.alf with
      agreed := some a, restoring := back, restoreUntil := s.pfn p } }) ∧
    x.alfFrozen p = true ∧ x.get (ALF_STATUS.key p) ALF_STATUS.CAUSE = cause ∧ x.decided (condPort p dMAP_MISMATCH) = true := by
  intro x
  let a := (s.alf p).agreed.getD (s.alfCand p)
  have hx : x = ((((((s.updPort p fun y => { y with alf := { y.alf with agreed := some a } }).put (ALF_STATUS.key p) ALF_STATUS.FROZEN 1).put
      (ALF_STATUS.key p) ALF_STATUS.CAUSE cause).histBit (ALF_STATUS.key p) ALF_STATUS.HIST 3).rule (condPort p dMAP_MISMATCH) true).alfShift p
      (s.alfUse p) (s.pfn p)) := if_neg (by simp [hfrozen])
  have h1 : AlfStep s (s.updPort p fun y => { y with alf := { y.alf with agreed := some a } }) p [dMAP_MISMATCH] freezeFields _ :=
    .updPort s p _ _ _
  generalize (s.updPort p fun y => { y with alf := { y.alf with agreed := some a } }) = s1 at h1 hx
  have h2 : AlfStep s1 (s1.put (ALF_STATUS.key p) ALF_STATUS.FROZEN 1) p [dMAP_MISMATCH] freezeFields id :=
    .putStatus s1 p _ _ _ (by simp [freezeFields])
  have f2 : (s1.put (ALF_STATUS.key p) ALF_STATUS.FROZEN 1).get (ALF_STATUS.key p) ALF_STATUS.FROZEN = 1 :=
    State.get_put_same s1 _ _ _ (by decide)
  generalize s1.put (ALF_STATUS.key p) ALF_STATUS.FROZEN 1 = s2 at h2 f2 hx
  have h3 : AlfStep s2 (s2.put (ALF_STATUS.key p) ALF_STATUS.CAUSE cause) p [dMAP_MISMATCH] [ALF_STATUS.CAUSE] id :=
    .putStatus s2 p _ _ _ (by simp)
  have c3 : (s2.put (ALF_STATUS.key p) ALF_STATUS.CAUSE cause).get (ALF_STATUS.key p) ALF_STATUS.CAUSE = cause :=
    (State.get_put_same s2 _ _ _ (by decide)).trans (Nat.mod_eq_of_lt hcause)
  have f3 := (h3.2 ALF_STATUS.FROZEN (by decide) (by decide)).trans f2
  generalize s2.put (ALF_STATUS.key p) ALF_STATUS.CAUSE cause = s3 at h3 c3 f3 hx
  have h4 : AlfStep s3 (s3.histBit (ALF_STATUS.key p) ALF_STATUS.HIST 3) p [dMAP_MISMATCH] [ALF_STATUS.HIST] id :=
    .putStatus s3 p _ _ _ (by simp)
  generalize s3.histBit (ALF_STATUS.key p) ALF_STATUS.HIST 3 = s4 at h4 hx
  have h34 := (h3.mono (List.Subset.refl _) (gs := freezeFields) (by simp [freezeFields])).trans
    (h4.mono (List.Subset.refl _) (by simp [freezeFields]))
  have h14 := (h1.trans h2).trans h34
  have h5 : AlfStep s4 (s4.rule (condPort p dMAP_MISMATCH) true) p [dMAP_MISMATCH] [ALF_STATUS.HIST] id :=
    .rule s4 p _ _ (h14.isAlf.trans half) (by simp) (by simp)
  have d5 : (s4.rule (condPort p dMAP_MISMATCH) true).decided (condPort p dMAP_MISMATCH) = true := s4.rule_decided_same _ _
  generalize s4.rule (condPort p dMAP_MISMATCH) true = s5 at h5 d5 hx
  obtain ⟨back, h6⟩ := s5.alfShift_step p (s.alfUse p) (s.pfn p) [] []
  rw [← hx] at h6
  have hall := (h14.trans (h5.mono (List.Subset.refl _) (by simp [freezeFields]))).trans
    (h6.mono (List.nil_subset _) (List.nil_subset _))
  have hkeep : ∀ g : Fld, g.lo + g.width ≤ 32 → apart g ALF_STATUS.HIST = true →
      x.get (ALF_STATUS.key p) g = s3.get (ALF_STATUS.key p) g := fun g hg hd =>
    (h6.2 g hg (by simp)).trans ((h5.2 g hg (by simpa using hd)).trans (h4.2 g hg (by simpa using hd)))
  refine ⟨⟨a, back, hall⟩, decide_eq_true ((hkeep _ (by decide) (by decide)).trans f3), (hkeep _ (by decide) (by decide)).trans c3,
    (h6.1.2.2 _ (by simp)).trans d5⟩

/-! ### An accepted frame -/

/-- What an accepted frame moves of the port's ALF record. -/
def alfTakenRec (f : AlfRx) (x : AlfSt) : AlfSt :=
  { x with
    lastSeq := f.seq.toNat, started := true, accRun := min 8 (x.accRun + 1), rdi := runOn x.rdi (f.flags.toNat.testBit 15) }

/-- An accepted frame of a port that nothing holds, up to its digest. -/
def State.alfTaken (s : State) (p : Nat) (f : AlfRx) : State :=
  let s2 := ((s.updAlf p (alfTakenRec f)).countPort p 3 1).put (ALF_STATUS.key p) ALF_STATUS.ERR_RUN 0
  let t := s2.integrate (condPort p dRDI_A) (s2.alf p).rdi 5 5
  (if 8 ≤ (s2.alf p).accRun then t.rule (condPort p dAFE) false else t).alfOhc p (f.seq.toNat % 64) f.ohc.toNat

theorem State.alfOhc_step (s : State) (p : Port) {mfi : Nat} (ohc : BitVec 16) (codes : List Nat) (fs : List Fld) :
    AlfStep s (s.alfOhc p mfi ohc.toNat) p codes fs (fun y => { y with alf := { y.alf with
      farWords := y.alf.farWords.store mfi ohc.toNat 0 } }) ∧
    (mfi = 0 → (s.alfOhc p mfi ohc.toNat).get (ALF_DIGEST_RX.key p) ALF_DIGEST_RX.D_USE = ohc.toNat) := by
  have h1 : AlfStep s (s.updPort p fun y => { y with alf := { y.alf with farWords := y.alf.farWords.store mfi ohc.toNat 0 } }) p codes fs _ :=
    .updPort s p _ _ _
  have hx : s.alfOhc p mfi ohc.toNat = (
      let s1 := s.updPort p fun y => { y with alf := { y.alf with farWords := y.alf.farWords.store mfi ohc.toNat 0 } }
      if mfi = 0 then s1.put (ALF_DIGEST_RX.key p) ALF_DIGEST_RX.D_USE ohc.toNat
      else if mfi = 1 then s1.put (ALF_DIGEST_RX.key p) ALF_DIGEST_RX.D_CAND ohc.toNat else s1) := rfl
  dsimp only at hx
  generalize (s.updPort p fun y => { y with alf := { y.alf with farWords := y.alf.farWords.store mfi ohc.toNat 0 } }) = s1 at h1 hx
  rw [hx]
  by_cases h0 : mfi = 0
  · rw [if_pos h0]
    exact ⟨h1.trans (.putDigest s1 p _ _ _ _), fun _ => (State.get_put_same s1 _ _ _ (by decide)).trans (Nat.mod_eq_of_lt ohc.isLt)⟩
  · rw [if_neg h0]
    refine ⟨?_, fun h => absurd h h0⟩
    by_cases h1' : mfi = 1
    · rw [if_pos h1']
      exact h1.trans (.putDigest s1 p _ _ _ _)
    · rw [if_neg h1']
      exact h1

theorem State.alfTaken_shows (s : State) (p : Port) (f : AlfRx) (half : s.isAlf p = true) :
    let x := s.alfTaken p f
    AlfStep s x p [dRDI_A, dAFE] [ALF_STATUS.ERR_RUN, ALF_STATUS.HIST] (fun y => { y with
      cnts := (x.port p).cnts
      alf := { alfTakenRec f y.alf with farWords := y.alf.farWords.store (f.seq.toNat % 64) f.ohc.toNat 0 } }) ∧
    (CountsUp s x p 3 1 ∧ ∀ k, k ≠ 3 → (x.port p).cnts.getD k {} = (s.port p).cnts.getD k {}) ∧
    x.get (ALF_STATUS.key p) ALF_STATUS.ERR_RUN = 0 ∧
    x.decided (condPort p dAFE) = (if 7 ≤ (s.alf p).accRun then false else s.decided (condPort p dAFE)) ∧
    (f.seq.toNat % 64 = 0 → x.get (ALF_DIGEST_RX.key p) ALF_DIGEST_RX.D_USE = f.ohc.toNat) := by
  intro x
  have hx : x = (
    let s2 := ((s.updPort p fun y => { y with alf := alfTakenRec f y.alf }).countPort p 3 1).put (ALF_STATUS.key p) ALF_STATUS.ERR_RUN 0
    let t := s2.integrate (condPort p dRDI_A) (s2.alf p).rdi 5 5
    (if 8 ≤ (s2.alf p).accRun then t.rule (condPort p dAFE) false else t).alfOhc p (f.seq.toNat % 64) f.ohc.toNat) := rfl
  have h0 : AlfStep s (s.updPort p fun y => { y with alf := alfTakenRec f y.alf }) p [] [ALF_STATUS.ERR_RUN] _ :=
    .updPort s p _ _ _
  have hwrap : (s.updPort p fun y => { y with alf := alfTakenRec f y.alf }).get (PRT_CNT_CFG.key p) PRT_CNT_CFG.WRAP_MODE =
    s.get (PRT_CNT_CFG.key p) PRT_CNT_CFG.WRAP_MODE := rfl
  have hport0 := h0.1.2.1
  generalize (s.updPort p fun y => { y with alf := alfTakenRec f y.alf }) = s0 at h0 hwrap hport0 hx
  have h1 := AlfStep.countPort s0 p 1 (k := 3) (by decide) [] [ALF_STATUS.ERR_RUN]
  obtain ⟨hcount, hothers, _⟩ := s0.countPort_counts p 1 (k := 3) (by decide)
  have h01 := h0.trans h1
  generalize s0.countPort p 3 1 = s1 at h1 h01 hcount hothers hx
  have h2 : AlfStep s1 (s1.put (ALF_STATUS.key p) ALF_STATUS.ERR_RUN 0) p [] [ALF_STATUS.ERR_RUN] id :=
    .putStatus s1 p _ _ _ (by simp)
  have e2 : (s1.put (ALF_STATUS.key p) ALF_STATUS.ERR_RUN 0).get (ALF_STATUS.key p) ALF_STATUS.ERR_RUN = 0 :=
    State.get_put_same s1 _ _ _ (by decide)
  have h02 := h01.trans h2
  dsimp only at hx
  generalize s1.put (ALF_STATUS.key p) ALF_STATUS.ERR_RUN 0 = s2 at h2 h02 e2 hx
  have hacc : (s2.alf p).accRun = min 8 ((s.alf p).accRun + 1) := by rw [State.alf, h02.1.2.1]; rfl
  have half2 := h02.isAlf.trans half
  have h3 : AlfStep s2 (s2.integrate (condPort p dRDI_A) (s2.alf p).rdi 5 5) p [dRDI_A] [ALF_STATUS.HIST] id :=
    .integrate s2 p _ _ _ _ half2 (by simp) (by simp)
  generalize s2.integrate (condPort p dRDI_A) (s2.alf p).rdi 5 5 = s3 at h3 hx
  have h4 : AlfStep s3 (if 8 ≤ (s2.alf p).accRun then s3.rule (condPort p dAFE) false else s3) p [dAFE] [ALF_STATUS.HIST] id ∧
      (if 8 ≤ (s2.alf p).accRun then s3.rule (condPort p dAFE) false else s3).decided (condPort p dAFE) =
        if 7 ≤ (s.alf p).accRun then false else s3.decided (condPort p dAFE) := by
    rw [hacc]
    by_cases h7 : 7 ≤ (s.alf p).accRun
    · rw [if_pos (by omega : 8 ≤ min 8 ((s.alf p).accRun + 1)), if_pos h7]
      exact ⟨.rule s3 p _ _ (h3.isAlf.trans half2) (by simp) (by simp), s3.rule_decided_same _ _⟩
    · rw [if_neg (by omega : ¬ 8 ≤ min 8 ((s.alf p).accRun + 1)), if_neg h7]
      exact ⟨.refl s3 p _ _, rfl⟩
  obtain ⟨h4, d4⟩ := h4
  generalize (if 8 ≤ (s2.alf p).accRun then s3.rule (condPort p dAFE) false else s3) = s4 at h4 d4 hx
  obtain ⟨h5, hdig⟩ := s4.alfOhc_step p (mfi := f.seq.toNat % 64) f.ohc [] []
  rw [← hx] at h5 hdig
  have hall := ((h02.mono (codes' := [dRDI_A, dAFE]) (gs := [ALF_STATUS.ERR_RUN, ALF_STATUS.HIST]) (by simp) (by simp)).trans
    (h3.mono (by simp) (by simp))).trans ((h4.mono (by simp) (by simp)).trans (h5.mono (List.nil_subset _) (List.nil_subset _)))
  clear_value x
  have hcnts : (x.port p).cnts = (s1.port p).cnts := by rw [hall.1.2.1]; rfl
  refine ⟨⟨⟨hall.1.1, ?_, hall.1.2.2⟩, hall.2⟩, ⟨(hcount.since (by rw [hport0]) hwrap).kept (by rw [hcnts]), fun k hk => ?_⟩, ?_, ?_, hdig⟩
  · rw [hcnts]
    exact hall.1.2.1
  · rw [hcnts, hothers k hk, hport0]
  · exact (h5.2 _ (by decide) (by simp)).trans ((h4.2 _ (by decide) (by decide)).trans ((h3.2 _ (by decide) (by decide)).trans e2))
  · rw [h5.1.2.2 _ (by simp), d4, h3.1.2.2 _ (by decide), h02.1.2.2 _ (by simp)]

/-- With no resize behind it, no VER_PROF is judged. -/
theorem State.alfVerProf_none (s : State) (p seq profile : Nat) (h : (s.alf p).resizeAt = none) : s.alfVerProf p seq profile = s := by
  unfold State.alfVerProf
  rw [h]

/-- An accepted frame of a port that nothing holds and that has not been resized. -/
theorem State.alfAccept_eq (s : State) (p : Port) (f : AlfRx) (half : s.isAlf p = true) (hheld : s.alfHeld p = false)
    (hresize : (s.alf p).resizeAt = none) : s.alfAccept p f =
      (let s5 := if f.seq.toNat % 64 = 0 then (s.alfTaken p f).alfDigestCheck p f.seq.toNat f.ohc.toNat else s.alfTaken p f
       if f.flags.toNat.testBit 14 then s5.alfFreeze p 1 else s5) := by
  have hport := (s.alfTaken_shows p f half).1.1.2.1
  have hnone : ((s.alfTaken p f).alf p).resizeAt = none := by
    rw [State.alf, hport]
    exact hresize
  have hver := (s.alfTaken p f).alfVerProf_none p f.seq.toNat f.profile hnone
  have hrow : s.alfAccept p f = (let s4 := (s.alfTaken p f).alfVerProf p f.seq.toNat f.profile
       let s5 := if f.seq.toNat % 64 = 0 then s4.alfDigestCheck p f.seq.toNat f.ohc.toNat else s4
       if f.flags.toNat.testBit 14 then s5.alfFreeze p 1 else s5) := by
    unfold State.alfAccept
    dsimp only
    rw [hheld]
    rfl
  rw [hrow, hver]

/-- The map for a frame of a port that has not been resized. -/
theorem State.alfMapFor_plain (s : State) (p seq : Nat) (h : (s.alf p).resizeAt = none) : s.alfMapFor p seq = s.alfUse p := by
  unfold State.alfMapFor
  rw [h]


/-! ### The groups of a port -/

theorem PortWork.bonds {s x : State} {p : Nat} {ks : List Nat} (h : PortWork s x p ks) : x.bonds = s.bonds := by
  obtain ⟨⟨y, hy, hx⟩, _⟩ := h
  rw [hx, hy.1]

theorem groupKeys_apart (p : Port) : (∀ g, g < 12 → BND_CFG.key g ∉ [ALF_STATUS.key p, ALF_DIGEST_RX.key p] ∧ noteReg (BND_CFG.key g) = false) ∧
    ∀ g, g < 24 → HRP_CFG.key g ∉ [ALF_STATUS.key p, ALF_DIGEST_RX.key p] ∧ noteReg (HRP_CFG.key g) = false := by
  have hnote : (∀ g, g < 12 → noteReg (BND_CFG.key g) = false) ∧ ∀ g, g < 24 → noteReg (HRP_CFG.key g) = false := by decide +kernel
  refine ⟨fun g hg => ⟨?_, hnote.1 g hg⟩, fun g hg => ⟨?_, hnote.2 g hg⟩⟩
  · simp only [BND_CFG.key, ALF_STATUS.key, ALF_DIGEST_RX.key, List.mem_cons, List.not_mem_nil, or_false, not_or]
    omega
  · simp only [HRP_CFG.key, ALF_STATUS.key, ALF_DIGEST_RX.key, List.mem_cons, List.not_mem_nil, or_false, not_or]
    omega

/-- A port of no group is of none after the work of its frame. -/
theorem State.groupFrame_none {s x : State} {p : Port} (h : PortWork s x p [ALF_STATUS.key p, ALF_DIGEST_RX.key p])
    (hbond : s.bondOf p = none) (hhrp : s.hrpOf p = none) (f : AlfRx) (seq : Nat) : x.groupFrame p f seq = x := by
  obtain ⟨hbnd, hhrpk⟩ := groupKeys_apart p
  have hb : x.bondOf p = none := by
    refine List.findSome?_eq_none_iff.mpr fun g hg => ?_
    obtain ⟨hk, hn⟩ := hbnd g (List.mem_range.mp hg)
    have hold := List.findSome?_eq_none_iff.mp hbond g hg
    have hon : x.bondOn g = s.bondOn g := by rw [State.bondOn, State.bondOn, h.get hk hn]
    have hmem : x.bondMembers g = s.bondMembers g := by rw [State.bondMembers, State.bondMembers, State.bond, State.bond, h.bonds]
    rw [hon, hmem]
    exact hold
  have hr : x.hrpOf p = none := by
    refine List.findSome?_eq_none_iff.mpr fun g hg => ?_
    obtain ⟨hk, hn⟩ := hhrpk g (List.mem_range.mp hg)
    have hold := List.findSome?_eq_none_iff.mp hhrp g hg
    have hmain : x.hrpMain g = s.hrpMain g := h.get hk hn _
    have hother : x.hrpOther g = s.hrpOther g := h.get hk hn _
    rw [State.hrpOn, hmain, hother]
    exact hold
  have hexp : x.groupExpect p = none := by
    unfold State.groupExpect
    rw [hb, hr]
  have hcheck : ∀ flags, x.groupCheck p flags = x := fun flags => by
    unfold State.groupCheck
    rw [hexp]
  unfold State.groupFrame
  dsimp only
  rw [hcheck, hb]

/-! ### The frame -/

/-- What an accepted frame leaves, whatever its digest brings. -/
def AlfAccepted (s : State) (p : Port) (f : AlfRx) (e : Nat) (x : State) : Prop :=
  PortWork s x p [ALF_STATUS.key p, ALF_DIGEST_RX.key p] ∧ (x.alf p).lastSeq = e ∧ CountsUp s x p 2 f.invalidBlocks ∧
  CountsUp s x p 3 1 ∧ x.get (ALF_STATUS.key p) ALF_STATUS.ERR_RUN = 0 ∧ (x.alf p).accRun = min 8 ((s.alf p).accRun + 1) ∧
  (x.alf p).rdi = runOn (s.alf p).rdi (f.flags.toNat.testBit 15) ∧
  x.decided (condPort p dAFE) = (if 7 ≤ (s.alf p).accRun then false else s.decided (condPort p dAFE))

/-- A step that writes only what a freeze writes, and moves nothing that a frame counts, leaves it accepted. -/
theorem AlfAccepted.kept {s t x : State} {p : Port} {f : AlfRx} {e : Nat} {a : Option AlfMap} {back : List Nat} {until_ : Nat}
    (h : AlfAccepted s p f e t) (hx : AlfStep t x p [dMAP_MISMATCH] freezeFields fun y => { y with alf := { y.alf with
      agreed := a, restoring := back, restoreUntil := until_ } }) : AlfAccepted s p f e x := by
  obtain ⟨hwork, hseq, c2, c3, herr, hacc, hrdi, hafe⟩ := h
  have hport := hx.1.2.1
  have hcnts : (x.port p).cnts = (t.port p).cnts := by rw [hport]
  refine ⟨hwork.trans hx.1.1, ?_, c2.kept (by rw [hcnts]), c3.kept (by rw [hcnts]), (hx.2 _ (by decide) (by decide)).trans herr, ?_, ?_,
    (hx.1.2.2 _ (by decide)).trans hafe⟩
  · rw [State.alf, hport]
    exact hseq
  · rw [State.alf, hport]
    exact hacc
  · rw [State.alf, hport]
    exact hrdi

/-- The counts of a frame leave what an unfrozen port reads. -/
theorem State.countPort_keeps (s : State) (p n : Nat) {k : Nat} (hk : k < 4) :
    (s.countPort p k n).alf p = s.alf p ∧ (s.countPort p k n).alfHeld p = s.alfHeld p ∧ (s.countPort p k n).isAlf p = s.isAlf p := by
  have hstep := s.countPort_step p n hk [] []
  have hframe := (s.countPort_frame p n ⟨k, hk⟩).1
  dsimp only at hframe
  generalize s.countPort p k n = x at hstep hframe
  refine ⟨by rw [State.alf, hstep.2.1]; rfl, ?_, ?_⟩
  · rw [hframe]; rfl
  · rw [hframe]; rfl

/-- A frame of a started port, by how it is taken. -/
theorem State.alfFrame_row (s : State) (p : Port) (f : AlfRx) (half : s.isAlf p = true) (hstarted : (s.alf p).started = true) :
    let s1 := (s.countPort p 2 f.invalidBlocks).cvuFail p (f.present && !f.okExpected)
    let take := alfTake (((s.alf p).lastSeq + 1) % 2 ^ 32) f
    (take = .accept → s.alfFrame p f = s1.alfAccept p { f with seq := BitVec.ofNat 32 ((s.alf p).lastSeq + 1) }) ∧
    (take = .duplicate → s.alfFrame p f = s1) ∧ (take = .errored → s.alfFrame p f = s1.alfErrored p) := by
  intro s1 take
  have hframe := (s.countPort_keeps p f.invalidBlocks (k := 2) (by decide)).1
  have halfs : s1.alf p = s.alf p := by
    rw [← hframe]
    change ((s.countPort p 2 f.invalidBlocks).cvuFail p (f.present && !f.okExpected)).alf p = _
    generalize s.countPort p 2 f.invalidBlocks = t
    have hp : (t.cvuFail p (f.present && !f.okExpected)).ports = t.ports := by rw [(t.cvuFail_onlyRegs p _).1]
    rw [State.alf, State.alf, State.port, State.port, hp]
  have hon : ¬ ¬ (s1.alf p).started = true := by
    rw [halfs, hstarted]
    decide
  have htake : alfTake (((s1.alf p).lastSeq + 1) % 2 ^ 32) f = take := by rw [halfs]
  refine ⟨fun h => ?_, fun h => ?_, fun h => ?_⟩
  all_goals
    refine (if_neg (by simp [half])).trans ((if_neg hon).trans ?_)
    change (match alfTake (((s1.alf p).lastSeq + 1) % 2 ^ 32) f with
      | .accept => _ | .slip n => _ | .duplicate => _ | .errored => _) = _
    rw [htake, h]
  rw [halfs]

/-! ### Repeated and errored frames -/

/-- Whether the port is held reads its lanes and the defects decided. -/
theorem State.alfHeld_of_rd {s x : State} (p : Nat) (h : ∀ q, x.rd (PRT_CFG.key q) = s.rd (PRT_CFG.key q))
    (hd : ∀ c, x.decided c = s.decided c) : x.alfHeld p = s.alfHeld p := by
  have hlane : ∀ l c, x.condLane l c = s.condLane l c := fun l c => by
    rw [State.condLane, State.condLane, State.laneEntity, State.laneEntity, State.portOfLane, State.portOfLane, State.isMember,
      State.isMember, State.isQuad, State.isQuad, State.on_of_rd (h l), State.on_of_rd (h _)]
  rw [State.alfHeld, State.alfHeld, State.lanesOf, State.lanesOf, State.isQuad, State.isQuad, State.on_of_rd (h p), hd]
  simp only [hlane, hd]

/-- The counts of every frame: the port keeps all but its counters. -/
def AlfCounted (s u : State) (p n : Nat) : Prop :=
  PortWork s u p [s.portUnit p] ∧ u.port p = { s.port p with cnts := (u.port p).cnts } ∧ CountsUp s u p 2 n ∧
  (∀ k, k ≠ 2 → (u.port p).cnts.getD k {} = (s.port p).cnts.getD k {}) ∧ ∀ c, u.decided c = s.decided c

theorem State.alfCounts_counted (s : State) (p : Port) (n : Nat) (bad : Bool) :
    AlfCounted s ((s.countPort p 2 n).cvuFail p bad) p n := by
  have hstep := s.countPort_step p n (k := 2) (by decide) [s.portUnit p] []
  obtain ⟨hcount, hother, _⟩ := s.countPort_counts p n (k := 2) (by decide)
  have hframe := (s.countPort_frame p n ⟨2, by decide⟩).1
  dsimp only at hframe
  generalize s.countPort p 2 n = t at hstep hcount hother hframe
  have hregs := t.cvuFail_onlyRegs p bad
  have hunit : t.portUnit p = s.portUnit p := by rw [hframe]; rfl
  rw [hunit] at hregs
  generalize t.cvuFail p bad = u at hregs
  have hport : u.port p = t.port p := by rw [State.port, State.port, hregs.1]
  refine ⟨hstep.1.trans ((Noted.ofRegs hregs).portWork p), ?_, hcount.kept (by rw [hport]), fun k hk => by rw [hport, hother k hk], fun c => ?_⟩
  · rw [hport]
    exact hstep.2.1
  · rw [hregs.1, hframe]
    rfl

/-- An errored frame of a port that nothing holds. -/
theorem State.alfErrored_shows (s : State) (p : Port) (half : s.isAlf p = true) (hheld : s.alfHeld p = false) :
    let x := s.alfErrored p
    let n := min 17 (s.get (ALF_STATUS.key p) ALF_STATUS.ERR_RUN + 1)
    FrameStep s x p [ALF_STATUS.key p] [dAFE] (fun y => { y with
      cnts := (x.port p).cnts, alf := { y.alf with lastSeq := (y.alf.lastSeq + 1) % 2 ^ 32, accRun := 0 } }) ∧
    (CountsUp s x p 0 1 ∧ ∀ k, k ≠ 0 → (x.port p).cnts.getD k {} = (s.port p).cnts.getD k {}) ∧
    x.get (ALF_STATUS.key p) ALF_STATUS.ERR_RUN = n ∧
    x.decided (condPort p dAFE) = (decide (n = 17) || s.decided (condPort p dAFE)) := by
  intro x n
  have hx : x = (
      let t := ((s.countPort p 0 1).errBlocks (layKey p 5 0 0 0 0) false 1).updPort p fun y => { y with alf := { y.alf with
        lastSeq := (y.alf.lastSeq + 1) % 2 ^ 32, accRun := 0 } }
      let s2 := t.put (ALF_STATUS.key p) ALF_STATUS.ERR_RUN n
      if 17 ≤ n then s2.rule (condPort p dAFE) true else s2) := by
    change s.alfErrored p = _
    unfold State.alfErrored
    dsimp only
    rw [hheld]
    simp only [Bool.false_eq_true, not_false_eq_true, and_true, if_false]
    rfl
  have h1 := s.countPort_step p 1 (k := 0) (by decide) [ALF_STATUS.key p] []
  obtain ⟨hcount, hother, hregs⟩ := s.countPort_counts p 1 (k := 0) (by decide)
  dsimp only at hx
  generalize s.countPort p 0 1 = s1 at h1 hcount hother hregs hx
  have hpm := s1.errBlocks_onlyPm (layKey p 5 0 0 0 0) false 1
  generalize s1.errBlocks (layKey p 5 0 0 0 0) false 1 = s2 at hpm hx
  have h2 : FrameStep s1 s2 p [ALF_STATUS.key p] [] id := .ofPm hpm p _ _
  have h3 : FrameStep s2 (s2.updPort p fun y => { y with alf := { y.alf with lastSeq := (y.alf.lastSeq + 1) % 2 ^ 32, accRun := 0 } })
    p [ALF_STATUS.key p] [] _ := .updPort s2 p _ _ _
  generalize (s2.updPort p fun y => { y with alf := { y.alf with lastSeq := (y.alf.lastSeq + 1) % 2 ^ 32, accRun := 0 } }) = s3 at h3 hx
  have h4 : FrameStep s3 (s3.put (ALF_STATUS.key p) ALF_STATUS.ERR_RUN n) p [ALF_STATUS.key p] [] id := .put s3 p _ _ _ _ (by simp)
  have e4 : (s3.put (ALF_STATUS.key p) ALF_STATUS.ERR_RUN n).get (ALF_STATUS.key p) ALF_STATUS.ERR_RUN = n :=
    (State.get_put_same s3 _ _ _ (by decide)).trans (Nat.mod_eq_of_lt (lt_of_le_of_lt (Nat.min_le_left ..) (by decide)))
  generalize s3.put (ALF_STATUS.key p) ALF_STATUS.ERR_RUN n = s4 at h4 e4 hx
  have h14 := (h1.trans h2).trans (h3.trans h4)
  have half4 : s4.isAlf p = true := by
    obtain ⟨hprt, hn, _⟩ := alfKeys_apart p
    rw [State.isAlf, State.family, h14.get (by simp only [List.mem_cons, not_or] at hprt; simpa using hprt.1) hn]
    exact half
  have h5 : FrameStep s4 x p [ALF_STATUS.key p] [dAFE] id ∧ x.get (ALF_STATUS.key p) ALF_STATUS.ERR_RUN = n ∧
      x.decided (condPort p dAFE) = (decide (n = 17) || s4.decided (condPort p dAFE)) := by
    by_cases h17 : n = 17
    · rw [hx, if_pos (Nat.le_of_eq h17.symm)]
      refine ⟨.rule s4 p dAFE true ?_ (by simp), ?_, ?_⟩
      · rcases s4.defectHist_alf dAFE p.isLt half4 with h | ⟨i, h⟩
        · rw [h]
          exact .refl s4 _
        · rw [h]
          exact .put s4 _ _ _ (by simp)
      · exact ((AlfStep.rule (codes := [dAFE]) (fs := [ALF_STATUS.HIST]) s4 p dAFE true half4 (by simp) (by simp)).2 _ (by decide)
          (by decide)).trans e4
      · rw [s4.rule_decided_same, h17]
        rfl
    · have hle : n ≤ 17 := Nat.min_le_left ..
      rw [hx, if_neg (by omega)]
      exact ⟨.refl s4 p _ _, e4, by simp [h17]⟩
  obtain ⟨h5, e5, d5⟩ := h5
  have hall := (h14.mono (List.Subset.refl _) (List.nil_subset _)).trans h5
  clear_value x n
  have hcnts : (x.port p).cnts = (s1.port p).cnts := by rw [hall.2.1]; rfl
  refine ⟨⟨hall.1, ?_, hall.2.2⟩, ⟨hcount.kept (by rw [hcnts]), fun k hk => by rw [hcnts, hother k hk]⟩, e5, ?_⟩
  · rw [hcnts]
    exact hall.2.1
  · rw [d5, h14.2.2 _ (by simp)]

/-- No register that configures a port is the unit of a port, nor one that notes. -/
theorem State.prtCfg_apart (s : State) (p : Port) (q : Nat) : PRT_CFG.key q ∉ [s.portUnit p] ∧ noteReg (PRT_CFG.key q) = false := by
  have hphys : s.physOf (framerPos p) < 2 ^ 5 := Fld.get_lt _ _
  constructor
  · have hne : PRT_CFG.key q ≠ s.portUnit p := by
      unfold PRT_CFG.key State.portUnit CVU_P.key
      omega
    simpa using hne
  · unfold noteReg PRT_CFG.key OBS_DROP_CNT.key OBS_TRACE_STATUS.key
    simp
    omega

theorem State.alfStatus_not_portUnit (s : State) (p : Port) :
    ALF_STATUS.key p ∉ [s.portUnit p] ∧ PRT_CNT_CFG.key p ∉ [s.portUnit p] := by
  have hphys : s.physOf (framerPos p) < 2 ^ 5 := Fld.get_lt _ _
  have hst : ALF_STATUS.key p ≠ s.portUnit p := by
    unfold ALF_STATUS.key State.portUnit CVU_P.key
    omega
  have hcnt : PRT_CNT_CFG.key p ≠ s.portUnit p := by
    unfold PRT_CNT_CFG.key State.portUnit CVU_P.key
    omega
  exact ⟨by simpa using hst, by simpa using hcnt⟩

/-- An errored frame, with the counts of every frame before it. -/
theorem State.alfErrored_counted (s : State) {u : State} (p : Port) {m : Nat} (half : s.isAlf p = true) (hheld : s.alfHeld p = false)
    (hu : AlfCounted s u p m) :
    let x := u.alfErrored p
    let st := ALF_STATUS.key p
    let n := min 17 (s.get st ALF_STATUS.ERR_RUN + 1)
    PortWork s x p [st, s.portUnit p] ∧ CountsUp s x p 0 1 ∧ CountsUp s x p 2 m ∧
    (x.alf p).lastSeq = ((s.alf p).lastSeq + 1) % 2 ^ 32 ∧ (x.alf p).accRun = 0 ∧ x.get st ALF_STATUS.ERR_RUN = n ∧
    x.decided (condPort p dAFE) = (decide (n = 17) || s.decided (condPort p dAFE)) := by
  intro x st n
  obtain ⟨hwork, hport, hc, hothers, hdec⟩ := hu
  obtain ⟨_, _, _, ncnt, _, _, _, nst, _⟩ := alfKeys_apart p
  obtain ⟨kst, kcnt⟩ := s.alfStatus_not_portUnit p
  have hcfg : ∀ q, u.rd (PRT_CFG.key q) = s.rd (PRT_CFG.key q) := fun q =>
    hwork.rd (s.prtCfg_apart p q).1 (s.prtCfg_apart p q).2
  have halfu : u.isAlf p = true := by
    rw [State.isAlf, State.family, State.get_of_rd (hcfg p)]
    exact half
  have hstep := u.alfErrored_shows p halfu ((State.alfHeld_of_rd p hcfg hdec).trans hheld)
  dsimp only at hstep
  change FrameStep u x p _ _ _ ∧ (CountsUp u x p 0 1 ∧ ∀ k, k ≠ 0 → (x.port p).cnts.getD k {} = _) ∧ x.get _ _ = _ ∧ x.decided _ = _ at hstep
  clear_value x
  rw [hwork.get kst nst, hdec] at hstep
  obtain ⟨⟨hwork2, hport2, _⟩, ⟨hc0, hothers2⟩, hrun, hafe⟩ := hstep
  have hall : PortWork s x p [st, s.portUnit p] := (hwork.mono (by simp)).trans (hwork2.mono (by simp [st]))
  refine ⟨hall, hc0.since (hothers 0 (by decide)) (hwork.get kcnt ncnt _), hc.kept (hothers2 2 (by decide)), ?_, ?_, hrun, hafe⟩
  · rw [State.alf, hport2, hport]
    rfl
  · rw [State.alf, hport2]

/-! ### An accepted frame and its digest -/

/-- An accepted frame of a started port that nothing holds: what it leaves before its digest is judged. -/
theorem State.alfFrame_accepted (s : State) (p : Port) (f : AlfRx) (half : s.isAlf p = true) (hheld : s.alfHeld p = false)
    (hfrozen : s.alfFrozen p = false) (hstarted : (s.alf p).started = true) (hresize : (s.alf p).resizeAt = none)
    (hpresent : f.present = true) (hok : f.okExpected = true) :
    let e := ((s.alf p).lastSeq + 1) % 2 ^ 32
    ∃ t, AlfAccepted s p f e t ∧ t.isAlf p = true ∧ t.alfFrozen p = false ∧ t.alfUse p = s.alfUse p ∧ (t.alf p).resizeAt = none ∧
      (e % 64 = 0 → t.get (ALF_DIGEST_RX.key p) ALF_DIGEST_RX.D_USE = f.ohc.toNat) ∧
      s.alfFrame p f = (let s5 := if e % 64 = 0 then t.alfDigestCheck p e f.ohc.toNat else t
        if f.flags.toNat.testBit 14 then s5.alfFreeze p 1 else s5) := by
  intro e
  have htake : alfTake e f = .accept := if_pos ⟨hpresent, hok⟩
  have hframe := (s.alfFrame_row p f half hstarted).1 htake
  have hseq : (BitVec.ofNat 32 ((s.alf p).lastSeq + 1)).toNat = e := rfl
  obtain ⟨halfs, hheld1, half1⟩ := s.countPort_keeps p f.invalidBlocks (k := 2) (by decide)
  have hcount := AlfStep.countPort s p f.invalidBlocks (k := 2) (by decide) [] []
  obtain ⟨c2, o2, _⟩ := s.countPort_counts p f.invalidBlocks (k := 2) (by decide)
  rw [hpresent, hok] at hframe
  change s.alfFrame p f = (s.countPort p 2 f.invalidBlocks).alfAccept p { f with seq := BitVec.ofNat 32 ((s.alf p).lastSeq + 1) } at hframe
  generalize s.countPort p 2 f.invalidBlocks = s1 at hframe halfs hheld1 half1 hcount c2 o2
  rw [s1.alfAccept_eq p _ (half1.trans half) (hheld1.trans hheld) (halfs ▸ hresize)] at hframe
  dsimp only at hframe
  rw [hseq] at hframe
  obtain ⟨hstep, ⟨c3, o3⟩, herr, hafe, hdig⟩ := s1.alfTaken_shows p { f with seq := BitVec.ofNat 32 ((s.alf p).lastSeq + 1) } (half1.trans half)
  dsimp only at hdig
  rw [hseq] at hdig
  generalize s1.alfTaken p { f with seq := BitVec.ofNat 32 ((s.alf p).lastSeq + 1) } = t at hframe hstep c3 o3 herr hafe hdig
  obtain ⟨hfrozen1, huse1⟩ := hcount.alfUse hfrozen (by simp) (by simp) (by rw [halfs])
  have hport := hstep.1.2.1
  obtain ⟨hfrozen2, huse2⟩ := hstep.alfUse hfrozen1 (by decide) (by decide) (by rw [State.alf, hport]; rfl)
  obtain ⟨_, _, kcnt, ncnt, _⟩ := alfKeys_apart p
  refine ⟨t, ⟨hcount.1.1.trans hstep.1.1, ?_, c2.kept (o3 2 (by decide)), c3.since (o2 3 (by decide)) (hcount.1.get kcnt ncnt _), herr, ?_, ?_, ?_⟩,
    hstep.isAlf.trans (half1.trans half), hfrozen2, huse2.trans huse1, ?_, hdig, hframe⟩
  · rw [State.alf, hport]
    rfl
  · rw [State.alf, hport, ← halfs]
    rfl
  · rw [State.alf, hport, ← halfs]
    rfl
  · rw [hafe, halfs, hcount.1.2.2 _ (by simp)]
  · rw [State.alf, hport]
    exact halfs ▸ hresize

/-- A digest that agrees makes the map in use the agreed one. -/
theorem State.alfDigestCheck_agrees (s : State) (p : Port) (e : Nat) {ohc : Nat} (hfrozen : s.alfFrozen p = false)
    (hresize : (s.alf p).resizeAt = none) (h : (s.alfUse p).digest = ohc) :
    let x := s.alfDigestCheck p e ohc
    AlfStep s x p [dMAP_MISMATCH] freezeFields (fun y => { y with alf := { y.alf with
      agreed := some (s.alfUse p), restoring := (s.alf p).restoring, restoreUntil := (s.alf p).restoreUntil } }) ∧
    x.alfFrozen p = false ∧ (x.alf p).agreed = some (s.alfUse p) ∧ x.regs = s.regs := by
  intro x
  have hx : x = s.updPort p fun y => { y with alf := { y.alf with agreed := some (s.alfUse p) } } := by
    change s.alfDigestCheck p e ohc = _
    unfold State.alfDigestCheck
    rw [s.alfMapFor_plain p e hresize]
    refine (if_pos h).trans ?_
    rw [hfrozen]
    rfl
  have h1 : AlfStep s x p [dMAP_MISMATCH] freezeFields _ := hx ▸ AlfStep.updPort s p _ _ _
  refine ⟨⟨⟨h1.1.1, h1.1.2.1, h1.1.2.2⟩, h1.2⟩, by rw [hx]; exact hfrozen, by rw [State.alf, h1.1.2.1], by rw [hx]; rfl⟩

/-- A frozen port: what a freeze leaves, with the frame accepted. -/
theorem AlfAccepted.freeze {s t : State} {p : Port} {f : AlfRx} {e cause : Nat} (h : AlfAccepted s p f e t) (half : t.isAlf p = true)
    (hfrozen : t.alfFrozen p = false) (hcause : cause < 2) :
    let x := t.alfFreeze p cause
    AlfAccepted s p f e x ∧ x.alfFrozen p = true ∧ x.get (ALF_STATUS.key p) ALF_STATUS.CAUSE = cause ∧
      x.decided (condPort p dMAP_MISMATCH) = true ∧ (x.alf p).agreed.isSome = true := by
  intro x
  obtain ⟨⟨a, back, hstep⟩, hf, hc, hd⟩ := t.alfFreeze_shows p hcause half hfrozen
  refine ⟨h.kept hstep, hf, hc, hd, ?_⟩
  rw [State.alf, hstep.1.2.1]
  rfl

end Sys2Proof.Machine

open Sys2Proof Sys2Proof.Machine

/-- Settles O52: an accepted frame is followed to its digest, which then agrees, or freezes the port. -/
theorem alfFrames : Obligations.AlfFrames := by
  intro s p f hcarry half hbond hhrp hheld hfrozen hstarted hresize o e unit st n taken frozen
  have hexec : exec (.alfFrameReceive p f) s = .next (s.alfArrives p f).settle := by
    rw [← State.datapath_carrying hcarry fun s => s.alfArrives p f]
    rfl
  have harrives : ∀ seq, s.alfTakes p f = some seq → s.alfArrives p f = (s.alfFrame p f).groupFrame p f seq := fun seq h => by
    unfold State.alfArrives
    rw [if_neg (by simp [half]), h]
  have halone : s.alfTakes p f = none → s.alfArrives p f = s.alfFrame p f := fun h => by
    unfold State.alfArrives
    rw [if_neg (by simp [half]), h]
  have htakes : s.alfTakes p f = match alfTake e f with
      | .accept => some e
      | .slip _ => some f.seq.toNat
      | _ => none := by
    unfold State.alfTakes
    rw [hstarted]
    rfl
  refine ⟨fun hpresent hok => ?_, fun hdup => ?_, fun herr => ?_⟩
  · have htake : alfTake e f = .accept := if_pos ⟨hpresent, hok⟩
    rw [htake] at htakes
    obtain ⟨t, hacc, halft, hfrozent, huse, hresizet, hdig, hframe⟩ :=
      s.alfFrame_accepted p f half hheld hfrozen hstarted hresize hpresent hok
    have hanswer : ∀ x, AlfAccepted s p f e x → s.alfFrame p f = x → exec (.alfFrameReceive p f) s = .next x.settle := fun x hx hxf => by
      rw [hexec, harrives e htakes, hxf, State.groupFrame_none hx.1 hbond hhrp]
    refine ⟨fun hm h14 => ?_, fun hm h14 hdigest => ?_, fun hm h14 hdigest => ?_, fun hm h14 => ?_⟩
    · refine answers_of (hanswer t hacc ?_) ⟨hacc, hfrozent⟩
      rw [hframe, if_neg hm, h14]
      rfl
    · obtain ⟨hstep, hfro, hagreed, hregs⟩ := t.alfDigestCheck_agrees p e (ohc := f.ohc.toNat) hfrozent hresizet (by rw [huse]; exact hdigest)
      have hx := hacc.kept hstep
      refine answers_of (hanswer _ hx ?_) ⟨hx, hfro, by rw [hagreed, huse], by rw [State.get_congr hregs]; exact hdig hm⟩
      rw [hframe, if_pos hm, h14]
      rfl
    · have hx := hacc.freeze halft hfrozent (cause := 0) (by decide)
      refine answers_of (hanswer _ hx.1 ?_) hx
      have hcheck : t.alfDigestCheck p e f.ohc.toNat = t.alfFreeze p 0 := by
        unfold State.alfDigestCheck
        rw [t.alfMapFor_plain p e hresizet]
        exact if_neg (by rw [huse]; exact hdigest)
      rw [hframe, if_pos hm, h14, hcheck]
      rfl
    · have hx := hacc.freeze halft hfrozent (cause := 1) (by decide)
      refine answers_of (hanswer _ hx.1 ?_) hx
      rw [hframe, if_neg hm, h14]
      rfl
  · rw [hdup] at htakes
    have hframe := (s.alfFrame_row p f half hstarted).2.1 hdup
    obtain ⟨hwork, hport, hc, _⟩ := s.alfCounts_counted p f.invalidBlocks (f.present && !f.okExpected)
    refine answers_of (x := s.alfFrame p f) (by rw [hexec, halone htakes]) ?_
    rw [hframe]
    exact ⟨hwork, hc, hport⟩
  · rw [herr] at htakes
    have hframe := (s.alfFrame_row p f half hstarted).2.2 herr
    refine answers_of (x := s.alfFrame p f) (by rw [hexec, halone htakes]) ?_
    rw [hframe]
    exact s.alfErrored_counted p half hheld (s.alfCounts_counted p f.invalidBlocks (f.present && !f.okExpected))
end

section
/-! PROOF. O57: retired slots and isolated slices, the start and the three steps of a move, and the pages of a resized pool
(R35, R36, R260, R261, R266). -/

namespace Sys2Proof.Machine

/-! ### Tables changed entry by entry -/

theorem Tbl.find_mapKeyed {α : Type} (t : Tbl α) (g : Nat → α → α) (k : Nat) :
    Tbl.find (List.map (fun e : Nat × α => (e.1, g e.1 e.2)) t) k = (t.find k).map (g k) := by
  induction t with
  | nil => rfl
  | cons e t ih =>
    obtain ⟨j, v⟩ := e
    by_cases h : j = k
    · simp [Tbl.find, h]
    · simpa [Tbl.find, h] using ih

theorem Tbl.find_filterKeyed {α : Type} (t : Tbl α) (keep : Nat → Bool) (k : Nat) :
    Tbl.find (List.filter (fun e : Nat × α => keep e.1) t) k = if keep k then t.find k else none := by
  induction t with
  | nil => simp [Tbl.find]
  | cons e t ih =>
    obtain ⟨j, v⟩ := e
    by_cases h : j = k
    · subst h
      cases hk : keep j <;> simp [Tbl.find, hk, ih]
    · cases hk : keep j <;> simp [Tbl.find, hk, h, ih]

/-- MOVING of the entries of some slots. -/
def markMoving (start len : Nat) (on : Bool) (j : Nat) (v : Egress) : Egress :=
  if start ≤ j ∧ j < start + len then { v with moving := on } else v

theorem Tbl.find_marked (t : Tbl Egress) (start len : Nat) (on : Bool) (k : Nat) :
    Tbl.find (List.map (fun e : Nat × Egress => if start ≤ e.1 ∧ e.1 < start + len then (e.1, { e.2 with moving := on }) else e) t) k =
      (t.find k).map (markMoving start len on k) := by
  rw [← Tbl.find_mapKeyed]
  congr 1
  refine List.map_congr_left fun e _ => ?_
  unfold markMoving
  split <;> rfl

/-- The entries of one run copied to those of another. -/
def copySlots (t : Tbl Egress) (old new n : Nat) : Tbl Egress :=
  (List.range n).foldl (fun (t : Tbl Egress) i =>
    match t.find (old + i) with
    | some e => t.put (new + i) e
    | none => t) t

theorem copySlots_succ (t : Tbl Egress) (old new n : Nat) :
    copySlots t old new (n + 1) = match (copySlots t old new n).find (old + n) with
      | some e => (copySlots t old new n).put (new + n) e
      | none => copySlots t old new n := by
  unfold copySlots
  rw [List.range_succ, List.foldl_append]
  rfl

theorem copySlots_other (t : Tbl Egress) (old new n : Nat) {j : Nat} (h : j < new ∨ new + n ≤ j) :
    (copySlots t old new n).find j = t.find j := by
  induction n with
  | zero => rfl
  | succ n ih =>
    rw [copySlots_succ]
    cases (copySlots t old new n).find (old + n) with
    | none => exact ih (by omega)
    | some e => exact (Tbl.find_put_other _ _ _ _ (by omega)).trans (ih (by omega))

/-- Runs that do not overlap: each entry of the old one stands in the new one. -/
theorem copySlots_copied (t : Tbl Egress) {old new n len : Nat} (hn : n ≤ len) (h : old + len ≤ new ∨ new + len ≤ old) {i : Nat} {v : Egress}
    (hi : i < n) (hv : t.find (old + i) = some v) : (copySlots t old new n).find (new + i) = some v := by
  induction n with
  | zero => omega
  | succ n ih =>
    rw [copySlots_succ, copySlots_other t old new n (by omega)]
    by_cases hlast : i = n
    · subst hlast
      rw [hv]
      exact Tbl.find_put_same _ _ _
    · have hbefore := ih (by omega) (by omega)
      cases t.find (old + n) with
      | none => exact hbefore
      | some e => exact (Tbl.find_put_other _ _ _ _ (by omega)).trans hbefore

/-! ### Slots and slices -/

theorem Noted.around_grate {s u : State} {ks : List Nat} (g : GrateSt) (h : Noted { s with grate := g } u ks) :
    ∃ y, Noted s y ks ∧ u = { y with grate := g } := by
  refine ⟨{ u with grate := s.grate }, ⟨congrArg (fun w : State => { w with grate := s.grate }) h.1, h.2.1, h.2.2⟩, ?_⟩
  have hg : u.grate = g := by rw [h.1]
  rw [← hg]

/-- A flag set with its event. -/
theorem State.flagged_shows (s : State) {k : Nat} {f : Fld} (source code entity : Nat) (hk : noteReg k = false) (hf : f.lo + f.width ≤ 32)
    (hw : f.width = 1) (hsource : source < 384) :
    let x := (s.put k f 1).event source code true entity
    Noted s x [k] ∧ x.on k f = true ∧ x.raised source code true := by
  intro x
  have h1 : Noted s (s.put k f 1) [k] := .put s _ _ _ (by simp)
  have h2 : Noted (s.put k f 1) x [] := .event _ _ _ _ _ hsource _
  have hon : (s.put k f 1).on k f = true := State.on_put_one _ _ _ hf hw
  exact ⟨h1.trans (h2.mono (by simp)), (h2.on (by simp) hk _).trans hon, State.raised_event _ _ _ _ _ hsource⟩

theorem sliceStatus_apart (n : Fin 4) : noteReg (GRT_SLICE_STATUS.key n) = false := by
  revert n
  decide

theorem State.slotParity_eq (s : State) (x : Nat) : s.slotParity x =
    ((s.put (GRT_SLICE_STATUS.key (x / 12288)) GRT_SLICE_STATUS.PARITY_HIST 1).event (srcSlice (x / 12288)) 0x82 true x).arrive
      (.retire x) := by
  unfold State.slotParity sliceSlots
  rfl

/-- A flag set with its event, and an arrival of the next tick. -/
theorem State.flagged_arrives {s y : State} {k source code : Nat} {f : Fld} (a : Arrival) (h : Noted s y [k])
    (hon : y.on k f = true) (hraised : y.raised source code true) :
    (∃ z, Noted s z [k] ∧ y.arrive a = { z with arrivals := s.arrivals ++ [a] }) ∧ (y.arrive a).on k f = true ∧
    (y.arrive a).raised source code true :=
  ⟨⟨y, h, by rw [← h.arrivals]; rfl⟩, hon, hraised⟩

theorem State.slotParity_shows (s : State) (x : Fin 49152) :
    let t := s.slotParity x
    (∃ y, Noted s y [GRT_SLICE_STATUS.key (x.val / 12288)] ∧ t = { y with arrivals := s.arrivals ++ [.retire x] }) ∧
    t.on (GRT_SLICE_STATUS.key (x.val / 12288)) GRT_SLICE_STATUS.PARITY_HIST = true ∧
    t.raised (srcSlice (x.val / 12288)) 0x82 true := by
  intro t
  have hn : x.val / 12288 < 4 := by omega
  have ht : t = _ := s.slotParity_eq x
  obtain ⟨h1, hon, hraised⟩ := s.flagged_shows (f := GRT_SLICE_STATUS.PARITY_HIST) (srcSlice (x.val / 12288)) 0x82 x
    (sliceStatus_apart ⟨_, hn⟩) (by decide) rfl (by unfold srcSlice; omega)
  rw [ht]
  exact State.flagged_arrives _ h1 hon hraised

theorem State.sliceFailure_shows (s : State) (n : Fin 4) (h : n.val ∉ s.grate.isolated) :
    let x := s.sliceFailure n
    (∃ y, Noted s y [GRT_SLICE_STATUS.key n] ∧ x = { y with grate := { s.grate with isolated := s.grate.isolated ++ [n.val] } }) ∧
    x.on (GRT_SLICE_STATUS.key n) GRT_SLICE_STATUS.ISOLATED = true ∧ x.raised (srcSlice n) 0x81 true := by
  intro x
  have hx : x = (({ s with grate := { s.grate with isolated := s.grate.isolated ++ [n.val] } } : State).put (GRT_SLICE_STATUS.key n)
      GRT_SLICE_STATUS.ISOLATED 1).event (srcSlice n) 0x81 true n := if_neg (by simpa using h)
  obtain ⟨h1, hon, hraised⟩ := ({ s with grate := { s.grate with isolated := s.grate.isolated ++ [n.val] } } : State).flagged_shows
    (f := GRT_SLICE_STATUS.ISOLATED) (srcSlice n) 0x81 n (sliceStatus_apart n) (by decide) rfl (by unfold srcSlice; omega)
  rw [← hx] at h1 hon hraised
  exact ⟨h1.around_grate, hon, hraised⟩

/-! ### The start of a move -/

/-- No run of another owner stands in a free target. -/
theorem State.targetLost_of_free (s : State) (id : Nat) (m : Move) (h : s.targetFree id m = true) : s.targetLost id m = false := by
  unfold State.targetFree at h
  rw [Bool.and_eq_true, List.all_eq_true] at h
  unfold State.targetLost
  rw [List.any_eq_false]
  intro r hr hlost
  have hfree := h.1 r hr
  simp only [Bool.and_eq_true, decide_eq_true_eq, ne_eq, Option.isNone_iff_eq_none] at hlost
  obtain ⟨⟨⟨howner, hstart, hend⟩, hnone⟩, _⟩ := hlost
  simp only [Bool.or_eq_true, decide_eq_true_eq, howner, false_or] at hfree
  rcases hfree with hby | hapart
  · rw [Run.freeBy, hnone] at hby
    exact Bool.false_ne_true hby
  · omega

/-- The one planned move of the slice, whose target is free, is the one that may start. -/
theorem State.startMoves_only (s : State) (n : Nat) {id : Nat} {m : Move} (hmoves : s.grate.moves = [(id, m)]) (hslice : m.slice = n)
    (hstart : m.start = none) (hfree : s.targetFree id m = true) :
    s.startMoves n = if s.moveRoom = false then (s.put STK_HIST.key STK_HIST.MOVE_WAIT_HIST 1).event 261 0x82 true 0
      else s.makeEntries id := by
  have hlost : s.grate.moves.filter (fun m => decide (m.2.slice = n) && m.2.start.isNone && s.targetLost m.1 m.2) = [] := by
    rw [hmoves]
    exact List.filter_cons_of_neg (by simp [s.targetLost_of_free id m hfree])
  have hwait : s.grate.moves.filter (fun m => decide (m.2.slice = n) && m.2.start.isNone) = [(id, m)] := by
    rw [hmoves]
    exact List.filter_cons_of_pos (by simp [hslice, hstart])
  have hturn : ([(id, m)].filter fun m => m.2.retire) ++ ([(id, m)].filter fun m => !m.2.retire) = [(id, m)] := by
    cases h : m.retire <;> simp [h]
  have hactive : s.movesActive = 0 := by simp [State.movesActive, hmoves, hstart]
  have hnow : s.startedNow n = 0 := by simp [State.startedNow, hmoves, hstart]
  have hrate : 0 < s.movesPerTick n := lt_of_lt_of_le Nat.one_pos (Nat.le_max_left ..)
  unfold State.startMoves
  dsimp only
  rw [hlost]
  change s.startFrom n (((s.grate.moves.filter fun m => decide (m.2.slice = n) && m.2.start.isNone).filter _) ++
    (s.grate.moves.filter fun m => decide (m.2.slice = n) && m.2.start.isNone).filter _) = _
  rw [hwait, hturn]
  unfold State.startFrom
  rw [if_neg (by rw [hactive, hnow]; unfold movesAtOnce; omega), if_neg (by rw [hfree]; decide)]
  rfl

/-- Entries that joined the calendar. -/
def Entered (s t : State) (es : List Entry) : Prop :=
  ∃ y, OnlyRegs s y [CAL_STATUS.key] ∧
    t = { y with cal := { entries := s.cal.entries ++ es, nextCreation := s.cal.nextCreation + es.length } }

theorem Entered.nil (s : State) : Entered s s [] :=
  ⟨s, .refl s _, by rw [List.append_nil]; rfl⟩

theorem Entered.addEntry {s t : State} {es : List Entry} (h : Entered s t es) (key : CalKey) (a : Action) :
    Entered s (t.addEntry key a false 0 0) (es ++ [{ creation := s.cal.nextCreation + es.length, key := key, action := a }]) := by
  obtain ⟨y, hy, ht⟩ := h
  have hput : OnlyRegs y (y.put CAL_STATUS.key CAL_STATUS.PEAK (max (y.get CAL_STATUS.key CAL_STATUS.PEAK)
    (t.cal.entries ++ [({ creation := t.cal.nextCreation, key := key, action := a } : Entry)]).length)) [CAL_STATUS.key] :=
    .put y _ _ _ (by simp)
  refine ⟨_, hy.trans hput, ?_⟩
  rw [show t.addEntry key a false 0 0 = _ from State.put_withCal t _ _ _ _, ht]
  simp only [List.append_assoc, List.length_append, List.length_singleton, Nat.add_assoc]
  rfl

/-- The three entries of a move, which is under way from this tick. -/
theorem State.makeEntries_shows (s : State) {id : Nat} {m : Move} (hmoves : s.grate.moves = [(id, m)]) :
    let c := s.cal.nextCreation
    let step : Nat → Action → Entry := fun i a => { creation := c + i, key := .sfn (s.time.sfn + i), action := a }
    ∃ y, OnlyRegs s y [CAL_STATUS.key] ∧ s.makeEntries id = { y with
      grate := { s.grate with moves := [(id, { m with start := some s.dev.ticks })] }
      cal := { entries := s.cal.entries ++ [step 0 (.bridge id), step 1 (.roll id), step 2 (.release id)]
               nextCreation := c + 3 } } := by
  intro c step
  have hentered := (((Entered.nil s).addEntry (.sfn s.time.sfn) (.bridge id)).addEntry (.sfn (s.time.sfn + 1)) (.roll id)).addEntry
    (.sfn (s.time.sfn + 2)) (.release id)
  have hx : s.makeEntries id = (((s.addEntry (.sfn s.time.sfn) (.bridge id) false 0 0).addEntry (.sfn (s.time.sfn + 1)) (.roll id)
    false 0 0).addEntry (.sfn (s.time.sfn + 2)) (.release id) false 0 0).updMove id fun m => { m with start := some s.dev.ticks } := rfl
  generalize ((s.addEntry (.sfn s.time.sfn) (.bridge id) false 0 0).addEntry (.sfn (s.time.sfn + 1)) (.roll id)
    false 0 0).addEntry (.sfn (s.time.sfn + 2)) (.release id) false 0 0 = t at hentered hx
  obtain ⟨y, hy, ht⟩ := hentered
  refine ⟨y, hy, ?_⟩
  have hgrate : t.grate = s.grate := by rw [ht, hy.1]
  have hfind : t.grate.moves.find id = some m := by
    rw [hgrate, hmoves]
    exact if_pos rfl
  have hput : s.grate.moves.put id { m with start := some s.dev.ticks } = [(id, { m with start := some s.dev.ticks })] := by
    rw [hmoves]
    simp [Tbl.put]
  rw [hx, State.updMove, hfind]
  dsimp only
  rw [hgrate, hput, ht]
  rfl

/-! ### The three steps of a move -/

theorem State.updMove_found (s : State) {id : Nat} {m : Move} (f : Move → Move) (h : s.grate.moves.find id = some m) :
    s.updMove id f = { s with grate := { s.grate with moves := s.grate.moves.put id (f m) } } := by
  unfold State.updMove
  rw [h]

/-- Only the switching fabric changed; its connections stand. -/
def FabricOnly (s x : State) : Prop := x = { s with grate := x.grate } ∧ x.grate.conns = s.grate.conns ∧ x.grate.moves = s.grate.moves

theorem FabricOnly.trans {s t u : State} (h1 : FabricOnly s t) (h2 : FabricOnly t u) : FabricOnly s u := by
  obtain ⟨e1, c1, m1⟩ := h1
  obtain ⟨e2, c2, m2⟩ := h2
  exact ⟨e2.trans (by rw [e1]), c2.trans c1, m2.trans m1⟩

theorem State.mapEgress_fabric (s : State) (f : Tbl Egress → Tbl Egress) : FabricOnly s (s.mapEgress f) := ⟨rfl, rfl, rfl⟩
theorem State.mapRuns_fabric (s : State) (f : Run → Run) : FabricOnly s (s.mapRuns f) := ⟨rfl, rfl, rfl⟩
theorem State.unfeed_fabric (s : State) (a n : Nat) : FabricOnly s (s.unfeed a n) := ⟨rfl, rfl, rfl⟩
theorem State.setMoving_fabric (s : State) (pick : Run → Bool) (a n : Nat) (on : Bool) : FabricOnly s (s.setMoving pick a n on) :=
  ⟨rfl, rfl, rfl⟩

theorem State.setMoving_egress (s : State) (pick : Run → Bool) (a n : Nat) (on : Bool) (j : Nat) :
    (s.setMoving pick a n on).grate.egress.find j = (s.grate.egress.find j).map (markMoving a n on j) :=
  Tbl.find_marked _ _ _ _ _

theorem markMoving_in {a n j : Nat} (h : a ≤ j ∧ j < a + n) (on : Bool) (v : Egress) : markMoving a n on j v = { v with moving := on } :=
  if_pos h

theorem markMoving_out {a n j : Nat} (h : j < a ∨ a + n ≤ j) (on : Bool) : markMoving a n on j = id :=
  funext fun _ => if_neg (by omega)

/-- Bridge: the new run takes the sources of the old one. -/
theorem State.bridgeMove_shows (s : State) {id : Nat} {m : Move} (hm : s.grate.moves.find id = some m) (hphase : m.phase = 0)
    (hapart : m.old + m.len ≤ m.new ∨ m.new + m.len ≤ m.old) :
    let x := s.bridgeMove id
    x = { s with grate := x.grate } ∧ x.grate.conns = s.grate.conns ∧ x.grate.moves.find id = some { m with phase := 1 } ∧
    (∀ i v, i < m.len → s.grate.egress.find (m.old + i) = some v →
      x.grate.egress.find (m.new + i) = some { v with moving := true }) ∧
    ∀ j, (j < m.old ∨ m.old + m.len ≤ j) → (j < m.new ∨ m.new + m.len ≤ j) → x.grate.egress.find j = s.grate.egress.find j := by
  intro x
  have hx : x = (((s.mapEgress fun t => copySlots t m.old m.new m.len).setMoving (fun r => r.usedAt m.old) m.old m.len true).setMoving
      (fun r => decide (r.owner = wMove id)) m.new m.len true).updMove id fun m => { m with phase := 1 } := by
    change s.bridgeMove id = _
    unfold State.bridgeMove
    rw [hm]
    exact if_neg (by simp [hphase])
  have h1 := ((s.mapEgress_fabric fun t => copySlots t m.old m.new m.len).trans (State.setMoving_fabric _ (fun r => r.usedAt m.old) m.old
    m.len true)).trans (State.setMoving_fabric _ (fun r => decide (r.owner = wMove id)) m.new m.len true)
  have e1 : ∀ j, (((s.mapEgress fun t => copySlots t m.old m.new m.len).setMoving (fun r => r.usedAt m.old) m.old m.len true).setMoving
      (fun r => decide (r.owner = wMove id)) m.new m.len true).grate.egress.find j =
      (((copySlots s.grate.egress m.old m.new m.len).find j).map (markMoving m.old m.len true j)).map (markMoving m.new m.len true j) :=
    fun j => by rw [State.setMoving_egress, State.setMoving_egress]; rfl
  generalize ((s.mapEgress fun t => copySlots t m.old m.new m.len).setMoving (fun r => r.usedAt m.old) m.old m.len true).setMoving
      (fun r => decide (r.owner = wMove id)) m.new m.len true = t at h1 e1 hx
  obtain ⟨et, hconns, hmoves⟩ := h1
  rw [t.updMove_found _ (hmoves ▸ hm)] at hx
  clear_value x
  rw [hx]
  refine ⟨by rw [et], hconns, Tbl.find_put_same _ _ _, fun i v hi hv => ?_, fun j hold hnew => ?_⟩
  · refine (e1 (m.new + i)).trans ?_
    rw [copySlots_copied _ (Nat.le_refl _) hapart hi hv, markMoving_out (a := m.old) (n := m.len) (by omega)]
    exact congrArg some (markMoving_in (by omega) true v)
  · refine (e1 j).trans ?_
    rw [copySlots_other _ _ _ _ hnew, markMoving_out hold, markMoving_out hnew]
    simp

theorem State.newSource_keeps (s : State) (w : BitVec 64) :
    s.newSource w = { s with paths := (s.newSource w).paths, tribs := (s.newSource w).tribs } := by
  unfold State.newSource
  dsimp only
  split
  · rfl
  · split <;> rfl

/-- The owner of a run once a move has rolled: the new run serves the endpoint of the old one. -/
def rolledRun (id : Nat) (m : Move) (o r : Run) : Run :=
  if r.usedAt m.old then { r with owner := wMove id, hostOwned := false }
  else if r.owner = wMove id then { r with owner := o.owner, hostOwned := o.hostOwned } else r

/-- Roll: every entry that names a slot of the old run names that of the new one. -/
theorem State.rollMove_shows (s : State) {id : Nat} {m : Move} {o : Run} (hm : s.grate.moves.find id = some m) (hphase : m.phase = 1)
    (ho : s.grate.runs.find? (fun r => r.usedAt m.old) = some o) (hkind : ownerKind o.owner ≠ 0x81) :
    let x := s.rollMove id
    x = { s with grate := x.grate, paths := x.paths, tribs := x.tribs } ∧ x.grate.conns = s.grate.conns ∧
    x.grate.moves.find id = some { m with phase := 2 } ∧
    (∀ j, x.grate.egress.find j = (s.grate.egress.find j).map fun v => v.rename m.old m.new m.len) ∧
    ∀ r ∈ s.grate.runs, r.usedAt m.old = false → r.owner = wMove id →
      { r with owner := o.owner, hostOwned := o.hostOwned } ∈ x.grate.runs := by
  intro x
  have hx : x = (((s.mapEgress fun t => t.map fun e => (e.1, e.2.rename m.old m.new m.len)).mapRuns (rolledRun id m o)).newSource o.owner).updMove id
        fun m => { m with phase := 2 } := by
    change s.rollMove id = _
    unfold State.rollMove
    rw [hm]
    refine (if_neg (by simp [hphase])).trans ?_
    rw [ho]
    simp only [if_neg hkind, State.rolledSource]
    rfl
  have h1 := (s.mapEgress_fabric fun t => t.map fun e => (e.1, e.2.rename m.old m.new m.len)).trans (State.mapRuns_fabric _ (rolledRun id m o))
  have e1 : ∀ j, ((s.mapEgress fun t => t.map fun e => (e.1, e.2.rename m.old m.new m.len)).mapRuns (rolledRun id m o)).grate.egress.find j =
      (s.grate.egress.find j).map fun v => v.rename m.old m.new m.len := fun j => Tbl.find_map s.grate.egress (fun v => v.rename m.old m.new m.len) j
  have r1 : ∀ r ∈ s.grate.runs, r.usedAt m.old = false → r.owner = wMove id → { r with owner := o.owner, hostOwned := o.hostOwned } ∈
      ((s.mapEgress fun t => t.map fun e => (e.1, e.2.rename m.old m.new m.len)).mapRuns (rolledRun id m o)).grate.runs :=
    fun r hr hused howner => List.mem_map.mpr ⟨r, hr, (if_neg (by simp [hused])).trans (if_pos howner)⟩
  generalize ((s.mapEgress fun t => t.map fun e => (e.1, e.2.rename m.old m.new m.len)).mapRuns (rolledRun id m o)) = t at h1 e1 r1 hx
  obtain ⟨et, hconns, hmoves⟩ := h1
  have hsource := t.newSource_keeps o.owner
  generalize t.newSource o.owner = u at hsource hx
  have hgrate : u.grate = t.grate := by rw [hsource]
  rw [u.updMove_found _ (by rw [hgrate, hmoves]; exact hm), hgrate] at hx
  clear_value x
  rw [hx]
  refine ⟨?_, hconns, Tbl.find_put_same _ _ _, e1, r1⟩
  rw [hsource, et]

/-- A plan's last move ends it (R262). -/
theorem State.planDone_shows (s : State) (slice : Nat) :
    ∃ g : Tbl Nat, let y : State := { s with grate := { s.grate with planMoves := g } }
      Reported y (s.planDone slice) ∨ Reported (y.endLong (8, 0, slice)) (s.planDone slice) := by
  by_cases h : s.planRuns slice = true
  · exact ⟨s.grate.planMoves, .inl (by rw [show s.planDone slice = s from if_pos h]; exact .refl s)⟩
  · refine ⟨s.grate.planMoves.drop slice, .inr ?_⟩
    rw [show s.planDone slice = _ from if_neg h]
    exact State.finishLong_reported ..

/-- A run once a move has ended: the old one is free from the next tick. -/
def releasedRun (id : Nat) (m : Move) (now : Nat) (r : Run) : Run :=
  if r.start = m.old ∧ r.owner = wMove id ∧ r.freeAt = none then { r with freeAt := some (now + 1), moving := false } else r

/-- Release: the old run's entries are cleared, and it is free from the next tick. -/
theorem State.releaseMove_shows (s : State) {id : Nat} {m : Move} (hm : s.grate.moves.find id = some m) (hphase : m.phase = 2) :
    let x := s.releaseMove id
    (∃ y, y = { s with grate := y.grate } ∧ (Reported y x ∨ Reported (y.endLong (8, 0, m.slice)) x)) ∧
    x.grate.conns = s.grate.conns ∧ x.grate.moves.find id = none ∧
    (∀ j, x.grate.egress.find j = if m.old ≤ j ∧ j < m.old + m.len then none
      else (s.grate.egress.find j).map fun v => if m.new ≤ j ∧ j < m.new + m.len then { v with moving := false } else v) ∧
    ∀ r ∈ s.grate.runs, r.start = m.old → r.owner = wMove id → r.usedAt m.new = false → r.freeAt = none →
      { r with freeAt := some (s.dev.ticks + 1), moving := false } ∈ x.grate.runs := by
  intro x
  let t := ((s.unfeed m.old m.len).setMoving (fun r => r.usedAt m.new) m.new m.len false).mapRuns (releasedRun id m s.dev.ticks)
  have h1 : FabricOnly s t := ((s.unfeed_fabric m.old m.len).trans (State.setMoving_fabric _ (fun r => r.usedAt m.new) m.new m.len
    false)).trans (State.mapRuns_fabric _ (releasedRun id m s.dev.ticks))
  have e1 : ∀ j, t.grate.egress.find j = if m.old ≤ j ∧ j < m.old + m.len then none
      else (s.grate.egress.find j).map fun v => if m.new ≤ j ∧ j < m.new + m.len then { v with moving := false } else v := fun j => by
    refine (State.setMoving_egress (s.unfeed m.old m.len) _ m.new m.len false j).trans ?_
    rw [show (s.unfeed m.old m.len).grate.egress.find j = _ from Tbl.find_filterKeyed s.grate.egress
      (fun k => decide (k < m.old ∨ m.old + m.len ≤ k)) j]
    by_cases h : m.old ≤ j ∧ j < m.old + m.len
    · rw [if_pos h, if_neg (by simp; omega)]
      rfl
    · rw [if_neg h, if_pos (by simp; omega)]
      rfl
  have r1 : ∀ r ∈ s.grate.runs, r.start = m.old → r.owner = wMove id → r.usedAt m.new = false → r.freeAt = none →
      { r with freeAt := some (s.dev.ticks + 1), moving := false } ∈ t.grate.runs := fun r hr hstart howner hused hfree => by
    refine List.mem_map.mpr ⟨r, List.mem_map.mpr ⟨r, hr, if_neg (by simp [hused])⟩, if_pos ⟨hstart, howner, hfree⟩⟩
  let made := if m.retire then t.grate.planMoves else t.grate.planMoves.put m.slice (t.grate.planMoves.getD m.slice 0 + 1)
  have hx : x = ({ t with grate := { t.grate with moves := t.grate.moves.drop id, planMoves := made } } : State).planDone m.slice := by
    change s.releaseMove id = _
    unfold State.releaseMove
    rw [hm]
    exact if_neg (by simp [hphase])
  clear_value t made
  obtain ⟨et, hconns, _⟩ := h1
  obtain ⟨g, hg⟩ := State.planDone_shows { t with grate := { t.grate with moves := t.grate.moves.drop id, planMoves := made } } m.slice
  rw [← hx] at hg
  clear_value x
  have hgrate : x.grate = { t.grate with moves := t.grate.moves.drop id, planMoves := g } := by
    rcases hg with h | h
    · exact h.grate
    · exact h.grate
  refine ⟨⟨_, ?_, hg⟩, ?_⟩
  · rw [et]
  · rw [hgrate]
    exact ⟨hconns, Tbl.find_drop_same _ _, e1, r1⟩

/-! ### Pool pages -/

/-- The banks and the flag of one pool when a resize ends. -/
def State.resizePool (s : State) (want : List Nat) (i : Nat) : State :=
  (s.put (STK_POOL.key i) STK_POOL.BANKS (min (s.poolBanks i) (want.getD i 0))).put (STK_POOL.key i) STK_POOL.RESIZING 0

def Resized (s t : State) (want : List Nat) (i : Nat) : Prop :=
  t.get (STK_POOL.key i) STK_POOL.RESIZING = 0 ∧ t.poolBanks i = min (s.poolBanks i) (want.getD i 0)

theorem State.resizePool_shows (s : State) (want : List Nat) (i : Nat) :
    OnlyRegs s (s.resizePool want i) [STK_POOL.key i] ∧ Resized s (s.resizePool want i) want i := by
  have hlt : min (s.poolBanks i) (want.getD i 0) < 2 ^ STK_POOL.BANKS.width := lt_of_le_of_lt (Nat.min_le_left ..) (Fld.get_lt _ _)
  refine ⟨(OnlyRegs.put s _ _ _ (by simp)).trans (.put _ _ _ _ (by simp)), ?_, ?_⟩
  · exact State.get_put_same _ _ _ _ (by decide)
  · refine (State.get_put_field _ _ (f := STK_POOL.RESIZING) _ STK_POOL.BANKS (by decide) (by decide)).trans
      ((State.get_put_same s _ _ _ (by decide)).trans (Nat.mod_eq_of_lt hlt))

theorem stkPool_apart : ∀ i < 8, noteReg (STK_POOL.key i) = false ∧ reportReg (STK_POOL.key i) = false ∧
    ∀ j < 8, i ≠ j → STK_POOL.key i ≠ STK_POOL.key j := by
  decide

/-- Every pool resized, one after the other. -/
theorem State.resizeAll_shows (s : State) (want : List Nat) {n : Nat} (hn : n ≤ 8) :
    let x := s.each (List.range n) fun s i => s.resizePool want i
    x = { s with regs := x.regs } ∧ (∀ k, (∀ i < 8, k ≠ STK_POOL.key i) → x.rd k = s.rd k) ∧ (∀ i < n, Resized s x want i) ∧
    ∀ i < 8, n ≤ i → x.rd (STK_POOL.key i) = s.rd (STK_POOL.key i) := by
  induction n with
  | zero => exact ⟨rfl, fun _ _ => rfl, fun i h => absurd h (Nat.not_lt_zero i), fun _ _ _ => rfl⟩
  | succ n ih =>
    obtain ⟨e1, r1, d1, u1⟩ := ih (by omega)
    have hstep : s.each (List.range (n + 1)) (fun s i => s.resizePool want i) =
        (s.each (List.range n) fun s i => s.resizePool want i).resizePool want n := by
      rw [State.each, List.range_succ, List.foldl_append]
      rfl
    dsimp only at e1 r1 d1 u1 ⊢
    rw [hstep]
    generalize s.each (List.range n) (fun s i => s.resizePool want i) = t at e1 r1 d1 u1 ⊢
    obtain ⟨⟨e2, r2⟩, d2⟩ := t.resizePool_shows want n
    generalize t.resizePool want n = u at e2 r2 d2 ⊢
    have hn8 : n < 8 := by omega
    have hother : ∀ i < 8, i ≠ n → u.rd (STK_POOL.key i) = t.rd (STK_POOL.key i) := fun i hi hne =>
      r2 _ (by simpa using (stkPool_apart i hi).2.2 n hn8 hne)
    refine ⟨by rw [e2, e1], fun k hk => (r2 k (by simpa using hk n hn8)).trans (r1 k hk), fun i hi => ?_, fun i hi hle =>
      (hother i hi (by omega)).trans (u1 i hi (by omega))⟩
    by_cases hlast : i = n
    · subst hlast
      refine ⟨d2.1, d2.2.trans ?_⟩
      rw [State.poolBanks, State.poolBanks, State.get_of_rd (u1 i hn8 (Nat.le_refl _))]
    · have hrd := hother i (by omega) hlast
      have hprev := d1 i (by omega)
      refine ⟨(State.get_of_rd hrd _).trans hprev.1, (State.get_of_rd hrd _).trans hprev.2⟩

/-- The last page of a resize without a bank that leaves: each pool has its banks, and the command completes. -/
theorem State.resizePools_shows (s : State) (h : s.leavingBanks s.grate.poolWant = []) :
    let x := s.resizePools
    x.grate.pagesLeft = 0 ∧ x.grate.poolWant = [] ∧ x.raised 357 0x80 true ∧ x.running (0x10, 0, 0) = none ∧
    x.cal = s.cal ∧ x.grate.runs = s.grate.runs ∧ x.grate.conns = s.grate.conns ∧
    ∀ i, i < 8 → x.get (STK_POOL.key i) STK_POOL.RESIZING = 0 ∧ x.poolBanks i = min (s.poolBanks i) (s.grate.poolWant.getD i 0) := by
  intro x
  obtain ⟨e1, _, d1, _⟩ := s.resizeAll_shows s.grate.poolWant (Nat.le_refl 8)
  have hx : x = (
      let s2 := (s.each (List.range 8) fun t i => t.resizePool s.grate.poolWant i)
      let s3 := { s2 with grate := { s2.grate with poolWant := [], pagesLeft := 0 } }
      let s4 := if s.poolBanks 6 = s3.poolBanks 6 then s3 else s3.updObs fun o => { o with buffer := [], dropBefore := true }
      (s4.event 357 0x80 true 0).finishLong (0x10, 0, 0) stOK 0 []) := by
    change s.resizePools = _
    unfold State.resizePools
    dsimp only
    rw [h]
    rfl
  dsimp only at e1 d1 hx
  generalize s.each (List.range 8) (fun t i => t.resizePool s.grate.poolWant i) = s2 at e1 d1 hx
  obtain ⟨s4, h4⟩ : ∃ s4, s4 = (
    let s3 := { s2 with grate := { s2.grate with poolWant := [], pagesLeft := 0 } }
    if s.poolBanks 6 = s3.poolBanks 6 then s3 else s3.updObs fun o => { o with buffer := [], dropBefore := true }) := ⟨_, rfl⟩
  have f4 : s4 = { s2 with grate := { s2.grate with poolWant := [], pagesLeft := 0 }, obs := s4.obs } := by
    rw [h4]
    dsimp only
    split <;> rfl
  rw [← h4] at hx
  clear h4
  have h5 : Noted s4 (s4.event 357 0x80 true 0) [] := .event s4 _ _ _ _ (by decide) _
  have r5 := s4.raised_event 357 0x80 true 0 (by decide)
  generalize s4.event 357 0x80 true 0 = s5 at h5 r5 hx
  have hrep : Reported (s5.endLong (0x10, 0, 0)) x := hx ▸ State.finishLong_reported ..
  clear_value x
  have hgrate : x.grate = { s.grate with poolWant := [], pagesLeft := 0 } := by
    rw [hrep.grate, show (s5.endLong (0x10, 0, 0)).grate = s5.grate from rfl, h5.1, f4, e1]
  have hcal : x.cal = s.cal := by
    rw [hrep.cal, show (s5.endLong (0x10, 0, 0)).cal = s5.cal from rfl, h5.1, f4, e1]
  have hregs : s4.regs = s2.regs := by rw [f4]
  have hrd : ∀ i < 8, x.rd (STK_POOL.key i) = s2.rd (STK_POOL.key i) := fun i hi => by
    obtain ⟨hnote, hreport, _⟩ := stkPool_apart i hi
    calc x.rd (STK_POOL.key i) = s5.rd (STK_POOL.key i) := hrep.rd hreport
      _ = s4.rd (STK_POOL.key i) := h5.rd (by simp) hnote
      _ = s2.rd (STK_POOL.key i) := by rw [State.rd, State.rd, hregs]
  rw [hgrate]
  refine ⟨rfl, rfl, ?_, (hrep.cmd_running_find _).trans (State.running_endLong _ _), hcal, rfl, rfl, fun i hi => ?_⟩
  · obtain ⟨e, he, hrest⟩ := r5
    exact ⟨e, hrep.tick_mem he, hrest⟩
  · obtain ⟨hflag, hbanks⟩ := d1 i hi
    exact ⟨(State.get_of_rd (hrd i hi) _).trans hflag, (State.get_of_rd (hrd i hi) _).trans hbanks⟩

end Sys2Proof.Machine

open Sys2Proof Sys2Proof.Machine

/-- Settles O57: each slot, slice, move step and page does what its row says. -/
theorem grateRows : Obligations.GrateRows := by
  intro s
  refine ⟨fun x => answers_of rfl (s.slotParity_shows x), fun n => ⟨fun h => ?_, fun h => ?_, fun h => ?_, ?_⟩, ?_, ?_, ?_⟩
  · exact answers_of rfl (if_pos (by simpa using h))
  · exact answers_of rfl (s.sliceFailure_shows n h)
  · refine answers_of rfl ?_
    unfold State.startMoves
    simp [h, State.each, State.startFrom]
  · intro id m hmoves hslice hstart hfree
    have hx := s.startMoves_only n hmoves hslice hstart hfree
    refine ⟨fun hroom => answers_of rfl ?_, fun hroom => answers_of rfl ?_⟩
    · rw [hx, if_neg (by simp [hroom])]
      exact s.makeEntries_shows hmoves
    · rw [hx, if_pos hroom]
      exact s.flagged_shows 261 0x82 0 (by decide) (by decide) rfl (by decide)
  · intro id hnone
    have hnot : ∀ a, (∀ e ∈ s.cal.entries, e.action ≠ a) → s.takeStep a = none := fun a => s.takeStep_none a
    refine ⟨answers_of (x := s) ?_ rfl, answers_of (x := s) ?_ rfl, answers_of (x := s) ?_ rfl⟩
    · change execMoveBridge id s = _
      rw [execMoveBridge, hnot _ fun e he => (hnone e he).1]
    · change execMoveRoll id s = _
      rw [execMoveRoll, hnot _ fun e he => (hnone e he).2.1]
    · change execMoveRelease id s = _
      rw [execMoveRelease, hnot _ fun e he => (hnone e he).2.2]
  · intro id e k m he hk hdue harmed hm hapart done
    have htake : ∀ a, e.action = a → s.takeStep a = some done := fun a ha => s.takeStep_only a he ha hk hdue harmed
    refine ⟨fun ha hphase => answers_of (x := done.bridgeMove id) ?_ (done.bridgeMove_shows hm hphase hapart), fun o ha hphase ho hkind =>
      answers_of (x := done.rollMove id) ?_ (done.rollMove_shows hm hphase ho hkind), fun ha hphase =>
      answers_of (x := done.releaseMove id) ?_ (done.releaseMove_shows hm hphase)⟩
    · change execMoveBridge id s = _
      rw [execMoveBridge, htake _ ha]
    · change execMoveRoll id s = _
      rw [execMoveRoll, htake _ ha]
    · change execMoveRelease id s = _
      rw [execMoveRelease, htake _ ha]
  · intro page
    refine ⟨fun h => answers_of rfl (if_pos h), fun h => answers_of rfl ?_, fun h hleave => answers_of rfl ?_⟩
    · exact (if_neg (by omega)).trans (if_neg (show ¬ s.grate.pagesLeft - 1 = 0 by omega))
    · have hx : s.pageSwitch = ({ s with grate := { s.grate with pagesLeft := s.grate.pagesLeft - 1 } } : State).resizePools :=
        (if_neg (by omega)).trans (if_pos (show s.grate.pagesLeft - 1 = 0 by omega))
      rw [hx]
      exact State.resizePools_shows { s with grate := { s.grate with pagesLeft := s.grate.pagesLeft - 1 } } hleave
end

section
/-! PROOF. O28: an immediate command and a calendar entry that are due, in a state where nothing else is (R54, R494). -/

namespace Sys2Proof.Machine

/-! ### The end of a step 2 in which nothing else is due -/

/-- Nothing waits for the end of a step 2. -/
def Still (s : State) : Prop :=
  s.prot.groups = [] ∧ s.grate.runs = [] ∧ s.grate.allocs = [] ∧ s.grate.conns = [] ∧ s.cmd.running = [] ∧
  s.health.copiesDone = [] ∧ (∀ e ∈ s.cal.entries, e.spare? = none) ∧ s.fw.activate = false ∧
  ∀ p, p < monitorCount → s.pinOn p PIN_MON.CONTENTION = false

theorem State.quiet.still {s : State} (h : s.quiet) : Still s := by
  obtain ⟨hprot, hruns, hallocs, hconns, hrunning, hcopies, hcal, hfw, hpins⟩ := h
  exact ⟨hprot, hruns, hallocs, hconns, hrunning, hcopies, by simp [hcal], hfw, hpins⟩

theorem State.quiet.entries {s : State} (h : s.quiet) : s.cal.entries = [] := by
  obtain ⟨_, _, _, _, _, _, hcal, _⟩ := h
  exact hcal

theorem State.runGroups_none (s : State) (h : s.prot.groups = []) : s.runGroups = s := by
  unfold State.runGroups
  rw [h]
  rfl

theorem State.sweepInternal_none (s : State) (h : s.grate.runs = []) : s.sweepInternal = s := by
  unfold State.sweepInternal
  dsimp only
  rw [h]
  rfl

theorem State.sweepReleased_none (s : State) (hruns : s.grate.runs = []) (hallocs : s.grate.allocs = []) (hconns : s.grate.conns = []) :
    s.sweepReleased = s := by
  have htrace : s.traceReleases = s := by
    unfold State.traceReleases
    dsimp only
    rw [hruns]
    change s.each (s.grate.allocs.filter _) _ = s
    rw [hallocs]
    rfl
  have hgrate : ({ s.grate with runs := [], allocs := [], conns := [] } : GrateSt) = s.grate := by rw [← hruns, ← hallocs, ← hconns]
  unfold State.sweepReleased
  rw [htrace]
  dsimp only
  rw [hruns, hallocs, hconns]
  exact congrArg (fun g : GrateSt => { s with grate := g }) hgrate

theorem State.running_none (s : State) (h : s.cmd.running = []) (r : Res) : s.running r = none := by
  unfold State.running
  rw [h]
  rfl

theorem State.settlePlans_none (s : State) (h : s.cmd.running = []) : s.settlePlans = s :=
  s.each_same fun n _ => if_neg (by rw [s.running_none h]; decide)

theorem State.switchBanks_none (s : State) (h : s.health.copiesDone = []) : s.switchBanks = s := by
  unfold State.switchBanks
  rw [h]
  rfl

theorem State.pinCancels_none (s : State) (h : ∀ p, p < monitorCount → s.pinOn p PIN_MON.CONTENTION = false) : s.pinCancels = s :=
  s.each_same fun p hp => if_neg (by rw [h p (List.mem_range.mp hp), Bool.false_and]; decide)

theorem State.runSpares_none (s : State) (h : ∀ e ∈ s.cal.entries, e.spare? = none) : s.runSpares = s := by
  have hnone : s.cal.entries.filterMap Entry.spare? = [] := List.filterMap_eq_nil_iff.mpr h
  have hkeep : s.cal.entries.filter (fun e => e.spare?.isNone) = s.cal.entries := List.filter_eq_self.mpr fun e he => by rw [h e he]; rfl
  unfold State.runSpares
  dsimp only
  rw [hnone, hkeep]
  rfl

theorem State.fwStart_none (s : State) (h : s.fw.activate = false) : s.fwStart = s := if_pos (by rw [h]; rfl)

theorem Still.endStep2 {s : State} (h : Still s) : s.endStep2 = s := by
  obtain ⟨hprot, hruns, hallocs, hconns, hrunning, hcopies, hcal, hfw, hpins⟩ := h
  unfold State.endStep2
  dsimp only
  rw [s.runGroups_none hprot, s.sweepInternal_none hruns, s.sweepReleased_none hruns hallocs hconns, s.settlePlans_none hrunning,
    s.switchBanks_none hcopies, s.pinCancels_none hpins, s.runSpares_none hcal, s.fwStart_none hfw]
  exact if_neg fun hb => hb.2 hb.1

theorem pinMon_not_reported : ∀ p < monitorCount, reportReg (PIN_MON.key p) = false := by decide

theorem Reported.still {s x : State} (h : Reported s x) (hs : Still s) : Still x := by
  obtain ⟨hprot, hruns, hallocs, hconns, hrunning, hcopies, hcal, hfw, hpins⟩ := hs
  rw [← h.prot] at hprot
  rw [← h.grate] at hruns hallocs hconns
  rw [← h.cmd_running] at hrunning
  rw [← h.health] at hcopies
  rw [← h.cal] at hcal
  rw [← h.fw] at hfw
  exact ⟨hprot, hruns, hallocs, hconns, hrunning, hcopies, hcal, hfw, fun p hp =>
    (h.on (pinMon_not_reported p hp) _).trans (hpins p hp)⟩

/-! ### What an execution reports -/

theorem State.traceEntry_reported (s : State) (e : Entry) (status cflags : Nat) : Reported s (s.traceEntry e status cflags) :=
  (s.capture_butTrace _ _ _ _).reported

theorem State.obsHappens_reported (s : State) (cls : Nat) (host : Option Nat) : Reported s (s.obsHappens cls host) :=
  ButObsCnts.reported (State.each_rel ButObsCnts.refl ButObsCnts.trans
    (fun s i => iteInduction (fun _ => s.obsCount_butObsCnts i 1) fun _ => .refl s) s _)

/-- What follows the execution of an entry that is not held again. -/
theorem State.runHostEntry_reported (s : State) (e : Entry) (p : Packet) {d : Done} (hd : s.runCommand p (some e.creation) = d)
    (hagain : d.again = false) (hfinished : d.finished = true) (hskipped : e.skipped = false) (h71 : p.op ≠ 0x71) (h04 : p.op ≠ 0x04) :
    Reported d.s (s.runHostEntry e p) := by
  have hheld : d.s.heldAfter e p false = d.s := (if_neg Bool.false_ne_true).trans ((if_neg fun h => h71 h.1).trans (if_neg fun h => h04 h.1))
  have hnote : d.s.noteSkipped e = d.s := if_neg (by rw [hskipped]; decide)
  unfold State.runHostEntry
  dsimp only
  rw [hd, hagain, hheld, hnote, hfinished, if_neg Bool.false_ne_true, if_pos rfl]
  exact (((d.s.traceEntry_reported e _ _).trans (State.obsHappens_reported _ _ _)).trans (State.complete_reported ..) :)

/-! ### Immediate commands -/

theorem State.runImmediates_idle (s : State) (fuel i : Nat) (ran : List Rival) (h : s.dueImmediates = []) :
    s.runImmediates fuel i ran = (ran, s) := by
  cases fuel with
  | zero => rfl
  | succ fuel =>
    unfold State.runImmediates
    rw [h]

theorem State.dueEntries_none (s : State) (h : s.cal.entries = []) : s.dueEntries = [] := by
  unfold State.dueEntries
  rw [h]
  split <;> rfl

theorem State.losesTo_alone (s : State) (r : Rival) : s.losesTo r [] [] = none := rfl

/-- The one immediate command executes. -/
theorem State.runImmediates_one (s : State) {t : Taken} (himm : s.cmd.immediates = [t]) (hdue : t.tick < s.dev.ticks)
    (hcal : s.cal.entries = []) (fuel : Nat) :
    s.runImmediates (fuel + 1) 0 [] =
      (({ s with cmd := { s.cmd with immediates := [] } } : State).runImmediate t).runImmediates fuel 1
        [{ packet := t.packet, ord := immediateOrd 0 }] := by
  have hone : s.dueImmediates = [t] := by
    unfold State.dueImmediates
    rw [himm]
    exact List.filter_cons_of_pos (decide_eq_true hdue)
  have herase : s.cmd.immediates.erase t = [] := by rw [himm]; simp
  conv => lhs; unfold State.runImmediates
  rw [hone]
  dsimp only
  rw [s.dueEntries_none hcal, herase]
  rfl

/-- A command that completes at once, as an immediate one. -/
theorem State.runImmediate_reported (s : State) (t : Taken) {d : Done} (hd : s.runCommand t.packet none = d) (hagain : d.again = false)
    (hfinished : d.finished = true) (h71 : t.packet.op ≠ 0x71) : Reported d.s (s.runImmediate t) := by
  unfold State.runImmediate
  dsimp only
  rw [hd, hagain, hfinished, if_neg Bool.false_ne_true, if_pos rfl]
  rw [show (if t.packet.op = 0x71 ∧ t.packet.fld 4 4 ≠ 0 ∧ d.s.hostRoom t.packet.master = true then
    d.s.addEntry (.sfn (s.time.sfn + t.packet.fld 4 4)) (.host t.packet) false (t.packet.fld 4 4) 0 else d.s) = d.s from
    if_neg fun h => h71 h.1]
  exact d.s.complete_reported ..

/-! ### The entry of a calendar -/

theorem State.live_only (s : State) {e : Entry} (he : s.cal.entries = [e]) (hspare : e.spare? = none) (hnot : e.notBefore ≤ s.dev.ticks) :
    s.cal.entries.filter (fun e => e.spare?.isNone && decide (e.notBefore ≤ s.dev.ticks)) = [e] := by
  rw [he]
  exact List.filter_cons_of_pos (by simp [hspare, hnot])

theorem State.armable_sfn (s : State) {e : Entry} {n : Nat} (hk : e.key = .sfn n) : s.armable e = false := by
  rw [State.armable, hk]

/-- The one entry is due. -/
theorem State.dueEntries_one (s : State) {e : Entry} {n : Nat} (hruns : s.calendarRuns = true) (he : s.cal.entries = [e])
    (hspare : e.spare? = none) (hnot : e.notBefore ≤ s.dev.ticks) (hk : e.key = .sfn n) (hdue : s.dueSfn e = true)
    (hskipped : e.skipped = false) : s.dueEntries = [e] := by
  have hone : [e].filter s.dueSfn = [e] := List.filter_cons_of_pos hdue
  have hnone : [e].filter s.armable = [] := List.filter_cons_of_neg (by rw [s.armable_sfn hk]; decide)
  unfold State.dueEntries
  rw [if_neg (by rw [hruns]; decide)]
  dsimp only
  rw [s.live_only he hspare hnot, hone, hnone]
  cases h : e.carried <;> simp [h, hskipped, sortBy, insertBy]

/-- The one entry is keyed to a later SFN. -/
theorem State.dueEntries_later (s : State) {e : Entry} {n : Nat} (he : s.cal.entries = [e]) (hk : e.key = .sfn n) (hlater : s.time.sfn < n) :
    s.dueEntries = [] := by
  have hdue : s.dueSfn e = false := by
    rw [State.dueSfn, hk]
    simp [Nat.not_le_of_lt hlater]
  have hfilter : ∀ f : Entry → Bool, f e = false → ∀ g : Entry → Bool, ([e].filter g).filter f = [] := fun f hf g => by
    rw [List.filter_filter]
    exact List.filter_cons_of_neg (by simp [hf])
  unfold State.dueEntries
  rw [he]
  dsimp only
  rw [hfilter _ hdue, hfilter _ (s.armable_sfn hk)]
  split <;> rfl

theorem State.runDue_none (s : State) (left : Nat) (ran : List Rival) (h : s.dueEntries = []) : s.runDue left ran = s := by
  cases left with
  | zero => rfl
  | succ left =>
    unfold State.runDue
    rw [h]
    rfl

/-- The one entry that is due executes. -/
theorem State.runDue_host (s : State) {e : Entry} {n : Nat} {p : Packet} (h : s.dueEntries = [e]) (hk : e.key = .sfn n) (ha : e.action = .host p)
    (left : Nat) : s.runDue (left + 1) [] =
      ((s.removeEntry e.creation).runHostEntry e p).runDue left [{ packet := p, ord := e.creation }] := by
  have hrival : e.rival = some { packet := p, ord := e.creation } := by rw [Entry.rival, ha]
  have hentry : ∀ t : State, t.runEntry e = t.runHostEntry e p := fun t => by rw [State.runEntry, ha]
  conv => lhs; unfold State.runDue
  rw [h, List.take_of_length_le (by simp)]
  dsimp only
  rw [s.armable_sfn hk, hrival]
  simp only [Bool.false_eq_true, if_false, List.filter_nil, List.filterMap_nil, State.losesTo_alone, List.nil_append, hentry]

theorem State.carryRest_none (s : State) (h : s.dueEntries = []) : s.carryRest = s := by
  unfold State.carryRest
  rw [h]
  rfl

/-- No entry is keyed to a port. -/
theorem State.applyTickFramed_none (s : State) (h : ∀ e ∈ s.cal.entries, ∃ n, e.key = .sfn n) : s.applyTickFramed = s := by
  unfold State.applyTickFramed
  dsimp only
  rw [List.filterMap_eq_nil_iff.mpr]
  · rfl
  · intro e he
    obtain ⟨n, hn⟩ := h e he
    rw [hn]

/-! ### SET_LEVEL and SET_TOD_LABEL -/

/-- SET_LEVEL sets the level of its master; a change is reported. -/
theorem State.setLevelRun_shows (s : State) (p : Packet) :
    Reported (s.updMaster p.master fun y => { y with expert := decide (p.fld 0 1 = 1) }) (s.setLevelRun p).s ∧
    (s.setLevelRun p).again = false ∧ (s.setLevelRun p).finished = true := by
  by_cases h : (s.master p.master).expert = decide (p.fld 0 1 = 1)
  · have hsame : (s.updMaster p.master fun y => { y with expert := decide (p.fld 0 1 = 1) }) = s := by
      rw [← h]
      unfold State.updMaster State.master
      split <;> rfl
    rw [show s.setLevelRun p = okDone s from if_pos h, hsame]
    exact ⟨.refl s, rfl, rfl⟩
  · rw [show s.setLevelRun p = _ from if_neg h]
    exact ⟨.event _ _ _ _ _ (by decide), rfl, rfl⟩

theorem State.todRun_shows (s : State) (p : Packet) :
    Reported { s with time := { s.time with tod := p.fld 0 8, labelGen := (s.time.labelGen + 1) % 256 } } (s.todRun p).s ∧
    (s.todRun p).again = false ∧ (s.todRun p).finished = true :=
  ⟨.event _ _ _ _ _ (by decide), rfl, rfl⟩

theorem State.updMaster_still {s : State} (h : Still s) (m : Nat) (f : Master → Master) : Still (s.updMaster m f) := by
  unfold State.updMaster
  split <;> exact h

theorem State.dueImmediates_none (s : State) (h : s.cmd.immediates = []) : s.dueImmediates = [] := by
  rw [State.dueImmediates, h]
  rfl

end Sys2Proof.Machine

open Sys2Proof Sys2Proof.Machine

/-- Settles O28: what is due executes, and the end of the step leaves a quiet state alone. -/
theorem commandsExecute : Obligations.CommandsExecute := by
  intro s idle free
  refine ⟨fun hquiet hlater => ?_, fun t hquiet himm hdue hop => ?_, fun e n hquiet he hk hlater ha => ?_,
    fun e n p hquiet he hk hdue ha hop harmed hskipped hnot hnext htarmed hconflict => ?_⟩
  · have hnone : s.dueImmediates = [] := List.filter_eq_nil_iff.mpr fun t ht => by simpa using hlater t ht
    refine answers_of rfl ?_
    rw [s.runImmediates_idle _ _ _ hnone]
    exact hquiet.still.endStep2
  · have hcal : s.cal.entries = [] := hquiet.entries
    have hstill : Still idle := hquiet.still
    obtain ⟨hrep, hagain, hfinished⟩ := idle.setLevelRun_shows t.packet
    have hpop : t.packet.op = 0x02 := by rw [Packet.op, hop]; rfl
    have hrun : idle.runCommand t.packet none = idle.setLevelRun t.packet := by
      unfold State.runCommand State.runs1
      rw [hpop]
      rfl
    have hx : Reported (idle.updMaster t.packet.master fun y => { y with expert := decide (t.packet.fld 0 1 = 1) }) (idle.runImmediate t) :=
      hrep.trans (idle.runImmediate_reported t hrun hagain hfinished (by rw [hpop]; decide))
    have himms : (idle.runImmediate t).cmd.immediates = [] := by
      rw [hx.cmd_immediates]
      unfold State.updMaster
      split <;> rfl
    refine answers_of rfl ?_
    rw [s.runImmediates_one himm hdue hcal]
    change Reported _ (State.endStep2 ((idle.runImmediate t).runImmediates _ _ _).2)
    rw [State.runImmediates_idle _ _ _ _ (State.dueImmediates_none _ himms), (hx.still (State.updMaster_still hstill _ _)).endStep2]
    exact hx
  · have hstill : Still s := by
      obtain ⟨hprot, hruns, hallocs, hconns, hrunning, hcopies, _, hfw, hpins⟩ := hquiet
      refine ⟨hprot, hruns, hallocs, hconns, hrunning, hcopies, fun x hx => ?_, hfw, hpins⟩
      rw [he, List.mem_singleton] at hx
      rw [hx, Entry.spare?, ha]
    have hnone := s.dueEntries_later he hk hlater
    refine answers_of rfl ?_
    rw [s.runDue_none _ _ hnone, s.carryRest_none hnone, s.applyTickFramed_none fun x hx => ?_]
    · exact hstill.endStep2
    · rw [he, List.mem_singleton] at hx
      exact ⟨n, hx ▸ hk⟩
  · have hsp : e.spare? = none := by rw [Entry.spare?, ha]
    have hruns : s.calendarRuns = true := by rw [State.calendarRuns, hconflict]; rfl
    have hsfn : s.dueSfn e = true := by
      rw [State.dueSfn, hk]
      simp [harmed, hdue, hnext]
    have hone := s.dueEntries_one hruns he hsp hnot hk hsfn hskipped
    have hremove : s.removeEntry e.creation = free := s.removeEntry_only he htarmed
    obtain ⟨hrep, hagain, hfinished⟩ := free.todRun_shows p
    have hpop : p.op = 0x06 := by rw [Packet.op, hop]; rfl
    have hrun : free.runCommand p (some e.creation) = free.todRun p := by
      unfold State.runCommand State.runs1
      rw [hpop]
      rfl
    have hx := hrep.trans (free.runHostEntry_reported e p hrun hagain hfinished hskipped (by rw [hpop]; decide) (by rw [hpop]; decide))
    have hcal : (free.runHostEntry e p).cal.entries = [] := by rw [hx.cal]
    have hnone := (free.runHostEntry e p).dueEntries_none hcal
    refine answers_of rfl ?_
    rw [show calPerTick = 127 + 1 from rfl, s.runDue_host hone hk ha, hremove, State.runDue_none _ _ _ hnone, State.carryRest_none _ hnone,
      State.applyTickFramed_none _ (by simp [hcal]), (hx.still hquiet.still).endStep2]
    exact hx
end

section
/-! PROOF. O44: what a port frame applies, and the armed SET_SFN at a second marker (R54, R64, R162, R169, R495). -/

namespace Sys2Proof.Machine

/-! ### An entry at its port's frame -/

theorem alfStatus_not_reported (p : Port) : reportReg (ALF_STATUS.key p) = false := by
  revert p
  decide +kernel

/-- The one entry of the calendar is armed for the frame that begins. -/
theorem State.portReached_one (s : State) (p : Nat) {e : Entry} (he : s.cal.entries = [e]) (hk : e.key = .port p (s.pfn p))
    (harmed : e.armed = true) (hnot : e.notBefore ≤ s.dev.ticks) : s.portReached p = [e] := by
  have hbeyond : atOrBeyond (s.pfn p) (s.pfn p) = true := by
    unfold atOrBeyond
    rw [decide_eq_true_eq]
    omega
  unfold State.portReached
  rw [he, List.filter_cons_of_pos (by simp [harmed, hnot, hk, hbeyond])]
  rfl

/-- An entry against itself alone loses nothing. -/
theorem State.losesTo_itself (s : State) (r : Rival) : s.losesTo r [r] [] = none := by
  have hbeats : s.beats r r = none := if_pos (.inr (.inr rfl))
  unfold State.losesTo
  simp [hbeats]

/-- The one host entry that a frame reaches executes at it. -/
theorem State.applyPort_one (s : State) (p : Nat) {e : Entry} {c : Packet} (he : s.cal.entries = [e]) (hk : e.key = .port p (s.pfn p))
    (harmed : e.armed = true) (hnot : e.notBefore ≤ s.dev.ticks) (ha : e.action = .host c) (htarmed : s.time.armed = none)
    (hsecond : s.alfSecond p (s.pfn p) = false) :
    ∃ old, s.applyPort p =
      let x := ({ s with cal := { s.cal with entries := [] } } : State).runHostEntry { e with skipped := false } c
      if e.resizes p then x.alfResized p (s.pfn p) old else x := by
  have hwaits : ∀ x : Entry, (s.isAlf p && s.alfSecond p (s.pfn p) && x.resizes p) = false := fun x => by
    rw [hsecond, Bool.and_false, Bool.false_and]
  have hframe : e.frame = s.frameOf e := by rw [Entry.frame, State.frameOf, hk]
  have hrival : e.rival = some { packet := c, ord := e.creation } := by rw [Entry.rival, ha]
  have happly : ∀ t : State, t.frameOf e = s.frameOf e → t.applyEntry [e] e = t.runHostEntry { e with skipped := false } c := fun t ht => by
    unfold State.applyEntry
    dsimp only
    rw [ht, hframe, hrival]
    simp only [List.filterMap_cons, List.filterMap_nil, hrival, State.losesTo_itself, ne_eq, not_true_eq_false, decide_false]
    rw [State.runEntry, ha]
  refine ⟨s.alfUse p, ?_⟩
  unfold State.applyPort
  dsimp only
  rw [s.portReached_one p he hk harmed hnot]
  simp only [hwaits, List.filter_cons, List.filter_nil, Bool.not_false, if_true, Bool.false_eq_true, if_false]
  change (if ([e].any fun e => e.resizes p) = true then State.alfResized ((s.removeEntry e.creation).applyEntry [e] e) p _ _ else
    (s.removeEntry e.creation).applyEntry [e] e) = _
  rw [s.removeEntry_only he htarmed, happly { s with cal := { s.cal with entries := [] } } rfl, List.any_cons, List.any_nil, Bool.or_false]
  rfl

/-- The flip of the list of an ALF port. -/
theorem State.flipAlfList_shows (s : State) (p : Nat) :
    s.flipAlfList p = { s with ports := (s.flipAlfList p).ports } ∧ (∀ q, q ≠ p → (s.flipAlfList p).port q = s.port q) ∧
    (s.flipAlfList p).port p = { s.port p with alf := { s.alf p with
      list := (s.alf p).staged, listGen := ((s.alf p).listGen + 1) % 256 } } :=
  ⟨rfl, fun q hq => by rw [State.flipAlfList, State.port_updAlf, if_neg hq], by rw [State.flipAlfList, State.port_updAlf, if_pos rfl]; rfl⟩

/-! ### The armed SET_SFN -/

/-- The fields of the armed command, once it is one of mode 0. -/
theorem fld_mode0 (p : Packet) (h : p.payload.length = 8) :
    let q : Packet := { p with payload := putByte p.payload 6 0 }
    q.fld 6 1 = 0 ∧ q.fld 0 6 = p.fld 0 6 := by
  have hget : ∀ i, i ≠ 6 → (putByte p.payload 6 0).getD i 0 = p.payload.getD i 0 := fun i hi => by
    rw [putByte, List.getD_eq_getElem?_getD, List.getD_eq_getElem?_getD, List.getElem?_set_ne (Ne.symm hi)]
  have hsix : (putByte p.payload 6 0).getD 6 0 = 0 := by
    rw [putByte, List.getD_eq_getElem?_getD, List.getElem?_set_self (by omega)]
    rfl
  constructor
  · change beVal [(putByte p.payload 6 0).getD 6 0] = 0
    rw [hsix]
    rfl
  · refine congrArg beVal (List.map_congr_left fun i hi => ?_)
    exact hget _ (by have := List.mem_range.mp hi; omega)

/-- The command that the marker makes due. -/
def markerTaken (s : State) (p : Packet) : Taken :=
  { packet := { p with payload := putByte p.payload 6 0 }, tick := s.dev.ticks - 1 }

/-- On the marker, the armed SET_SFN is the one immediate command. -/
theorem State.armedFalls_marker (s : State) {p : Packet} (harmed : s.time.armed = some (p, none)) (hmarker : s.time.marker = true)
    (himm : s.cmd.immediates = []) :
    s.armedFalls = { s with time := { s.time with armed := none }, cmd := { s.cmd with immediates := [markerTaken s p] } } := by
  unfold State.armedFalls
  rw [harmed]
  dsimp only
  rw [if_neg (by rw [hmarker]; decide), himm]
  rfl

/-- Once it has executed, the step 2 of a quiet state is over. -/
theorem State.step2_marker (s : State) {p : Packet} (harmed : s.time.armed = some (p, none)) (hmarker : s.time.marker = true)
    (himm : s.cmd.immediates = []) (hcal : s.cal.entries = []) (hticks : 0 < s.dev.ticks) {x : State}
    (hx : ({ s with time := { s.time with armed := none } } : State).runImmediate (markerTaken s p) = x)
    (hstill : Still x) (hxcal : x.cal.entries = []) (hximm : x.cmd.immediates = []) : s.step2Commands.endStep2 = x := by
  have hrest : ({ s.cmd with immediates := [] } : CmdSt) = s.cmd := by rw [← himm]
  have hone := State.runImmediates_one { s with time := { s.time with armed := none }, cmd := { s.cmd with immediates := [markerTaken s p] } }
    (t := markerTaken s p) rfl (show s.dev.ticks - 1 < s.dev.ticks by omega) hcal 1
  dsimp only at hone
  rw [hrest, hx, x.runImmediates_idle _ _ _ (x.dueImmediates_none hximm)] at hone
  have hnone := x.dueEntries_none hxcal
  have hcommands : s.step2Commands = x := by
    unfold State.step2Commands
    dsimp only
    rw [s.armedFalls_marker harmed hmarker himm]
    change (State.runDue (State.runImmediates _ (1 + 1) 0 []).2 _ (State.runImmediates _ (1 + 1) 0 []).1).carryRest.applyTickFramed = x
    rw [hone]
    rw [x.runDue_none _ _ hnone, x.carryRest_none hnone, x.applyTickFramed_none (by simp [hxcal])]
  rw [hcommands, hstill.endStep2]

/-! ### A jump of the SFN -/

/-- The registers that the close of a second may change. -/
def closeKeys : List Nat := SYS_PM_STATUS.key :: (List.range 400).map STK_BANK.key

/-- The close of a second before which only the records changed, without OTN ports. -/
theorem State.closeSecondsHealth_shows (s : State) (g : PmSt) (last next : Nat) (jump : Bool) (hotn : ∀ p, p < 96 → s.isOtn p = false)
    {x : State} (hx : x = (({ s with pm := g } : State).closeSeconds last next jump).closeHealth) :
    ∃ y h, Noted s y closeKeys ∧ h.closing = false ∧
      x = { y with pm := h, health := { s.health with mapperSubst := [] }, ports := x.ports, arrivals := x.arrivals } ∧
      ∀ p, x.port p = { s.port p with substituted := false } := by
  rw [State.closeSeconds_eq] at hx
  obtain ⟨t, ht⟩ : ∃ t, t = ({ s.fresh.2 with pm := { g with closing := false } } : State) := ⟨_, rfl⟩
  change x = (State.closeBins { s.fresh.2 with pm := { g with closing := false } } s.fresh.1 last next jump).closeHealth at hx
  rw [← ht, t.closeBins_noOtn _ _ _ _ (fun p hp => by rw [ht]; exact hotn p hp)] at hx
  obtain ⟨hrecs, hclosing⟩ := t.closeRecs_only s.fresh.1 last next jump
  generalize t.closeRecs s.fresh.1 last next jump = u at hrecs hclosing hx
  have hu : u = { s.fresh.2 with pm := u.pm } := by
    have := hrecs
    rw [ht] at this
    exact this
  obtain ⟨⟨y, hy, hxy⟩, _, hports, _⟩ := s.endClose_shows hu hx
  exact ⟨y, u.pm, hy, by rw [hclosing, ht], hxy, hports⟩

/-- A forward jump of the SFN, of a state without calendar entries and without OTN ports: the second in progress closes. -/
theorem State.jumpSfn_shows (s : State) (v : Nat) (hcal : s.cal.entries = []) (hotn : ∀ p, p < 96 → s.isOtn p = false)
    {x : State} (hx : x = s.jumpSfn v) :
    x.raised 257 0x80 true ∧ (∀ q, x.port q = { s.port q with substituted := false }) ∧ ∃ y h, Noted s y closeKeys ∧ h.closing = false ∧
      x = { y with time := { s.time with sfn := v }, pm := h, health := { s.health with mapperSubst := [] }
                   ports := x.ports, arrivals := x.arrivals } := by
  have hskip : s.skipTo s.time.sfn v = s := by
    have hsame : s.cal.entries.map (fun e => if e.keyedIn s.time.sfn v && !e.armed then { e with skipped := true } else e) =
      s.cal.entries := by rw [hcal]; rfl
    unfold State.skipTo
    rw [hsame]
  have hclose : ∃ g last, s.closeJump s.time.sfn v = (({ s with pm := g } : State).closeSeconds last v true).closeHealth := by
    by_cases h : s.time.sfn % 8000 = 0
    · exact ⟨s.pm, _, by rw [State.closeJump, if_pos h]⟩
    · exact ⟨s.rotateSecond.pm, _, by rw [State.closeJump, if_neg h]; rfl⟩
  obtain ⟨g, last, hw⟩ := hclose
  have hrow : x = ({ s.closeJump s.time.sfn v with time := { (s.closeJump s.time.sfn v).time with sfn := v } } : State).event 257 0x80 true 0 := by
    rw [hx]
    unfold State.jumpSfn
    dsimp only
    rw [hskip]
  generalize s.closeJump s.time.sfn v = w at hw hrow
  obtain ⟨y, h, hy, hclosing, hwy, hports⟩ := s.closeSecondsHealth_shows g last v true hotn hw
  obtain ⟨u, hu⟩ : ∃ u, u = ({ w with time := { w.time with sfn := v } } : State) := ⟨_, rfl⟩
  rw [← hu] at hrow
  have hev : Noted u x [] := hrow ▸ Noted.event u 257 0x80 true 0 (by decide) _
  have hraised : x.raised 257 0x80 true := hrow ▸ u.raised_event 257 0x80 true 0 (by decide)
  have htime : w.time = s.time := by rw [hwy, hy.1]
  have hxports : x.ports = w.ports := by rw [hev.1, hu]
  rw [htime] at hu
  clear hx hrow hw
  refine ⟨hraised, fun q => by rw [← hports, State.port, State.port, hxports], _, h, hy.trans (u := { x with
    time := y.time, pm := y.pm, health := y.health, ports := y.ports, arrivals := y.arrivals }) ?_, hclosing, ?_⟩
  · refine (Noted.mono (ks := []) ⟨?_, fun k hk hn => ?_, ?_⟩ (List.nil_subset _) :)
    · have hall := congrArg (fun z : State => { z with time := y.time, pm := y.pm, health := y.health, ports := y.ports, arrivals := y.arrivals })
        hev.1
      rw [hu, hwy] at hall
      exact hall
    · refine (hev.rd hk hn).trans ?_
      rw [hu, hwy]
      rfl
    · have htick := hev.2.2
      rw [hu, hwy] at htick
      exact htick
  · have hxtime : x.time = { s.time with sfn := v } := by rw [hev.1, hu]
    have hxpm : x.pm = h := by rw [hev.1, hu, hwy]
    have hxhealth : x.health = { s.health with mapperSubst := [] } := by rw [hev.1, hu, hwy]
    rw [← hxtime, ← hxpm, ← hxhealth]

theorem pinMon_not_closed : ∀ p < monitorCount, PIN_MON.key p ∉ closeKeys ∧ noteReg (PIN_MON.key p) = false := by
  decide +kernel

/-- After a jump still nothing waits for the end of the step. -/
theorem Still.jumped {s x y : State} {tm : TimeSt} {h : PmSt} {ps : Tbl PortSt} {arr : List Arrival} (hs : Still s) (hy : Noted s y closeKeys)
    (hx : x = { y with time := tm, pm := h, health := { s.health with mapperSubst := [] }, ports := ps, arrivals := arr }) : Still x := by
  obtain ⟨hprot, hruns, hallocs, hconns, hrunning, hcopies, hcal, hfw, hpins⟩ := hs
  have hxprot : x.prot = s.prot := by rw [hx, hy.1]
  have hxgrate : x.grate = s.grate := by rw [hx, hy.1]
  have hxcmd : x.cmd = s.cmd := by rw [hx, hy.1]
  have hxhealth : x.health.copiesDone = s.health.copiesDone := by rw [hx]
  have hxcal : x.cal = s.cal := by rw [hx, hy.1]
  have hxfw : x.fw = s.fw := by rw [hx, hy.1]
  have hxpins : ∀ p, p < monitorCount → x.pinOn p PIN_MON.CONTENTION = s.pinOn p PIN_MON.CONTENTION := fun p hp => by
    obtain ⟨hk, hn⟩ := pinMon_not_closed p hp
    have hregs : x.regs = y.regs := by rw [hx]
    rw [State.pinOn, State.pinOn, ← hy.on hk hn, State.on, State.on, State.get_congr hregs]
  rw [← hxprot] at hprot
  rw [← hxgrate] at hruns hallocs hconns
  rw [← hxcmd] at hrunning
  rw [← hxhealth] at hcopies
  rw [← hxcal] at hcal
  rw [← hxfw] at hfw
  exact ⟨hprot, hruns, hallocs, hconns, hrunning, hcopies, hcal, hfw, fun p hp => (hxpins p hp).trans (hpins p hp)⟩

theorem State.runCommand_setSfn (t : State) {q : Packet} (hop : q.op = 0x04) (hmode : q.fld 6 1 = 0) :
    t.runCommand q none = t.applySfn (q.fld 0 6) := by
  unfold State.runCommand State.runs1
  rw [hop]
  refine (if_pos (by decide)).trans ?_
  refine (if_neg ?_ : t.setSfnRun q none = _)
  rw [hmode]
  decide

/-- The command of the marker applies its value. -/
theorem State.markerTaken_runs (s t : State) {p : Packet} (hop : p.opcode = 0x04) (hlen : p.payload.length = 8) :
    t.runCommand (markerTaken s p).packet none = t.applySfn (p.fld 0 6) ∧ (markerTaken s p).packet.op ≠ 0x71 := by
  obtain ⟨hmode, hvalue⟩ := fld_mode0 p hlen
  have hpop : (markerTaken s p).packet.op = 0x04 := by
    rw [Packet.op, markerTaken, hop]
    rfl
  exact ⟨(t.runCommand_setSfn hpop hmode).trans (congrArg t.applySfn hvalue), by rw [hpop]; decide⟩

/-- An ALF list armed for the frame of a frozen port becomes the candidate (R169). -/
theorem State.applyPort_flips (s : State) (p : Port) {e : Entry} {c : Packet} (he : s.cal.entries = [e]) (hk : e.key = .port p (s.pfn p))
    (harmed : e.armed = true) (hnot : e.notBefore ≤ s.dev.ticks) (ha : e.action = .host c) (hop : c.opcode = 0x1C)
    (hfld : c.fld 0 1 = p.val) (hfrozen : s.alfFrozen p = true) (hresizing : s.on (ALF_STATUS.key p) ALF_STATUS.RESIZING = false)
    (htarmed : s.time.armed = none) :
    ∃ x, s.applyPort p = x ∧ Reported { s with cal := { s.cal with entries := [] }, ports := x.ports } x ∧
      (∀ q, q ≠ p.val → x.port q = s.port q) ∧
      x.port p = { s.port p with alf := { s.alf p with list := (s.alf p).staged, listGen := ((s.alf p).listGen + 1) % 256 } } := by
  have hsecond : s.alfSecond p (s.pfn p) = false := by rw [State.alfSecond, hresizing, Bool.false_and]
  obtain ⟨old, hrow⟩ := s.applyPort_one p he hk harmed hnot ha htarmed hsecond
  have hpop : c.op = 0x1C := by rw [Packet.op, hop]; rfl
  let free : State := { s with cal := { s.cal with entries := [] } }
  have hrun : free.runCommand c (some e.creation) = okDone (free.flipAlfList p) := by
    unfold State.runCommand State.runs1
    rw [hpop, hfld]
    rfl
  have hx : Reported (free.flipAlfList p) (free.runHostEntry { e with skipped := false } c) :=
    free.runHostEntry_reported { e with skipped := false } c hrun rfl rfl rfl (by rw [hpop]; decide) (by rw [hpop]; decide)
  obtain ⟨hflip, hothers, hport⟩ := free.flipAlfList_shows p
  dsimp only at hrow
  change s.applyPort p = (if e.resizes p = true then State.alfResized (free.runHostEntry { e with skipped := false } c) _ _ _ else
    free.runHostEntry { e with skipped := false } c) at hrow
  generalize free.runHostEntry { e with skipped := false } c = x at hx hrow
  have hxfrozen : x.alfFrozen p = true := by
    rw [State.alfFrozen, hx.on (alfStatus_not_reported p), hflip]
    exact hfrozen
  have hsame : s.applyPort p = x := by
    rw [hrow, show x.alfResized p (s.pfn p) old = x from if_pos hxfrozen]
    exact ite_self x
  have hxports : x.ports = (free.flipAlfList p).ports := hx.ports
  have hxport : ∀ q, x.port q = (free.flipAlfList p).port q := fun q => by rw [State.port, State.port, hxports]
  refine ⟨x, hsame, ?_, fun q hq => (hxport q).trans (hothers q hq), (hxport p).trans hport⟩
  rw [hflip] at hx
  rw [hxports]
  exact hx

/-- A value that is not ahead of the SFN changes nothing. -/
theorem State.applySfn_notAhead (s : State) {v : Nat} (h : v ≤ s.time.sfn) :
    (s.applySfn v).s = s ∧ (s.applySfn v).again = false ∧ (s.applySfn v).finished = true := by
  unfold State.applySfn
  by_cases hlt : v < s.time.sfn
  · rw [if_pos hlt]
    exact ⟨rfl, rfl, rfl⟩
  · rw [if_neg hlt, if_pos (show v = s.time.sfn by omega)]
    exact ⟨rfl, rfl, rfl⟩

theorem State.applySfn_ahead (s : State) {v : Nat} (h : s.time.sfn < v) : s.applySfn v = okDone (s.jumpSfn v) :=
  (if_neg (by omega)).trans (if_neg (by omega))

/-- The state after a jump and its report. -/
theorem Reported.jumped {s x y z : State} {h : PmSt} {v : Nat} (hx : Reported y x) (hraised : y.raised 257 0x80 true)
    (hports : ∀ q, y.port q = { s.port q with substituted := false }) (hz : Noted s z closeKeys) (hclosing : h.closing = false)
    (hyz : y = { z with time := { s.time with sfn := v }, pm := h, health := { s.health with mapperSubst := [] }
                        ports := y.ports, arrivals := y.arrivals }) :
    x.time = { s.time with sfn := v } ∧ x.raised 257 0x80 true ∧ x.cal = s.cal ∧ x.prot = s.prot ∧ x.grate = s.grate ∧
    x.paths = s.paths ∧ x.odus = s.odus ∧ x.pm.closing = false ∧ ∀ q, x.port q = { s.port q with substituted := false } := by
  obtain ⟨e, he, hrest⟩ := hraised
  refine ⟨?_, ⟨e, hx.tick_mem he, hrest⟩, ?_, ?_, ?_, ?_, ?_, ?_, fun q => ?_⟩
  · rw [hx.time, hyz]
  · rw [hx.cal, hyz, hz.1]
  · rw [hx.prot, hyz, hz.1]
  · rw [hx.grate, hyz, hz.1]
  · rw [hx.paths, hyz, hz.1]
  · rw [hx.odus, hyz, hz.1]
  · rw [hx.pm, hyz]
    exact hclosing
  · rw [← hports q, State.port, State.port, hx.ports]

end Sys2Proof.Machine

open Sys2Proof Sys2Proof.Machine

/-- Settles O44: the one entry a frame reaches executes there; on a marker the armed SET_SFN is the one command of its step 2. -/
theorem entriesAtPortFrames : Obligations.EntriesAtPortFrames := by
  refine ⟨fun s p => ⟨fun h => answers_of rfl (s.applyPort_none p h), fun e c he hk harmed _ hnot ha hop hfld _ hfrozen
    hresizing htarmed => ?_⟩, fun s => ⟨fun h => ?_, ?_⟩⟩
  · obtain ⟨x, hsame, hx⟩ := s.applyPort_flips p he hk harmed hnot ha hop hfld hfrozen hresizing htarmed
    exact answers_of (x := x) (congrArg (fun z : State => Host.Outcome.next z.settle) hsame) hx
  · refine answers_of rfl (if_neg ?_)
    rcases h with h | h <;> simp [h]
  · intro p harmed hmarker hquiet himm _ hticks hop hlen v
    let t : State := { s with time := { s.time with armed := none } }
    have hcal : s.cal.entries = [] := hquiet.entries
    have hstill : Still t := hquiet.still
    obtain ⟨hrun, h71⟩ := s.markerTaken_runs t hop hlen
    have hif : (if s.time.armed.isSome && s.time.marker then s.step2Commands.endStep2 else s) = s.step2Commands.endStep2 :=
      if_pos (by rw [harmed, hmarker]; rfl)
    have hanswer : ∀ x, t.runImmediate (markerTaken s p) = x → Still x → x.cal.entries = [] → x.cmd.immediates = [] →
        exec .setSfnMarkerApply s = .next x.settle := fun x hx hxstill hxcal hximm =>
      congrArg (fun z : State => Host.Outcome.next z.settle) (hif.trans (s.step2_marker harmed hmarker himm hcal hticks hx hxstill hxcal hximm))
    refine ⟨fun hle => ?_, fun hlt hotn => ?_⟩
    · obtain ⟨hs, hagain, hfinished⟩ := t.applySfn_notAhead (v := v) hle
      have hx := t.runImmediate_reported (markerTaken s p) hrun hagain hfinished h71
      rw [hs] at hx
      exact answers_of (hanswer _ rfl (hx.still hstill) (by rw [hx.cal]; exact hcal) (by rw [hx.cmd_immediates]; exact himm)) hx
    · have hx := t.runImmediate_reported (markerTaken s p) (hrun.trans (t.applySfn_ahead (v := v) hlt)) rfl rfl h71
      obtain ⟨y, hy⟩ : ∃ y, y = t.jumpSfn v := ⟨_, rfl⟩
      obtain ⟨hraised, hports, z, h, hz, hclosing, hyz⟩ := t.jumpSfn_shows v hcal hotn hy
      change Reported (t.jumpSfn v) _ at hx
      rw [← hy] at hx
      have hycal : y.cal = s.cal := by rw [hyz, hz.1]
      have hycmd : y.cmd = s.cmd := by rw [hyz, hz.1]
      exact answers_of (hanswer _ rfl (hx.still (hstill.jumped hz hyz)) (by rw [hx.cal, hycal]; exact hcal)
        (by rw [hx.cmd_immediates, hycmd]; exact himm)) (hx.jumped hraised hports hz hclosing hyz)
end
